-- ==== Sys2Proof/Word.lean ====
section
/-!
DEFINITION. The word types of the module and their plainest arithmetic.
-/

namespace Sys2Proof

/-- A word is 32 bits wherever it occurs (R5). -/
abbrev Word := BitVec 32

/-- The smallest addressable unit. -/
abbrev Byte := BitVec 8

/-- An address of the 40-bit physical space (R145). -/
abbrev Addr := BitVec 40

/-- An accumulator (R58). -/
abbrev Acc := BitVec 72

end Sys2Proof
end

