-- ==== Sys2Proof/Machine/Regs.lean ====
section
/-!
DEFINITION. The register map of the peripheral blocks: every register of the chapters' field tables, with its block
base (R147), its offset, its repetition and its fields (bits, access type of R11, reset value). The tables are written
from the field tables of spec/01 to spec/24; a field whose reset entry is "—" stands with the value 0 that assumption
log entry 2 names.
What the spec leaves open here: log entries 2 and 25.
-/

namespace Sys2Proof.Machine

/-- Field access types (R11); RSV fields are the bits that no field of the row covers. -/
inductive FieldTy where
  | rw | ro | wo | w1c | w1s | rc | rwl
  deriving DecidableEq, Repr

/-- One field of a register: its highest and lowest bit, its access type and its reset value. -/
structure FieldDesc where
  hi : Nat
  lo : Nat
  ty : FieldTy
  reset : Nat
  deriving DecidableEq, Repr

/-- The peripheral registers by name. -/
inductive RegId where
  | SYS_STATE
  | SYS_CURTAIN
  | SYS_WDSVC
  | SYS_WDSTAT
  | SYS_WDREM
  | SYS_ECC
  | SYS_ECCADDRL
  | SYS_ECCADDRH
  | SYS_BOOT
  | SYS_PBSEL
  | SYS_PBSEQA
  | SYS_PBSEQB
  | SYS_PBERR
  | SYS_PBERROFF
  | SYS_GOEN
  | SYS_BOOTTIME
  | SYS_PWR
  | SYS_TEMP
  | CUE_CTRL
  | CUE_PERIOD
  | CUE_PRE
  | CUE_STAT
  | CUE_DONE
  | CUE_OVR
  | CUE_PHASE
  | CUE_DISC
  | CUE_CNTL
  | CUE_CNTH
  | CUE_TIMEL
  | CUE_TIMEH
  | CUE_LASTL
  | CUE_LASTH
  | CUE_TOFSL
  | CUE_TOFSH
  | USTD_CTRL
  | USTD_STAT
  | USTD_MMCNT
  | USTD_MMINFO
  | USTD_INJ
  | USTD_TRES
  | USTD_LOGHW
  | DRC_CTRL
  | DRC_STAT
  | DRC_CECNT
  | DRC_UECNT
  | DRC_UEADDRL
  | DRC_UEADDRH
  | DRC_UETHR
  | DRC_LINES
  | PMC_CTRL
  | PMC_STAT
  | PMC_CECNT
  | PMC_ERRADDR
  | FLS_CTRL
  | FLS_STAT
  | FLS_WP
  | FLS_SBRADDRL
  | FLS_SBRADDRH
  | FLS_UEADDRL
  | FLS_UEADDRH
  | FLS_CECNT
  | FLS_OTPOFF
  | FLS_OTP
  | FLS_PGBUF
  | DROP_CTRL
  | DROP_CFG
  | DROP_STAT
  | DROP_SWQL
  | DROP_SWQH
  | DROP_SWSTAT
  | DROP_SWORD
  | DROP_MISSBASE
  | DROP_SKIPBASE
  | DROP_RRQ0
  | DROP_RRQ1
  | DROP_RRQ2
  | DROP_RETRY
  | DROP_TILES
  | DROP_FAILS
  | DROP_SUBST
  | DROP_STARVES
  | DROP_MINLEAD
  | DROP_EFLT0
  | DROP_EFLT1
  | DROP_EFLT2
  | DROP_DT
  | DROP_CTXA
  | DROP_CTXB
  | FIRE_CTRL
  | FIRE_CFG
  | FIRE_STAT
  | FIRE_ENCSCALE
  | FIRE_OBSL1
  | FIRE_OBSL2
  | FIRE_OBSL3
  | FIRE_INNOVLIM
  | FIRE_XORGL
  | FIRE_XORGH
  | FIRE_PITCH
  | FIRE_BIDI
  | FIRE_VMIN
  | FIRE_MAXRATE
  | FIRE_GAPSRC
  | FIRE_GAPBASE
  | FIRE_GAPSCALE
  | FIRE_GAP
  | FIRE_OBSPOSL
  | FIRE_OBSPOSH
  | FIRE_OBSVEL
  | FIRE_OBSACC
  | FIRE_OBSTICK
  | FIRE_INNOV
  | FIRE_LATECNT
  | FIRE_MINMARGIN
  | FIRE_SWSTAT
  | FIRE_GRP
  | FIRE_CTXA
  | FIRE_CTXB
  | JET_INSVC
  | JET_CTRL
  | JET_MAP
  | JET_STAT
  | JET_LAT
  | JET_SKEW
  | JET_CAPS
  | JET_BSTAT
  | JET_FIRED
  | JET_ERRCNT
  | JET_WBASE
  | JET_WLEN
  | MTRK_CTRL
  | MTRK_CFG
  | MTRK_FSYNC
  | MTRK_TRK
  | MTRK_DRMAX
  | MTRK_STAT
  | MTRK_AUXSCALE
  | MTRK_RATIO
  | MTRK_BASELINE
  | MTRK_SETL
  | MTRK_SETH
  | MTRK_POSL
  | MTRK_POSH
  | MTRK_SKEW
  | MTRK_TEXP
  | MTRK_PCFG
  | MTRK_SCALE
  | MTRK_PSTAT
  | MTRK_PYL
  | MTRK_PYH
  | MTRK_PX
  | MTRK_NOISE
  | MTRK_ERR
  | MTRK_CAP
  | LOOP_CTRL
  | LOOP_STAT
  | LOOP_FAULTL
  | LOOP_FAULTH
  | LOOP_INPOSL
  | LOOP_INPOSH
  | LOOP_RHCTRL
  | LOOP_RHAMP
  | LOOP_RHFREQ
  | LOOP_RHCAP
  | LOOP_RHBUF
  | LOOP_RHLEN
  | LOOP_RHSTAT
  | LOOP_SCFG
  | LOOP_SPHASE
  | LOOP_SIN01
  | LOOP_SIN23
  | LOOP_SOUT
  | LOOP_SSTAT
  | LOOP_SFBL
  | LOOP_SFBH
  | LOOP_SOUTV
  | LOOP_SACMD
  | LOOP_SP
  | PWM_GSTAT
  | PWM_LOCK
  | PWM_LDALL
  | PWM_LDALLH
  | PWM_TRIPST
  | PWM_TCURT
  | PWM_CCURTL
  | PWM_CCURTH
  | PWM_CTRL
  | PWM_CFG
  | PWM_PERIOD
  | PWM_CMPA
  | PWM_CMPB
  | PWM_ACTCMP
  | PWM_PHASE
  | PWM_DT
  | PWM_MINP
  | PWM_PCM
  | PWM_TRIPL
  | PWM_TRIPC0
  | PWM_TRIPC1
  | PWM_STAT
  | PWM_DROPCNT
  | AFE_CTRL
  | AFE_STAT
  | AFE_GTRIG
  | AFE_GCFG
  | AFE_ADCRES
  | AFE_OVR
  | AFE_DSCFG
  | AFE_DSRES
  | AFE_CMPCFG
  | AFE_DAC
  | AFE_CMPOUTL
  | AFE_CMPOUTH
  | AFE_CMPRISEL
  | AFE_CMPRISEH
  | AFE_RAMP
  | AFE_MAINS
  | AFE_MMEAS
  | ENC_GSTAT
  | ENC_CFG
  | ENC_SCFG
  | ENC_STAT
  | ENC_POSL
  | ENC_POSH
  | ENC_IDX
  | ENC_SETL
  | ENC_SETH
  | ENC_AMP
  | ENC_ERRCNT
  | ENC_SPCFG
  | ENC_SPCNTL
  | ENC_SPCNTH
  | CALL_CTRL
  | CALL_STAT
  | CALL_RUNAWAY
  | CALL_CH
  | CALL_CEIL
  | CALL_COIN
  | CALL_PUB
  | DMA_GSTAT
  | DMA_IRQL
  | DMA_IRQH
  | DMA_CTRL
  | DMA_PACE
  | DMA_SRCL
  | DMA_DSTL
  | DMA_HI
  | DMA_LEN
  | DMA_DSCL
  | DMA_CHKV
  | DMA_STAT
  | DMA_ERRL
  | DMA_CNT
  | GPIO_STAT
  | GPIO_BANK
  | GPIO_LKEY
  | GPIO_WAKECFG
  | GPIO_SERCFG
  | GPIO_SERDAT
  | GPIO_SERSTAT
  | GPIO_PxIN
  | GPIO_PxMWL
  | GPIO_PxMWH
  | GPIO_PxLCKM
  | GPIO_PxOWN
  | GPIO_PCFG
  | PBS_CTRL
  | PBS_STAT
  | PBS_FEED
  | PBS_ILIM
  | PBS_SHED
  | PBS_BASE
  | PBS_PH
  | PBS_PHSC
  | PBS_MEAS
  | PBS_IRMS
  | PBS_UNACC
  | PBS_BUDGET
  | PBS_HEAD
  | PBS_SHARE
  | PBS_SHFB
  | PBS_SHFL
  | PBS_SHLIM
  | PBS_TSRC
  | PBS_TOFS
  | PBS_TLIM
  | PBS_TVAL
  | PBS_CLS
  | PBS_CMIN
  | PBS_REQ
  | PBS_GNT
  | JRNL_CTRL
  | JRNL_STAT
  | JRNL_ASEQ
  | JRNL_ANSW
  | JRNL_ADIG
  | JRNL_TOKL
  | JRNL_TOKH
  | JRNL_LASTACC
  | JRNL_LASTRET
  | JRNL_PENDJSN
  | JRNL_PENDORD
  | JRNL_PENDSW
  | JRNL_PENDDSCL
  | JRNL_PENDDSCH
  | JRNL_NEXTORD
  | JRNL_NEXTSW
  | JRNL_SEALCNT
  | JRNL_DEFCNT
  | JRNL_CV
  | JRNL_CVH
  | HOST_CTRL
  | HOST_STAT
  | HOST_CFG
  | HOST_BUFBASE
  | HOST_CQ
  | HOST_RSP
  | HOST_LONG
  | HOST_MACL
  | HOST_MACH
  | HOST_IP
  | HOST_TS0
  | HOST_TS1
  | HOST_TS2
  | HOST_SESS
  | BYR_CTRL
  | BYR_ADDR
  | BYR_STAT
  | BYR_TMO
  | BYR_RACC
  | BYR_MBASE
  | BYR_MTX
  | BYR_MRX
  | BYR_PORT
  | BYR_SKEW
  | BYR_DLY
  | BYR_ERRCNT
  | BYR_EVOUT
  | BYR_EVSRC
  | BYR_WINL
  | BYR_WINH
  | UPD_CTRL
  | UPD_STAT
  | UPD_IMGS
  | UPD_IMGV
  | UPD_CHAIN
  | SEC_KEYSTAT
  | SEC_DBG
  | BBX_CTRL
  | BBX_STAT
  | BBX_WDATA
  | BBX_SERL
  | BBX_SERH
  | BBX_CALL
  | BBX_CALH
  | BBX_CALSETL
  | BBX_CALSETH
  | BBX_BOOTS
  deriving DecidableEq, Repr

/-- One row of the register map: name, address of element (0, 0), and two repetitions (count and stride in bytes). -/
structure RegDesc where
  id : RegId
  start : Nat
  n1 : Nat
  s1 : Nat
  n2 : Nat
  s2 : Nat
  fields : List FieldDesc
  deriving DecidableEq, Repr

/-- A field of a register at one address. -/
structure Fld where
  addr : Nat
  hi : Nat
  lo : Nat
  deriving DecidableEq, Repr

/-! Block bases (R147). -/

def baseCUE : Nat := 0x40000000
def baseCALL : Nat := 0x40010000
def baseDMA : Nat := 0x40020000
def baseGPIO : Nat := 0x40030000
def basePWM : Nat := 0x40100000
def baseLOOP : Nat := 0x40200000
def baseAFE : Nat := 0x40300000
def baseENC : Nat := 0x40340000
def baseDROP : Nat := 0x40400000
def baseFIRE : Nat := 0x40500000
def baseJET : Nat := 0x40600000
def baseMTRK : Nat := 0x40700000
def basePBS : Nat := 0x40800000
def baseJRNL : Nat := 0x40900000
def baseHOST : Nat := 0x40A00000
def baseBYR : Nat := 0x40B00000
def baseFLS : Nat := 0x40C00000
def basePMC : Nat := 0x40C10000
def baseDRC : Nat := 0x40C20000
def baseUSTD : Nat := 0x40D00000
def baseSYS : Nat := 0x40E00000
def baseBBX : Nat := 0x40F00000
def baseUPD : Nat := 0x40F10000
def baseSEC : Nat := 0x40F20000

/-! ## SYS -/

namespace R

/-- SYS_STATE: device state (01_architecture.md). -/
def SYS_STATE : Nat := 0x40E00000
def SYS_STATE_SUB : Fld := ⟨SYS_STATE, 11, 8⟩
def SYS_STATE_CDONE : Fld := ⟨SYS_STATE, 7, 7⟩
def SYS_STATE_RESUMEP : Fld := ⟨SYS_STATE, 6, 6⟩
def SYS_STATE_STATE : Fld := ⟨SYS_STATE, 3, 0⟩
/-- SYS_CURTAIN: curtain cause (01_architecture.md). -/
def SYS_CURTAIN : Nat := 0x40E00004
def SYS_CURTAIN_FORCED : Fld := ⟨SYS_CURTAIN, 11, 11⟩
def SYS_CURTAIN_HOSTCMD : Fld := ⟨SYS_CURTAIN, 10, 10⟩
def SYS_CURTAIN_MAINS : Fld := ⟨SYS_CURTAIN, 9, 9⟩
def SYS_CURTAIN_OVERRUN : Fld := ⟨SYS_CURTAIN, 8, 8⟩
def SYS_CURTAIN_LOCKSTEP : Fld := ⟨SYS_CURTAIN, 7, 7⟩
def SYS_CURTAIN_EMITCRC : Fld := ⟨SYS_CURTAIN, 6, 6⟩
def SYS_CURTAIN_WDOG : Fld := ⟨SYS_CURTAIN, 5, 5⟩
def SYS_CURTAIN_TRIP : Fld := ⟨SYS_CURTAIN, 4, 4⟩
def SYS_CURTAIN_THERMAL : Fld := ⟨SYS_CURTAIN, 3, 3⟩
def SYS_CURTAIN_PBS : Fld := ⟨SYS_CURTAIN, 2, 2⟩
/-- SYS_WDSVC: watchdog service (01_architecture.md). -/
def SYS_WDSVC : Nat := 0x40E00060
def SYS_WDSVC_KEY : Fld := ⟨SYS_WDSVC, 15, 0⟩
/-- SYS_WDSTAT: watchdog status (01_architecture.md). -/
def SYS_WDSTAT : Nat := 0x40E00064
def SYS_WDSTAT_EXP : Fld := ⟨SYS_WDSTAT, 10, 8⟩
def SYS_WDSTAT_BADKEY : Fld := ⟨SYS_WDSTAT, 2, 0⟩
/-- SYS_WDREM: watchdog remaining time (01_architecture.md). -/
def SYS_WDREM (n : Nat) : Nat := 0x40E00068 + 0x4 * n
def SYS_WDREM_US (n : Nat) : Fld := ⟨SYS_WDREM n, 31, 0⟩
/-- SYS_ECC: on-die SRAM ECC status (06_memories.md). -/
def SYS_ECC : Nat := 0x40E00040
def SYS_ECC_WMUE : Fld := ⟨SYS_ECC, 19, 19⟩
def SYS_ECC_STUE : Fld := ⟨SYS_ECC, 18, 18⟩
def SYS_ECC_LSUE : Fld := ⟨SYS_ECC, 17, 17⟩
def SYS_ECC_CECNT : Fld := ⟨SYS_ECC, 15, 0⟩
/-- SYS_ECCADDRL: first uncorrectable SRAM address, low word (06_memories.md). -/
def SYS_ECCADDRL : Nat := 0x40E00044
def SYS_ECCADDRL_ADDR : Fld := ⟨SYS_ECCADDRL, 31, 0⟩
/-- SYS_ECCADDRH: first uncorrectable SRAM address, high word (06_memories.md). -/
def SYS_ECCADDRH : Nat := 0x40E00048
def SYS_ECCADDRH_ADDR : Fld := ⟨SYS_ECCADDRH, 7, 0⟩
/-- SYS_BOOT: start-up outcome (08_prompt_book_and_startup.md). -/
def SYS_BOOT : Nat := 0x40E00010
def SYS_BOOT_WARM : Fld := ⟨SYS_BOOT, 11, 11⟩
def SYS_BOOT_SETRST : Fld := ⟨SYS_BOOT, 10, 10⟩
def SYS_BOOT_FWFALL : Fld := ⟨SYS_BOOT, 9, 9⟩
def SYS_BOOT_FWIMG : Fld := ⟨SYS_BOOT, 8, 8⟩
def SYS_BOOT_CODE : Fld := ⟨SYS_BOOT, 7, 0⟩
/-- SYS_PBSEL: prompt-book selection (08_prompt_book_and_startup.md). -/
def SYS_PBSEL : Nat := 0x40E00014
def SYS_PBSEL_REASONB : Fld := ⟨SYS_PBSEL, 13, 10⟩
def SYS_PBSEL_REASONA : Fld := ⟨SYS_PBSEL, 9, 6⟩
def SYS_PBSEL_TIE : Fld := ⟨SYS_PBSEL, 2, 2⟩
def SYS_PBSEL_VALID : Fld := ⟨SYS_PBSEL, 1, 1⟩
def SYS_PBSEL_SLOT : Fld := ⟨SYS_PBSEL, 0, 0⟩
/-- SYS_PBSEQA: slot A sequence (08_prompt_book_and_startup.md). -/
def SYS_PBSEQA : Nat := 0x40E00018
def SYS_PBSEQA_SEQ : Fld := ⟨SYS_PBSEQA, 31, 0⟩
/-- SYS_PBSEQB: slot B sequence (08_prompt_book_and_startup.md). -/
def SYS_PBSEQB : Nat := 0x40E0001C
def SYS_PBSEQB_SEQ : Fld := ⟨SYS_PBSEQB, 31, 0⟩
/-- SYS_PBERR: failing record (08_prompt_book_and_startup.md). -/
def SYS_PBERR : Nat := 0x40E00020
def SYS_PBERR_PARSE : Fld := ⟨SYS_PBERR, 31, 31⟩
def SYS_PBERR_BLOCK : Fld := ⟨SYS_PBERR, 23, 16⟩
def SYS_PBERR_RECORD : Fld := ⟨SYS_PBERR, 15, 0⟩
/-- SYS_PBERROFF: failing offset (08_prompt_book_and_startup.md). -/
def SYS_PBERROFF : Nat := 0x40E00024
def SYS_PBERROFF_OFFSET : Fld := ⟨SYS_PBERROFF, 31, 0⟩
/-- SYS_GOEN: GO enable (08_prompt_book_and_startup.md). -/
def SYS_GOEN : Nat := 0x40E00028
def SYS_GOEN_EN : Fld := ⟨SYS_GOEN, 0, 0⟩
/-- SYS_BOOTTIME: start-up duration (08_prompt_book_and_startup.md). -/
def SYS_BOOTTIME : Nat := 0x40E0002C
def SYS_BOOTTIME_US : Fld := ⟨SYS_BOOTTIME, 31, 0⟩
/-- SYS_PWR: supply status (24_electrical_mechanical.md). -/
def SYS_PWR : Nat := 0x40E00050
def SYS_PWR_PFW : Fld := ⟨SYS_PWR, 7, 7⟩
def SYS_PWR_VBATLOW : Fld := ⟨SYS_PWR, 6, 6⟩
def SYS_PWR_OFF12 : Fld := ⟨SYS_PWR, 5, 5⟩
def SYS_PWR_OFF5 : Fld := ⟨SYS_PWR, 4, 4⟩
def SYS_PWR_OL12 : Fld := ⟨SYS_PWR, 3, 3⟩
def SYS_PWR_OL5 : Fld := ⟨SYS_PWR, 2, 2⟩
/-- SYS_TEMP: die temperature (24_electrical_mechanical.md). -/
def SYS_TEMP : Nat := 0x40E00054
def SYS_TEMP_T : Fld := ⟨SYS_TEMP, 15, 0⟩

end R

/-- The registers of SYS. -/
def regsSYS : List RegDesc :=
  [
    ⟨.SYS_STATE, 0x40E00000, 1, 0x0, 1, 0, [⟨11, 8, .ro, 0x0⟩, ⟨7, 7, .ro, 0x0⟩, ⟨6, 6, .ro, 0x0⟩, ⟨3, 0, .ro, 0x1⟩]⟩,
    ⟨.SYS_CURTAIN, 0x40E00004, 1, 0x0, 1, 0, [⟨11, 11, .w1c, 0x0⟩, ⟨10, 10, .w1c, 0x0⟩, ⟨9, 9, .w1c, 0x0⟩, ⟨8, 8, .w1c, 0x0⟩, ⟨7, 7, .w1c, 0x0⟩, ⟨6, 6, .w1c, 0x0⟩, ⟨5, 5, .w1c, 0x0⟩, ⟨4, 4, .w1c, 0x0⟩, ⟨3, 3, .w1c, 0x0⟩, ⟨2, 2, .w1c, 0x0⟩]⟩,
    ⟨.SYS_WDSVC, 0x40E00060, 1, 0x0, 1, 0, [⟨15, 0, .wo, 0x0⟩]⟩,
    ⟨.SYS_WDSTAT, 0x40E00064, 1, 0x0, 1, 0, [⟨10, 8, .w1c, 0x0⟩, ⟨2, 0, .w1c, 0x0⟩]⟩,
    ⟨.SYS_WDREM, 0x40E00068, 3, 0x4, 1, 0, [⟨31, 0, .ro, 0x0⟩]⟩,
    ⟨.SYS_ECC, 0x40E00040, 1, 0x0, 1, 0, [⟨19, 19, .w1c, 0x0⟩, ⟨18, 18, .w1c, 0x0⟩, ⟨17, 17, .w1c, 0x0⟩, ⟨15, 0, .rc, 0x0⟩]⟩,
    ⟨.SYS_ECCADDRL, 0x40E00044, 1, 0x0, 1, 0, [⟨31, 0, .ro, 0x0⟩]⟩,
    ⟨.SYS_ECCADDRH, 0x40E00048, 1, 0x0, 1, 0, [⟨7, 0, .ro, 0x0⟩]⟩,
    ⟨.SYS_BOOT, 0x40E00010, 1, 0x0, 1, 0, [⟨11, 11, .ro, 0x0⟩, ⟨10, 10, .w1c, 0x0⟩, ⟨9, 9, .ro, 0x0⟩, ⟨8, 8, .ro, 0x0⟩, ⟨7, 0, .ro, 0x0⟩]⟩,
    ⟨.SYS_PBSEL, 0x40E00014, 1, 0x0, 1, 0, [⟨13, 10, .ro, 0x0⟩, ⟨9, 6, .ro, 0x0⟩, ⟨2, 2, .ro, 0x0⟩, ⟨1, 1, .ro, 0x0⟩, ⟨0, 0, .ro, 0x0⟩]⟩,
    ⟨.SYS_PBSEQA, 0x40E00018, 1, 0x0, 1, 0, [⟨31, 0, .ro, 0x0⟩]⟩,
    ⟨.SYS_PBSEQB, 0x40E0001C, 1, 0x0, 1, 0, [⟨31, 0, .ro, 0x0⟩]⟩ ] ++
  [
    ⟨.SYS_PBERR, 0x40E00020, 1, 0x0, 1, 0, [⟨31, 31, .ro, 0x0⟩, ⟨23, 16, .ro, 0x0⟩, ⟨15, 0, .ro, 0x0⟩]⟩,
    ⟨.SYS_PBERROFF, 0x40E00024, 1, 0x0, 1, 0, [⟨31, 0, .ro, 0x0⟩]⟩,
    ⟨.SYS_GOEN, 0x40E00028, 1, 0x0, 1, 0, [⟨0, 0, .rw, 0x0⟩]⟩,
    ⟨.SYS_BOOTTIME, 0x40E0002C, 1, 0x0, 1, 0, [⟨31, 0, .ro, 0x0⟩]⟩,
    ⟨.SYS_PWR, 0x40E00050, 1, 0x0, 1, 0, [⟨7, 7, .ro, 0x0⟩, ⟨6, 6, .ro, 0x0⟩, ⟨5, 5, .ro, 0x0⟩, ⟨4, 4, .ro, 0x0⟩, ⟨3, 3, .w1c, 0x0⟩, ⟨2, 2, .w1c, 0x0⟩]⟩,
    ⟨.SYS_TEMP, 0x40E00054, 1, 0x0, 1, 0, [⟨15, 0, .ro, 0x0⟩]⟩ ]

/-! ## CUE -/

namespace R

/-- CUE_CTRL: cue control (02_cue_and_time.md). -/
def CUE_CTRL : Nat := 0x40000000
def CUE_CTRL_DISC : Fld := ⟨CUE_CTRL, 7, 6⟩
def CUE_CTRL_CUEOE : Fld := ⟨CUE_CTRL, 5, 5⟩
def CUE_CTRL_PAIREN : Fld := ⟨CUE_CTRL, 3, 0⟩
/-- CUE_PERIOD: cue period (02_cue_and_time.md). -/
def CUE_PERIOD : Nat := 0x40000004
def CUE_PERIOD_PERIOD : Fld := ⟨CUE_PERIOD, 15, 0⟩
/-- CUE_PRE: pre-boundary event (02_cue_and_time.md). -/
def CUE_PRE : Nat := 0x40000008
def CUE_PRE_OFFSET : Fld := ⟨CUE_PRE, 15, 0⟩
/-- CUE_STAT: cue status (02_cue_and_time.md). -/
def CUE_STAT : Nat := 0x4000000C
def CUE_STAT_HOLD : Fld := ⟨CUE_STAT, 11, 8⟩
def CUE_STAT_LOCK : Fld := ⟨CUE_STAT, 7, 7⟩
def CUE_STAT_HOLDOVER : Fld := ⟨CUE_STAT, 6, 6⟩
def CUE_STAT_PERMIS : Fld := ⟨CUE_STAT, 5, 5⟩
def CUE_STAT_DUPDONE : Fld := ⟨CUE_STAT, 2, 2⟩
def CUE_STAT_CFGREF : Fld := ⟨CUE_STAT, 1, 1⟩
def CUE_STAT_OVR : Fld := ⟨CUE_STAT, 0, 0⟩
/-- CUE_DONE: cue work done (02_cue_and_time.md). -/
def CUE_DONE : Nat := 0x40000010
def CUE_DONE_DONE : Fld := ⟨CUE_DONE, 31, 0⟩
/-- CUE_OVR: overrun counts (02_cue_and_time.md). -/
def CUE_OVR : Nat := 0x40000014
def CUE_OVR_PAIR3 : Fld := ⟨CUE_OVR, 31, 24⟩
def CUE_OVR_PAIR2 : Fld := ⟨CUE_OVR, 23, 16⟩
def CUE_OVR_PAIR1 : Fld := ⟨CUE_OVR, 15, 8⟩
def CUE_OVR_PAIR0 : Fld := ⟨CUE_OVR, 7, 0⟩
/-- CUE_PHASE: position within the cue (02_cue_and_time.md). -/
def CUE_PHASE : Nat := 0x40000018
def CUE_PHASE_CYCLES : Fld := ⟨CUE_PHASE, 15, 0⟩
/-- CUE_DISC: follower offsets (02_cue_and_time.md). -/
def CUE_DISC : Nat := 0x4000001C
def CUE_DISC_CNTOFF : Fld := ⟨CUE_DISC, 31, 16⟩
def CUE_DISC_PHERR : Fld := ⟨CUE_DISC, 15, 0⟩
/-- CUE_CNTL: cue counter, low word (02_cue_and_time.md). -/
def CUE_CNTL : Nat := 0x40000020
def CUE_CNTL_CNT : Fld := ⟨CUE_CNTL, 31, 0⟩
/-- CUE_CNTH: cue counter, high word (02_cue_and_time.md). -/
def CUE_CNTH : Nat := 0x40000024
def CUE_CNTH_CNT : Fld := ⟨CUE_CNTH, 31, 0⟩
/-- CUE_TIMEL: time counter, low word (02_cue_and_time.md). -/
def CUE_TIMEL : Nat := 0x40000028
def CUE_TIMEL_TIME : Fld := ⟨CUE_TIMEL, 31, 0⟩
/-- CUE_TIMEH: time counter, high word (02_cue_and_time.md). -/
def CUE_TIMEH : Nat := 0x4000002C
def CUE_TIMEH_TIME : Fld := ⟨CUE_TIMEH, 31, 0⟩
/-- CUE_LASTL: time of last boundary, low word (02_cue_and_time.md). -/
def CUE_LASTL : Nat := 0x40000030
def CUE_LASTL_TIME : Fld := ⟨CUE_LASTL, 31, 0⟩
/-- CUE_LASTH: time of last boundary, high word (02_cue_and_time.md). -/
def CUE_LASTH : Nat := 0x40000034
def CUE_LASTH_TIME : Fld := ⟨CUE_LASTH, 31, 0⟩
/-- CUE_TOFSL: follower time offset, low word (02_cue_and_time.md). -/
def CUE_TOFSL : Nat := 0x40000038
def CUE_TOFSL_TOFS : Fld := ⟨CUE_TOFSL, 31, 0⟩
/-- CUE_TOFSH: follower time offset, high word (02_cue_and_time.md). -/
def CUE_TOFSH : Nat := 0x4000003C
def CUE_TOFSH_TOFS : Fld := ⟨CUE_TOFSH, 31, 0⟩

end R

/-- The registers of CUE. -/
def regsCUE : List RegDesc :=
  [
    ⟨.CUE_CTRL, 0x40000000, 1, 0x0, 1, 0, [⟨7, 6, .rw, 0x0⟩, ⟨5, 5, .rw, 0x0⟩, ⟨3, 0, .rw, 0x0⟩]⟩,
    ⟨.CUE_PERIOD, 0x40000004, 1, 0x0, 1, 0, [⟨15, 0, .rw, 0x2710⟩]⟩,
    ⟨.CUE_PRE, 0x40000008, 1, 0x0, 1, 0, [⟨15, 0, .rw, 0x0⟩]⟩,
    ⟨.CUE_STAT, 0x4000000C, 1, 0x0, 1, 0, [⟨11, 8, .ro, 0x0⟩, ⟨7, 7, .ro, 0x0⟩, ⟨6, 6, .ro, 0x0⟩, ⟨5, 5, .ro, 0x0⟩, ⟨2, 2, .w1c, 0x0⟩, ⟨1, 1, .w1c, 0x0⟩, ⟨0, 0, .w1c, 0x0⟩]⟩,
    ⟨.CUE_DONE, 0x40000010, 1, 0x0, 1, 0, [⟨31, 0, .wo, 0x0⟩]⟩,
    ⟨.CUE_OVR, 0x40000014, 1, 0x0, 1, 0, [⟨31, 24, .rc, 0x0⟩, ⟨23, 16, .rc, 0x0⟩, ⟨15, 8, .rc, 0x0⟩, ⟨7, 0, .rc, 0x0⟩]⟩,
    ⟨.CUE_PHASE, 0x40000018, 1, 0x0, 1, 0, [⟨15, 0, .ro, 0x0⟩]⟩,
    ⟨.CUE_DISC, 0x4000001C, 1, 0x0, 1, 0, [⟨31, 16, .ro, 0x0⟩, ⟨15, 0, .ro, 0x0⟩]⟩,
    ⟨.CUE_CNTL, 0x40000020, 1, 0x0, 1, 0, [⟨31, 0, .ro, 0x0⟩]⟩,
    ⟨.CUE_CNTH, 0x40000024, 1, 0x0, 1, 0, [⟨31, 0, .ro, 0x0⟩]⟩,
    ⟨.CUE_TIMEL, 0x40000028, 1, 0x0, 1, 0, [⟨31, 0, .ro, 0x0⟩]⟩,
    ⟨.CUE_TIMEH, 0x4000002C, 1, 0x0, 1, 0, [⟨31, 0, .ro, 0x0⟩]⟩ ] ++
  [
    ⟨.CUE_LASTL, 0x40000030, 1, 0x0, 1, 0, [⟨31, 0, .ro, 0x0⟩]⟩,
    ⟨.CUE_LASTH, 0x40000034, 1, 0x0, 1, 0, [⟨31, 0, .ro, 0x0⟩]⟩,
    ⟨.CUE_TOFSL, 0x40000038, 1, 0x0, 1, 0, [⟨31, 0, .ro, 0x0⟩]⟩,
    ⟨.CUE_TOFSH, 0x4000003C, 1, 0x0, 1, 0, [⟨31, 0, .ro, 0x0⟩]⟩ ]

/-! ## USTD -/

namespace R

/-- USTD_CTRL: lockstep control (05_understudy_lockstep.md). -/
def USTD_CTRL : Nat := 0x40D00000
def USTD_CTRL_MMIRQ : Fld := ⟨USTD_CTRL, 1, 1⟩
def USTD_CTRL_TESTMODE : Fld := ⟨USTD_CTRL, 0, 0⟩
/-- USTD_STAT: lockstep status (05_understudy_lockstep.md). -/
def USTD_STAT : Nat := 0x40D00004
def USTD_STAT_SPLIT : Fld := ⟨USTD_STAT, 31, 28⟩
def USTD_STAT_RESTART : Fld := ⟨USTD_STAT, 27, 24⟩
def USTD_STAT_LOGOVF : Fld := ⟨USTD_STAT, 23, 20⟩
def USTD_STAT_MM : Fld := ⟨USTD_STAT, 19, 16⟩
def USTD_STAT_TIMEOUT : Fld := ⟨USTD_STAT, 15, 12⟩
def USTD_STAT_CFGREF : Fld := ⟨USTD_STAT, 0, 0⟩
/-- USTD_MMCNT: mismatch counts (05_understudy_lockstep.md). -/
def USTD_MMCNT : Nat := 0x40D00008
def USTD_MMCNT_PAIR3 : Fld := ⟨USTD_MMCNT, 31, 24⟩
def USTD_MMCNT_PAIR2 : Fld := ⟨USTD_MMCNT, 23, 16⟩
def USTD_MMCNT_PAIR1 : Fld := ⟨USTD_MMCNT, 15, 8⟩
def USTD_MMCNT_PAIR0 : Fld := ⟨USTD_MMCNT, 7, 0⟩
/-- USTD_MMINFO: last mismatch of pair n (05_understudy_lockstep.md). -/
def USTD_MMINFO (n : Nat) : Nat := 0x40D00010 + 0x4 * n
def USTD_MMINFO_VALID (n : Nat) : Fld := ⟨USTD_MMINFO n, 31, 31⟩
def USTD_MMINFO_GROUP (n : Nat) : Fld := ⟨USTD_MMINFO n, 30, 28⟩
def USTD_MMINFO_LANE (n : Nat) : Fld := ⟨USTD_MMINFO n, 27, 21⟩
def USTD_MMINFO_CUELO (n : Nat) : Fld := ⟨USTD_MMINFO n, 15, 0⟩
/-- USTD_INJ: difference injection (05_understudy_lockstep.md). -/
def USTD_INJ : Nat := 0x40D00020
def USTD_INJ_GO : Fld := ⟨USTD_INJ, 31, 31⟩
def USTD_INJ_PAIR : Fld := ⟨USTD_INJ, 11, 10⟩
def USTD_INJ_GROUP : Fld := ⟨USTD_INJ, 9, 7⟩
def USTD_INJ_LANE : Fld := ⟨USTD_INJ, 6, 0⟩
/-- USTD_TRES: injection result (05_understudy_lockstep.md). -/
def USTD_TRES : Nat := 0x40D00024
def USTD_TRES_DONE : Fld := ⟨USTD_TRES, 31, 31⟩
def USTD_TRES_CAUGHT : Fld := ⟨USTD_TRES, 30, 30⟩
def USTD_TRES_FAIL : Fld := ⟨USTD_TRES, 29, 29⟩
def USTD_TRES_PAIR : Fld := ⟨USTD_TRES, 11, 10⟩
def USTD_TRES_GROUP : Fld := ⟨USTD_TRES, 9, 7⟩
def USTD_TRES_LANE : Fld := ⟨USTD_TRES, 6, 0⟩
/-- USTD_LOGHW: undo-log high-water of pair n (05_understudy_lockstep.md). -/
def USTD_LOGHW (n : Nat) : Nat := 0x40D00030 + 0x4 * n
def USTD_LOGHW_MAX (n : Nat) : Fld := ⟨USTD_LOGHW n, 10, 0⟩

end R

/-- The registers of USTD. -/
def regsUSTD : List RegDesc :=
  [
    ⟨.USTD_CTRL, 0x40D00000, 1, 0x0, 1, 0, [⟨1, 1, .rw, 0x0⟩, ⟨0, 0, .rw, 0x0⟩]⟩,
    ⟨.USTD_STAT, 0x40D00004, 1, 0x0, 1, 0, [⟨31, 28, .ro, 0x0⟩, ⟨27, 24, .ro, 0x0⟩, ⟨23, 20, .w1c, 0x0⟩, ⟨19, 16, .w1c, 0x0⟩, ⟨15, 12, .w1c, 0x0⟩, ⟨0, 0, .w1c, 0x0⟩]⟩,
    ⟨.USTD_MMCNT, 0x40D00008, 1, 0x0, 1, 0, [⟨31, 24, .rc, 0x0⟩, ⟨23, 16, .rc, 0x0⟩, ⟨15, 8, .rc, 0x0⟩, ⟨7, 0, .rc, 0x0⟩]⟩,
    ⟨.USTD_MMINFO, 0x40D00010, 4, 0x4, 1, 0, [⟨31, 31, .w1c, 0x0⟩, ⟨30, 28, .ro, 0x0⟩, ⟨27, 21, .ro, 0x0⟩, ⟨15, 0, .ro, 0x0⟩]⟩,
    ⟨.USTD_INJ, 0x40D00020, 1, 0x0, 1, 0, [⟨31, 31, .wo, 0x0⟩, ⟨11, 10, .rw, 0x0⟩, ⟨9, 7, .rw, 0x0⟩, ⟨6, 0, .rw, 0x0⟩]⟩,
    ⟨.USTD_TRES, 0x40D00024, 1, 0x0, 1, 0, [⟨31, 31, .ro, 0x0⟩, ⟨30, 30, .ro, 0x0⟩, ⟨29, 29, .ro, 0x0⟩, ⟨11, 10, .ro, 0x0⟩, ⟨9, 7, .ro, 0x0⟩, ⟨6, 0, .ro, 0x0⟩]⟩,
    ⟨.USTD_LOGHW, 0x40D00030, 4, 0x4, 1, 0, [⟨10, 0, .rc, 0x0⟩]⟩ ]

/-! ## DRC -/

namespace R

/-- DRC_CTRL: controller control (06_memories.md). -/
def DRC_CTRL : Nat := 0x40C20000
def DRC_CTRL_SCRUBRATE : Fld := ⟨DRC_CTRL, 15, 8⟩
def DRC_CTRL_PKGIRQ : Fld := ⟨DRC_CTRL, 2, 2⟩
def DRC_CTRL_UEIRQ : Fld := ⟨DRC_CTRL, 1, 1⟩
def DRC_CTRL_CEIRQ : Fld := ⟨DRC_CTRL, 0, 0⟩
/-- DRC_STAT: controller status (06_memories.md). -/
def DRC_STAT : Nat := 0x40C20004
def DRC_STAT_PKGDEAD : Fld := ⟨DRC_STAT, 13, 12⟩
def DRC_STAT_HALF : Fld := ⟨DRC_STAT, 11, 11⟩
def DRC_STAT_SREF : Fld := ⟨DRC_STAT, 10, 10⟩
def DRC_STAT_READY : Fld := ⟨DRC_STAT, 9, 9⟩
def DRC_STAT_PKGFAIL : Fld := ⟨DRC_STAT, 2, 2⟩
def DRC_STAT_UE : Fld := ⟨DRC_STAT, 1, 1⟩
def DRC_STAT_CE : Fld := ⟨DRC_STAT, 0, 0⟩
/-- DRC_CECNT: corrected errors (06_memories.md). -/
def DRC_CECNT : Nat := 0x40C20008
def DRC_CECNT_CNT : Fld := ⟨DRC_CECNT, 31, 0⟩
/-- DRC_UECNT: uncorrectable errors (06_memories.md). -/
def DRC_UECNT : Nat := 0x40C2000C
def DRC_UECNT_PKG1 : Fld := ⟨DRC_UECNT, 31, 16⟩
def DRC_UECNT_PKG0 : Fld := ⟨DRC_UECNT, 15, 0⟩
/-- DRC_UEADDRL: first uncorrectable address, low word (06_memories.md). -/
def DRC_UEADDRL : Nat := 0x40C20010
def DRC_UEADDRL_ADDR : Fld := ⟨DRC_UEADDRL, 31, 0⟩
/-- DRC_UEADDRH: first uncorrectable address, high word (06_memories.md). -/
def DRC_UEADDRH : Nat := 0x40C20014
def DRC_UEADDRH_ADDR : Fld := ⟨DRC_UEADDRH, 7, 0⟩
/-- DRC_UETHR: failure threshold (06_memories.md). -/
def DRC_UETHR : Nat := 0x40C20018
def DRC_UETHR_THR : Fld := ⟨DRC_UETHR, 15, 0⟩
/-- DRC_LINES: traffic in the last cue (06_memories.md). -/
def DRC_LINES : Nat := 0x40C2001C
def DRC_LINES_LINES : Fld := ⟨DRC_LINES, 31, 0⟩

end R

/-- The registers of DRC. -/
def regsDRC : List RegDesc :=
  [
    ⟨.DRC_CTRL, 0x40C20000, 1, 0x0, 1, 0, [⟨15, 8, .rw, 0x10⟩, ⟨2, 2, .rw, 0x0⟩, ⟨1, 1, .rw, 0x0⟩, ⟨0, 0, .rw, 0x0⟩]⟩,
    ⟨.DRC_STAT, 0x40C20004, 1, 0x0, 1, 0, [⟨13, 12, .ro, 0x0⟩, ⟨11, 11, .ro, 0x0⟩, ⟨10, 10, .ro, 0x0⟩, ⟨9, 9, .ro, 0x0⟩, ⟨2, 2, .w1c, 0x0⟩, ⟨1, 1, .w1c, 0x0⟩, ⟨0, 0, .w1c, 0x0⟩]⟩,
    ⟨.DRC_CECNT, 0x40C20008, 1, 0x0, 1, 0, [⟨31, 0, .rc, 0x0⟩]⟩,
    ⟨.DRC_UECNT, 0x40C2000C, 1, 0x0, 1, 0, [⟨31, 16, .rc, 0x0⟩, ⟨15, 0, .rc, 0x0⟩]⟩,
    ⟨.DRC_UEADDRL, 0x40C20010, 1, 0x0, 1, 0, [⟨31, 0, .ro, 0x0⟩]⟩,
    ⟨.DRC_UEADDRH, 0x40C20014, 1, 0x0, 1, 0, [⟨7, 0, .ro, 0x0⟩]⟩,
    ⟨.DRC_UETHR, 0x40C20018, 1, 0x0, 1, 0, [⟨15, 0, .rw, 0x10⟩]⟩,
    ⟨.DRC_LINES, 0x40C2001C, 1, 0x0, 1, 0, [⟨31, 0, .ro, 0x0⟩]⟩ ]

/-! ## PMC -/

namespace R

/-- PMC_CTRL: PMEM control (06_memories.md). -/
def PMC_CTRL : Nat := 0x40C10000
def PMC_CTRL_LOCK : Fld := ⟨PMC_CTRL, 31, 31⟩
def PMC_CTRL_USERW : Fld := ⟨PMC_CTRL, 2, 0⟩
/-- PMC_STAT: PMEM status (06_memories.md). -/
def PMC_STAT : Nat := 0x40C10004
def PMC_STAT_DEPTH : Fld := ⟨PMC_STAT, 12, 8⟩
def PMC_STAT_PERM : Fld := ⟨PMC_STAT, 2, 2⟩
def PMC_STAT_UE : Fld := ⟨PMC_STAT, 1, 1⟩
def PMC_STAT_CE : Fld := ⟨PMC_STAT, 0, 0⟩
/-- PMC_CECNT: corrected errors (06_memories.md). -/
def PMC_CECNT : Nat := 0x40C10008
def PMC_CECNT_CNT : Fld := ⟨PMC_CECNT, 31, 0⟩
/-- PMC_ERRADDR: first error offset (06_memories.md). -/
def PMC_ERRADDR : Nat := 0x40C1000C
def PMC_ERRADDR_KIND : Fld := ⟨PMC_ERRADDR, 24, 24⟩
def PMC_ERRADDR_OFFSET : Fld := ⟨PMC_ERRADDR, 23, 0⟩

end R

/-- The registers of PMC. -/
def regsPMC : List RegDesc :=
  [
    ⟨.PMC_CTRL, 0x40C10000, 1, 0x0, 1, 0, [⟨31, 31, .w1s, 0x0⟩, ⟨2, 0, .rwl, 0x4⟩]⟩,
    ⟨.PMC_STAT, 0x40C10004, 1, 0x0, 1, 0, [⟨12, 8, .ro, 0x0⟩, ⟨2, 2, .w1c, 0x0⟩, ⟨1, 1, .w1c, 0x0⟩, ⟨0, 0, .w1c, 0x0⟩]⟩,
    ⟨.PMC_CECNT, 0x40C10008, 1, 0x0, 1, 0, [⟨31, 0, .rc, 0x0⟩]⟩,
    ⟨.PMC_ERRADDR, 0x40C1000C, 1, 0x0, 1, 0, [⟨24, 24, .ro, 0x0⟩, ⟨23, 0, .ro, 0x0⟩]⟩ ]

/-! ## FLS -/

namespace R

/-- FLS_CTRL: program-store control (07_program_store.md). -/
def FLS_CTRL : Nat := 0x40C00000
def FLS_CTRL_IRQEN : Fld := ⟨FLS_CTRL, 4, 4⟩
def FLS_CTRL_RESUME : Fld := ⟨FLS_CTRL, 3, 3⟩
def FLS_CTRL_SUSPEND : Fld := ⟨FLS_CTRL, 2, 2⟩
def FLS_CTRL_WEN : Fld := ⟨FLS_CTRL, 0, 0⟩
/-- FLS_STAT: program-store status (07_program_store.md). -/
def FLS_STAT : Nat := 0x40C00004
def FLS_STAT_CAUSE : Fld := ⟨FLS_STAT, 31, 28⟩
def FLS_STAT_OPBANK : Fld := ⟨FLS_STAT, 27, 26⟩
def FLS_STAT_OP : Fld := ⟨FLS_STAT, 25, 24⟩
def FLS_STAT_UE : Fld := ⟨FLS_STAT, 9, 9⟩
def FLS_STAT_SBR : Fld := ⟨FLS_STAT, 8, 8⟩
def FLS_STAT_BUSYHIT : Fld := ⟨FLS_STAT, 7, 7⟩
def FLS_STAT_CMDREF : Fld := ⟨FLS_STAT, 6, 6⟩
def FLS_STAT_ERR : Fld := ⟨FLS_STAT, 5, 5⟩
def FLS_STAT_DONE : Fld := ⟨FLS_STAT, 4, 4⟩
def FLS_STAT_SUSP : Fld := ⟨FLS_STAT, 3, 3⟩
def FLS_STAT_BUSY : Fld := ⟨FLS_STAT, 2, 2⟩
/-- FLS_WP: bank write protection (07_program_store.md). -/
def FLS_WP : Nat := 0x40C00008
def FLS_WP_LOCK : Fld := ⟨FLS_WP, 31, 31⟩
def FLS_WP_WP : Fld := ⟨FLS_WP, 3, 0⟩
/-- FLS_SBRADDRL: suspended-block read address, low word (07_program_store.md). -/
def FLS_SBRADDRL : Nat := 0x40C0000C
def FLS_SBRADDRL_ADDR : Fld := ⟨FLS_SBRADDRL, 31, 0⟩
/-- FLS_SBRADDRH: suspended-block read address, high word (07_program_store.md). -/
def FLS_SBRADDRH : Nat := 0x40C00010
def FLS_SBRADDRH_ADDR : Fld := ⟨FLS_SBRADDRH, 7, 0⟩
/-- FLS_UEADDRL: uncorrectable read address, low word (07_program_store.md). -/
def FLS_UEADDRL : Nat := 0x40C00014
def FLS_UEADDRL_ADDR : Fld := ⟨FLS_UEADDRL, 31, 0⟩
/-- FLS_UEADDRH: uncorrectable read address, high word (07_program_store.md). -/
def FLS_UEADDRH : Nat := 0x40C00018
def FLS_UEADDRH_ADDR : Fld := ⟨FLS_UEADDRH, 7, 0⟩
/-- FLS_CECNT: corrected reads (07_program_store.md). -/
def FLS_CECNT : Nat := 0x40C0001C
def FLS_CECNT_CNT : Fld := ⟨FLS_CECNT, 31, 0⟩
/-- FLS_OTPOFF: OTP unit (07_program_store.md). -/
def FLS_OTPOFF : Nat := 0x40C00020
def FLS_OTPOFF_UNIT : Fld := ⟨FLS_OTPOFF, 11, 3⟩
/-- FLS_OTP: OTP window (07_program_store.md). -/
def FLS_OTP (n : Nat) : Nat := 0x40C01000 + 0x4 * n
def FLS_OTP_DATA (n : Nat) : Fld := ⟨FLS_OTP n, 31, 0⟩
/-- FLS_PGBUF: page buffer (07_program_store.md). -/
def FLS_PGBUF (n : Nat) : Nat := 0x40C08000 + 0x4 * n
def FLS_PGBUF_DATA (n : Nat) : Fld := ⟨FLS_PGBUF n, 31, 0⟩

end R

/-- The registers of FLS. -/
def regsFLS : List RegDesc :=
  [
    ⟨.FLS_CTRL, 0x40C00000, 1, 0x0, 1, 0, [⟨4, 4, .rw, 0x0⟩, ⟨3, 3, .wo, 0x0⟩, ⟨2, 2, .wo, 0x0⟩, ⟨0, 0, .rw, 0x0⟩]⟩,
    ⟨.FLS_STAT, 0x40C00004, 1, 0x0, 1, 0, [⟨31, 28, .ro, 0x0⟩, ⟨27, 26, .ro, 0x0⟩, ⟨25, 24, .ro, 0x0⟩, ⟨9, 9, .w1c, 0x0⟩, ⟨8, 8, .w1c, 0x0⟩, ⟨7, 7, .w1c, 0x0⟩, ⟨6, 6, .w1c, 0x0⟩, ⟨5, 5, .w1c, 0x0⟩, ⟨4, 4, .w1c, 0x0⟩, ⟨3, 3, .ro, 0x0⟩, ⟨2, 2, .ro, 0x0⟩]⟩,
    ⟨.FLS_WP, 0x40C00008, 1, 0x0, 1, 0, [⟨31, 31, .w1s, 0x0⟩, ⟨3, 0, .rwl, 0x0⟩]⟩,
    ⟨.FLS_SBRADDRL, 0x40C0000C, 1, 0x0, 1, 0, [⟨31, 0, .ro, 0x0⟩]⟩,
    ⟨.FLS_SBRADDRH, 0x40C00010, 1, 0x0, 1, 0, [⟨7, 0, .ro, 0x0⟩]⟩,
    ⟨.FLS_UEADDRL, 0x40C00014, 1, 0x0, 1, 0, [⟨31, 0, .ro, 0x0⟩]⟩,
    ⟨.FLS_UEADDRH, 0x40C00018, 1, 0x0, 1, 0, [⟨7, 0, .ro, 0x0⟩]⟩,
    ⟨.FLS_CECNT, 0x40C0001C, 1, 0x0, 1, 0, [⟨31, 0, .rc, 0x0⟩]⟩,
    ⟨.FLS_OTPOFF, 0x40C00020, 1, 0x0, 1, 0, [⟨11, 3, .rw, 0x0⟩]⟩,
    ⟨.FLS_OTP, 0x40C01000, 1024, 0x4, 1, 0, [⟨31, 0, .ro, 0x0⟩]⟩,
    ⟨.FLS_PGBUF, 0x40C08000, 4096, 0x4, 1, 0, [⟨31, 0, .rw, 0x0⟩]⟩ ]

/-! ## DROP -/

namespace R

/-- DROP_CTRL: pipeline control (09_drop_pipeline.md). -/
def DROP_CTRL : Nat := 0x40400000
def DROP_CTRL_FLUSH : Fld := ⟨DROP_CTRL, 5, 5⟩
def DROP_CTRL_EFLTIRQ : Fld := ⟨DROP_CTRL, 4, 4⟩
def DROP_CTRL_STARVEIRQ : Fld := ⟨DROP_CTRL, 3, 3⟩
def DROP_CTRL_RRQIRQ : Fld := ⟨DROP_CTRL, 2, 2⟩
def DROP_CTRL_READYIRQ : Fld := ⟨DROP_CTRL, 1, 1⟩
def DROP_CTRL_SDIRQ : Fld := ⟨DROP_CTRL, 0, 0⟩
/-- DROP_CFG: window configuration (09_drop_pipeline.md). -/
def DROP_CFG : Nat := 0x40400004
def DROP_CFG_NCTX : Fld := ⟨DROP_CFG, 28, 16⟩
def DROP_CFG_WIN : Fld := ⟨DROP_CFG, 5, 0⟩
/-- DROP_STAT: pipeline status (09_drop_pipeline.md). -/
def DROP_STAT : Nat := 0x40400008
def DROP_STAT_CFGREF : Fld := ⟨DROP_STAT, 9, 9⟩
def DROP_STAT_SDBAD : Fld := ⟨DROP_STAT, 8, 8⟩
def DROP_STAT_SWQFULL : Fld := ⟨DROP_STAT, 7, 7⟩
def DROP_STAT_EMITCRC : Fld := ⟨DROP_STAT, 6, 6⟩
def DROP_STAT_EMITUE : Fld := ⟨DROP_STAT, 5, 5⟩
def DROP_STAT_STARVE : Fld := ⟨DROP_STAT, 4, 4⟩
def DROP_STAT_RRQOVF : Fld := ⟨DROP_STAT, 3, 3⟩
def DROP_STAT_RRQ : Fld := ⟨DROP_STAT, 2, 2⟩
def DROP_STAT_READY : Fld := ⟨DROP_STAT, 1, 1⟩
def DROP_STAT_ACTIVE : Fld := ⟨DROP_STAT, 0, 0⟩
/-- DROP_SWQL: descriptor address, low word (09_drop_pipeline.md). -/
def DROP_SWQL : Nat := 0x4040000C
def DROP_SWQL_ADDR : Fld := ⟨DROP_SWQL, 31, 6⟩
/-- DROP_SWQH: descriptor address, high word, and post (09_drop_pipeline.md). -/
def DROP_SWQH : Nat := 0x40400010
def DROP_SWQH_POST : Fld := ⟨DROP_SWQH, 31, 31⟩
def DROP_SWQH_RESUME : Fld := ⟨DROP_SWQH, 8, 8⟩
def DROP_SWQH_ADDR : Fld := ⟨DROP_SWQH, 7, 0⟩
/-- DROP_SWSTAT: queue status (09_drop_pipeline.md). -/
def DROP_SWSTAT : Nat := 0x40400014
def DROP_SWSTAT_REASON : Fld := ⟨DROP_SWSTAT, 31, 28⟩
def DROP_SWSTAT_DEPTH : Fld := ⟨DROP_SWSTAT, 18, 16⟩
def DROP_SWSTAT_SWATH : Fld := ⟨DROP_SWSTAT, 15, 0⟩
/-- DROP_SWORD: head order (09_drop_pipeline.md). -/
def DROP_SWORD : Nat := 0x40400018
def DROP_SWORD_SEQ : Fld := ⟨DROP_SWORD, 31, 0⟩
/-- DROP_MISSBASE: missing-nozzle table (09_drop_pipeline.md). -/
def DROP_MISSBASE : Nat := 0x40400020
def DROP_MISSBASE_ADDR : Fld := ⟨DROP_MISSBASE, 31, 6⟩
/-- DROP_SKIPBASE: resume start table (09_drop_pipeline.md). -/
def DROP_SKIPBASE : Nat := 0x40400024
def DROP_SKIPBASE_ADDR : Fld := ⟨DROP_SKIPBASE, 31, 6⟩
/-- DROP_RRQ0: re-request, order (09_drop_pipeline.md). -/
def DROP_RRQ0 : Nat := 0x40400030
def DROP_RRQ0_SEQ : Fld := ⟨DROP_RRQ0, 31, 0⟩
/-- DROP_RRQ1: re-request, tile (09_drop_pipeline.md). -/
def DROP_RRQ1 : Nat := 0x40400034
def DROP_RRQ1_SWATH : Fld := ⟨DROP_RRQ1, 31, 16⟩
def DROP_RRQ1_TILE : Fld := ⟨DROP_RRQ1, 15, 0⟩
/-- DROP_RRQ2: re-request, context and pop (09_drop_pipeline.md). -/
def DROP_RRQ2 : Nat := 0x40400038
def DROP_RRQ2_VALID : Fld := ⟨DROP_RRQ2, 31, 31⟩
def DROP_RRQ2_POP : Fld := ⟨DROP_RRQ2, 30, 30⟩
def DROP_RRQ2_DONE : Fld := ⟨DROP_RRQ2, 24, 24⟩
def DROP_RRQ2_REASON : Fld := ⟨DROP_RRQ2, 23, 20⟩
def DROP_RRQ2_HANDLE : Fld := ⟨DROP_RRQ2, 19, 16⟩
def DROP_RRQ2_CTX : Fld := ⟨DROP_RRQ2, 11, 0⟩
/-- DROP_RETRY: stage afresh (09_drop_pipeline.md). -/
def DROP_RETRY : Nat := 0x4040003C
def DROP_RETRY_GO : Fld := ⟨DROP_RETRY, 31, 31⟩
def DROP_RETRY_HANDLE : Fld := ⟨DROP_RETRY, 3, 0⟩
/-- DROP_TILES: passed tiles (09_drop_pipeline.md). -/
def DROP_TILES : Nat := 0x40400040
def DROP_TILES_CNT : Fld := ⟨DROP_TILES, 31, 0⟩
/-- DROP_FAILS: staging failures (09_drop_pipeline.md). -/
def DROP_FAILS : Nat := 0x40400044
def DROP_FAILS_RRQS : Fld := ⟨DROP_FAILS, 31, 16⟩
def DROP_FAILS_REREADS : Fld := ⟨DROP_FAILS, 15, 0⟩
/-- DROP_SUBST: substitution losses (09_drop_pipeline.md). -/
def DROP_SUBST : Nat := 0x40400048
def DROP_SUBST_SAT : Fld := ⟨DROP_SUBST, 31, 16⟩
def DROP_SUBST_LOST : Fld := ⟨DROP_SUBST, 15, 0⟩
/-- DROP_STARVES: starved tiles (09_drop_pipeline.md). -/
def DROP_STARVES : Nat := 0x4040004C
def DROP_STARVES_CNT : Fld := ⟨DROP_STARVES, 31, 0⟩
/-- DROP_MINLEAD: smallest lead (09_drop_pipeline.md). -/
def DROP_MINLEAD : Nat := 0x40400050
def DROP_MINLEAD_COLS : Fld := ⟨DROP_MINLEAD, 19, 0⟩
/-- DROP_EFLT0: first emission fault, order (09_drop_pipeline.md). -/
def DROP_EFLT0 : Nat := 0x40400054
def DROP_EFLT0_SEQ : Fld := ⟨DROP_EFLT0, 31, 0⟩
/-- DROP_EFLT1: first emission fault, tile (09_drop_pipeline.md). -/
def DROP_EFLT1 : Nat := 0x40400058
def DROP_EFLT1_SWATH : Fld := ⟨DROP_EFLT1, 31, 16⟩
def DROP_EFLT1_TILE : Fld := ⟨DROP_EFLT1, 15, 0⟩
/-- DROP_EFLT2: first emission fault, context (09_drop_pipeline.md). -/
def DROP_EFLT2 : Nat := 0x4040005C
def DROP_EFLT2_VALID : Fld := ⟨DROP_EFLT2, 31, 31⟩
def DROP_EFLT2_KIND : Fld := ⟨DROP_EFLT2, 30, 30⟩
def DROP_EFLT2_CTX : Fld := ⟨DROP_EFLT2, 11, 0⟩
/-- DROP_DT: drop-table entry (09_drop_pipeline.md). -/
def DROP_DT (i j : Nat) : Nat := 0x40404000 + 0x40 * i + 4 * j
def DROP_DT_PATTERN (i j : Nat) : Fld := ⟨DROP_DT i j, 31, 24⟩
def DROP_DT_WAVE (i j : Nat) : Fld := ⟨DROP_DT i j, 23, 22⟩
def DROP_DT_VEL (i j : Nat) : Fld := ⟨DROP_DT i j, 19, 8⟩
def DROP_DT_PARAM (i j : Nat) : Fld := ⟨DROP_DT i j, 7, 0⟩
/-- DROP_CTXA: neighbours of context k (09_drop_pipeline.md). -/
def DROP_CTXA (n : Nat) : Nat := 0x40408000 + 0x8 * n
def DROP_CTXA_UPV (n : Nat) : Fld := ⟨DROP_CTXA n, 31, 31⟩
def DROP_CTXA_UPOFF (n : Nat) : Fld := ⟨DROP_CTXA n, 29, 28⟩
def DROP_CTXA_UP (n : Nat) : Fld := ⟨DROP_CTXA n, 27, 16⟩
def DROP_CTXA_DNV (n : Nat) : Fld := ⟨DROP_CTXA n, 15, 15⟩
def DROP_CTXA_DNOFF (n : Nat) : Fld := ⟨DROP_CTXA n, 13, 12⟩
def DROP_CTXA_DN (n : Nat) : Fld := ⟨DROP_CTXA n, 11, 0⟩
/-- DROP_CTXB: drop tables of context k (09_drop_pipeline.md). -/
def DROP_CTXB (n : Nat) : Nat := 0x40408004 + 0x8 * n
def DROP_CTXB_SET3 (n : Nat) : Fld := ⟨DROP_CTXB n, 31, 24⟩
def DROP_CTXB_SET2 (n : Nat) : Fld := ⟨DROP_CTXB n, 23, 16⟩
def DROP_CTXB_SET1 (n : Nat) : Fld := ⟨DROP_CTXB n, 15, 8⟩
def DROP_CTXB_SET0 (n : Nat) : Fld := ⟨DROP_CTXB n, 7, 0⟩

end R

/-- The registers of DROP. -/
def regsDROP : List RegDesc :=
  [
    ⟨.DROP_CTRL, 0x40400000, 1, 0x0, 1, 0, [⟨5, 5, .wo, 0x0⟩, ⟨4, 4, .rw, 0x0⟩, ⟨3, 3, .rw, 0x0⟩, ⟨2, 2, .rw, 0x0⟩, ⟨1, 1, .rw, 0x0⟩, ⟨0, 0, .rw, 0x0⟩]⟩,
    ⟨.DROP_CFG, 0x40400004, 1, 0x0, 1, 0, [⟨28, 16, .rw, 0x1000⟩, ⟨5, 0, .rw, 0x3⟩]⟩,
    ⟨.DROP_STAT, 0x40400008, 1, 0x0, 1, 0, [⟨9, 9, .w1c, 0x0⟩, ⟨8, 8, .w1c, 0x0⟩, ⟨7, 7, .w1c, 0x0⟩, ⟨6, 6, .w1c, 0x0⟩, ⟨5, 5, .w1c, 0x0⟩, ⟨4, 4, .w1c, 0x0⟩, ⟨3, 3, .w1c, 0x0⟩, ⟨2, 2, .ro, 0x0⟩, ⟨1, 1, .ro, 0x0⟩, ⟨0, 0, .ro, 0x0⟩]⟩,
    ⟨.DROP_SWQL, 0x4040000C, 1, 0x0, 1, 0, [⟨31, 6, .rw, 0x0⟩]⟩,
    ⟨.DROP_SWQH, 0x40400010, 1, 0x0, 1, 0, [⟨31, 31, .wo, 0x0⟩, ⟨8, 8, .rw, 0x0⟩, ⟨7, 0, .rw, 0x0⟩]⟩,
    ⟨.DROP_SWSTAT, 0x40400014, 1, 0x0, 1, 0, [⟨31, 28, .ro, 0x0⟩, ⟨18, 16, .ro, 0x0⟩, ⟨15, 0, .ro, 0x0⟩]⟩,
    ⟨.DROP_SWORD, 0x40400018, 1, 0x0, 1, 0, [⟨31, 0, .ro, 0x0⟩]⟩,
    ⟨.DROP_MISSBASE, 0x40400020, 1, 0x0, 1, 0, [⟨31, 6, .rw, 0x0⟩]⟩,
    ⟨.DROP_SKIPBASE, 0x40400024, 1, 0x0, 1, 0, [⟨31, 6, .rw, 0x0⟩]⟩,
    ⟨.DROP_RRQ0, 0x40400030, 1, 0x0, 1, 0, [⟨31, 0, .ro, 0x0⟩]⟩,
    ⟨.DROP_RRQ1, 0x40400034, 1, 0x0, 1, 0, [⟨31, 16, .ro, 0x0⟩, ⟨15, 0, .ro, 0x0⟩]⟩,
    ⟨.DROP_RRQ2, 0x40400038, 1, 0x0, 1, 0, [⟨31, 31, .ro, 0x0⟩, ⟨30, 30, .wo, 0x0⟩, ⟨24, 24, .ro, 0x0⟩, ⟨23, 20, .ro, 0x0⟩, ⟨19, 16, .ro, 0x0⟩, ⟨11, 0, .ro, 0x0⟩]⟩ ] ++
  [
    ⟨.DROP_RETRY, 0x4040003C, 1, 0x0, 1, 0, [⟨31, 31, .wo, 0x0⟩, ⟨3, 0, .rw, 0x0⟩]⟩,
    ⟨.DROP_TILES, 0x40400040, 1, 0x0, 1, 0, [⟨31, 0, .rc, 0x0⟩]⟩,
    ⟨.DROP_FAILS, 0x40400044, 1, 0x0, 1, 0, [⟨31, 16, .rc, 0x0⟩, ⟨15, 0, .rc, 0x0⟩]⟩,
    ⟨.DROP_SUBST, 0x40400048, 1, 0x0, 1, 0, [⟨31, 16, .rc, 0x0⟩, ⟨15, 0, .rc, 0x0⟩]⟩,
    ⟨.DROP_STARVES, 0x4040004C, 1, 0x0, 1, 0, [⟨31, 0, .rc, 0x0⟩]⟩,
    ⟨.DROP_MINLEAD, 0x40400050, 1, 0x0, 1, 0, [⟨19, 0, .rw, 0xFFFFF⟩]⟩,
    ⟨.DROP_EFLT0, 0x40400054, 1, 0x0, 1, 0, [⟨31, 0, .ro, 0x0⟩]⟩,
    ⟨.DROP_EFLT1, 0x40400058, 1, 0x0, 1, 0, [⟨31, 16, .ro, 0x0⟩, ⟨15, 0, .ro, 0x0⟩]⟩,
    ⟨.DROP_EFLT2, 0x4040005C, 1, 0x0, 1, 0, [⟨31, 31, .w1c, 0x0⟩, ⟨30, 30, .ro, 0x0⟩, ⟨11, 0, .ro, 0x0⟩]⟩,
    ⟨.DROP_DT, 0x40404000, 256, 0x40, 16, 4, [⟨31, 24, .rw, 0x0⟩, ⟨23, 22, .rw, 0x0⟩, ⟨19, 8, .rw, 0x0⟩, ⟨7, 0, .rw, 0x0⟩]⟩,
    ⟨.DROP_CTXA, 0x40408000, 4096, 0x8, 1, 0, [⟨31, 31, .rw, 0x0⟩, ⟨29, 28, .rw, 0x0⟩, ⟨27, 16, .rw, 0x0⟩, ⟨15, 15, .rw, 0x0⟩, ⟨13, 12, .rw, 0x0⟩, ⟨11, 0, .rw, 0x0⟩]⟩,
    ⟨.DROP_CTXB, 0x40408004, 4096, 0x8, 1, 0, [⟨31, 24, .rw, 0x0⟩, ⟨23, 16, .rw, 0x0⟩, ⟨15, 8, .rw, 0x0⟩, ⟨7, 0, .rw, 0x0⟩]⟩ ]

/-! ## FIRE -/

namespace R

/-- FIRE_CTRL: scheduler control (10_firing_scheduler.md). -/
def FIRE_CTRL : Nat := 0x40500000
def FIRE_CTRL_OBSEN : Fld := ⟨FIRE_CTRL, 7, 7⟩
def FIRE_CTRL_EN : Fld := ⟨FIRE_CTRL, 6, 6⟩
def FIRE_CTRL_OBSIRQ : Fld := ⟨FIRE_CTRL, 4, 4⟩
def FIRE_CTRL_STALLIRQ : Fld := ⟨FIRE_CTRL, 3, 3⟩
def FIRE_CTRL_LATEIRQ : Fld := ⟨FIRE_CTRL, 2, 2⟩
def FIRE_CTRL_OVSIRQ : Fld := ⟨FIRE_CTRL, 1, 1⟩
def FIRE_CTRL_ARMIRQ : Fld := ⟨FIRE_CTRL, 0, 0⟩
/-- FIRE_CFG: scheduler configuration (10_firing_scheduler.md). -/
def FIRE_CFG : Nat := 0x40500004
def FIRE_CFG_CSLOT : Fld := ⟨FIRE_CFG, 29, 24⟩
def FIRE_CFG_ENC : Fld := ⟨FIRE_CFG, 22, 20⟩
def FIRE_CFG_HORIZON : Fld := ⟨FIRE_CFG, 15, 0⟩
/-- FIRE_STAT: scheduler status (10_firing_scheduler.md). -/
def FIRE_STAT : Nat := 0x40500008
def FIRE_STAT_GRANT : Fld := ⟨FIRE_STAT, 11, 11⟩
def FIRE_STAT_OBSFLT : Fld := ⟨FIRE_STAT, 10, 10⟩
def FIRE_STAT_OVERSPEED : Fld := ⟨FIRE_STAT, 9, 9⟩
def FIRE_STAT_STALL : Fld := ⟨FIRE_STAT, 8, 8⟩
def FIRE_STAT_OVERSHOT : Fld := ⟨FIRE_STAT, 7, 7⟩
def FIRE_STAT_LATE : Fld := ⟨FIRE_STAT, 6, 6⟩
def FIRE_STAT_GAPCLAMP : Fld := ⟨FIRE_STAT, 5, 5⟩
def FIRE_STAT_NOVEL : Fld := ⟨FIRE_STAT, 4, 4⟩
def FIRE_STAT_CFGREF : Fld := ⟨FIRE_STAT, 3, 3⟩
def FIRE_STAT_SW : Fld := ⟨FIRE_STAT, 2, 0⟩
/-- FIRE_ENCSCALE: encoder scale (10_firing_scheduler.md). -/
def FIRE_ENCSCALE : Nat := 0x4050000C
def FIRE_ENCSCALE_SCALE : Fld := ⟨FIRE_ENCSCALE, 31, 0⟩
/-- FIRE_OBSL1: observer position gain (10_firing_scheduler.md). -/
def FIRE_OBSL1 : Nat := 0x40500010
def FIRE_OBSL1_GAIN : Fld := ⟨FIRE_OBSL1, 15, 0⟩
/-- FIRE_OBSL2: observer velocity gain (10_firing_scheduler.md). -/
def FIRE_OBSL2 : Nat := 0x40500014
def FIRE_OBSL2_GAIN : Fld := ⟨FIRE_OBSL2, 15, 0⟩
/-- FIRE_OBSL3: observer bias gain (10_firing_scheduler.md). -/
def FIRE_OBSL3 : Nat := 0x40500018
def FIRE_OBSL3_GAIN : Fld := ⟨FIRE_OBSL3, 15, 0⟩
/-- FIRE_INNOVLIM: innovation limit (10_firing_scheduler.md). -/
def FIRE_INNOVLIM : Nat := 0x4050001C
def FIRE_INNOVLIM_LIM : Fld := ⟨FIRE_INNOVLIM, 23, 0⟩
/-- FIRE_XORGL: column origin, low word (10_firing_scheduler.md). -/
def FIRE_XORGL : Nat := 0x40500020
def FIRE_XORGL_XORG : Fld := ⟨FIRE_XORGL, 31, 0⟩
/-- FIRE_XORGH: column origin, high word (10_firing_scheduler.md). -/
def FIRE_XORGH : Nat := 0x40500024
def FIRE_XORGH_XORG : Fld := ⟨FIRE_XORGH, 15, 0⟩
/-- FIRE_PITCH: column pitch (10_firing_scheduler.md). -/
def FIRE_PITCH : Nat := 0x40500028
def FIRE_PITCH_PITCH : Fld := ⟨FIRE_PITCH, 31, 0⟩
/-- FIRE_BIDI: bidirectional offset (10_firing_scheduler.md). -/
def FIRE_BIDI : Nat := 0x4050002C
def FIRE_BIDI_B : Fld := ⟨FIRE_BIDI, 31, 0⟩
/-- FIRE_VMIN: minimum velocity (10_firing_scheduler.md). -/
def FIRE_VMIN : Nat := 0x40500030
def FIRE_VMIN_VMIN : Fld := ⟨FIRE_VMIN, 31, 0⟩
/-- FIRE_MAXRATE: maximum column rate (10_firing_scheduler.md). -/
def FIRE_MAXRATE : Nat := 0x40500034
def FIRE_MAXRATE_RATE : Fld := ⟨FIRE_MAXRATE, 19, 0⟩
/-- FIRE_GAPSRC: gap source (10_firing_scheduler.md). -/
def FIRE_GAPSRC : Nat := 0x40500038
def FIRE_GAPSRC_MAN : Fld := ⟨FIRE_GAPSRC, 31, 31⟩
def FIRE_GAPSRC_SLOT : Fld := ⟨FIRE_GAPSRC, 5, 0⟩
/-- FIRE_GAPBASE: gap base (10_firing_scheduler.md). -/
def FIRE_GAPBASE : Nat := 0x4050003C
def FIRE_GAPBASE_BASE : Fld := ⟨FIRE_GAPBASE, 31, 0⟩
/-- FIRE_GAPSCALE: gap scale (10_firing_scheduler.md). -/
def FIRE_GAPSCALE : Nat := 0x40500040
def FIRE_GAPSCALE_SCALE : Fld := ⟨FIRE_GAPSCALE, 31, 0⟩
/-- FIRE_GAP: common head gap (10_firing_scheduler.md). -/
def FIRE_GAP : Nat := 0x40500044
def FIRE_GAP_GAP : Fld := ⟨FIRE_GAP, 31, 0⟩
/-- FIRE_OBSPOSL: observed position, low word (10_firing_scheduler.md). -/
def FIRE_OBSPOSL : Nat := 0x40500048
def FIRE_OBSPOSL_POS : Fld := ⟨FIRE_OBSPOSL, 31, 0⟩
/-- FIRE_OBSPOSH: observed position, high word (10_firing_scheduler.md). -/
def FIRE_OBSPOSH : Nat := 0x4050004C
def FIRE_OBSPOSH_POS : Fld := ⟨FIRE_OBSPOSH, 15, 0⟩
/-- FIRE_OBSVEL: observed velocity (10_firing_scheduler.md). -/
def FIRE_OBSVEL : Nat := 0x40500050
def FIRE_OBSVEL_VEL : Fld := ⟨FIRE_OBSVEL, 31, 0⟩
/-- FIRE_OBSACC: observed acceleration (10_firing_scheduler.md). -/
def FIRE_OBSACC : Nat := 0x40500054
def FIRE_OBSACC_ACC : Fld := ⟨FIRE_OBSACC, 31, 0⟩
/-- FIRE_OBSTICK: tick of the snapshot (10_firing_scheduler.md). -/
def FIRE_OBSTICK : Nat := 0x40500058
def FIRE_OBSTICK_TIME : Fld := ⟨FIRE_OBSTICK, 31, 0⟩
/-- FIRE_INNOV: innovation (10_firing_scheduler.md). -/
def FIRE_INNOV : Nat := 0x4050005C
def FIRE_INNOV_E : Fld := ⟨FIRE_INNOV, 31, 0⟩
/-- FIRE_LATECNT: late columns (10_firing_scheduler.md). -/
def FIRE_LATECNT : Nat := 0x40500060
def FIRE_LATECNT_CNT : Fld := ⟨FIRE_LATECNT, 31, 0⟩
/-- FIRE_MINMARGIN: smallest issue margin (10_firing_scheduler.md). -/
def FIRE_MINMARGIN : Nat := 0x40500064
def FIRE_MINMARGIN_NS : Fld := ⟨FIRE_MINMARGIN, 15, 0⟩
/-- FIRE_SWSTAT: swath in the scheduler (10_firing_scheduler.md). -/
def FIRE_SWSTAT : Nat := 0x40500068
def FIRE_SWSTAT_DIR : Fld := ⟨FIRE_SWSTAT, 31, 31⟩
def FIRE_SWSTAT_SET : Fld := ⟨FIRE_SWSTAT, 30, 29⟩
def FIRE_SWSTAT_NEXT : Fld := ⟨FIRE_SWSTAT, 19, 0⟩
/-- FIRE_GRP: group g (10_firing_scheduler.md). -/
def FIRE_GRP (n : Nat) : Nat := 0x40500100 + 0x4 * n
def FIRE_GRP_GOFS (n : Nat) : Fld := ⟨FIRE_GRP n, 31, 16⟩
def FIRE_GRP_TADV (n : Nat) : Fld := ⟨FIRE_GRP n, 15, 0⟩
/-- FIRE_CTXA: row offset of context k (10_firing_scheduler.md). -/
def FIRE_CTXA (n : Nat) : Nat := 0x40508000 + 0x8 * n
def FIRE_CTXA_OFS (n : Nat) : Fld := ⟨FIRE_CTXA n, 31, 0⟩
/-- FIRE_CTXB: trim, group and reference level of context k (10_firing_scheduler.md). -/
def FIRE_CTXB (n : Nat) : Nat := 0x40508004 + 0x8 * n
def FIRE_CTXB_TRIM (n : Nat) : Fld := ⟨FIRE_CTXB n, 31, 12⟩
def FIRE_CTXB_GRP (n : Nat) : Fld := ⟨FIRE_CTXB n, 11, 8⟩
def FIRE_CTXB_REFLVL (n : Nat) : Fld := ⟨FIRE_CTXB n, 3, 0⟩

end R

/-- The registers of FIRE. -/
def regsFIRE : List RegDesc :=
  [
    ⟨.FIRE_CTRL, 0x40500000, 1, 0x0, 1, 0, [⟨7, 7, .rw, 0x0⟩, ⟨6, 6, .rw, 0x0⟩, ⟨4, 4, .rw, 0x0⟩, ⟨3, 3, .rw, 0x0⟩, ⟨2, 2, .rw, 0x0⟩, ⟨1, 1, .rw, 0x0⟩, ⟨0, 0, .rw, 0x0⟩]⟩,
    ⟨.FIRE_CFG, 0x40500004, 1, 0x0, 1, 0, [⟨29, 24, .rw, 0x0⟩, ⟨22, 20, .rw, 0x0⟩, ⟨15, 0, .rw, 0x1770⟩]⟩,
    ⟨.FIRE_STAT, 0x40500008, 1, 0x0, 1, 0, [⟨11, 11, .ro, 0x0⟩, ⟨10, 10, .w1c, 0x0⟩, ⟨9, 9, .w1c, 0x0⟩, ⟨8, 8, .w1c, 0x0⟩, ⟨7, 7, .w1c, 0x0⟩, ⟨6, 6, .w1c, 0x0⟩, ⟨5, 5, .w1c, 0x0⟩, ⟨4, 4, .w1c, 0x0⟩, ⟨3, 3, .w1c, 0x0⟩, ⟨2, 0, .ro, 0x0⟩]⟩,
    ⟨.FIRE_ENCSCALE, 0x4050000C, 1, 0x0, 1, 0, [⟨31, 0, .rw, 0x10000⟩]⟩,
    ⟨.FIRE_OBSL1, 0x40500010, 1, 0x0, 1, 0, [⟨15, 0, .rw, 0x4000⟩]⟩,
    ⟨.FIRE_OBSL2, 0x40500014, 1, 0x0, 1, 0, [⟨15, 0, .rw, 0x800⟩]⟩,
    ⟨.FIRE_OBSL3, 0x40500018, 1, 0x0, 1, 0, [⟨15, 0, .rw, 0x40⟩]⟩,
    ⟨.FIRE_INNOVLIM, 0x4050001C, 1, 0x0, 1, 0, [⟨23, 0, .rw, 0x3E8⟩]⟩,
    ⟨.FIRE_XORGL, 0x40500020, 1, 0x0, 1, 0, [⟨31, 0, .rw, 0x0⟩]⟩,
    ⟨.FIRE_XORGH, 0x40500024, 1, 0x0, 1, 0, [⟨15, 0, .rw, 0x0⟩]⟩,
    ⟨.FIRE_PITCH, 0x40500028, 1, 0x0, 1, 0, [⟨31, 0, .rw, 0x186A0000⟩]⟩,
    ⟨.FIRE_BIDI, 0x4050002C, 1, 0x0, 1, 0, [⟨31, 0, .rw, 0x0⟩]⟩ ] ++
  [
    ⟨.FIRE_VMIN, 0x40500030, 1, 0x0, 1, 0, [⟨31, 0, .rw, 0x19999A⟩]⟩,
    ⟨.FIRE_MAXRATE, 0x40500034, 1, 0x0, 1, 0, [⟨19, 0, .rw, 0x186A0⟩]⟩,
    ⟨.FIRE_GAPSRC, 0x40500038, 1, 0x0, 1, 0, [⟨31, 31, .rw, 0x1⟩, ⟨5, 0, .rw, 0x0⟩]⟩,
    ⟨.FIRE_GAPBASE, 0x4050003C, 1, 0x0, 1, 0, [⟨31, 0, .rw, 0x16E360⟩]⟩,
    ⟨.FIRE_GAPSCALE, 0x40500040, 1, 0x0, 1, 0, [⟨31, 0, .rw, 0x0⟩]⟩,
    ⟨.FIRE_GAP, 0x40500044, 1, 0x0, 1, 0, [⟨31, 0, .ro, 0x0⟩]⟩,
    ⟨.FIRE_OBSPOSL, 0x40500048, 1, 0x0, 1, 0, [⟨31, 0, .ro, 0x0⟩]⟩,
    ⟨.FIRE_OBSPOSH, 0x4050004C, 1, 0x0, 1, 0, [⟨15, 0, .ro, 0x0⟩]⟩,
    ⟨.FIRE_OBSVEL, 0x40500050, 1, 0x0, 1, 0, [⟨31, 0, .ro, 0x0⟩]⟩,
    ⟨.FIRE_OBSACC, 0x40500054, 1, 0x0, 1, 0, [⟨31, 0, .ro, 0x0⟩]⟩,
    ⟨.FIRE_OBSTICK, 0x40500058, 1, 0x0, 1, 0, [⟨31, 0, .ro, 0x0⟩]⟩,
    ⟨.FIRE_INNOV, 0x4050005C, 1, 0x0, 1, 0, [⟨31, 0, .ro, 0x0⟩]⟩ ] ++
  [
    ⟨.FIRE_LATECNT, 0x40500060, 1, 0x0, 1, 0, [⟨31, 0, .rc, 0x0⟩]⟩,
    ⟨.FIRE_MINMARGIN, 0x40500064, 1, 0x0, 1, 0, [⟨15, 0, .rw, 0xFFFF⟩]⟩,
    ⟨.FIRE_SWSTAT, 0x40500068, 1, 0x0, 1, 0, [⟨31, 31, .ro, 0x0⟩, ⟨30, 29, .ro, 0x0⟩, ⟨19, 0, .ro, 0x0⟩]⟩,
    ⟨.FIRE_GRP, 0x40500100, 16, 0x4, 1, 0, [⟨31, 16, .rw, 0x0⟩, ⟨15, 0, .rw, 0x0⟩]⟩,
    ⟨.FIRE_CTXA, 0x40508000, 4096, 0x8, 1, 0, [⟨31, 0, .rw, 0x0⟩]⟩,
    ⟨.FIRE_CTXB, 0x40508004, 4096, 0x8, 1, 0, [⟨31, 12, .rw, 0x0⟩, ⟨11, 8, .rw, 0x0⟩, ⟨3, 0, .rw, 0x0⟩]⟩ ]

/-! ## JET -/

namespace R

/-- JET_INSVC: ports in service (11_jet_ports.md). -/
def JET_INSVC : Nat := 0x40600000
def JET_INSVC_INSVC : Fld := ⟨JET_INSVC, 31, 0⟩
/-- JET_CTRL: port control (11_jet_ports.md). -/
def JET_CTRL (n : Nat) : Nat := 0x40601000 + 0x100 * n
def JET_CTRL_TLOAD (n : Nat) : Fld := ⟨JET_CTRL n, 5, 5⟩
def JET_CTRL_LATEIRQ (n : Nat) : Fld := ⟨JET_CTRL n, 4, 4⟩
def JET_CTRL_ERRIRQ (n : Nat) : Fld := ⟨JET_CTRL n, 3, 3⟩
def JET_CTRL_UPIRQ (n : Nat) : Fld := ⟨JET_CTRL n, 2, 2⟩
def JET_CTRL_WAVE (n : Nat) : Fld := ⟨JET_CTRL n, 1, 1⟩
def JET_CTRL_EN (n : Nat) : Fld := ⟨JET_CTRL n, 0, 0⟩
/-- JET_MAP: contexts of the port (11_jet_ports.md). -/
def JET_MAP (n : Nat) : Nat := 0x40601004 + 0x100 * n
def JET_MAP_BASE (n : Nat) : Fld := ⟨JET_MAP n, 27, 16⟩
def JET_MAP_COUNT (n : Nat) : Fld := ⟨JET_MAP n, 7, 0⟩
/-- JET_STAT: port status (11_jet_ports.md). -/
def JET_STAT (n : Nat) : Nat := 0x40601008 + 0x100 * n
def JET_STAT_LINK (n : Nat) : Fld := ⟨JET_STAT n, 31, 29⟩
def JET_STAT_CAUSE (n : Nat) : Fld := ⟨JET_STAT n, 28, 25⟩
def JET_STAT_JOINPEND (n : Nat) : Fld := ⟨JET_STAT n, 9, 9⟩
def JET_STAT_INSVC (n : Nat) : Fld := ⟨JET_STAT n, 8, 8⟩
def JET_STAT_LATE (n : Nat) : Fld := ⟨JET_STAT n, 5, 5⟩
def JET_STAT_CRCERR (n : Nat) : Fld := ⟨JET_STAT n, 4, 4⟩
def JET_STAT_BFAULT (n : Nat) : Fld := ⟨JET_STAT n, 3, 3⟩
def JET_STAT_LOCKLOSS (n : Nat) : Fld := ⟨JET_STAT n, 2, 2⟩
def JET_STAT_LOST (n : Nat) : Fld := ⟨JET_STAT n, 1, 1⟩
def JET_STAT_CFGREF (n : Nat) : Fld := ⟨JET_STAT n, 0, 0⟩
/-- JET_LAT: one-way latency (11_jet_ports.md). -/
def JET_LAT (n : Nat) : Nat := 0x4060100C + 0x100 * n
def JET_LAT_LAT (n : Nat) : Fld := ⟨JET_LAT n, 15, 0⟩
/-- JET_SKEW: link asymmetry (11_jet_ports.md). -/
def JET_SKEW (n : Nat) : Nat := 0x40601010 + 0x100 * n
def JET_SKEW_SKEW (n : Nat) : Fld := ⟨JET_SKEW n, 15, 0⟩
/-- JET_CAPS: board capabilities (11_jet_ports.md). -/
def JET_CAPS (n : Nat) : Nat := 0x40601014 + 0x100 * n
def JET_CAPS_LEVEL (n : Nat) : Fld := ⟨JET_CAPS n, 31, 24⟩
def JET_CAPS_MAXCTX (n : Nat) : Fld := ⟨JET_CAPS n, 23, 16⟩
def JET_CAPS_TBRD (n : Nat) : Fld := ⟨JET_CAPS n, 15, 0⟩
/-- JET_BSTAT: last board status (11_jet_ports.md). -/
def JET_BSTAT (n : Nat) : Nat := 0x40601018 + 0x100 * n
def JET_BSTAT_TEMP (n : Nat) : Fld := ⟨JET_BSTAT n, 31, 24⟩
def JET_BSTAT_FCODE (n : Nat) : Fld := ⟨JET_BSTAT n, 23, 16⟩
def JET_BSTAT_LATEFIRE (n : Nat) : Fld := ⟨JET_BSTAT n, 3, 3⟩
def JET_BSTAT_FAULT (n : Nat) : Fld := ⟨JET_BSTAT n, 2, 2⟩
def JET_BSTAT_READY (n : Nat) : Fld := ⟨JET_BSTAT n, 1, 1⟩
def JET_BSTAT_VALID (n : Nat) : Fld := ⟨JET_BSTAT n, 0, 0⟩
/-- JET_FIRED: columns fired (11_jet_ports.md). -/
def JET_FIRED (n : Nat) : Nat := 0x4060101C + 0x100 * n
def JET_FIRED_CNT (n : Nat) : Fld := ⟨JET_FIRED n, 31, 0⟩
/-- JET_ERRCNT: error counts (11_jet_ports.md). -/
def JET_ERRCNT (n : Nat) : Nat := 0x40601020 + 0x100 * n
def JET_ERRCNT_LATE (n : Nat) : Fld := ⟨JET_ERRCNT n, 31, 24⟩
def JET_ERRCNT_LOST (n : Nat) : Fld := ⟨JET_ERRCNT n, 23, 16⟩
def JET_ERRCNT_CRCERR (n : Nat) : Fld := ⟨JET_ERRCNT n, 15, 8⟩
def JET_ERRCNT_SYNC (n : Nat) : Fld := ⟨JET_ERRCNT n, 7, 0⟩
/-- JET_WBASE: waveform buffer (11_jet_ports.md). -/
def JET_WBASE (n : Nat) : Nat := 0x40601024 + 0x100 * n
def JET_WBASE_ADDR (n : Nat) : Fld := ⟨JET_WBASE n, 31, 3⟩
/-- JET_WLEN: waveform buffer length (11_jet_ports.md). -/
def JET_WLEN (n : Nat) : Nat := 0x40601028 + 0x100 * n
def JET_WLEN_LEN (n : Nat) : Fld := ⟨JET_WLEN n, 15, 0⟩

end R

/-- The registers of JET. -/
def regsJET : List RegDesc :=
  [
    ⟨.JET_INSVC, 0x40600000, 1, 0x0, 1, 0, [⟨31, 0, .ro, 0x0⟩]⟩,
    ⟨.JET_CTRL, 0x40601000, 32, 0x100, 1, 0, [⟨5, 5, .wo, 0x0⟩, ⟨4, 4, .rw, 0x0⟩, ⟨3, 3, .rw, 0x0⟩, ⟨2, 2, .rw, 0x0⟩, ⟨1, 1, .rw, 0x0⟩, ⟨0, 0, .rw, 0x0⟩]⟩,
    ⟨.JET_MAP, 0x40601004, 32, 0x100, 1, 0, [⟨27, 16, .rw, 0x0⟩, ⟨7, 0, .rw, 0x0⟩]⟩,
    ⟨.JET_STAT, 0x40601008, 32, 0x100, 1, 0, [⟨31, 29, .ro, 0x0⟩, ⟨28, 25, .ro, 0x0⟩, ⟨9, 9, .ro, 0x0⟩, ⟨8, 8, .ro, 0x0⟩, ⟨5, 5, .w1c, 0x0⟩, ⟨4, 4, .w1c, 0x0⟩, ⟨3, 3, .w1c, 0x0⟩, ⟨2, 2, .w1c, 0x0⟩, ⟨1, 1, .w1c, 0x0⟩, ⟨0, 0, .w1c, 0x0⟩]⟩,
    ⟨.JET_LAT, 0x4060100C, 32, 0x100, 1, 0, [⟨15, 0, .ro, 0x0⟩]⟩,
    ⟨.JET_SKEW, 0x40601010, 32, 0x100, 1, 0, [⟨15, 0, .rw, 0x0⟩]⟩,
    ⟨.JET_CAPS, 0x40601014, 32, 0x100, 1, 0, [⟨31, 24, .ro, 0x0⟩, ⟨23, 16, .ro, 0x0⟩, ⟨15, 0, .ro, 0x0⟩]⟩,
    ⟨.JET_BSTAT, 0x40601018, 32, 0x100, 1, 0, [⟨31, 24, .ro, 0x0⟩, ⟨23, 16, .ro, 0x0⟩, ⟨3, 3, .ro, 0x0⟩, ⟨2, 2, .ro, 0x0⟩, ⟨1, 1, .ro, 0x0⟩, ⟨0, 0, .ro, 0x0⟩]⟩,
    ⟨.JET_FIRED, 0x4060101C, 32, 0x100, 1, 0, [⟨31, 0, .ro, 0x0⟩]⟩,
    ⟨.JET_ERRCNT, 0x40601020, 32, 0x100, 1, 0, [⟨31, 24, .rc, 0x0⟩, ⟨23, 16, .rc, 0x0⟩, ⟨15, 8, .rc, 0x0⟩, ⟨7, 0, .rc, 0x0⟩]⟩,
    ⟨.JET_WBASE, 0x40601024, 32, 0x100, 1, 0, [⟨31, 3, .rw, 0x0⟩]⟩,
    ⟨.JET_WLEN, 0x40601028, 32, 0x100, 1, 0, [⟨15, 0, .rw, 0x0⟩]⟩ ]

/-! ## MTRK -/

namespace R

/-- MTRK_CTRL: control (12_media_tracking.md). -/
def MTRK_CTRL : Nat := 0x40700000
def MTRK_CTRL_PRESET : Fld := ⟨MTRK_CTRL, 7, 7⟩
def MTRK_CTRL_FLTIRQ : Fld := ⟨MTRK_CTRL, 6, 6⟩
def MTRK_CTRL_LOSTIRQ : Fld := ⟨MTRK_CTRL, 5, 5⟩
def MTRK_CTRL_ERRIRQ : Fld := ⟨MTRK_CTRL, 4, 4⟩
def MTRK_CTRL_FSYNCEN : Fld := ⟨MTRK_CTRL, 3, 3⟩
def MTRK_CTRL_EN1 : Fld := ⟨MTRK_CTRL, 1, 1⟩
def MTRK_CTRL_EN0 : Fld := ⟨MTRK_CTRL, 0, 0⟩
/-- MTRK_CFG: configuration (12_media_tracking.md). -/
def MTRK_CFG : Nat := 0x40700004
def MTRK_CFG_RLEARN : Fld := ⟨MTRK_CFG, 15, 15⟩
def MTRK_CFG_AUXEN : Fld := ⟨MTRK_CFG, 14, 14⟩
def MTRK_CFG_AUXENC : Fld := ⟨MTRK_CFG, 13, 11⟩
def MTRK_CFG_MODE : Fld := ⟨MTRK_CFG, 9, 8⟩
def MTRK_CFG_FDIV : Fld := ⟨MTRK_CFG, 3, 0⟩
/-- MTRK_FSYNC: frame trigger (12_media_tracking.md). -/
def MTRK_FSYNC : Nat := 0x40700008
def MTRK_FSYNC_FOFS : Fld := ⟨MTRK_FSYNC, 15, 0⟩
/-- MTRK_TRK: tracking parameters (12_media_tracking.md). -/
def MTRK_TRK : Nat := 0x4070000C
def MTRK_TRK_CONFMIN : Fld := ⟨MTRK_TRK, 31, 24⟩
def MTRK_TRK_TEXMIN : Fld := ⟨MTRK_TRK, 23, 16⟩
def MTRK_TRK_HOVER : Fld := ⟨MTRK_TRK, 15, 11⟩
def MTRK_TRK_REKEY : Fld := ⟨MTRK_TRK, 10, 6⟩
/-- MTRK_DRMAX: loss limits (12_media_tracking.md). -/
def MTRK_DRMAX : Nat := 0x40700010
def MTRK_DRMAX_MISSMAX : Fld := ⟨MTRK_DRMAX, 31, 24⟩
def MTRK_DRMAX_DRMAX : Fld := ⟨MTRK_DRMAX, 23, 0⟩
/-- MTRK_STAT: status (12_media_tracking.md). -/
def MTRK_STAT : Nat := 0x40700014
def MTRK_STAT_CFGREF : Fld := ⟨MTRK_STAT, 8, 8⟩
def MTRK_STAT_FAULT : Fld := ⟨MTRK_STAT, 7, 7⟩
def MTRK_STAT_LOST1 : Fld := ⟨MTRK_STAT, 6, 6⟩
def MTRK_STAT_LOST0 : Fld := ⟨MTRK_STAT, 5, 5⟩
def MTRK_STAT_DR : Fld := ⟨MTRK_STAT, 4, 4⟩
def MTRK_STAT_SINGLE : Fld := ⟨MTRK_STAT, 3, 3⟩
def MTRK_STAT_HOSHORT : Fld := ⟨MTRK_STAT, 2, 2⟩
def MTRK_STAT_FRERR : Fld := ⟨MTRK_STAT, 1, 1⟩
/-- MTRK_AUXSCALE: auxiliary scale (12_media_tracking.md). -/
def MTRK_AUXSCALE : Nat := 0x40700018
def MTRK_AUXSCALE_SCALE : Fld := ⟨MTRK_AUXSCALE, 31, 0⟩
/-- MTRK_RATIO: media-to-roller ratio (12_media_tracking.md). -/
def MTRK_RATIO : Nat := 0x4070001C
def MTRK_RATIO_RATIO : Fld := ⟨MTRK_RATIO, 31, 0⟩
/-- MTRK_BASELINE: sensor spacing (12_media_tracking.md). -/
def MTRK_BASELINE : Nat := 0x40700020
def MTRK_BASELINE_NM : Fld := ⟨MTRK_BASELINE, 31, 0⟩
/-- MTRK_SETL: preset value, low word (12_media_tracking.md). -/
def MTRK_SETL : Nat := 0x40700024
def MTRK_SETL_SET : Fld := ⟨MTRK_SETL, 31, 0⟩
/-- MTRK_SETH: preset value, high word (12_media_tracking.md). -/
def MTRK_SETH : Nat := 0x40700028
def MTRK_SETH_SET : Fld := ⟨MTRK_SETH, 15, 0⟩
/-- MTRK_POSL: combined position, low word (12_media_tracking.md). -/
def MTRK_POSL : Nat := 0x40700030
def MTRK_POSL_POS : Fld := ⟨MTRK_POSL, 31, 0⟩
/-- MTRK_POSH: combined position, high word (12_media_tracking.md). -/
def MTRK_POSH : Nat := 0x40700034
def MTRK_POSH_POS : Fld := ⟨MTRK_POSH, 15, 0⟩
/-- MTRK_SKEW: skew (12_media_tracking.md). -/
def MTRK_SKEW : Nat := 0x40700038
def MTRK_SKEW_THETA : Fld := ⟨MTRK_SKEW, 31, 0⟩
/-- MTRK_TEXP: exposure time (12_media_tracking.md). -/
def MTRK_TEXP : Nat := 0x4070003C
def MTRK_TEXP_TIME : Fld := ⟨MTRK_TEXP, 31, 0⟩
/-- MTRK_PCFG: port configuration (12_media_tracking.md). -/
def MTRK_PCFG (n : Nat) : Nat := 0x40700100 + 0x40 * n
def MTRK_PCFG_VC (n : Nat) : Fld := ⟨MTRK_PCFG n, 26, 25⟩
def MTRK_PCFG_LANES (n : Nat) : Fld := ⟨MTRK_PCFG n, 24, 24⟩
def MTRK_PCFG_SWAPXY (n : Nat) : Fld := ⟨MTRK_PCFG n, 23, 23⟩
def MTRK_PCFG_FLIPX (n : Nat) : Fld := ⟨MTRK_PCFG n, 22, 22⟩
def MTRK_PCFG_FLIPY (n : Nat) : Fld := ⟨MTRK_PCFG n, 21, 21⟩
def MTRK_PCFG_EXPOFS (n : Nat) : Fld := ⟨MTRK_PCFG n, 19, 0⟩
/-- MTRK_SCALE: port scale (12_media_tracking.md). -/
def MTRK_SCALE (n : Nat) : Nat := 0x40700104 + 0x40 * n
def MTRK_SCALE_SCALE (n : Nat) : Fld := ⟨MTRK_SCALE n, 31, 0⟩
/-- MTRK_PSTAT: port status (12_media_tracking.md). -/
def MTRK_PSTAT (n : Nat) : Nat := 0x40700108 + 0x40 * n
def MTRK_PSTAT_CONF (n : Nat) : Fld := ⟨MTRK_PSTAT n, 31, 24⟩
def MTRK_PSTAT_TEX (n : Nat) : Fld := ⟨MTRK_PSTAT n, 23, 16⟩
def MTRK_PSTAT_MISS (n : Nat) : Fld := ⟨MTRK_PSTAT n, 15, 8⟩
def MTRK_PSTAT_HANDOVER (n : Nat) : Fld := ⟨MTRK_PSTAT n, 2, 2⟩
def MTRK_PSTAT_EDGE (n : Nat) : Fld := ⟨MTRK_PSTAT n, 1, 1⟩
def MTRK_PSTAT_REF (n : Nat) : Fld := ⟨MTRK_PSTAT n, 0, 0⟩
/-- MTRK_PYL: port Y, low word (12_media_tracking.md). -/
def MTRK_PYL (n : Nat) : Nat := 0x4070010C + 0x40 * n
def MTRK_PYL_Y (n : Nat) : Fld := ⟨MTRK_PYL n, 31, 0⟩
/-- MTRK_PYH: port Y, high word (12_media_tracking.md). -/
def MTRK_PYH (n : Nat) : Nat := 0x40700110 + 0x40 * n
def MTRK_PYH_Y (n : Nat) : Fld := ⟨MTRK_PYH n, 7, 0⟩
/-- MTRK_PX: port X (12_media_tracking.md). -/
def MTRK_PX (n : Nat) : Nat := 0x40700114 + 0x40 * n
def MTRK_PX_X (n : Nat) : Fld := ⟨MTRK_PX n, 31, 0⟩
/-- MTRK_NOISE: correlation noise (12_media_tracking.md). -/
def MTRK_NOISE (n : Nat) : Nat := 0x40700118 + 0x40 * n
def MTRK_NOISE_SIGMA (n : Nat) : Fld := ⟨MTRK_NOISE n, 15, 0⟩
/-- MTRK_ERR: frame errors (12_media_tracking.md). -/
def MTRK_ERR (n : Nat) : Nat := 0x4070011C + 0x40 * n
def MTRK_ERR_CRC (n : Nat) : Fld := ⟨MTRK_ERR n, 31, 24⟩
def MTRK_ERR_ECC (n : Nat) : Fld := ⟨MTRK_ERR n, 23, 16⟩
def MTRK_ERR_FMT (n : Nat) : Fld := ⟨MTRK_ERR n, 15, 8⟩
def MTRK_ERR_MISS (n : Nat) : Fld := ⟨MTRK_ERR n, 7, 0⟩
/-- MTRK_CAP: frame capture (12_media_tracking.md). -/
def MTRK_CAP (n : Nat) : Nat := 0x40700120 + 0x40 * n
def MTRK_CAP_GO (n : Nat) : Fld := ⟨MTRK_CAP n, 31, 31⟩
def MTRK_CAP_DONE (n : Nat) : Fld := ⟨MTRK_CAP n, 30, 30⟩
def MTRK_CAP_ADDR (n : Nat) : Fld := ⟨MTRK_CAP n, 19, 0⟩

end R

/-- The registers of MTRK. -/
def regsMTRK : List RegDesc :=
  [
    ⟨.MTRK_CTRL, 0x40700000, 1, 0x0, 1, 0, [⟨7, 7, .wo, 0x0⟩, ⟨6, 6, .rw, 0x0⟩, ⟨5, 5, .rw, 0x0⟩, ⟨4, 4, .rw, 0x0⟩, ⟨3, 3, .rw, 0x0⟩, ⟨1, 1, .rw, 0x0⟩, ⟨0, 0, .rw, 0x0⟩]⟩,
    ⟨.MTRK_CFG, 0x40700004, 1, 0x0, 1, 0, [⟨15, 15, .rw, 0x1⟩, ⟨14, 14, .rw, 0x0⟩, ⟨13, 11, .rw, 0x0⟩, ⟨9, 8, .rw, 0x0⟩, ⟨3, 0, .rw, 0x1⟩]⟩,
    ⟨.MTRK_FSYNC, 0x40700008, 1, 0x0, 1, 0, [⟨15, 0, .rw, 0x0⟩]⟩,
    ⟨.MTRK_TRK, 0x4070000C, 1, 0x0, 1, 0, [⟨31, 24, .rw, 0xA0⟩, ⟨23, 16, .rw, 0x8⟩, ⟨15, 11, .rw, 0x8⟩, ⟨10, 6, .rw, 0x8⟩]⟩,
    ⟨.MTRK_DRMAX, 0x40700010, 1, 0x0, 1, 0, [⟨31, 24, .rw, 0x10⟩, ⟨23, 0, .rw, 0x3E8⟩]⟩,
    ⟨.MTRK_STAT, 0x40700014, 1, 0x0, 1, 0, [⟨8, 8, .w1c, 0x0⟩, ⟨7, 7, .w1c, 0x0⟩, ⟨6, 6, .ro, 0x0⟩, ⟨5, 5, .ro, 0x0⟩, ⟨4, 4, .ro, 0x0⟩, ⟨3, 3, .ro, 0x0⟩, ⟨2, 2, .w1c, 0x0⟩, ⟨1, 1, .w1c, 0x0⟩]⟩,
    ⟨.MTRK_AUXSCALE, 0x40700018, 1, 0x0, 1, 0, [⟨31, 0, .rw, 0x10000⟩]⟩,
    ⟨.MTRK_RATIO, 0x4070001C, 1, 0x0, 1, 0, [⟨31, 0, .rw, 0x40000000⟩]⟩,
    ⟨.MTRK_BASELINE, 0x40700020, 1, 0x0, 1, 0, [⟨31, 0, .rw, 0x0⟩]⟩,
    ⟨.MTRK_SETL, 0x40700024, 1, 0x0, 1, 0, [⟨31, 0, .rw, 0x0⟩]⟩,
    ⟨.MTRK_SETH, 0x40700028, 1, 0x0, 1, 0, [⟨15, 0, .rw, 0x0⟩]⟩,
    ⟨.MTRK_POSL, 0x40700030, 1, 0x0, 1, 0, [⟨31, 0, .ro, 0x0⟩]⟩ ] ++
  [
    ⟨.MTRK_POSH, 0x40700034, 1, 0x0, 1, 0, [⟨15, 0, .ro, 0x0⟩]⟩,
    ⟨.MTRK_SKEW, 0x40700038, 1, 0x0, 1, 0, [⟨31, 0, .ro, 0x0⟩]⟩,
    ⟨.MTRK_TEXP, 0x4070003C, 1, 0x0, 1, 0, [⟨31, 0, .ro, 0x0⟩]⟩,
    ⟨.MTRK_PCFG, 0x40700100, 2, 0x40, 1, 0, [⟨26, 25, .rw, 0x0⟩, ⟨24, 24, .rw, 0x1⟩, ⟨23, 23, .rw, 0x0⟩, ⟨22, 22, .rw, 0x0⟩, ⟨21, 21, .rw, 0x0⟩, ⟨19, 0, .rw, 0x0⟩]⟩,
    ⟨.MTRK_SCALE, 0x40700104, 2, 0x40, 1, 0, [⟨31, 0, .rw, 0x7D0000⟩]⟩,
    ⟨.MTRK_PSTAT, 0x40700108, 2, 0x40, 1, 0, [⟨31, 24, .ro, 0x0⟩, ⟨23, 16, .ro, 0x0⟩, ⟨15, 8, .ro, 0x0⟩, ⟨2, 2, .ro, 0x0⟩, ⟨1, 1, .ro, 0x0⟩, ⟨0, 0, .ro, 0x0⟩]⟩,
    ⟨.MTRK_PYL, 0x4070010C, 2, 0x40, 1, 0, [⟨31, 0, .ro, 0x0⟩]⟩,
    ⟨.MTRK_PYH, 0x40700110, 2, 0x40, 1, 0, [⟨7, 0, .ro, 0x0⟩]⟩,
    ⟨.MTRK_PX, 0x40700114, 2, 0x40, 1, 0, [⟨31, 0, .ro, 0x0⟩]⟩,
    ⟨.MTRK_NOISE, 0x40700118, 2, 0x40, 1, 0, [⟨15, 0, .ro, 0x0⟩]⟩,
    ⟨.MTRK_ERR, 0x4070011C, 2, 0x40, 1, 0, [⟨31, 24, .rc, 0x0⟩, ⟨23, 16, .rc, 0x0⟩, ⟨15, 8, .rc, 0x0⟩, ⟨7, 0, .rc, 0x0⟩]⟩,
    ⟨.MTRK_CAP, 0x40700120, 2, 0x40, 1, 0, [⟨31, 31, .wo, 0x0⟩, ⟨30, 30, .ro, 0x0⟩, ⟨19, 0, .rw, 0x0⟩]⟩ ]

/-! ## LOOP -/

namespace R

/-- LOOP_CTRL: engine control (13_loop_engine.md). -/
def LOOP_CTRL : Nat := 0x40200000
def LOOP_CTRL_SUB : Fld := ⟨LOOP_CTRL, 11, 8⟩
def LOOP_CTRL_RHIRQ : Fld := ⟨LOOP_CTRL, 2, 2⟩
def LOOP_CTRL_INPIRQ : Fld := ⟨LOOP_CTRL, 1, 1⟩
def LOOP_CTRL_FLTIRQ : Fld := ⟨LOOP_CTRL, 0, 0⟩
/-- LOOP_STAT: engine status (13_loop_engine.md). -/
def LOOP_STAT : Nat := 0x40200004
def LOOP_STAT_CURTCV : Fld := ⟨LOOP_STAT, 3, 3⟩
def LOOP_STAT_CURTAX : Fld := ⟨LOOP_STAT, 2, 2⟩
def LOOP_STAT_FAULT : Fld := ⟨LOOP_STAT, 1, 1⟩
def LOOP_STAT_CFGREF : Fld := ⟨LOOP_STAT, 0, 0⟩
/-- LOOP_FAULTL: slot faults 0 to 31 (13_loop_engine.md). -/
def LOOP_FAULTL : Nat := 0x40200008
def LOOP_FAULTL_FAULT : Fld := ⟨LOOP_FAULTL, 31, 0⟩
/-- LOOP_FAULTH: slot faults 32 to 63 (13_loop_engine.md). -/
def LOOP_FAULTH : Nat := 0x4020000C
def LOOP_FAULTH_FAULT : Fld := ⟨LOOP_FAULTH, 31, 0⟩
/-- LOOP_INPOSL: in position, slots 0 to 31 (13_loop_engine.md). -/
def LOOP_INPOSL : Nat := 0x40200010
def LOOP_INPOSL_INPOS : Fld := ⟨LOOP_INPOSL, 31, 0⟩
/-- LOOP_INPOSH: in position, slots 32 to 63 (13_loop_engine.md). -/
def LOOP_INPOSH : Nat := 0x40200014
def LOOP_INPOSH_INPOS : Fld := ⟨LOOP_INPOSH, 31, 0⟩
/-- LOOP_RHCTRL: rehearsal control (13_loop_engine.md). -/
def LOOP_RHCTRL : Nat := 0x40200040
def LOOP_RHCTRL_GO : Fld := ⟨LOOP_RHCTRL, 31, 31⟩
def LOOP_RHCTRL_STOP : Fld := ⟨LOOP_RHCTRL, 30, 30⟩
def LOOP_RHCTRL_POINT : Fld := ⟨LOOP_RHCTRL, 15, 14⟩
def LOOP_RHCTRL_WAVE : Fld := ⟨LOOP_RHCTRL, 13, 12⟩
def LOOP_RHCTRL_SLOT : Fld := ⟨LOOP_RHCTRL, 5, 0⟩
/-- LOOP_RHAMP: injection amplitude (13_loop_engine.md). -/
def LOOP_RHAMP : Nat := 0x40200044
def LOOP_RHAMP_AMP : Fld := ⟨LOOP_RHAMP, 31, 0⟩
/-- LOOP_RHFREQ: injection frequency (13_loop_engine.md). -/
def LOOP_RHFREQ : Nat := 0x40200048
def LOOP_RHFREQ_FREQ : Fld := ⟨LOOP_RHFREQ, 31, 0⟩
/-- LOOP_RHCAP: capture selection (13_loop_engine.md). -/
def LOOP_RHCAP : Nat := 0x4020004C
def LOOP_RHCAP_DEC : Fld := ⟨LOOP_RHCAP, 23, 16⟩
def LOOP_RHCAP_SIG3 : Fld := ⟨LOOP_RHCAP, 15, 12⟩
def LOOP_RHCAP_SIG2 : Fld := ⟨LOOP_RHCAP, 11, 8⟩
def LOOP_RHCAP_SIG1 : Fld := ⟨LOOP_RHCAP, 7, 4⟩
def LOOP_RHCAP_SIG0 : Fld := ⟨LOOP_RHCAP, 3, 0⟩
/-- LOOP_RHBUF: capture buffer (13_loop_engine.md). -/
def LOOP_RHBUF : Nat := 0x40200050
def LOOP_RHBUF_ADDR : Fld := ⟨LOOP_RHBUF, 31, 4⟩
/-- LOOP_RHLEN: capture length (13_loop_engine.md). -/
def LOOP_RHLEN : Nat := 0x40200054
def LOOP_RHLEN_LEN : Fld := ⟨LOOP_RHLEN, 15, 0⟩
/-- LOOP_RHSTAT: rehearsal status (13_loop_engine.md). -/
def LOOP_RHSTAT : Nat := 0x40200058
def LOOP_RHSTAT_BUSY : Fld := ⟨LOOP_RHSTAT, 31, 31⟩
def LOOP_RHSTAT_DONE : Fld := ⟨LOOP_RHSTAT, 30, 30⟩
def LOOP_RHSTAT_ABORT : Fld := ⟨LOOP_RHSTAT, 29, 29⟩
def LOOP_RHSTAT_COUNT : Fld := ⟨LOOP_RHSTAT, 15, 0⟩
/-- LOOP_SCFG: slot configuration (13_loop_engine.md). -/
def LOOP_SCFG (n : Nat) : Nat := 0x40201000 + 0x100 * n
def LOOP_SCFG_EN (n : Nat) : Fld := ⟨LOOP_SCFG n, 31, 31⟩
def LOOP_SCFG_TYPE (n : Nat) : Fld := ⟨LOOP_SCFG n, 30, 28⟩
def LOOP_SCFG_OWNER (n : Nat) : Fld := ⟨LOOP_SCFG n, 27, 26⟩
def LOOP_SCFG_DIV (n : Nat) : Fld := ⟨LOOP_SCFG n, 25, 24⟩
def LOOP_SCFG_DOFS (n : Nat) : Fld := ⟨LOOP_SCFG n, 23, 21⟩
def LOOP_SCFG_PSHIFT (n : Nat) : Fld := ⟨LOOP_SCFG n, 20, 17⟩
def LOOP_SCFG_FACT (n : Nat) : Fld := ⟨LOOP_SCFG n, 16, 16⟩
def LOOP_SCFG_CGRP (n : Nat) : Fld := ⟨LOOP_SCFG n, 15, 13⟩
def LOOP_SCFG_PBSCLS (n : Nat) : Fld := ⟨LOOP_SCFG n, 12, 8⟩
/-- LOOP_SPHASE: sample phase (13_loop_engine.md). -/
def LOOP_SPHASE (n : Nat) : Nat := 0x40201004 + 0x100 * n
def LOOP_SPHASE_PHASE (n : Nat) : Fld := ⟨LOOP_SPHASE n, 15, 0⟩
/-- LOOP_SIN01: inputs 0 and 1 (13_loop_engine.md). -/
def LOOP_SIN01 (n : Nat) : Nat := 0x40201008 + 0x100 * n
def LOOP_SIN01_IN1 (n : Nat) : Fld := ⟨LOOP_SIN01 n, 31, 16⟩
def LOOP_SIN01_IN0 (n : Nat) : Fld := ⟨LOOP_SIN01 n, 15, 0⟩
/-- LOOP_SIN23: inputs 2 and 3 (13_loop_engine.md). -/
def LOOP_SIN23 (n : Nat) : Nat := 0x4020100C + 0x100 * n
def LOOP_SIN23_IN3 (n : Nat) : Fld := ⟨LOOP_SIN23 n, 31, 16⟩
def LOOP_SIN23_IN2 (n : Nat) : Fld := ⟨LOOP_SIN23 n, 15, 0⟩
/-- LOOP_SOUT: output (13_loop_engine.md). -/
def LOOP_SOUT (n : Nat) : Nat := 0x40201010 + 0x100 * n
def LOOP_SOUT_KIND (n : Nat) : Fld := ⟨LOOP_SOUT n, 31, 28⟩
def LOOP_SOUT_GRP (n : Nat) : Fld := ⟨LOOP_SOUT n, 23, 18⟩
def LOOP_SOUT_C (n : Nat) : Fld := ⟨LOOP_SOUT n, 17, 12⟩
def LOOP_SOUT_B (n : Nat) : Fld := ⟨LOOP_SOUT n, 11, 6⟩
def LOOP_SOUT_A (n : Nat) : Fld := ⟨LOOP_SOUT n, 5, 0⟩
/-- LOOP_SSTAT: slot status (13_loop_engine.md). -/
def LOOP_SSTAT (n : Nat) : Nat := 0x40201014 + 0x100 * n
def LOOP_SSTAT_FCAUSE (n : Nat) : Fld := ⟨LOOP_SSTAT n, 11, 8⟩
def LOOP_SSTAT_STAGED (n : Nat) : Fld := ⟨LOOP_SSTAT n, 7, 7⟩
def LOOP_SSTAT_CURTDONE (n : Nat) : Fld := ⟨LOOP_SSTAT n, 6, 6⟩
def LOOP_SSTAT_HELD (n : Nat) : Fld := ⟨LOOP_SSTAT n, 5, 5⟩
def LOOP_SSTAT_INPOS (n : Nat) : Fld := ⟨LOOP_SSTAT n, 4, 4⟩
def LOOP_SSTAT_GRANTLIM (n : Nat) : Fld := ⟨LOOP_SSTAT n, 3, 3⟩
def LOOP_SSTAT_CLAMP (n : Nat) : Fld := ⟨LOOP_SSTAT n, 2, 2⟩
def LOOP_SSTAT_RUN (n : Nat) : Fld := ⟨LOOP_SSTAT n, 1, 1⟩
def LOOP_SSTAT_FAULT (n : Nat) : Fld := ⟨LOOP_SSTAT n, 0, 0⟩
/-- LOOP_SFBL: feedback, low word (13_loop_engine.md). -/
def LOOP_SFBL (n : Nat) : Nat := 0x40201018 + 0x100 * n
def LOOP_SFBL_FB (n : Nat) : Fld := ⟨LOOP_SFBL n, 31, 0⟩
/-- LOOP_SFBH: feedback, high word (13_loop_engine.md). -/
def LOOP_SFBH (n : Nat) : Nat := 0x4020101C + 0x100 * n
def LOOP_SFBH_FB (n : Nat) : Fld := ⟨LOOP_SFBH n, 15, 0⟩
/-- LOOP_SOUTV: output (13_loop_engine.md). -/
def LOOP_SOUTV (n : Nat) : Nat := 0x40201020 + 0x100 * n
def LOOP_SOUTV_U (n : Nat) : Fld := ⟨LOOP_SOUTV n, 31, 0⟩
/-- LOOP_SACMD: commanded acceleration (13_loop_engine.md). -/
def LOOP_SACMD (n : Nat) : Nat := 0x40201024 + 0x100 * n
def LOOP_SACMD_ACMD (n : Nat) : Fld := ⟨LOOP_SACMD n, 31, 0⟩
/-- LOOP_SP: parameter block (13_loop_engine.md). -/
def LOOP_SP (i j : Nat) : Nat := 0x40201040 + 0x100 * i + 4 * j
def LOOP_SP_VAL (i j : Nat) : Fld := ⟨LOOP_SP i j, 31, 0⟩

end R

/-- The registers of LOOP. -/
def regsLOOP : List RegDesc :=
  [
    ⟨.LOOP_CTRL, 0x40200000, 1, 0x0, 1, 0, [⟨11, 8, .rw, 0x1⟩, ⟨2, 2, .rw, 0x0⟩, ⟨1, 1, .rw, 0x0⟩, ⟨0, 0, .rw, 0x0⟩]⟩,
    ⟨.LOOP_STAT, 0x40200004, 1, 0x0, 1, 0, [⟨3, 3, .ro, 0x0⟩, ⟨2, 2, .ro, 0x0⟩, ⟨1, 1, .ro, 0x0⟩, ⟨0, 0, .w1c, 0x0⟩]⟩,
    ⟨.LOOP_FAULTL, 0x40200008, 1, 0x0, 1, 0, [⟨31, 0, .w1c, 0x0⟩]⟩,
    ⟨.LOOP_FAULTH, 0x4020000C, 1, 0x0, 1, 0, [⟨31, 0, .w1c, 0x0⟩]⟩,
    ⟨.LOOP_INPOSL, 0x40200010, 1, 0x0, 1, 0, [⟨31, 0, .ro, 0x0⟩]⟩,
    ⟨.LOOP_INPOSH, 0x40200014, 1, 0x0, 1, 0, [⟨31, 0, .ro, 0x0⟩]⟩,
    ⟨.LOOP_RHCTRL, 0x40200040, 1, 0x0, 1, 0, [⟨31, 31, .wo, 0x0⟩, ⟨30, 30, .wo, 0x0⟩, ⟨15, 14, .rw, 0x0⟩, ⟨13, 12, .rw, 0x0⟩, ⟨5, 0, .rw, 0x0⟩]⟩,
    ⟨.LOOP_RHAMP, 0x40200044, 1, 0x0, 1, 0, [⟨31, 0, .rw, 0x0⟩]⟩,
    ⟨.LOOP_RHFREQ, 0x40200048, 1, 0x0, 1, 0, [⟨31, 0, .rw, 0x0⟩]⟩,
    ⟨.LOOP_RHCAP, 0x4020004C, 1, 0x0, 1, 0, [⟨23, 16, .rw, 0x1⟩, ⟨15, 12, .rw, 0x0⟩, ⟨11, 8, .rw, 0x0⟩, ⟨7, 4, .rw, 0x0⟩, ⟨3, 0, .rw, 0x0⟩]⟩,
    ⟨.LOOP_RHBUF, 0x40200050, 1, 0x0, 1, 0, [⟨31, 4, .rw, 0x0⟩]⟩,
    ⟨.LOOP_RHLEN, 0x40200054, 1, 0x0, 1, 0, [⟨15, 0, .rw, 0x100⟩]⟩ ] ++
  [
    ⟨.LOOP_RHSTAT, 0x40200058, 1, 0x0, 1, 0, [⟨31, 31, .ro, 0x0⟩, ⟨30, 30, .w1c, 0x0⟩, ⟨29, 29, .w1c, 0x0⟩, ⟨15, 0, .ro, 0x0⟩]⟩,
    ⟨.LOOP_SCFG, 0x40201000, 64, 0x100, 1, 0, [⟨31, 31, .rw, 0x0⟩, ⟨30, 28, .rw, 0x0⟩, ⟨27, 26, .rw, 0x0⟩, ⟨25, 24, .rw, 0x0⟩, ⟨23, 21, .rw, 0x0⟩, ⟨20, 17, .rw, 0x0⟩, ⟨16, 16, .rw, 0x0⟩, ⟨15, 13, .rw, 0x0⟩, ⟨12, 8, .rw, 0x0⟩]⟩,
    ⟨.LOOP_SPHASE, 0x40201004, 64, 0x100, 1, 0, [⟨15, 0, .rw, 0x0⟩]⟩,
    ⟨.LOOP_SIN01, 0x40201008, 64, 0x100, 1, 0, [⟨31, 16, .rw, 0x0⟩, ⟨15, 0, .rw, 0x0⟩]⟩,
    ⟨.LOOP_SIN23, 0x4020100C, 64, 0x100, 1, 0, [⟨31, 16, .rw, 0x0⟩, ⟨15, 0, .rw, 0x0⟩]⟩,
    ⟨.LOOP_SOUT, 0x40201010, 64, 0x100, 1, 0, [⟨31, 28, .rw, 0x0⟩, ⟨23, 18, .rw, 0x0⟩, ⟨17, 12, .rw, 0x0⟩, ⟨11, 6, .rw, 0x0⟩, ⟨5, 0, .rw, 0x0⟩]⟩,
    ⟨.LOOP_SSTAT, 0x40201014, 64, 0x100, 1, 0, [⟨11, 8, .ro, 0x0⟩, ⟨7, 7, .ro, 0x0⟩, ⟨6, 6, .ro, 0x0⟩, ⟨5, 5, .ro, 0x0⟩, ⟨4, 4, .ro, 0x0⟩, ⟨3, 3, .ro, 0x0⟩, ⟨2, 2, .w1c, 0x0⟩, ⟨1, 1, .ro, 0x0⟩, ⟨0, 0, .w1c, 0x0⟩]⟩,
    ⟨.LOOP_SFBL, 0x40201018, 64, 0x100, 1, 0, [⟨31, 0, .ro, 0x0⟩]⟩,
    ⟨.LOOP_SFBH, 0x4020101C, 64, 0x100, 1, 0, [⟨15, 0, .ro, 0x0⟩]⟩,
    ⟨.LOOP_SOUTV, 0x40201020, 64, 0x100, 1, 0, [⟨31, 0, .ro, 0x0⟩]⟩,
    ⟨.LOOP_SACMD, 0x40201024, 64, 0x100, 1, 0, [⟨31, 0, .ro, 0x0⟩]⟩,
    ⟨.LOOP_SP, 0x40201040, 64, 0x100, 37, 4, [⟨31, 0, .rw, 0x0⟩]⟩ ]

/-! ## PWM -/

namespace R

/-- PWM_GSTAT: block status (14_pwm.md). -/
def PWM_GSTAT : Nat := 0x40100000
def PWM_GSTAT_CFGREF : Fld := ⟨PWM_GSTAT, 2, 2⟩
def PWM_GSTAT_FROZEN : Fld := ⟨PWM_GSTAT, 1, 1⟩
def PWM_GSTAT_TRIP : Fld := ⟨PWM_GSTAT, 0, 0⟩
/-- PWM_LOCK: trip-wiring lock (14_pwm.md). -/
def PWM_LOCK : Nat := 0x40100008
def PWM_LOCK_LOCK : Fld := ⟨PWM_LOCK, 0, 0⟩
/-- PWM_LDALL: load-all strobe (14_pwm.md). -/
def PWM_LDALL : Nat := 0x40100010
def PWM_LDALL_LDALL : Fld := ⟨PWM_LDALL, 31, 0⟩
/-- PWM_LDALLH: load-all strobe, groups 32 to 47 (14_pwm.md). -/
def PWM_LDALLH : Nat := 0x40100014
def PWM_LDALLH_LDALL : Fld := ⟨PWM_LDALLH, 15, 0⟩
/-- PWM_TRIPST: trip lands seen (14_pwm.md). -/
def PWM_TRIPST : Nat := 0x40100020
def PWM_TRIPST_SEEN : Fld := ⟨PWM_TRIPST, 23, 0⟩
/-- PWM_TCURT: curtain-calling trip lands (14_pwm.md). -/
def PWM_TCURT : Nat := 0x40100024
def PWM_TCURT_CURT : Fld := ⟨PWM_TCURT, 23, 0⟩
/-- PWM_CCURTL: curtain-calling comparators 0 to 31 (14_pwm.md). -/
def PWM_CCURTL : Nat := 0x40100028
def PWM_CCURTL_CURT : Fld := ⟨PWM_CCURTL, 31, 0⟩
/-- PWM_CCURTH: curtain-calling comparators 32 to 47 (14_pwm.md). -/
def PWM_CCURTH : Nat := 0x4010002C
def PWM_CCURTH_CURT : Fld := ⟨PWM_CCURTH, 15, 0⟩
/-- PWM_CTRL: unit control (14_pwm.md). -/
def PWM_CTRL (n : Nat) : Nat := 0x40100100 + 0x400 * n
def PWM_CTRL_TRIPIRQ (n : Nat) : Fld := ⟨PWM_CTRL n, 1, 1⟩
def PWM_CTRL_EN (n : Nat) : Fld := ⟨PWM_CTRL n, 0, 0⟩
/-- PWM_CFG: unit configuration (14_pwm.md). -/
def PWM_CFG (n : Nat) : Nat := 0x40100104 + 0x400 * n
def PWM_CFG_MODE (n : Nat) : Fld := ⟨PWM_CFG n, 31, 30⟩
def PWM_CFG_OUTM (n : Nat) : Fld := ⟨PWM_CFG n, 29, 29⟩
def PWM_CFG_POLH (n : Nat) : Fld := ⟨PWM_CFG n, 28, 28⟩
def PWM_CFG_POLL (n : Nat) : Fld := ⟨PWM_CFG n, 27, 27⟩
def PWM_CFG_PARKH (n : Nat) : Fld := ⟨PWM_CFG n, 26, 25⟩
def PWM_CFG_PARKL (n : Nat) : Fld := ⟨PWM_CFG n, 24, 23⟩
def PWM_CFG_LDPT (n : Nat) : Fld := ⟨PWM_CFG n, 22, 21⟩
def PWM_CFG_GRP (n : Nat) : Fld := ⟨PWM_CFG n, 20, 15⟩
def PWM_CFG_SYNC (n : Nat) : Fld := ⟨PWM_CFG n, 14, 14⟩
def PWM_CFG_SYNCUNIT (n : Nat) : Fld := ⟨PWM_CFG n, 13, 8⟩
def PWM_CFG_TRIPMODE (n : Nat) : Fld := ⟨PWM_CFG n, 7, 7⟩
def PWM_CFG_CURT (n : Nat) : Fld := ⟨PWM_CFG n, 6, 6⟩
def PWM_CFG_MINPH (n : Nat) : Fld := ⟨PWM_CFG n, 5, 5⟩
def PWM_CFG_MINPL (n : Nat) : Fld := ⟨PWM_CFG n, 4, 4⟩
/-- PWM_PERIOD: period (14_pwm.md). -/
def PWM_PERIOD (n : Nat) : Nat := 0x40100108 + 0x400 * n
def PWM_PERIOD_ACTIVE (n : Nat) : Fld := ⟨PWM_PERIOD n, 31, 16⟩
def PWM_PERIOD_PERIOD (n : Nat) : Fld := ⟨PWM_PERIOD n, 15, 0⟩
/-- PWM_CMPA: compare A (14_pwm.md). -/
def PWM_CMPA (n : Nat) : Nat := 0x4010010C + 0x400 * n
def PWM_CMPA_CMP (n : Nat) : Fld := ⟨PWM_CMPA n, 19, 0⟩
/-- PWM_CMPB: compare B (14_pwm.md). -/
def PWM_CMPB (n : Nat) : Nat := 0x40100110 + 0x400 * n
def PWM_CMPB_CMP (n : Nat) : Fld := ⟨PWM_CMPB n, 19, 0⟩
/-- PWM_ACTCMP: active compare A (14_pwm.md). -/
def PWM_ACTCMP (n : Nat) : Nat := 0x40100114 + 0x400 * n
def PWM_ACTCMP_CMP (n : Nat) : Fld := ⟨PWM_ACTCMP n, 19, 0⟩
/-- PWM_PHASE: start phase (14_pwm.md). -/
def PWM_PHASE (n : Nat) : Nat := 0x40100118 + 0x400 * n
def PWM_PHASE_PHASE (n : Nat) : Fld := ⟨PWM_PHASE n, 15, 0⟩
/-- PWM_DT: dead times (14_pwm.md). -/
def PWM_DT (n : Nat) : Nat := 0x4010011C + 0x400 * n
def PWM_DT_DTL (n : Nat) : Fld := ⟨PWM_DT n, 27, 16⟩
def PWM_DT_DTH (n : Nat) : Fld := ⟨PWM_DT n, 11, 0⟩
/-- PWM_MINP: minimum pulse (14_pwm.md). -/
def PWM_MINP (n : Nat) : Nat := 0x40100120 + 0x400 * n
def PWM_MINP_MINP (n : Nat) : Fld := ⟨PWM_MINP n, 11, 0⟩
/-- PWM_PCM: peak-current reset (14_pwm.md). -/
def PWM_PCM (n : Nat) : Nat := 0x40100124 + 0x400 * n
def PWM_PCM_PCSEL (n : Nat) : Fld := ⟨PWM_PCM n, 29, 24⟩
def PWM_PCM_LEB (n : Nat) : Fld := ⟨PWM_PCM n, 7, 0⟩
/-- PWM_TRIPL: trip-land mask (14_pwm.md). -/
def PWM_TRIPL (n : Nat) : Nat := 0x40100128 + 0x400 * n
def PWM_TRIPL_MASK (n : Nat) : Fld := ⟨PWM_TRIPL n, 23, 0⟩
/-- PWM_TRIPC0: comparator mask, 0 to 31 (14_pwm.md). -/
def PWM_TRIPC0 (n : Nat) : Nat := 0x4010012C + 0x400 * n
def PWM_TRIPC0_MASK (n : Nat) : Fld := ⟨PWM_TRIPC0 n, 31, 0⟩
/-- PWM_TRIPC1: comparator mask, 32 to 47 (14_pwm.md). -/
def PWM_TRIPC1 (n : Nat) : Nat := 0x40100130 + 0x400 * n
def PWM_TRIPC1_MASK (n : Nat) : Fld := ⟨PWM_TRIPC1 n, 15, 0⟩
/-- PWM_STAT: unit status (14_pwm.md). -/
def PWM_STAT (n : Nat) : Nat := 0x40100134 + 0x400 * n
def PWM_STAT_FROZEN (n : Nat) : Fld := ⟨PWM_STAT n, 11, 11⟩
def PWM_STAT_PARKED (n : Nat) : Fld := ⟨PWM_STAT n, 10, 10⟩
def PWM_STAT_JOINPEND (n : Nat) : Fld := ⟨PWM_STAT n, 9, 9⟩
def PWM_STAT_RUN (n : Nat) : Fld := ⟨PWM_STAT n, 8, 8⟩
def PWM_STAT_SYNCADJ (n : Nat) : Fld := ⟨PWM_STAT n, 5, 5⟩
def PWM_STAT_CFGREF (n : Nat) : Fld := ⟨PWM_STAT n, 4, 4⟩
def PWM_STAT_TRIPCUR (n : Nat) : Fld := ⟨PWM_STAT n, 3, 3⟩
def PWM_STAT_TRIPPED (n : Nat) : Fld := ⟨PWM_STAT n, 2, 2⟩
def PWM_STAT_MINP (n : Nat) : Fld := ⟨PWM_STAT n, 1, 1⟩
def PWM_STAT_CMPCLAMP (n : Nat) : Fld := ⟨PWM_STAT n, 0, 0⟩
/-- PWM_DROPCNT: dropped and stretched pulses (14_pwm.md). -/
def PWM_DROPCNT (n : Nat) : Nat := 0x40100138 + 0x400 * n
def PWM_DROPCNT_OUTL (n : Nat) : Fld := ⟨PWM_DROPCNT n, 31, 16⟩
def PWM_DROPCNT_OUTH (n : Nat) : Fld := ⟨PWM_DROPCNT n, 15, 0⟩

end R

/-- The registers of PWM. -/
def regsPWM : List RegDesc :=
  [
    ⟨.PWM_GSTAT, 0x40100000, 1, 0x0, 1, 0, [⟨2, 2, .w1c, 0x0⟩, ⟨1, 1, .ro, 0x0⟩, ⟨0, 0, .w1c, 0x0⟩]⟩,
    ⟨.PWM_LOCK, 0x40100008, 1, 0x0, 1, 0, [⟨0, 0, .w1s, 0x0⟩]⟩,
    ⟨.PWM_LDALL, 0x40100010, 1, 0x0, 1, 0, [⟨31, 0, .w1s, 0x0⟩]⟩,
    ⟨.PWM_LDALLH, 0x40100014, 1, 0x0, 1, 0, [⟨15, 0, .w1s, 0x0⟩]⟩,
    ⟨.PWM_TRIPST, 0x40100020, 1, 0x0, 1, 0, [⟨23, 0, .w1c, 0x0⟩]⟩,
    ⟨.PWM_TCURT, 0x40100024, 1, 0x0, 1, 0, [⟨23, 0, .rwl, 0x0⟩]⟩,
    ⟨.PWM_CCURTL, 0x40100028, 1, 0x0, 1, 0, [⟨31, 0, .rwl, 0x0⟩]⟩,
    ⟨.PWM_CCURTH, 0x4010002C, 1, 0x0, 1, 0, [⟨15, 0, .rwl, 0x0⟩]⟩,
    ⟨.PWM_CTRL, 0x40100100, 48, 0x400, 1, 0, [⟨1, 1, .rw, 0x0⟩, ⟨0, 0, .rw, 0x0⟩]⟩,
    ⟨.PWM_CFG, 0x40100104, 48, 0x400, 1, 0, [⟨31, 30, .rw, 0x0⟩, ⟨29, 29, .rw, 0x0⟩, ⟨28, 28, .rw, 0x0⟩, ⟨27, 27, .rw, 0x0⟩, ⟨26, 25, .rw, 0x2⟩, ⟨24, 23, .rw, 0x2⟩, ⟨22, 21, .rw, 0x0⟩, ⟨20, 15, .rw, 0x0⟩, ⟨14, 14, .rw, 0x0⟩, ⟨13, 8, .rw, 0x0⟩, ⟨7, 7, .rw, 0x0⟩, ⟨6, 6, .rw, 0x0⟩, ⟨5, 5, .rw, 0x0⟩, ⟨4, 4, .rw, 0x0⟩]⟩,
    ⟨.PWM_PERIOD, 0x40100108, 48, 0x400, 1, 0, [⟨31, 16, .ro, 0x0⟩, ⟨15, 0, .rw, 0x0⟩]⟩,
    ⟨.PWM_CMPA, 0x4010010C, 48, 0x400, 1, 0, [⟨19, 0, .rw, 0x0⟩]⟩ ] ++
  [
    ⟨.PWM_CMPB, 0x40100110, 48, 0x400, 1, 0, [⟨19, 0, .rw, 0x0⟩]⟩,
    ⟨.PWM_ACTCMP, 0x40100114, 48, 0x400, 1, 0, [⟨19, 0, .ro, 0x0⟩]⟩,
    ⟨.PWM_PHASE, 0x40100118, 48, 0x400, 1, 0, [⟨15, 0, .rw, 0x0⟩]⟩,
    ⟨.PWM_DT, 0x4010011C, 48, 0x400, 1, 0, [⟨27, 16, .rw, 0x0⟩, ⟨11, 0, .rw, 0x0⟩]⟩,
    ⟨.PWM_MINP, 0x40100120, 48, 0x400, 1, 0, [⟨11, 0, .rw, 0x0⟩]⟩,
    ⟨.PWM_PCM, 0x40100124, 48, 0x400, 1, 0, [⟨29, 24, .rw, 0x0⟩, ⟨7, 0, .rw, 0x0⟩]⟩,
    ⟨.PWM_TRIPL, 0x40100128, 48, 0x400, 1, 0, [⟨23, 0, .rwl, 0x0⟩]⟩,
    ⟨.PWM_TRIPC0, 0x4010012C, 48, 0x400, 1, 0, [⟨31, 0, .rwl, 0x0⟩]⟩,
    ⟨.PWM_TRIPC1, 0x40100130, 48, 0x400, 1, 0, [⟨15, 0, .rwl, 0x0⟩]⟩,
    ⟨.PWM_STAT, 0x40100134, 48, 0x400, 1, 0, [⟨11, 11, .ro, 0x0⟩, ⟨10, 10, .ro, 0x1⟩, ⟨9, 9, .ro, 0x0⟩, ⟨8, 8, .ro, 0x0⟩, ⟨5, 5, .w1c, 0x0⟩, ⟨4, 4, .w1c, 0x0⟩, ⟨3, 3, .ro, 0x0⟩, ⟨2, 2, .w1c, 0x0⟩, ⟨1, 1, .w1c, 0x0⟩, ⟨0, 0, .w1c, 0x0⟩]⟩,
    ⟨.PWM_DROPCNT, 0x40100138, 48, 0x400, 1, 0, [⟨31, 16, .rc, 0x0⟩, ⟨15, 0, .rc, 0x0⟩]⟩ ]

/-! ## AFE -/

namespace R

/-- AFE_CTRL: front-end control (15_analogue_front_end.md). -/
def AFE_CTRL : Nat := 0x40300000
def AFE_CTRL_DSDIV : Fld := ⟨AFE_CTRL, 14, 8⟩
def AFE_CTRL_PFIRQ : Fld := ⟨AFE_CTRL, 3, 3⟩
def AFE_CTRL_DSIRQ : Fld := ⟨AFE_CTRL, 2, 2⟩
def AFE_CTRL_OVRIRQ : Fld := ⟨AFE_CTRL, 1, 1⟩
def AFE_CTRL_TRIGIRQ : Fld := ⟨AFE_CTRL, 0, 0⟩
/-- AFE_STAT: front-end status (15_analogue_front_end.md). -/
def AFE_STAT : Nat := 0x40300004
def AFE_STAT_PFW : Fld := ⟨AFE_STAT, 7, 7⟩
def AFE_STAT_PFSEEN : Fld := ⟨AFE_STAT, 6, 6⟩
def AFE_STAT_DSLOSS : Fld := ⟨AFE_STAT, 5, 5⟩
def AFE_STAT_OVR : Fld := ⟨AFE_STAT, 4, 4⟩
def AFE_STAT_TRIGLOST : Fld := ⟨AFE_STAT, 3, 3⟩
def AFE_STAT_CHKON : Fld := ⟨AFE_STAT, 2, 2⟩
def AFE_STAT_CFGREF : Fld := ⟨AFE_STAT, 1, 1⟩
def AFE_STAT_READY : Fld := ⟨AFE_STAT, 0, 0⟩
/-- AFE_GTRIG: group triggers (15_analogue_front_end.md). -/
def AFE_GTRIG : Nat := 0x40300008
def AFE_GTRIG_GO : Fld := ⟨AFE_GTRIG, 5, 0⟩
/-- AFE_GCFG: group configuration (15_analogue_front_end.md). -/
def AFE_GCFG (n : Nat) : Nat := 0x40300010 + 0x4 * n
def AFE_GCFG_ETRIG (n : Nat) : Fld := ⟨AFE_GCFG n, 8, 8⟩
def AFE_GCFG_UNI (n : Nat) : Fld := ⟨AFE_GCFG n, 3, 0⟩
/-- AFE_ADCRES: ADC result (15_analogue_front_end.md). -/
def AFE_ADCRES (n : Nat) : Nat := 0x40300040 + 0x4 * n
def AFE_ADCRES_CNT (n : Nat) : Fld := ⟨AFE_ADCRES n, 31, 16⟩
def AFE_ADCRES_VAL (n : Nat) : Fld := ⟨AFE_ADCRES n, 15, 0⟩
/-- AFE_OVR: ADC saturation (15_analogue_front_end.md). -/
def AFE_OVR : Nat := 0x403000A0
def AFE_OVR_CH : Fld := ⟨AFE_OVR, 23, 0⟩
/-- AFE_DSCFG: ΔΣ channel configuration (15_analogue_front_end.md). -/
def AFE_DSCFG (n : Nat) : Nat := 0x40300110 + 0x4 * n
def AFE_DSCFG_EN (n : Nat) : Fld := ⟨AFE_DSCFG n, 31, 31⟩
def AFE_DSCFG_CLKSRC (n : Nat) : Fld := ⟨AFE_DSCFG n, 30, 30⟩
def AFE_DSCFG_ORDER (n : Nat) : Fld := ⟨AFE_DSCFG n, 29, 28⟩
def AFE_DSCFG_OSR (n : Nat) : Fld := ⟨AFE_DSCFG n, 8, 0⟩
/-- AFE_DSRES: ΔΣ result (15_analogue_front_end.md). -/
def AFE_DSRES (n : Nat) : Nat := 0x40300150 + 0x4 * n
def AFE_DSRES_LOSS (n : Nat) : Fld := ⟨AFE_DSRES n, 31, 31⟩
def AFE_DSRES_CNT (n : Nat) : Fld := ⟨AFE_DSRES n, 30, 16⟩
def AFE_DSRES_VAL (n : Nat) : Fld := ⟨AFE_DSRES n, 15, 0⟩
/-- AFE_CMPCFG: comparator configuration (15_analogue_front_end.md). -/
def AFE_CMPCFG (n : Nat) : Nat := 0x40300200 + 0x4 * n
def AFE_CMPCFG_EN (n : Nat) : Fld := ⟨AFE_CMPCFG n, 31, 31⟩
def AFE_CMPCFG_NSEL (n : Nat) : Fld := ⟨AFE_CMPCFG n, 30, 30⟩
def AFE_CMPCFG_CHECK (n : Nat) : Fld := ⟨AFE_CMPCFG n, 29, 28⟩
def AFE_CMPCFG_TIELVL (n : Nat) : Fld := ⟨AFE_CMPCFG n, 27, 26⟩
def AFE_CMPCFG_RAMPEN (n : Nat) : Fld := ⟨AFE_CMPCFG n, 25, 25⟩
def AFE_CMPCFG_RAMPSEL (n : Nat) : Fld := ⟨AFE_CMPCFG n, 24, 20⟩
/-- AFE_DAC: reference DAC (15_analogue_front_end.md). -/
def AFE_DAC (n : Nat) : Nat := 0x40300300 + 0x4 * n
def AFE_DAC_ACTIVE (n : Nat) : Fld := ⟨AFE_DAC n, 27, 16⟩
def AFE_DAC_CODE (n : Nat) : Fld := ⟨AFE_DAC n, 11, 0⟩
/-- AFE_CMPOUTL: comparator outputs 0 to 31 (15_analogue_front_end.md). -/
def AFE_CMPOUTL : Nat := 0x403003C0
def AFE_CMPOUTL_OUT : Fld := ⟨AFE_CMPOUTL, 31, 0⟩
/-- AFE_CMPOUTH: comparator outputs 32 to 47 (15_analogue_front_end.md). -/
def AFE_CMPOUTH : Nat := 0x403003C4
def AFE_CMPOUTH_OUT : Fld := ⟨AFE_CMPOUTH, 15, 0⟩
/-- AFE_CMPRISEL: rising edges 0 to 31 (15_analogue_front_end.md). -/
def AFE_CMPRISEL : Nat := 0x403003C8
def AFE_CMPRISEL_RISE : Fld := ⟨AFE_CMPRISEL, 31, 0⟩
/-- AFE_CMPRISEH: rising edges 32 to 47 (15_analogue_front_end.md). -/
def AFE_CMPRISEH : Nat := 0x403003CC
def AFE_CMPRISEH_RISE : Fld := ⟨AFE_CMPRISEH, 15, 0⟩
/-- AFE_RAMP: ramp generator (15_analogue_front_end.md). -/
def AFE_RAMP (n : Nat) : Nat := 0x40300400 + 0x4 * n
def AFE_RAMP_SRCUNIT (n : Nat) : Fld := ⟨AFE_RAMP n, 29, 24⟩
def AFE_RAMP_SLOPE (n : Nat) : Fld := ⟨AFE_RAMP n, 15, 0⟩
/-- AFE_MAINS: mains monitor (15_analogue_front_end.md). -/
def AFE_MAINS : Nat := 0x40300500
def AFE_MAINS_MISS : Fld := ⟨AFE_MAINS, 31, 16⟩
def AFE_MAINS_PFTHR : Fld := ⟨AFE_MAINS, 7, 0⟩
/-- AFE_MMEAS: mains measurement (15_analogue_front_end.md). -/
def AFE_MMEAS : Nat := 0x40300504
def AFE_MMEAS_FREQ : Fld := ⟨AFE_MMEAS, 31, 16⟩
def AFE_MMEAS_RMS : Fld := ⟨AFE_MMEAS, 15, 0⟩

end R

/-- The registers of AFE. -/
def regsAFE : List RegDesc :=
  [
    ⟨.AFE_CTRL, 0x40300000, 1, 0x0, 1, 0, [⟨14, 8, .rw, 0x28⟩, ⟨3, 3, .rw, 0x0⟩, ⟨2, 2, .rw, 0x0⟩, ⟨1, 1, .rw, 0x0⟩, ⟨0, 0, .rw, 0x0⟩]⟩,
    ⟨.AFE_STAT, 0x40300004, 1, 0x0, 1, 0, [⟨7, 7, .ro, 0x0⟩, ⟨6, 6, .w1c, 0x0⟩, ⟨5, 5, .w1c, 0x0⟩, ⟨4, 4, .w1c, 0x0⟩, ⟨3, 3, .w1c, 0x0⟩, ⟨2, 2, .ro, 0x0⟩, ⟨1, 1, .w1c, 0x0⟩, ⟨0, 0, .ro, 0x0⟩]⟩,
    ⟨.AFE_GTRIG, 0x40300008, 1, 0x0, 1, 0, [⟨5, 0, .wo, 0x0⟩]⟩,
    ⟨.AFE_GCFG, 0x40300010, 6, 0x4, 1, 0, [⟨8, 8, .rw, 0x0⟩, ⟨3, 0, .rw, 0x0⟩]⟩,
    ⟨.AFE_ADCRES, 0x40300040, 24, 0x4, 1, 0, [⟨31, 16, .ro, 0x0⟩, ⟨15, 0, .ro, 0x0⟩]⟩,
    ⟨.AFE_OVR, 0x403000A0, 1, 0x0, 1, 0, [⟨23, 0, .w1c, 0x0⟩]⟩,
    ⟨.AFE_DSCFG, 0x40300110, 16, 0x4, 1, 0, [⟨31, 31, .rw, 0x0⟩, ⟨30, 30, .rw, 0x0⟩, ⟨29, 28, .rw, 0x3⟩, ⟨8, 0, .rw, 0x20⟩]⟩,
    ⟨.AFE_DSRES, 0x40300150, 16, 0x4, 1, 0, [⟨31, 31, .ro, 0x0⟩, ⟨30, 16, .ro, 0x0⟩, ⟨15, 0, .ro, 0x0⟩]⟩,
    ⟨.AFE_CMPCFG, 0x40300200, 48, 0x4, 1, 0, [⟨31, 31, .rw, 0x0⟩, ⟨30, 30, .rw, 0x0⟩, ⟨29, 28, .rw, 0x0⟩, ⟨27, 26, .rw, 0x0⟩, ⟨25, 25, .rw, 0x0⟩, ⟨24, 20, .rw, 0x0⟩]⟩,
    ⟨.AFE_DAC, 0x40300300, 48, 0x4, 1, 0, [⟨27, 16, .ro, 0x0⟩, ⟨11, 0, .rw, 0x0⟩]⟩,
    ⟨.AFE_CMPOUTL, 0x403003C0, 1, 0x0, 1, 0, [⟨31, 0, .ro, 0x0⟩]⟩,
    ⟨.AFE_CMPOUTH, 0x403003C4, 1, 0x0, 1, 0, [⟨15, 0, .ro, 0x0⟩]⟩ ] ++
  [
    ⟨.AFE_CMPRISEL, 0x403003C8, 1, 0x0, 1, 0, [⟨31, 0, .w1c, 0x0⟩]⟩,
    ⟨.AFE_CMPRISEH, 0x403003CC, 1, 0x0, 1, 0, [⟨15, 0, .w1c, 0x0⟩]⟩,
    ⟨.AFE_RAMP, 0x40300400, 24, 0x4, 1, 0, [⟨29, 24, .rw, 0x0⟩, ⟨15, 0, .rw, 0x0⟩]⟩,
    ⟨.AFE_MAINS, 0x40300500, 1, 0x0, 1, 0, [⟨31, 16, .rc, 0x0⟩, ⟨7, 0, .rw, 0x23⟩]⟩,
    ⟨.AFE_MMEAS, 0x40300504, 1, 0x0, 1, 0, [⟨31, 16, .ro, 0x0⟩, ⟨15, 0, .ro, 0x0⟩]⟩ ]

/-! ## ENC -/

namespace R

/-- ENC_GSTAT: block status (16_encoders_and_setpoints.md). -/
def ENC_GSTAT : Nat := 0x40340000
def ENC_GSTAT_SPERR : Fld := ⟨ENC_GSTAT, 23, 16⟩
def ENC_GSTAT_FAULT : Fld := ⟨ENC_GSTAT, 7, 0⟩
/-- ENC_CFG: interface configuration (16_encoders_and_setpoints.md). -/
def ENC_CFG (n : Nat) : Nat := 0x40340100 + 0x40 * n
def ENC_CFG_EN (n : Nat) : Fld := ⟨ENC_CFG n, 31, 31⟩
def ENC_CFG_MODE (n : Nat) : Fld := ⟨ENC_CFG n, 30, 28⟩
def ENC_CFG_DIRINV (n : Nat) : Fld := ⟨ENC_CFG n, 27, 27⟩
def ENC_CFG_PRESET (n : Nat) : Fld := ⟨ENC_CFG n, 26, 26⟩
def ENC_CFG_IDXARM (n : Nat) : Fld := ⟨ENC_CFG n, 25, 25⟩
def ENC_CFG_FLTIRQ (n : Nat) : Fld := ⟨ENC_CFG n, 24, 24⟩
def ENC_CFG_FRAC (n : Nat) : Fld := ⟨ENC_CFG n, 23, 20⟩
def ENC_CFG_FILT (n : Nat) : Fld := ⟨ENC_CFG n, 19, 17⟩
def ENC_CFG_SCGRP (n : Nat) : Fld := ⟨ENC_CFG n, 15, 13⟩
def ENC_CFG_SCPAIR (n : Nat) : Fld := ⟨ENC_CFG n, 12, 12⟩
/-- ENC_SCFG: serial configuration (16_encoders_and_setpoints.md). -/
def ENC_SCFG (n : Nat) : Nat := 0x40340104 + 0x40 * n
def ENC_SCFG_FDIV (n : Nat) : Fld := ⟨ENC_SCFG n, 31, 24⟩
def ENC_SCFG_CLKDIV (n : Nat) : Fld := ⟨ENC_SCFG n, 23, 12⟩
def ENC_SCFG_BITS (n : Nat) : Fld := ⟨ENC_SCFG n, 11, 6⟩
def ENC_SCFG_CRCEN (n : Nat) : Fld := ⟨ENC_SCFG n, 5, 5⟩
def ENC_SCFG_RECOV (n : Nat) : Fld := ⟨ENC_SCFG n, 4, 0⟩
/-- ENC_STAT: interface status (16_encoders_and_setpoints.md). -/
def ENC_STAT (n : Nat) : Nat := 0x40340108 + 0x40 * n
def ENC_STAT_CAUSE (n : Nat) : Fld := ⟨ENC_STAT n, 31, 28⟩
def ENC_STAT_WARN (n : Nat) : Fld := ⟨ENC_STAT n, 7, 7⟩
def ENC_STAT_IDXSEEN (n : Nat) : Fld := ⟨ENC_STAT n, 6, 6⟩
def ENC_STAT_FAULT (n : Nat) : Fld := ⟨ENC_STAT n, 5, 5⟩
def ENC_STAT_CFGREF (n : Nat) : Fld := ⟨ENC_STAT n, 4, 4⟩
def ENC_STAT_VALID (n : Nat) : Fld := ⟨ENC_STAT n, 3, 3⟩
/-- ENC_POSL: position, low word (16_encoders_and_setpoints.md). -/
def ENC_POSL (n : Nat) : Nat := 0x4034010C + 0x40 * n
def ENC_POSL_POS (n : Nat) : Fld := ⟨ENC_POSL n, 31, 0⟩
/-- ENC_POSH: position, high word (16_encoders_and_setpoints.md). -/
def ENC_POSH (n : Nat) : Nat := 0x40340110 + 0x40 * n
def ENC_POSH_POS (n : Nat) : Fld := ⟨ENC_POSH n, 15, 0⟩
/-- ENC_IDX: index position (16_encoders_and_setpoints.md). -/
def ENC_IDX (n : Nat) : Nat := 0x40340114 + 0x40 * n
def ENC_IDX_POS (n : Nat) : Fld := ⟨ENC_IDX n, 31, 0⟩
/-- ENC_SETL: preset value, low word (16_encoders_and_setpoints.md). -/
def ENC_SETL (n : Nat) : Nat := 0x40340118 + 0x40 * n
def ENC_SETL_SET (n : Nat) : Fld := ⟨ENC_SETL n, 31, 0⟩
/-- ENC_SETH: preset value, high word (16_encoders_and_setpoints.md). -/
def ENC_SETH (n : Nat) : Nat := 0x4034011C + 0x40 * n
def ENC_SETH_SET (n : Nat) : Fld := ⟨ENC_SETH n, 15, 0⟩
/-- ENC_AMP: sin/cos amplitude window (16_encoders_and_setpoints.md). -/
def ENC_AMP (n : Nat) : Nat := 0x40340120 + 0x40 * n
def ENC_AMP_AMAX (n : Nat) : Fld := ⟨ENC_AMP n, 31, 16⟩
def ENC_AMP_AMIN (n : Nat) : Fld := ⟨ENC_AMP n, 15, 0⟩
/-- ENC_ERRCNT: faulty samples (16_encoders_and_setpoints.md). -/
def ENC_ERRCNT (n : Nat) : Nat := 0x40340124 + 0x40 * n
def ENC_ERRCNT_CNT (n : Nat) : Fld := ⟨ENC_ERRCNT n, 31, 0⟩
/-- ENC_SPCFG: set-point input (16_encoders_and_setpoints.md). -/
def ENC_SPCFG (n : Nat) : Nat := 0x40340400 + 0x10 * n
def ENC_SPCFG_EN (n : Nat) : Fld := ⟨ENC_SPCFG n, 31, 31⟩
def ENC_SPCFG_DIRINV (n : Nat) : Fld := ⟨ENC_SPCFG n, 30, 30⟩
def ENC_SPCFG_FILT (n : Nat) : Fld := ⟨ENC_SPCFG n, 29, 27⟩
def ENC_SPCFG_CH (n : Nat) : Fld := ⟨ENC_SPCFG n, 20, 16⟩
def ENC_SPCFG_DB (n : Nat) : Fld := ⟨ENC_SPCFG n, 15, 0⟩
/-- ENC_SPCNTL: set-point value, low word (16_encoders_and_setpoints.md). -/
def ENC_SPCNTL (n : Nat) : Nat := 0x40340404 + 0x10 * n
def ENC_SPCNTL_VAL (n : Nat) : Fld := ⟨ENC_SPCNTL n, 31, 0⟩
/-- ENC_SPCNTH: set-point value, high word (16_encoders_and_setpoints.md). -/
def ENC_SPCNTH (n : Nat) : Nat := 0x40340408 + 0x10 * n
def ENC_SPCNTH_VAL (n : Nat) : Fld := ⟨ENC_SPCNTH n, 15, 0⟩

end R

/-- The registers of ENC. -/
def regsENC : List RegDesc :=
  [
    ⟨.ENC_GSTAT, 0x40340000, 1, 0x0, 1, 0, [⟨23, 16, .w1c, 0x0⟩, ⟨7, 0, .ro, 0x0⟩]⟩,
    ⟨.ENC_CFG, 0x40340100, 8, 0x40, 1, 0, [⟨31, 31, .rw, 0x0⟩, ⟨30, 28, .rw, 0x0⟩, ⟨27, 27, .rw, 0x0⟩, ⟨26, 26, .wo, 0x0⟩, ⟨25, 25, .rw, 0x0⟩, ⟨24, 24, .rw, 0x0⟩, ⟨23, 20, .rw, 0x0⟩, ⟨19, 17, .rw, 0x0⟩, ⟨15, 13, .rw, 0x0⟩, ⟨12, 12, .rw, 0x0⟩]⟩,
    ⟨.ENC_SCFG, 0x40340104, 8, 0x40, 1, 0, [⟨31, 24, .rw, 0xA⟩, ⟨23, 12, .rw, 0x13⟩, ⟨11, 6, .rw, 0x20⟩, ⟨5, 5, .rw, 0x1⟩, ⟨4, 0, .rw, 0x14⟩]⟩,
    ⟨.ENC_STAT, 0x40340108, 8, 0x40, 1, 0, [⟨31, 28, .ro, 0x0⟩, ⟨7, 7, .w1c, 0x0⟩, ⟨6, 6, .w1c, 0x0⟩, ⟨5, 5, .w1c, 0x0⟩, ⟨4, 4, .w1c, 0x0⟩, ⟨3, 3, .ro, 0x0⟩]⟩,
    ⟨.ENC_POSL, 0x4034010C, 8, 0x40, 1, 0, [⟨31, 0, .ro, 0x0⟩]⟩,
    ⟨.ENC_POSH, 0x40340110, 8, 0x40, 1, 0, [⟨15, 0, .ro, 0x0⟩]⟩,
    ⟨.ENC_IDX, 0x40340114, 8, 0x40, 1, 0, [⟨31, 0, .ro, 0x0⟩]⟩,
    ⟨.ENC_SETL, 0x40340118, 8, 0x40, 1, 0, [⟨31, 0, .rw, 0x0⟩]⟩,
    ⟨.ENC_SETH, 0x4034011C, 8, 0x40, 1, 0, [⟨15, 0, .rw, 0x0⟩]⟩,
    ⟨.ENC_AMP, 0x40340120, 8, 0x40, 1, 0, [⟨31, 16, .rw, 0x7000⟩, ⟨15, 0, .rw, 0x1000⟩]⟩,
    ⟨.ENC_ERRCNT, 0x40340124, 8, 0x40, 1, 0, [⟨31, 0, .rc, 0x0⟩]⟩,
    ⟨.ENC_SPCFG, 0x40340400, 8, 0x10, 1, 0, [⟨31, 31, .rw, 0x0⟩, ⟨30, 30, .rw, 0x0⟩, ⟨29, 27, .rw, 0x0⟩, ⟨20, 16, .rw, 0x0⟩, ⟨15, 0, .rw, 0x0⟩]⟩ ] ++
  [
    ⟨.ENC_SPCNTL, 0x40340404, 8, 0x10, 1, 0, [⟨31, 0, .ro, 0x0⟩]⟩,
    ⟨.ENC_SPCNTH, 0x40340408, 8, 0x10, 1, 0, [⟨15, 0, .ro, 0x0⟩]⟩ ]

/-! ## CALL -/

namespace R

/-- CALL_CTRL: control (17_call_board.md). -/
def CALL_CTRL : Nat := 0x40010000
def CALL_CTRL_RAWIRQ : Fld := ⟨CALL_CTRL, 0, 0⟩
/-- CALL_STAT: status (17_call_board.md). -/
def CALL_STAT : Nat := 0x40010004
def CALL_STAT_CFGREF : Fld := ⟨CALL_STAT, 1, 1⟩
def CALL_STAT_RAW : Fld := ⟨CALL_STAT, 0, 0⟩
/-- CALL_RUNAWAY: runaway channels (17_call_board.md). -/
def CALL_RUNAWAY (n : Nat) : Nat := 0x40010020 + 0x4 * n
def CALL_RUNAWAY_RUN (n : Nat) : Fld := ⟨CALL_RUNAWAY n, 31, 0⟩
/-- CALL_CH: channel route (17_call_board.md). -/
def CALL_CH (n : Nat) : Nat := 0x40011000 + 0x8 * n
def CALL_CH_EN (n : Nat) : Fld := ⟨CALL_CH n, 31, 31⟩
def CALL_CH_SUBV (n : Nat) : Fld := ⟨CALL_CH n, 30, 30⟩
def CALL_CH_SUB (n : Nat) : Fld := ⟨CALL_CH n, 25, 16⟩
def CALL_CH_SEVMASK (n : Nat) : Fld := ⟨CALL_CH n, 15, 0⟩
/-- CALL_CEIL: channel ceiling (17_call_board.md). -/
def CALL_CEIL (n : Nat) : Nat := 0x40011004 + 0x8 * n
def CALL_CEIL_CNT (n : Nat) : Fld := ⟨CALL_CEIL n, 31, 16⟩
def CALL_CEIL_MAX (n : Nat) : Fld := ⟨CALL_CEIL n, 15, 0⟩
/-- CALL_COIN: coincidences (17_call_board.md). -/
def CALL_COIN (n : Nat) : Nat := 0x40012000 + 0x4 * n
def CALL_COIN_CNT (n : Nat) : Fld := ⟨CALL_COIN n, 15, 0⟩
/-- CALL_PUB: source channel (17_call_board.md). -/
def CALL_PUB (n : Nat) : Nat := 0x40014000 + 0x4 * n
def CALL_PUB_V (n : Nat) : Fld := ⟨CALL_PUB n, 31, 31⟩
def CALL_PUB_CH (n : Nat) : Fld := ⟨CALL_PUB n, 7, 0⟩

end R

/-- The registers of CALL. -/
def regsCALL : List RegDesc :=
  [
    ⟨.CALL_CTRL, 0x40010000, 1, 0x0, 1, 0, [⟨0, 0, .rw, 0x0⟩]⟩,
    ⟨.CALL_STAT, 0x40010004, 1, 0x0, 1, 0, [⟨1, 1, .w1c, 0x0⟩, ⟨0, 0, .ro, 0x0⟩]⟩,
    ⟨.CALL_RUNAWAY, 0x40010020, 8, 0x4, 1, 0, [⟨31, 0, .w1c, 0x0⟩]⟩,
    ⟨.CALL_CH, 0x40011000, 256, 0x8, 1, 0, [⟨31, 31, .rw, 0x0⟩, ⟨30, 30, .rw, 0x0⟩, ⟨25, 16, .rw, 0x0⟩, ⟨15, 0, .rw, 0x0⟩]⟩,
    ⟨.CALL_CEIL, 0x40011004, 256, 0x8, 1, 0, [⟨31, 16, .ro, 0x0⟩, ⟨15, 0, .rw, 0x0⟩]⟩,
    ⟨.CALL_COIN, 0x40012000, 256, 0x4, 1, 0, [⟨15, 0, .rc, 0x0⟩]⟩,
    ⟨.CALL_PUB, 0x40014000, 480, 0x4, 1, 0, [⟨31, 31, .rw, 0x0⟩, ⟨7, 0, .rw, 0x0⟩]⟩ ]

/-! ## DMA -/

namespace R

/-- DMA_GSTAT: block status (18_dma.md). -/
def DMA_GSTAT : Nat := 0x40020000
def DMA_GSTAT_CFGREF : Fld := ⟨DMA_GSTAT, 4, 4⟩
def DMA_GSTAT_BUSY : Fld := ⟨DMA_GSTAT, 3, 0⟩
/-- DMA_IRQL: interrupting channels 0 to 31 (18_dma.md). -/
def DMA_IRQL : Nat := 0x40020008
def DMA_IRQL_IRQ : Fld := ⟨DMA_IRQL, 31, 0⟩
/-- DMA_IRQH: interrupting channels 32 to 63 (18_dma.md). -/
def DMA_IRQH : Nat := 0x4002000C
def DMA_IRQH_IRQ : Fld := ⟨DMA_IRQH, 31, 0⟩
/-- DMA_CTRL: channel control (18_dma.md). -/
def DMA_CTRL (n : Nat) : Nat := 0x40021000 + 0x40 * n
def DMA_CTRL_GO (n : Nat) : Fld := ⟨DMA_CTRL n, 31, 31⟩
def DMA_CTRL_ABORT (n : Nat) : Fld := ⟨DMA_CTRL n, 30, 30⟩
def DMA_CTRL_EVTEN (n : Nat) : Fld := ⟨DMA_CTRL n, 21, 21⟩
def DMA_CTRL_IRQEN (n : Nat) : Fld := ⟨DMA_CTRL n, 20, 20⟩
def DMA_CTRL_PRIO (n : Nat) : Fld := ⟨DMA_CTRL n, 19, 18⟩
def DMA_CTRL_CHK (n : Nat) : Fld := ⟨DMA_CTRL n, 17, 16⟩
def DMA_CTRL_REQ (n : Nat) : Fld := ⟨DMA_CTRL n, 14, 14⟩
def DMA_CTRL_MODE (n : Nat) : Fld := ⟨DMA_CTRL n, 13, 13⟩
def DMA_CTRL_SRCFIX (n : Nat) : Fld := ⟨DMA_CTRL n, 12, 12⟩
def DMA_CTRL_DSTFIX (n : Nat) : Fld := ⟨DMA_CTRL n, 11, 11⟩
/-- DMA_PACE: pacing (18_dma.md). -/
def DMA_PACE (n : Nat) : Nat := 0x40021004 + 0x40 * n
def DMA_PACE_SHARE (n : Nat) : Fld := ⟨DMA_PACE n, 31, 22⟩
def DMA_PACE_HIWM (n : Nat) : Fld := ⟨DMA_PACE n, 21, 17⟩
def DMA_PACE_LOWM (n : Nat) : Fld := ⟨DMA_PACE n, 16, 13⟩
def DMA_PACE_BURST (n : Nat) : Fld := ⟨DMA_PACE n, 12, 0⟩
/-- DMA_SRCL: source, low word (18_dma.md). -/
def DMA_SRCL (n : Nat) : Nat := 0x40021008 + 0x40 * n
def DMA_SRCL_ADDR (n : Nat) : Fld := ⟨DMA_SRCL n, 31, 0⟩
/-- DMA_DSTL: destination, low word (18_dma.md). -/
def DMA_DSTL (n : Nat) : Nat := 0x4002100C + 0x40 * n
def DMA_DSTL_ADDR (n : Nat) : Fld := ⟨DMA_DSTL n, 31, 0⟩
/-- DMA_HI: high address bits (18_dma.md). -/
def DMA_HI (n : Nat) : Nat := 0x40021010 + 0x40 * n
def DMA_HI_DSC (n : Nat) : Fld := ⟨DMA_HI n, 23, 16⟩
def DMA_HI_DST (n : Nat) : Fld := ⟨DMA_HI n, 15, 8⟩
def DMA_HI_SRC (n : Nat) : Fld := ⟨DMA_HI n, 7, 0⟩
/-- DMA_LEN: remaining length (18_dma.md). -/
def DMA_LEN (n : Nat) : Nat := 0x40021014 + 0x40 * n
def DMA_LEN_LEN (n : Nat) : Fld := ⟨DMA_LEN n, 31, 0⟩
/-- DMA_DSCL: descriptor address (18_dma.md). -/
def DMA_DSCL (n : Nat) : Nat := 0x40021018 + 0x40 * n
def DMA_DSCL_ADDR (n : Nat) : Fld := ⟨DMA_DSCL n, 31, 6⟩
/-- DMA_CHKV: check result (18_dma.md). -/
def DMA_CHKV (n : Nat) : Nat := 0x4002101C + 0x40 * n
def DMA_CHKV_CHK (n : Nat) : Fld := ⟨DMA_CHKV n, 31, 0⟩
/-- DMA_STAT: channel status (18_dma.md). -/
def DMA_STAT (n : Nat) : Nat := 0x40021020 + 0x40 * n
def DMA_STAT_STATE (n : Nat) : Fld := ⟨DMA_STAT n, 31, 30⟩
def DMA_STAT_DIR (n : Nat) : Fld := ⟨DMA_STAT n, 29, 29⟩
def DMA_STAT_DSCF (n : Nat) : Fld := ⟨DMA_STAT n, 28, 28⟩
def DMA_STAT_ERRH (n : Nat) : Fld := ⟨DMA_STAT n, 23, 16⟩
def DMA_STAT_CFGREF (n : Nat) : Fld := ⟨DMA_STAT n, 5, 5⟩
def DMA_STAT_REQOVF (n : Nat) : Fld := ⟨DMA_STAT n, 4, 4⟩
def DMA_STAT_BAD (n : Nat) : Fld := ⟨DMA_STAT n, 3, 3⟩
def DMA_STAT_ERR (n : Nat) : Fld := ⟨DMA_STAT n, 2, 2⟩
def DMA_STAT_DONE (n : Nat) : Fld := ⟨DMA_STAT n, 1, 1⟩
/-- DMA_ERRL: faulting address, low word (18_dma.md). -/
def DMA_ERRL (n : Nat) : Nat := 0x40021024 + 0x40 * n
def DMA_ERRL_ADDR (n : Nat) : Fld := ⟨DMA_ERRL n, 31, 0⟩
/-- DMA_CNT: counts (18_dma.md). -/
def DMA_CNT (n : Nat) : Nat := 0x40021028 + 0x40 * n
def DMA_CNT_BADCNT (n : Nat) : Fld := ⟨DMA_CNT n, 31, 16⟩
def DMA_CNT_PEND (n : Nat) : Fld := ⟨DMA_CNT n, 3, 0⟩

end R

/-- The registers of DMA. -/
def regsDMA : List RegDesc :=
  [
    ⟨.DMA_GSTAT, 0x40020000, 1, 0x0, 1, 0, [⟨4, 4, .w1c, 0x0⟩, ⟨3, 0, .ro, 0x0⟩]⟩,
    ⟨.DMA_IRQL, 0x40020008, 1, 0x0, 1, 0, [⟨31, 0, .ro, 0x0⟩]⟩,
    ⟨.DMA_IRQH, 0x4002000C, 1, 0x0, 1, 0, [⟨31, 0, .ro, 0x0⟩]⟩,
    ⟨.DMA_CTRL, 0x40021000, 64, 0x40, 1, 0, [⟨31, 31, .wo, 0x0⟩, ⟨30, 30, .wo, 0x0⟩, ⟨21, 21, .rw, 0x0⟩, ⟨20, 20, .rw, 0x0⟩, ⟨19, 18, .rw, 0x0⟩, ⟨17, 16, .rw, 0x0⟩, ⟨14, 14, .rw, 0x0⟩, ⟨13, 13, .rw, 0x0⟩, ⟨12, 12, .rw, 0x0⟩, ⟨11, 11, .rw, 0x0⟩]⟩,
    ⟨.DMA_PACE, 0x40021004, 64, 0x40, 1, 0, [⟨31, 22, .rw, 0x3E8⟩, ⟨21, 17, .rw, 0x10⟩, ⟨16, 13, .rw, 0x8⟩, ⟨12, 0, .rw, 0x40⟩]⟩,
    ⟨.DMA_SRCL, 0x40021008, 64, 0x40, 1, 0, [⟨31, 0, .rw, 0x0⟩]⟩,
    ⟨.DMA_DSTL, 0x4002100C, 64, 0x40, 1, 0, [⟨31, 0, .rw, 0x0⟩]⟩,
    ⟨.DMA_HI, 0x40021010, 64, 0x40, 1, 0, [⟨23, 16, .rw, 0x0⟩, ⟨15, 8, .rw, 0x0⟩, ⟨7, 0, .rw, 0x0⟩]⟩,
    ⟨.DMA_LEN, 0x40021014, 64, 0x40, 1, 0, [⟨31, 0, .rw, 0x0⟩]⟩,
    ⟨.DMA_DSCL, 0x40021018, 64, 0x40, 1, 0, [⟨31, 6, .rw, 0x0⟩]⟩,
    ⟨.DMA_CHKV, 0x4002101C, 64, 0x40, 1, 0, [⟨31, 0, .ro, 0x0⟩]⟩,
    ⟨.DMA_STAT, 0x40021020, 64, 0x40, 1, 0, [⟨31, 30, .ro, 0x0⟩, ⟨29, 29, .ro, 0x0⟩, ⟨28, 28, .ro, 0x0⟩, ⟨23, 16, .ro, 0x0⟩, ⟨5, 5, .w1c, 0x0⟩, ⟨4, 4, .w1c, 0x0⟩, ⟨3, 3, .w1c, 0x0⟩, ⟨2, 2, .w1c, 0x0⟩, ⟨1, 1, .w1c, 0x0⟩]⟩ ] ++
  [
    ⟨.DMA_ERRL, 0x40021024, 64, 0x40, 1, 0, [⟨31, 0, .ro, 0x0⟩]⟩,
    ⟨.DMA_CNT, 0x40021028, 64, 0x40, 1, 0, [⟨31, 16, .rc, 0x0⟩, ⟨3, 0, .ro, 0x0⟩]⟩ ]

/-! ## GPIO -/

namespace R

/-- GPIO_STAT: block status (19_pins.md). -/
def GPIO_STAT : Nat := 0x40030000
def GPIO_STAT_WAKESRC : Fld := ⟨GPIO_STAT, 31, 16⟩
def GPIO_STAT_LKSEQ : Fld := ⟨GPIO_STAT, 4, 4⟩
def GPIO_STAT_LCKREF : Fld := ⟨GPIO_STAT, 3, 3⟩
def GPIO_STAT_OWNREF : Fld := ⟨GPIO_STAT, 2, 2⟩
def GPIO_STAT_CFGREF : Fld := ⟨GPIO_STAT, 1, 1⟩
/-- GPIO_BANK: bank supplies (19_pins.md). -/
def GPIO_BANK : Nat := 0x40030004
def GPIO_BANK_BANK : Fld := ⟨GPIO_BANK, 15, 0⟩
/-- GPIO_LKEY: lock key (19_pins.md). -/
def GPIO_LKEY : Nat := 0x40030008
def GPIO_LKEY_PORT : Fld := ⟨GPIO_LKEY, 18, 16⟩
def GPIO_LKEY_KEY : Fld := ⟨GPIO_LKEY, 15, 0⟩
/-- GPIO_WAKECFG: wake land (19_pins.md). -/
def GPIO_WAKECFG (n : Nat) : Nat := 0x40030040 + 0x4 * n
def GPIO_WAKECFG_EN (n : Nat) : Fld := ⟨GPIO_WAKECFG n, 31, 31⟩
def GPIO_WAKECFG_POL (n : Nat) : Fld := ⟨GPIO_WAKECFG n, 30, 30⟩
def GPIO_WAKECFG_DEB (n : Nat) : Fld := ⟨GPIO_WAKECFG n, 7, 0⟩
/-- GPIO_SERCFG: serial engine configuration (19_pins.md). -/
def GPIO_SERCFG (n : Nat) : Nat := 0x40030080 + 0x10 * n
def GPIO_SERCFG_EN (n : Nat) : Fld := ⟨GPIO_SERCFG n, 31, 31⟩
def GPIO_SERCFG_MODE (n : Nat) : Fld := ⟨GPIO_SERCFG n, 30, 29⟩
def GPIO_SERCFG_CPOL (n : Nat) : Fld := ⟨GPIO_SERCFG n, 28, 28⟩
def GPIO_SERCFG_CPHA (n : Nat) : Fld := ⟨GPIO_SERCFG n, 27, 27⟩
def GPIO_SERCFG_BITS (n : Nat) : Fld := ⟨GPIO_SERCFG n, 26, 22⟩
def GPIO_SERCFG_PAR (n : Nat) : Fld := ⟨GPIO_SERCFG n, 21, 20⟩
def GPIO_SERCFG_STOP2 (n : Nat) : Fld := ⟨GPIO_SERCFG n, 19, 19⟩
def GPIO_SERCFG_FAST (n : Nat) : Fld := ⟨GPIO_SERCFG n, 18, 18⟩
def GPIO_SERCFG_DIV (n : Nat) : Fld := ⟨GPIO_SERCFG n, 15, 0⟩
/-- GPIO_SERDAT: serial data (19_pins.md). -/
def GPIO_SERDAT (n : Nat) : Nat := 0x40030084 + 0x10 * n
def GPIO_SERDAT_DATA (n : Nat) : Fld := ⟨GPIO_SERDAT n, 31, 0⟩
/-- GPIO_SERSTAT: serial status (19_pins.md). -/
def GPIO_SERSTAT (n : Nat) : Nat := 0x40030088 + 0x10 * n
def GPIO_SERSTAT_TXLVL (n : Nat) : Fld := ⟨GPIO_SERSTAT n, 31, 27⟩
def GPIO_SERSTAT_RXLVL (n : Nat) : Fld := ⟨GPIO_SERSTAT n, 26, 22⟩
def GPIO_SERSTAT_BUSY (n : Nat) : Fld := ⟨GPIO_SERSTAT n, 6, 6⟩
def GPIO_SERSTAT_STRETCH (n : Nat) : Fld := ⟨GPIO_SERSTAT n, 5, 5⟩
def GPIO_SERSTAT_NACK (n : Nat) : Fld := ⟨GPIO_SERSTAT n, 4, 4⟩
def GPIO_SERSTAT_RXOVF (n : Nat) : Fld := ⟨GPIO_SERSTAT n, 3, 3⟩
def GPIO_SERSTAT_TXOVF (n : Nat) : Fld := ⟨GPIO_SERSTAT n, 2, 2⟩
def GPIO_SERSTAT_UNDF (n : Nat) : Fld := ⟨GPIO_SERSTAT n, 1, 1⟩
/-- GPIO_PxIN: port input (19_pins.md). -/
def GPIO_PxIN (n : Nat) : Nat := 0x40030100 + 0x40 * n
def GPIO_PxIN_IN (n : Nat) : Fld := ⟨GPIO_PxIN n, 31, 0⟩
/-- GPIO_PxMWL: masked write, pins 0 to 15 (19_pins.md). -/
def GPIO_PxMWL (n : Nat) : Nat := 0x40030104 + 0x40 * n
def GPIO_PxMWL_MASK (n : Nat) : Fld := ⟨GPIO_PxMWL n, 31, 16⟩
def GPIO_PxMWL_OUT (n : Nat) : Fld := ⟨GPIO_PxMWL n, 15, 0⟩
/-- GPIO_PxMWH: masked write, pins 16 to 31 (19_pins.md). -/
def GPIO_PxMWH (n : Nat) : Nat := 0x40030108 + 0x40 * n
def GPIO_PxMWH_MASK (n : Nat) : Fld := ⟨GPIO_PxMWH n, 31, 16⟩
def GPIO_PxMWH_OUT (n : Nat) : Fld := ⟨GPIO_PxMWH n, 15, 0⟩
/-- GPIO_PxLCKM: lock mask (19_pins.md). -/
def GPIO_PxLCKM (n : Nat) : Nat := 0x4003010C + 0x40 * n
def GPIO_PxLCKM_MASK (n : Nat) : Fld := ⟨GPIO_PxLCKM n, 31, 0⟩
/-- GPIO_PxOWN: owners (19_pins.md). -/
def GPIO_PxOWN (i j : Nat) : Nat := 0x40030110 + 0x40 * i + 4 * j
def GPIO_PxOWN_OWN7 (i j : Nat) : Fld := ⟨GPIO_PxOWN i j, 31, 28⟩
def GPIO_PxOWN_OWN6 (i j : Nat) : Fld := ⟨GPIO_PxOWN i j, 27, 24⟩
def GPIO_PxOWN_OWN5 (i j : Nat) : Fld := ⟨GPIO_PxOWN i j, 23, 20⟩
def GPIO_PxOWN_OWN4 (i j : Nat) : Fld := ⟨GPIO_PxOWN i j, 19, 16⟩
def GPIO_PxOWN_OWN3 (i j : Nat) : Fld := ⟨GPIO_PxOWN i j, 15, 12⟩
def GPIO_PxOWN_OWN2 (i j : Nat) : Fld := ⟨GPIO_PxOWN i j, 11, 8⟩
def GPIO_PxOWN_OWN1 (i j : Nat) : Fld := ⟨GPIO_PxOWN i j, 7, 4⟩
def GPIO_PxOWN_OWN0 (i j : Nat) : Fld := ⟨GPIO_PxOWN i j, 3, 0⟩
/-- GPIO_PCFG: pin configuration (19_pins.md). -/
def GPIO_PCFG (i j : Nat) : Nat := 0x40031000 + 0x80 * i + 4 * j
def GPIO_PCFG_LOCKED (i j : Nat) : Fld := ⟨GPIO_PCFG i j, 31, 31⟩
def GPIO_PCFG_PARK (i j : Nat) : Fld := ⟨GPIO_PCFG i j, 27, 26⟩
def GPIO_PCFG_PULL (i j : Nat) : Fld := ⟨GPIO_PCFG i j, 25, 24⟩
def GPIO_PCFG_DRIVE (i j : Nat) : Fld := ⟨GPIO_PCFG i j, 23, 22⟩
def GPIO_PCFG_SLOW (i j : Nat) : Fld := ⟨GPIO_PCFG i j, 21, 21⟩
def GPIO_PCFG_OD (i j : Nat) : Fld := ⟨GPIO_PCFG i j, 20, 20⟩
def GPIO_PCFG_OE (i j : Nat) : Fld := ⟨GPIO_PCFG i j, 16, 16⟩
def GPIO_PCFG_FSEL (i j : Nat) : Fld := ⟨GPIO_PCFG i j, 3, 0⟩

end R

/-- The registers of GPIO. -/
def regsGPIO : List RegDesc :=
  [
    ⟨.GPIO_STAT, 0x40030000, 1, 0x0, 1, 0, [⟨31, 16, .w1c, 0x0⟩, ⟨4, 4, .w1c, 0x0⟩, ⟨3, 3, .w1c, 0x0⟩, ⟨2, 2, .w1c, 0x0⟩, ⟨1, 1, .w1c, 0x0⟩]⟩,
    ⟨.GPIO_BANK, 0x40030004, 1, 0x0, 1, 0, [⟨15, 0, .ro, 0x0⟩]⟩,
    ⟨.GPIO_LKEY, 0x40030008, 1, 0x0, 1, 0, [⟨18, 16, .wo, 0x0⟩, ⟨15, 0, .wo, 0x0⟩]⟩,
    ⟨.GPIO_WAKECFG, 0x40030040, 16, 0x4, 1, 0, [⟨31, 31, .rw, 0x0⟩, ⟨30, 30, .rw, 0x0⟩, ⟨7, 0, .rw, 0x1⟩]⟩,
    ⟨.GPIO_SERCFG, 0x40030080, 4, 0x10, 1, 0, [⟨31, 31, .rw, 0x0⟩, ⟨30, 29, .rw, 0x0⟩, ⟨28, 28, .rw, 0x0⟩, ⟨27, 27, .rw, 0x0⟩, ⟨26, 22, .rw, 0x7⟩, ⟨21, 20, .rw, 0x0⟩, ⟨19, 19, .rw, 0x0⟩, ⟨18, 18, .rw, 0x0⟩, ⟨15, 0, .rw, 0x3⟩]⟩,
    ⟨.GPIO_SERDAT, 0x40030084, 4, 0x10, 1, 0, [⟨31, 0, .rw, 0x0⟩]⟩,
    ⟨.GPIO_SERSTAT, 0x40030088, 4, 0x10, 1, 0, [⟨31, 27, .ro, 0x0⟩, ⟨26, 22, .ro, 0x0⟩, ⟨6, 6, .ro, 0x0⟩, ⟨5, 5, .w1c, 0x0⟩, ⟨4, 4, .w1c, 0x0⟩, ⟨3, 3, .w1c, 0x0⟩, ⟨2, 2, .w1c, 0x0⟩, ⟨1, 1, .w1c, 0x0⟩]⟩,
    ⟨.GPIO_PxIN, 0x40030100, 8, 0x40, 1, 0, [⟨31, 0, .ro, 0x0⟩]⟩,
    ⟨.GPIO_PxMWL, 0x40030104, 8, 0x40, 1, 0, [⟨31, 16, .wo, 0x0⟩, ⟨15, 0, .rw, 0x0⟩]⟩,
    ⟨.GPIO_PxMWH, 0x40030108, 8, 0x40, 1, 0, [⟨31, 16, .wo, 0x0⟩, ⟨15, 0, .rw, 0x0⟩]⟩,
    ⟨.GPIO_PxLCKM, 0x4003010C, 8, 0x40, 1, 0, [⟨31, 0, .rw, 0x0⟩]⟩,
    ⟨.GPIO_PxOWN, 0x40030110, 8, 0x40, 4, 4, [⟨31, 28, .rw, 0x0⟩, ⟨27, 24, .rw, 0x0⟩, ⟨23, 20, .rw, 0x0⟩, ⟨19, 16, .rw, 0x0⟩, ⟨15, 12, .rw, 0x0⟩, ⟨11, 8, .rw, 0x0⟩, ⟨7, 4, .rw, 0x0⟩, ⟨3, 0, .rw, 0x0⟩]⟩ ] ++
  [
    ⟨.GPIO_PCFG, 0x40031000, 8, 0x80, 32, 4, [⟨31, 31, .ro, 0x0⟩, ⟨27, 26, .rw, 0x2⟩, ⟨25, 24, .rw, 0x1⟩, ⟨23, 22, .rw, 0x0⟩, ⟨21, 21, .rw, 0x0⟩, ⟨20, 20, .rw, 0x0⟩, ⟨16, 16, .rw, 0x0⟩, ⟨3, 0, .rw, 0x0⟩]⟩ ]

/-! ## PBS -/

namespace R

/-- PBS_CTRL: control (20_power_budget_scheduler.md). -/
def PBS_CTRL : Nat := 0x40800000
def PBS_CTRL_LINKIRQ : Fld := ⟨PBS_CTRL, 2, 2⟩
def PBS_CTRL_OVRIRQ : Fld := ⟨PBS_CTRL, 1, 1⟩
def PBS_CTRL_EN : Fld := ⟨PBS_CTRL, 0, 0⟩
/-- PBS_STAT: status (20_power_budget_scheduler.md). -/
def PBS_STAT : Nat := 0x40800004
def PBS_STAT_PERMIT : Fld := ⟨PBS_STAT, 6, 6⟩
def PBS_STAT_HEADRES : Fld := ⟨PBS_STAT, 5, 5⟩
def PBS_STAT_FALLBACK : Fld := ⟨PBS_STAT, 4, 4⟩
def PBS_STAT_SHARELOSS : Fld := ⟨PBS_STAT, 3, 3⟩
def PBS_STAT_SHED : Fld := ⟨PBS_STAT, 2, 2⟩
def PBS_STAT_OVRD : Fld := ⟨PBS_STAT, 1, 1⟩
def PBS_STAT_CFGREF : Fld := ⟨PBS_STAT, 0, 0⟩
/-- PBS_FEED: feed limit (20_power_budget_scheduler.md). -/
def PBS_FEED : Nat := 0x40800008
def PBS_FEED_LIMIT : Fld := ⟨PBS_FEED, 19, 0⟩
/-- PBS_ILIM: current limit (20_power_budget_scheduler.md). -/
def PBS_ILIM : Nat := 0x4080000C
def PBS_ILIM_WIN : Fld := ⟨PBS_ILIM, 31, 16⟩
def PBS_ILIM_ILIM : Fld := ⟨PBS_ILIM, 15, 0⟩
/-- PBS_SHED: shedding limits (20_power_budget_scheduler.md). -/
def PBS_SHED : Nat := 0x40800010
def PBS_SHED_SHEDLIM : Fld := ⟨PBS_SHED, 31, 16⟩
def PBS_SHED_RECOVER : Fld := ⟨PBS_SHED, 15, 0⟩
/-- PBS_BASE: unmanaged load (20_power_budget_scheduler.md). -/
def PBS_BASE : Nat := 0x40800014
def PBS_BASE_BASE : Fld := ⟨PBS_BASE, 19, 0⟩
/-- PBS_PH: phase channels (20_power_budget_scheduler.md). -/
def PBS_PH (n : Nat) : Nat := 0x40800020 + 0x4 * n
def PBS_PH_EN (n : Nat) : Fld := ⟨PBS_PH n, 31, 31⟩
def PBS_PH_VCH (n : Nat) : Fld := ⟨PBS_PH n, 7, 4⟩
def PBS_PH_ICH (n : Nat) : Fld := ⟨PBS_PH n, 3, 0⟩
/-- PBS_PHSC: phase scales (20_power_budget_scheduler.md). -/
def PBS_PHSC (n : Nat) : Nat := 0x40800030 + 0x4 * n
def PBS_PHSC_VFS (n : Nat) : Fld := ⟨PBS_PHSC n, 31, 16⟩
def PBS_PHSC_IFS (n : Nat) : Fld := ⟨PBS_PHSC n, 15, 0⟩
/-- PBS_MEAS: measured power (20_power_budget_scheduler.md). -/
def PBS_MEAS : Nat := 0x40800040
def PBS_MEAS_P : Fld := ⟨PBS_MEAS, 19, 0⟩
/-- PBS_IRMS: phase current (20_power_budget_scheduler.md). -/
def PBS_IRMS (n : Nat) : Nat := 0x40800044 + 0x4 * n
def PBS_IRMS_I (n : Nat) : Fld := ⟨PBS_IRMS n, 15, 0⟩
/-- PBS_UNACC: unaccounted draw (20_power_budget_scheduler.md). -/
def PBS_UNACC : Nat := 0x40800050
def PBS_UNACC_W : Fld := ⟨PBS_UNACC, 19, 0⟩
/-- PBS_BUDGET: budget in force (20_power_budget_scheduler.md). -/
def PBS_BUDGET : Nat := 0x40800054
def PBS_BUDGET_B : Fld := ⟨PBS_BUDGET, 19, 0⟩
/-- PBS_HEAD: head power (20_power_budget_scheduler.md). -/
def PBS_HEAD : Nat := 0x40800060
def PBS_HEAD_TEN : Fld := ⟨PBS_HEAD, 31, 31⟩
def PBS_HEAD_TSEL : Fld := ⟨PBS_HEAD, 30, 28⟩
def PBS_HEAD_PHEAD : Fld := ⟨PBS_HEAD, 19, 0⟩
/-- PBS_SHARE: share group (20_power_budget_scheduler.md). -/
def PBS_SHARE : Nat := 0x40800070
def PBS_SHARE_ROLE : Fld := ⟨PBS_SHARE, 31, 30⟩
def PBS_SHARE_GROUP : Fld := ⟨PBS_SHARE, 27, 20⟩
def PBS_SHARE_MEMBER : Fld := ⟨PBS_SHARE, 19, 16⟩
/-- PBS_SHFB: fallback share (20_power_budget_scheduler.md). -/
def PBS_SHFB : Nat := 0x40800074
def PBS_SHFB_FALLBACK : Fld := ⟨PBS_SHFB, 19, 0⟩
/-- PBS_SHFL: floor (20_power_budget_scheduler.md). -/
def PBS_SHFL : Nat := 0x40800078
def PBS_SHFL_FLOOR : Fld := ⟨PBS_SHFL, 19, 0⟩
/-- PBS_SHLIM: share in force (20_power_budget_scheduler.md). -/
def PBS_SHLIM : Nat := 0x4080007C
def PBS_SHLIM_VALID : Fld := ⟨PBS_SHLIM, 31, 31⟩
def PBS_SHLIM_S : Fld := ⟨PBS_SHLIM, 19, 0⟩
/-- PBS_TSRC: temperature source (20_power_budget_scheduler.md). -/
def PBS_TSRC (n : Nat) : Nat := 0x40800100 + 0x10 * n
def PBS_TSRC_KIND (n : Nat) : Fld := ⟨PBS_TSRC n, 31, 28⟩
def PBS_TSRC_INDEX (n : Nat) : Fld := ⟨PBS_TSRC n, 20, 16⟩
def PBS_TSRC_SCALE (n : Nat) : Fld := ⟨PBS_TSRC n, 15, 0⟩
/-- PBS_TOFS: temperature offset (20_power_budget_scheduler.md). -/
def PBS_TOFS (n : Nat) : Nat := 0x40800104 + 0x10 * n
def PBS_TOFS_OFS (n : Nat) : Fld := ⟨PBS_TOFS n, 15, 0⟩
/-- PBS_TLIM: derating limits (20_power_budget_scheduler.md). -/
def PBS_TLIM (n : Nat) : Nat := 0x40800108 + 0x10 * n
def PBS_TLIM_TMAX (n : Nat) : Fld := ⟨PBS_TLIM n, 31, 16⟩
def PBS_TLIM_TDER (n : Nat) : Fld := ⟨PBS_TLIM n, 15, 0⟩
/-- PBS_TVAL: temperature (20_power_budget_scheduler.md). -/
def PBS_TVAL (n : Nat) : Nat := 0x4080010C + 0x10 * n
def PBS_TVAL_STALE (n : Nat) : Fld := ⟨PBS_TVAL n, 31, 31⟩
def PBS_TVAL_T (n : Nat) : Fld := ⟨PBS_TVAL n, 15, 0⟩
/-- PBS_CLS: class configuration (20_power_budget_scheduler.md). -/
def PBS_CLS (n : Nat) : Nat := 0x40801000 + 0x10 * n
def PBS_CLS_EN (n : Nat) : Fld := ⟨PBS_CLS n, 31, 31⟩
def PBS_CLS_PRIO (n : Nat) : Fld := ⟨PBS_CLS n, 30, 28⟩
def PBS_CLS_DEFER (n : Nat) : Fld := ⟨PBS_CLS n, 27, 27⟩
def PBS_CLS_AUTO (n : Nat) : Fld := ⟨PBS_CLS n, 26, 26⟩
def PBS_CLS_TEN (n : Nat) : Fld := ⟨PBS_CLS n, 25, 25⟩
def PBS_CLS_TSEL (n : Nat) : Fld := ⟨PBS_CLS n, 24, 22⟩
def PBS_CLS_PMAX (n : Nat) : Fld := ⟨PBS_CLS n, 19, 0⟩
/-- PBS_CMIN: minimum and deferral (20_power_budget_scheduler.md). -/
def PBS_CMIN (n : Nat) : Nat := 0x40801004 + 0x10 * n
def PBS_CMIN_MAXDEF (n : Nat) : Fld := ⟨PBS_CMIN n, 31, 20⟩
def PBS_CMIN_PMIN (n : Nat) : Fld := ⟨PBS_CMIN n, 19, 0⟩
/-- PBS_REQ: request (20_power_budget_scheduler.md). -/
def PBS_REQ (n : Nat) : Nat := 0x40801008 + 0x10 * n
def PBS_REQ_REQ (n : Nat) : Fld := ⟨PBS_REQ n, 19, 0⟩
/-- PBS_GNT: grant in force (20_power_budget_scheduler.md). -/
def PBS_GNT (n : Nat) : Nat := 0x4080100C + 0x10 * n
def PBS_GNT_DEFCNT (n : Nat) : Fld := ⟨PBS_GNT n, 31, 16⟩
def PBS_GNT_G (n : Nat) : Fld := ⟨PBS_GNT n, 15, 0⟩

end R

/-- The registers of PBS. -/
def regsPBS : List RegDesc :=
  [
    ⟨.PBS_CTRL, 0x40800000, 1, 0x0, 1, 0, [⟨2, 2, .rw, 0x0⟩, ⟨1, 1, .rw, 0x0⟩, ⟨0, 0, .rw, 0x0⟩]⟩,
    ⟨.PBS_STAT, 0x40800004, 1, 0x0, 1, 0, [⟨6, 6, .ro, 0x0⟩, ⟨5, 5, .ro, 0x0⟩, ⟨4, 4, .ro, 0x0⟩, ⟨3, 3, .w1c, 0x0⟩, ⟨2, 2, .ro, 0x0⟩, ⟨1, 1, .w1c, 0x0⟩, ⟨0, 0, .w1c, 0x0⟩]⟩,
    ⟨.PBS_FEED, 0x40800008, 1, 0x0, 1, 0, [⟨19, 0, .rw, 0x0⟩]⟩,
    ⟨.PBS_ILIM, 0x4080000C, 1, 0x0, 1, 0, [⟨31, 16, .rw, 0x320⟩, ⟨15, 0, .rw, 0xFFFF⟩]⟩,
    ⟨.PBS_SHED, 0x40800010, 1, 0x0, 1, 0, [⟨31, 16, .rw, 0xFA0⟩, ⟨15, 0, .rw, 0x190⟩]⟩,
    ⟨.PBS_BASE, 0x40800014, 1, 0x0, 1, 0, [⟨19, 0, .rw, 0x0⟩]⟩,
    ⟨.PBS_PH, 0x40800020, 3, 0x4, 1, 0, [⟨31, 31, .rw, 0x0⟩, ⟨7, 4, .rw, 0x0⟩, ⟨3, 0, .rw, 0x0⟩]⟩,
    ⟨.PBS_PHSC, 0x40800030, 3, 0x4, 1, 0, [⟨31, 16, .rw, 0x0⟩, ⟨15, 0, .rw, 0x0⟩]⟩,
    ⟨.PBS_MEAS, 0x40800040, 1, 0x0, 1, 0, [⟨19, 0, .ro, 0x0⟩]⟩,
    ⟨.PBS_IRMS, 0x40800044, 3, 0x4, 1, 0, [⟨15, 0, .ro, 0x0⟩]⟩,
    ⟨.PBS_UNACC, 0x40800050, 1, 0x0, 1, 0, [⟨19, 0, .ro, 0x0⟩]⟩,
    ⟨.PBS_BUDGET, 0x40800054, 1, 0x0, 1, 0, [⟨19, 0, .ro, 0x0⟩]⟩ ] ++
  [
    ⟨.PBS_HEAD, 0x40800060, 1, 0x0, 1, 0, [⟨31, 31, .rw, 0x0⟩, ⟨30, 28, .rw, 0x0⟩, ⟨19, 0, .rw, 0x0⟩]⟩,
    ⟨.PBS_SHARE, 0x40800070, 1, 0x0, 1, 0, [⟨31, 30, .rw, 0x0⟩, ⟨27, 20, .rw, 0x0⟩, ⟨19, 16, .rw, 0x0⟩]⟩,
    ⟨.PBS_SHFB, 0x40800074, 1, 0x0, 1, 0, [⟨19, 0, .rw, 0x0⟩]⟩,
    ⟨.PBS_SHFL, 0x40800078, 1, 0x0, 1, 0, [⟨19, 0, .rw, 0x0⟩]⟩,
    ⟨.PBS_SHLIM, 0x4080007C, 1, 0x0, 1, 0, [⟨31, 31, .ro, 0x0⟩, ⟨19, 0, .ro, 0x0⟩]⟩,
    ⟨.PBS_TSRC, 0x40800100, 8, 0x10, 1, 0, [⟨31, 28, .rw, 0x0⟩, ⟨20, 16, .rw, 0x0⟩, ⟨15, 0, .rw, 0x0⟩]⟩,
    ⟨.PBS_TOFS, 0x40800104, 8, 0x10, 1, 0, [⟨15, 0, .rw, 0x0⟩]⟩,
    ⟨.PBS_TLIM, 0x40800108, 8, 0x10, 1, 0, [⟨31, 16, .rw, 0x7FFF⟩, ⟨15, 0, .rw, 0x7FFE⟩]⟩,
    ⟨.PBS_TVAL, 0x4080010C, 8, 0x10, 1, 0, [⟨31, 31, .ro, 0x0⟩, ⟨15, 0, .ro, 0x0⟩]⟩,
    ⟨.PBS_CLS, 0x40801000, 32, 0x10, 1, 0, [⟨31, 31, .rw, 0x0⟩, ⟨30, 28, .rw, 0x0⟩, ⟨27, 27, .rw, 0x0⟩, ⟨26, 26, .rw, 0x0⟩, ⟨25, 25, .rw, 0x0⟩, ⟨24, 22, .rw, 0x0⟩, ⟨19, 0, .rw, 0x0⟩]⟩,
    ⟨.PBS_CMIN, 0x40801004, 32, 0x10, 1, 0, [⟨31, 20, .rw, 0x0⟩, ⟨19, 0, .rw, 0x0⟩]⟩,
    ⟨.PBS_REQ, 0x40801008, 32, 0x10, 1, 0, [⟨19, 0, .rw, 0x0⟩]⟩ ] ++
  [
    ⟨.PBS_GNT, 0x4080100C, 32, 0x10, 1, 0, [⟨31, 16, .ro, 0x0⟩, ⟨15, 0, .ro, 0x8000⟩]⟩ ]

/-! ## JRNL -/

namespace R

/-- JRNL_CTRL: journal control (21_work_journal.md). -/
def JRNL_CTRL : Nat := 0x40900000
def JRNL_CTRL_ACCEPT : Fld := ⟨JRNL_CTRL, 31, 31⟩
def JRNL_CTRL_ABANDON : Fld := ⟨JRNL_CTRL, 30, 30⟩
def JRNL_CTRL_RETIRQ : Fld := ⟨JRNL_CTRL, 2, 2⟩
def JRNL_CTRL_ORDIRQ : Fld := ⟨JRNL_CTRL, 1, 1⟩
def JRNL_CTRL_DEFIRQ : Fld := ⟨JRNL_CTRL, 0, 0⟩
/-- JRNL_STAT: journal status (21_work_journal.md). -/
def JRNL_STAT : Nat := 0x40900004
def JRNL_STAT_ARES : Fld := ⟨JRNL_STAT, 11, 8⟩
def JRNL_STAT_ABUSY : Fld := ⟨JRNL_STAT, 7, 7⟩
def JRNL_STAT_ORDERR : Fld := ⟨JRNL_STAT, 6, 6⟩
def JRNL_STAT_DEFECT : Fld := ⟨JRNL_STAT, 5, 5⟩
def JRNL_STAT_RETIRED : Fld := ⟨JRNL_STAT, 4, 4⟩
def JRNL_STAT_FULL : Fld := ⟨JRNL_STAT, 3, 3⟩
def JRNL_STAT_DRAIN : Fld := ⟨JRNL_STAT, 2, 2⟩
def JRNL_STAT_PEND : Fld := ⟨JRNL_STAT, 1, 1⟩
def JRNL_STAT_CFGREF : Fld := ⟨JRNL_STAT, 0, 0⟩
/-- JRNL_ASEQ: order to accept (21_work_journal.md). -/
def JRNL_ASEQ : Nat := 0x40900008
def JRNL_ASEQ_SEQ : Fld := ⟨JRNL_ASEQ, 31, 0⟩
/-- JRNL_ANSW: swath count (21_work_journal.md). -/
def JRNL_ANSW : Nat := 0x4090000C
def JRNL_ANSW_COUNT : Fld := ⟨JRNL_ANSW, 15, 0⟩
/-- JRNL_ADIG: digest (21_work_journal.md). -/
def JRNL_ADIG : Nat := 0x40900010
def JRNL_ADIG_DIG : Fld := ⟨JRNL_ADIG, 31, 0⟩
/-- JRNL_TOKL: token, low word (21_work_journal.md). -/
def JRNL_TOKL : Nat := 0x40900014
def JRNL_TOKL_SEQ : Fld := ⟨JRNL_TOKL, 31, 0⟩
/-- JRNL_TOKH: token, high word (21_work_journal.md). -/
def JRNL_TOKH : Nat := 0x40900018
def JRNL_TOKH_ASN : Fld := ⟨JRNL_TOKH, 31, 0⟩
/-- JRNL_LASTACC: last accepted order (21_work_journal.md). -/
def JRNL_LASTACC : Nat := 0x4090001C
def JRNL_LASTACC_SEQ : Fld := ⟨JRNL_LASTACC, 31, 0⟩
/-- JRNL_LASTRET: last retired order (21_work_journal.md). -/
def JRNL_LASTRET : Nat := 0x40900020
def JRNL_LASTRET_SEQ : Fld := ⟨JRNL_LASTRET, 31, 0⟩
/-- JRNL_PENDJSN: pending swath (21_work_journal.md). -/
def JRNL_PENDJSN : Nat := 0x40900024
def JRNL_PENDJSN_VALID : Fld := ⟨JRNL_PENDJSN, 31, 31⟩
def JRNL_PENDJSN_JSN : Fld := ⟨JRNL_PENDJSN, 23, 0⟩
/-- JRNL_PENDORD: pending order (21_work_journal.md). -/
def JRNL_PENDORD : Nat := 0x40900028
def JRNL_PENDORD_SEQ : Fld := ⟨JRNL_PENDORD, 31, 0⟩
/-- JRNL_PENDSW: pending swath index (21_work_journal.md). -/
def JRNL_PENDSW : Nat := 0x4090002C
def JRNL_PENDSW_SWATH : Fld := ⟨JRNL_PENDSW, 15, 0⟩
/-- JRNL_PENDDSCL: pending descriptor, low word (21_work_journal.md). -/
def JRNL_PENDDSCL : Nat := 0x40900030
def JRNL_PENDDSCL_ADDR : Fld := ⟨JRNL_PENDDSCL, 31, 6⟩
/-- JRNL_PENDDSCH: pending descriptor, high word (21_work_journal.md). -/
def JRNL_PENDDSCH : Nat := 0x40900034
def JRNL_PENDDSCH_ADDR : Fld := ⟨JRNL_PENDDSCH, 7, 0⟩
/-- JRNL_NEXTORD: expected order (21_work_journal.md). -/
def JRNL_NEXTORD : Nat := 0x40900038
def JRNL_NEXTORD_SEQ : Fld := ⟨JRNL_NEXTORD, 31, 0⟩
/-- JRNL_NEXTSW: expected swath (21_work_journal.md). -/
def JRNL_NEXTSW : Nat := 0x4090003C
def JRNL_NEXTSW_VALID : Fld := ⟨JRNL_NEXTSW, 31, 31⟩
def JRNL_NEXTSW_SWATH : Fld := ⟨JRNL_NEXTSW, 15, 0⟩
/-- JRNL_SEALCNT: last seal (21_work_journal.md). -/
def JRNL_SEALCNT : Nat := 0x40900040
def JRNL_SEALCNT_CUE : Fld := ⟨JRNL_SEALCNT, 31, 0⟩
/-- JRNL_DEFCNT: defective swaths (21_work_journal.md). -/
def JRNL_DEFCNT : Nat := 0x40900044
def JRNL_DEFCNT_CNT : Fld := ⟨JRNL_DEFCNT, 31, 0⟩
/-- JRNL_CV: capture of context k, low word (21_work_journal.md). -/
def JRNL_CV (n : Nat) : Nat := 0x40908000 + 0x8 * n
def JRNL_CV_NEXT (n : Nat) : Fld := ⟨JRNL_CV n, 20, 0⟩
/-- JRNL_CVH: capture of context k, high word (21_work_journal.md). -/
def JRNL_CVH (n : Nat) : Nat := 0x40908004 + 0x8 * n
def JRNL_CVH_JSN (n : Nat) : Fld := ⟨JRNL_CVH n, 31, 8⟩

end R

/-- The registers of JRNL. -/
def regsJRNL : List RegDesc :=
  [
    ⟨.JRNL_CTRL, 0x40900000, 1, 0x0, 1, 0, [⟨31, 31, .wo, 0x0⟩, ⟨30, 30, .wo, 0x0⟩, ⟨2, 2, .rw, 0x0⟩, ⟨1, 1, .rw, 0x0⟩, ⟨0, 0, .rw, 0x0⟩]⟩,
    ⟨.JRNL_STAT, 0x40900004, 1, 0x0, 1, 0, [⟨11, 8, .ro, 0x0⟩, ⟨7, 7, .ro, 0x0⟩, ⟨6, 6, .w1c, 0x0⟩, ⟨5, 5, .w1c, 0x0⟩, ⟨4, 4, .w1c, 0x0⟩, ⟨3, 3, .ro, 0x0⟩, ⟨2, 2, .ro, 0x0⟩, ⟨1, 1, .ro, 0x0⟩, ⟨0, 0, .w1c, 0x0⟩]⟩,
    ⟨.JRNL_ASEQ, 0x40900008, 1, 0x0, 1, 0, [⟨31, 0, .rw, 0x0⟩]⟩,
    ⟨.JRNL_ANSW, 0x4090000C, 1, 0x0, 1, 0, [⟨15, 0, .rw, 0x0⟩]⟩,
    ⟨.JRNL_ADIG, 0x40900010, 1, 0x0, 1, 0, [⟨31, 0, .rw, 0x0⟩]⟩,
    ⟨.JRNL_TOKL, 0x40900014, 1, 0x0, 1, 0, [⟨31, 0, .ro, 0x0⟩]⟩,
    ⟨.JRNL_TOKH, 0x40900018, 1, 0x0, 1, 0, [⟨31, 0, .ro, 0x0⟩]⟩,
    ⟨.JRNL_LASTACC, 0x4090001C, 1, 0x0, 1, 0, [⟨31, 0, .ro, 0x0⟩]⟩,
    ⟨.JRNL_LASTRET, 0x40900020, 1, 0x0, 1, 0, [⟨31, 0, .ro, 0x0⟩]⟩,
    ⟨.JRNL_PENDJSN, 0x40900024, 1, 0x0, 1, 0, [⟨31, 31, .ro, 0x0⟩, ⟨23, 0, .ro, 0x0⟩]⟩,
    ⟨.JRNL_PENDORD, 0x40900028, 1, 0x0, 1, 0, [⟨31, 0, .ro, 0x0⟩]⟩,
    ⟨.JRNL_PENDSW, 0x4090002C, 1, 0x0, 1, 0, [⟨15, 0, .ro, 0x0⟩]⟩ ] ++
  [
    ⟨.JRNL_PENDDSCL, 0x40900030, 1, 0x0, 1, 0, [⟨31, 6, .ro, 0x0⟩]⟩,
    ⟨.JRNL_PENDDSCH, 0x40900034, 1, 0x0, 1, 0, [⟨7, 0, .ro, 0x0⟩]⟩,
    ⟨.JRNL_NEXTORD, 0x40900038, 1, 0x0, 1, 0, [⟨31, 0, .ro, 0x0⟩]⟩,
    ⟨.JRNL_NEXTSW, 0x4090003C, 1, 0x0, 1, 0, [⟨31, 31, .ro, 0x0⟩, ⟨15, 0, .ro, 0x0⟩]⟩,
    ⟨.JRNL_SEALCNT, 0x40900040, 1, 0x0, 1, 0, [⟨31, 0, .ro, 0x0⟩]⟩,
    ⟨.JRNL_DEFCNT, 0x40900044, 1, 0x0, 1, 0, [⟨31, 0, .rc, 0x0⟩]⟩,
    ⟨.JRNL_CV, 0x40908000, 4096, 0x8, 1, 0, [⟨20, 0, .ro, 0x0⟩]⟩,
    ⟨.JRNL_CVH, 0x40908004, 4096, 0x8, 1, 0, [⟨31, 8, .ro, 0x0⟩]⟩ ]

/-! ## HOST -/

namespace R

/-- HOST_CTRL: interface control (22_host_and_byrov.md). -/
def HOST_CTRL : Nat := 0x40A00000
def HOST_CTRL_CQIRQ : Fld := ⟨HOST_CTRL, 4, 4⟩
def HOST_CTRL_USB : Fld := ⟨HOST_CTRL, 3, 3⟩
def HOST_CTRL_ETH1 : Fld := ⟨HOST_CTRL, 2, 2⟩
def HOST_CTRL_ETH0 : Fld := ⟨HOST_CTRL, 1, 1⟩
def HOST_CTRL_PCIE : Fld := ⟨HOST_CTRL, 0, 0⟩
/-- HOST_STAT: interface status (22_host_and_byrov.md). -/
def HOST_STAT : Nat := 0x40A00004
def HOST_STAT_DISC : Fld := ⟨HOST_STAT, 31, 16⟩
def HOST_STAT_BARERR : Fld := ⟨HOST_STAT, 2, 2⟩
def HOST_STAT_CFGREF : Fld := ⟨HOST_STAT, 1, 1⟩
/-- HOST_CFG: session timing (22_host_and_byrov.md). -/
def HOST_CFG : Nat := 0x40A00008
def HOST_CFG_IDLE : Fld := ⟨HOST_CFG, 15, 0⟩
/-- HOST_BUFBASE: session buffers (22_host_and_byrov.md). -/
def HOST_BUFBASE : Nat := 0x40A0000C
def HOST_BUFBASE_ADDR : Fld := ⟨HOST_BUFBASE, 31, 21⟩
/-- HOST_CQ: command queue (22_host_and_byrov.md). -/
def HOST_CQ : Nat := 0x40A00010
def HOST_CQ_VALID : Fld := ⟨HOST_CQ, 31, 31⟩
def HOST_CQ_POP : Fld := ⟨HOST_CQ, 30, 30⟩
def HOST_CQ_SESS : Fld := ⟨HOST_CQ, 5, 0⟩
/-- HOST_RSP: send (22_host_and_byrov.md). -/
def HOST_RSP : Nat := 0x40A00014
def HOST_RSP_GO : Fld := ⟨HOST_RSP, 31, 31⟩
def HOST_RSP_NOTIFY : Fld := ⟨HOST_RSP, 30, 30⟩
def HOST_RSP_SESS : Fld := ⟨HOST_RSP, 5, 0⟩
/-- HOST_LONG: long operation (22_host_and_byrov.md). -/
def HOST_LONG : Nat := 0x40A00018
def HOST_LONG_BUSY : Fld := ⟨HOST_LONG, 31, 31⟩
def HOST_LONG_SESS : Fld := ⟨HOST_LONG, 29, 24⟩
def HOST_LONG_OPC : Fld := ⟨HOST_LONG, 23, 16⟩
def HOST_LONG_OPNUM : Fld := ⟨HOST_LONG, 15, 0⟩
/-- HOST_MACL: MAC address, low word (22_host_and_byrov.md). -/
def HOST_MACL (n : Nat) : Nat := 0x40A00020 + 0x10 * n
def HOST_MACL_MAC (n : Nat) : Fld := ⟨HOST_MACL n, 31, 0⟩
/-- HOST_MACH: MAC address, high word (22_host_and_byrov.md). -/
def HOST_MACH (n : Nat) : Nat := 0x40A00024 + 0x10 * n
def HOST_MACH_MAC (n : Nat) : Fld := ⟨HOST_MACH n, 15, 0⟩
/-- HOST_IP: IPv4 address (22_host_and_byrov.md). -/
def HOST_IP (n : Nat) : Nat := 0x40A00028 + 0x10 * n
def HOST_IP_IP (n : Nat) : Fld := ⟨HOST_IP n, 31, 0⟩
/-- HOST_TS0: PTP timestamp queue, word 0 (22_host_and_byrov.md). -/
def HOST_TS0 (n : Nat) : Nat := 0x40A00040 + 0x10 * n
def HOST_TS0_TSL (n : Nat) : Fld := ⟨HOST_TS0 n, 31, 0⟩
/-- HOST_TS1: PTP timestamp queue, word 1 (22_host_and_byrov.md). -/
def HOST_TS1 (n : Nat) : Nat := 0x40A00044 + 0x10 * n
def HOST_TS1_TSH (n : Nat) : Fld := ⟨HOST_TS1 n, 31, 0⟩
/-- HOST_TS2: PTP timestamp queue, word 2 (22_host_and_byrov.md). -/
def HOST_TS2 (n : Nat) : Nat := 0x40A00048 + 0x10 * n
def HOST_TS2_VALID (n : Nat) : Fld := ⟨HOST_TS2 n, 31, 31⟩
def HOST_TS2_TX (n : Nat) : Fld := ⟨HOST_TS2 n, 30, 30⟩
def HOST_TS2_FINE (n : Nat) : Fld := ⟨HOST_TS2 n, 19, 16⟩
def HOST_TS2_SEQID (n : Nat) : Fld := ⟨HOST_TS2 n, 15, 0⟩
/-- HOST_SESS: session entry (22_host_and_byrov.md). -/
def HOST_SESS (n : Nat) : Nat := 0x40A01000 + 0x4 * n
def HOST_SESS_STATE (n : Nat) : Fld := ⟨HOST_SESS n, 31, 30⟩
def HOST_SESS_ROLE (n : Nat) : Fld := ⟨HOST_SESS n, 29, 28⟩
def HOST_SESS_IF (n : Nat) : Fld := ⟨HOST_SESS n, 27, 26⟩
def HOST_SESS_SEQ (n : Nat) : Fld := ⟨HOST_SESS n, 15, 0⟩

end R

/-- The registers of HOST. -/
def regsHOST : List RegDesc :=
  [
    ⟨.HOST_CTRL, 0x40A00000, 1, 0x0, 1, 0, [⟨4, 4, .rw, 0x0⟩, ⟨3, 3, .rw, 0x1⟩, ⟨2, 2, .rw, 0x0⟩, ⟨1, 1, .rw, 0x0⟩, ⟨0, 0, .rw, 0x1⟩]⟩,
    ⟨.HOST_STAT, 0x40A00004, 1, 0x0, 1, 0, [⟨31, 16, .rc, 0x0⟩, ⟨2, 2, .w1c, 0x0⟩, ⟨1, 1, .w1c, 0x0⟩]⟩,
    ⟨.HOST_CFG, 0x40A00008, 1, 0x0, 1, 0, [⟨15, 0, .rw, 0xC8⟩]⟩,
    ⟨.HOST_BUFBASE, 0x40A0000C, 1, 0x0, 1, 0, [⟨31, 21, .rw, 0x0⟩]⟩,
    ⟨.HOST_CQ, 0x40A00010, 1, 0x0, 1, 0, [⟨31, 31, .ro, 0x0⟩, ⟨30, 30, .wo, 0x0⟩, ⟨5, 0, .ro, 0x0⟩]⟩,
    ⟨.HOST_RSP, 0x40A00014, 1, 0x0, 1, 0, [⟨31, 31, .wo, 0x0⟩, ⟨30, 30, .wo, 0x0⟩, ⟨5, 0, .rw, 0x0⟩]⟩,
    ⟨.HOST_LONG, 0x40A00018, 1, 0x0, 1, 0, [⟨31, 31, .ro, 0x0⟩, ⟨29, 24, .ro, 0x0⟩, ⟨23, 16, .ro, 0x0⟩, ⟨15, 0, .ro, 0x0⟩]⟩,
    ⟨.HOST_MACL, 0x40A00020, 2, 0x10, 1, 0, [⟨31, 0, .rw, 0x0⟩]⟩,
    ⟨.HOST_MACH, 0x40A00024, 2, 0x10, 1, 0, [⟨15, 0, .rw, 0x0⟩]⟩,
    ⟨.HOST_IP, 0x40A00028, 2, 0x10, 1, 0, [⟨31, 0, .rw, 0x0⟩]⟩,
    ⟨.HOST_TS0, 0x40A00040, 2, 0x10, 1, 0, [⟨31, 0, .ro, 0x0⟩]⟩,
    ⟨.HOST_TS1, 0x40A00044, 2, 0x10, 1, 0, [⟨31, 0, .ro, 0x0⟩]⟩ ] ++
  [
    ⟨.HOST_TS2, 0x40A00048, 2, 0x10, 1, 0, [⟨31, 31, .ro, 0x0⟩, ⟨30, 30, .ro, 0x0⟩, ⟨19, 16, .ro, 0x0⟩, ⟨15, 0, .ro, 0x0⟩]⟩,
    ⟨.HOST_SESS, 0x40A01000, 64, 0x4, 1, 0, [⟨31, 30, .ro, 0x0⟩, ⟨29, 28, .ro, 0x0⟩, ⟨27, 26, .ro, 0x0⟩, ⟨15, 0, .ro, 0x0⟩]⟩ ]

/-! ## BYR -/

namespace R

/-- BYR_CTRL: ports (22_host_and_byrov.md). -/
def BYR_CTRL : Nat := 0x40B00000
def BYR_CTRL_IRQEN : Fld := ⟨BYR_CTRL, 3, 3⟩
def BYR_CTRL_BRANCH : Fld := ⟨BYR_CTRL, 2, 2⟩
def BYR_CTRL_WEST : Fld := ⟨BYR_CTRL, 1, 1⟩
def BYR_CTRL_EAST : Fld := ⟨BYR_CTRL, 0, 0⟩
/-- BYR_ADDR: node address (22_host_and_byrov.md). -/
def BYR_ADDR : Nat := 0x40B00004
def BYR_ADDR_ADDR : Fld := ⟨BYR_ADDR, 17, 0⟩
/-- BYR_STAT: fabric status (22_host_and_byrov.md). -/
def BYR_STAT : Nat := 0x40B00008
def BYR_STAT_EVREJ : Fld := ⟨BYR_STAT, 31, 16⟩
def BYR_STAT_TMO : Fld := ⟨BYR_STAT, 2, 2⟩
def BYR_STAT_DUP : Fld := ⟨BYR_STAT, 1, 1⟩
def BYR_STAT_CFGREF : Fld := ⟨BYR_STAT, 0, 0⟩
/-- BYR_TMO: remote timeout (22_host_and_byrov.md). -/
def BYR_TMO : Nat := 0x40B0000C
def BYR_TMO_US : Fld := ⟨BYR_TMO, 15, 0⟩
/-- BYR_RACC: remote access grants (22_host_and_byrov.md). -/
def BYR_RACC : Nat := 0x40B00010
def BYR_RACC_PMEM : Fld := ⟨BYR_RACC, 2, 2⟩
def BYR_RACC_DRAM : Fld := ⟨BYR_RACC, 1, 1⟩
def BYR_RACC_WM : Fld := ⟨BYR_RACC, 0, 0⟩
/-- BYR_MBASE: message ring (22_host_and_byrov.md). -/
def BYR_MBASE : Nat := 0x40B00014
def BYR_MBASE_ADDR : Fld := ⟨BYR_MBASE, 31, 17⟩
/-- BYR_MTX: send message (22_host_and_byrov.md). -/
def BYR_MTX : Nat := 0x40B00018
def BYR_MTX_GO : Fld := ⟨BYR_MTX, 31, 31⟩
def BYR_MTX_SLOT : Fld := ⟨BYR_MTX, 30, 24⟩
def BYR_MTX_DEST : Fld := ⟨BYR_MTX, 17, 0⟩
/-- BYR_MRX: received message (22_host_and_byrov.md). -/
def BYR_MRX : Nat := 0x40B0001C
def BYR_MRX_VALID : Fld := ⟨BYR_MRX, 31, 31⟩
def BYR_MRX_POP : Fld := ⟨BYR_MRX, 30, 30⟩
def BYR_MRX_SLOT : Fld := ⟨BYR_MRX, 29, 24⟩
def BYR_MRX_SRC : Fld := ⟨BYR_MRX, 17, 0⟩
/-- BYR_PORT: port status (22_host_and_byrov.md). -/
def BYR_PORT (n : Nat) : Nat := 0x40B00020 + 0x10 * n
def BYR_PORT_LINK (n : Nat) : Fld := ⟨BYR_PORT n, 31, 29⟩
def BYR_PORT_CAUSE (n : Nat) : Fld := ⟨BYR_PORT n, 28, 25⟩
def BYR_PORT_UPSTR (n : Nat) : Fld := ⟨BYR_PORT n, 24, 24⟩
def BYR_PORT_PEER (n : Nat) : Fld := ⟨BYR_PORT n, 17, 0⟩
/-- BYR_SKEW: asymmetry (22_host_and_byrov.md). -/
def BYR_SKEW (n : Nat) : Nat := 0x40B00024 + 0x10 * n
def BYR_SKEW_SKEW (n : Nat) : Fld := ⟨BYR_SKEW n, 15, 0⟩
/-- BYR_DLY: link delay (22_host_and_byrov.md). -/
def BYR_DLY (n : Nat) : Nat := 0x40B00028 + 0x10 * n
def BYR_DLY_DLY (n : Nat) : Fld := ⟨BYR_DLY n, 15, 0⟩
/-- BYR_ERRCNT: port errors (22_host_and_byrov.md). -/
def BYR_ERRCNT (n : Nat) : Nat := 0x40B0002C + 0x10 * n
def BYR_ERRCNT_CRC (n : Nat) : Fld := ⟨BYR_ERRCNT n, 31, 16⟩
def BYR_ERRCNT_SYNC (n : Nat) : Fld := ⟨BYR_ERRCNT n, 15, 0⟩
/-- BYR_EVOUT: remote event target (22_host_and_byrov.md). -/
def BYR_EVOUT (n : Nat) : Nat := 0x40B00100 + 0x4 * n
def BYR_EVOUT_V (n : Nat) : Fld := ⟨BYR_EVOUT n, 31, 31⟩
def BYR_EVOUT_REM (n : Nat) : Fld := ⟨BYR_EVOUT n, 22, 18⟩
def BYR_EVOUT_DEST (n : Nat) : Fld := ⟨BYR_EVOUT n, 17, 0⟩
/-- BYR_EVSRC: accepted source (22_host_and_byrov.md). -/
def BYR_EVSRC (n : Nat) : Nat := 0x40B00180 + 0x4 * n
def BYR_EVSRC_ANY (n : Nat) : Fld := ⟨BYR_EVSRC n, 31, 31⟩
def BYR_EVSRC_V (n : Nat) : Fld := ⟨BYR_EVSRC n, 30, 30⟩
def BYR_EVSRC_SRC (n : Nat) : Fld := ⟨BYR_EVSRC n, 17, 0⟩
/-- BYR_WINL: window target (22_host_and_byrov.md). -/
def BYR_WINL (n : Nat) : Nat := 0x40B01000 + 0x8 * n
def BYR_WINL_OPEN (n : Nat) : Fld := ⟨BYR_WINL n, 31, 31⟩
def BYR_WINL_NODE (n : Nat) : Fld := ⟨BYR_WINL n, 17, 0⟩
/-- BYR_WINH: window base (22_host_and_byrov.md). -/
def BYR_WINH (n : Nat) : Nat := 0x40B01004 + 0x8 * n
def BYR_WINH_BASE (n : Nat) : Fld := ⟨BYR_WINH n, 8, 0⟩

end R

/-- The registers of BYR. -/
def regsBYR : List RegDesc :=
  [
    ⟨.BYR_CTRL, 0x40B00000, 1, 0x0, 1, 0, [⟨3, 3, .rw, 0x0⟩, ⟨2, 2, .rw, 0x0⟩, ⟨1, 1, .rw, 0x0⟩, ⟨0, 0, .rw, 0x0⟩]⟩,
    ⟨.BYR_ADDR, 0x40B00004, 1, 0x0, 1, 0, [⟨17, 0, .rw, 0x0⟩]⟩,
    ⟨.BYR_STAT, 0x40B00008, 1, 0x0, 1, 0, [⟨31, 16, .rc, 0x0⟩, ⟨2, 2, .w1c, 0x0⟩, ⟨1, 1, .w1c, 0x0⟩, ⟨0, 0, .w1c, 0x0⟩]⟩,
    ⟨.BYR_TMO, 0x40B0000C, 1, 0x0, 1, 0, [⟨15, 0, .rw, 0x64⟩]⟩,
    ⟨.BYR_RACC, 0x40B00010, 1, 0x0, 1, 0, [⟨2, 2, .rw, 0x0⟩, ⟨1, 1, .rw, 0x0⟩, ⟨0, 0, .rw, 0x0⟩]⟩,
    ⟨.BYR_MBASE, 0x40B00014, 1, 0x0, 1, 0, [⟨31, 17, .rw, 0x0⟩]⟩,
    ⟨.BYR_MTX, 0x40B00018, 1, 0x0, 1, 0, [⟨31, 31, .wo, 0x0⟩, ⟨30, 24, .rw, 0x0⟩, ⟨17, 0, .rw, 0x0⟩]⟩,
    ⟨.BYR_MRX, 0x40B0001C, 1, 0x0, 1, 0, [⟨31, 31, .ro, 0x0⟩, ⟨30, 30, .wo, 0x0⟩, ⟨29, 24, .ro, 0x0⟩, ⟨17, 0, .ro, 0x0⟩]⟩,
    ⟨.BYR_PORT, 0x40B00020, 3, 0x10, 1, 0, [⟨31, 29, .ro, 0x0⟩, ⟨28, 25, .ro, 0x0⟩, ⟨24, 24, .ro, 0x0⟩, ⟨17, 0, .ro, 0x0⟩]⟩,
    ⟨.BYR_SKEW, 0x40B00024, 3, 0x10, 1, 0, [⟨15, 0, .rw, 0x0⟩]⟩,
    ⟨.BYR_DLY, 0x40B00028, 3, 0x10, 1, 0, [⟨15, 0, .ro, 0x0⟩]⟩,
    ⟨.BYR_ERRCNT, 0x40B0002C, 3, 0x10, 1, 0, [⟨31, 16, .rc, 0x0⟩, ⟨15, 0, .rc, 0x0⟩]⟩ ] ++
  [
    ⟨.BYR_EVOUT, 0x40B00100, 32, 0x4, 1, 0, [⟨31, 31, .rw, 0x0⟩, ⟨22, 18, .rw, 0x0⟩, ⟨17, 0, .rw, 0x0⟩]⟩,
    ⟨.BYR_EVSRC, 0x40B00180, 32, 0x4, 1, 0, [⟨31, 31, .rw, 0x0⟩, ⟨30, 30, .rw, 0x0⟩, ⟨17, 0, .rw, 0x0⟩]⟩,
    ⟨.BYR_WINL, 0x40B01000, 256, 0x8, 1, 0, [⟨31, 31, .rw, 0x0⟩, ⟨17, 0, .rw, 0x0⟩]⟩,
    ⟨.BYR_WINH, 0x40B01004, 256, 0x8, 1, 0, [⟨8, 0, .rw, 0x0⟩]⟩ ]

/-! ## UPD -/

namespace R

/-- UPD_CTRL: update control (23_updates_black_box_lifetime.md). -/
def UPD_CTRL : Nat := 0x40F10000
def UPD_CTRL_VERIFY : Fld := ⟨UPD_CTRL, 31, 31⟩
def UPD_CTRL_ACT : Fld := ⟨UPD_CTRL, 30, 30⟩
def UPD_CTRL_MODE : Fld := ⟨UPD_CTRL, 29, 29⟩
def UPD_CTRL_BANK : Fld := ⟨UPD_CTRL, 24, 24⟩
def UPD_CTRL_IRQEN : Fld := ⟨UPD_CTRL, 10, 10⟩
def UPD_CTRL_CHUNK : Fld := ⟨UPD_CTRL, 9, 0⟩
/-- UPD_STAT: update status (23_updates_black_box_lifetime.md). -/
def UPD_STAT : Nat := 0x40F10004
def UPD_STAT_BUSY : Fld := ⟨UPD_STAT, 31, 31⟩
def UPD_STAT_DONE : Fld := ⟨UPD_STAT, 30, 30⟩
def UPD_STAT_PASS : Fld := ⟨UPD_STAT, 29, 29⟩
def UPD_STAT_VCAUSE : Fld := ⟨UPD_STAT, 23, 20⟩
def UPD_STAT_ACAUSE : Fld := ⟨UPD_STAT, 19, 16⟩
def UPD_STAT_CFGREF : Fld := ⟨UPD_STAT, 3, 3⟩
def UPD_STAT_STAGED : Fld := ⟨UPD_STAT, 1, 1⟩
def UPD_STAT_ACTIVE : Fld := ⟨UPD_STAT, 0, 0⟩
/-- UPD_IMGS: image state (23_updates_black_box_lifetime.md). -/
def UPD_IMGS (n : Nat) : Nat := 0x40F10010 + 0x8 * n
def UPD_IMGS_HDROK (n : Nat) : Fld := ⟨UPD_IMGS n, 31, 31⟩
def UPD_IMGS_ALLOK (n : Nat) : Fld := ⟨UPD_IMGS n, 30, 30⟩
def UPD_IMGS_LEVEL (n : Nat) : Fld := ⟨UPD_IMGS n, 23, 16⟩
def UPD_IMGS_ACTCNT (n : Nat) : Fld := ⟨UPD_IMGS n, 15, 0⟩
/-- UPD_IMGV: image version (23_updates_black_box_lifetime.md). -/
def UPD_IMGV (n : Nat) : Nat := 0x40F10014 + 0x8 * n
def UPD_IMGV_VER (n : Nat) : Fld := ⟨UPD_IMGV n, 31, 0⟩
/-- UPD_CHAIN: next node (23_updates_black_box_lifetime.md). -/
def UPD_CHAIN : Nat := 0x40F10020
def UPD_CHAIN_V : Fld := ⟨UPD_CHAIN, 31, 31⟩
def UPD_CHAIN_NODE : Fld := ⟨UPD_CHAIN, 17, 0⟩

end R

/-- The registers of UPD. -/
def regsUPD : List RegDesc :=
  [
    ⟨.UPD_CTRL, 0x40F10000, 1, 0x0, 1, 0, [⟨31, 31, .wo, 0x0⟩, ⟨30, 30, .wo, 0x0⟩, ⟨29, 29, .rw, 0x0⟩, ⟨24, 24, .rw, 0x0⟩, ⟨10, 10, .rw, 0x0⟩, ⟨9, 0, .rw, 0x0⟩]⟩,
    ⟨.UPD_STAT, 0x40F10004, 1, 0x0, 1, 0, [⟨31, 31, .ro, 0x0⟩, ⟨30, 30, .w1c, 0x0⟩, ⟨29, 29, .ro, 0x0⟩, ⟨23, 20, .ro, 0x0⟩, ⟨19, 16, .ro, 0x0⟩, ⟨3, 3, .w1c, 0x0⟩, ⟨1, 1, .ro, 0x0⟩, ⟨0, 0, .ro, 0x0⟩]⟩,
    ⟨.UPD_IMGS, 0x40F10010, 2, 0x8, 1, 0, [⟨31, 31, .ro, 0x0⟩, ⟨30, 30, .ro, 0x0⟩, ⟨23, 16, .ro, 0x0⟩, ⟨15, 0, .ro, 0x0⟩]⟩,
    ⟨.UPD_IMGV, 0x40F10014, 2, 0x8, 1, 0, [⟨31, 0, .ro, 0x0⟩]⟩,
    ⟨.UPD_CHAIN, 0x40F10020, 1, 0x0, 1, 0, [⟨31, 31, .rw, 0x0⟩, ⟨17, 0, .rw, 0x0⟩]⟩ ]

/-! ## SEC -/

namespace R

/-- SEC_KEYSTAT: key slots (23_updates_black_box_lifetime.md). -/
def SEC_KEYSTAT : Nat := 0x40F20000
def SEC_KEYSTAT_SLOT0OK : Fld := ⟨SEC_KEYSTAT, 8, 8⟩
def SEC_KEYSTAT_REVOKED : Fld := ⟨SEC_KEYSTAT, 7, 4⟩
def SEC_KEYSTAT_PROG : Fld := ⟨SEC_KEYSTAT, 3, 0⟩
/-- SEC_DBG: debug access (23_updates_black_box_lifetime.md). -/
def SEC_DBG : Nat := 0x40F20004
def SEC_DBG_LOCK : Fld := ⟨SEC_DBG, 31, 31⟩
def SEC_DBG_REFUSED : Fld := ⟨SEC_DBG, 1, 1⟩
def SEC_DBG_PROBE : Fld := ⟨SEC_DBG, 0, 0⟩

end R

/-- The registers of SEC. -/
def regsSEC : List RegDesc :=
  [
    ⟨.SEC_KEYSTAT, 0x40F20000, 1, 0x0, 1, 0, [⟨8, 8, .ro, 0x0⟩, ⟨7, 4, .ro, 0x0⟩, ⟨3, 0, .ro, 0x0⟩]⟩,
    ⟨.SEC_DBG, 0x40F20004, 1, 0x0, 1, 0, [⟨31, 31, .w1s, 0x0⟩, ⟨1, 1, .w1c, 0x0⟩, ⟨0, 0, .ro, 0x0⟩]⟩ ]

/-! ## BBX -/

namespace R

/-- BBX_CTRL: black-box control (23_updates_black_box_lifetime.md). -/
def BBX_CTRL : Nat := 0x40F00000
def BBX_CTRL_WR : Fld := ⟨BBX_CTRL, 31, 31⟩
def BBX_CTRL_CALSET : Fld := ⟨BBX_CTRL, 30, 30⟩
def BBX_CTRL_LOSTIRQ : Fld := ⟨BBX_CTRL, 16, 16⟩
def BBX_CTRL_CODE : Fld := ⟨BBX_CTRL, 15, 0⟩
/-- BBX_STAT: black-box status (23_updates_black_box_lifetime.md). -/
def BBX_STAT : Nat := 0x40F00004
def BBX_STAT_LOST : Fld := ⟨BBX_STAT, 31, 16⟩
def BBX_STAT_FLUSHLAG : Fld := ⟨BBX_STAT, 3, 3⟩
def BBX_STAT_FLUSH : Fld := ⟨BBX_STAT, 2, 2⟩
def BBX_STAT_PIN : Fld := ⟨BBX_STAT, 1, 1⟩
def BBX_STAT_CFGREF : Fld := ⟨BBX_STAT, 0, 0⟩
/-- BBX_WDATA: record data (23_updates_black_box_lifetime.md). -/
def BBX_WDATA (n : Nat) : Nat := 0x40F00010 + 0x4 * n
def BBX_WDATA_DATA (n : Nat) : Fld := ⟨BBX_WDATA n, 31, 0⟩
/-- BBX_SERL: next serial, low word (23_updates_black_box_lifetime.md). -/
def BBX_SERL : Nat := 0x40F00030
def BBX_SERL_SER : Fld := ⟨BBX_SERL, 31, 0⟩
/-- BBX_SERH: next serial, high word (23_updates_black_box_lifetime.md). -/
def BBX_SERH : Nat := 0x40F00034
def BBX_SERH_SER : Fld := ⟨BBX_SERH, 31, 0⟩
/-- BBX_CALL: calendar, low word (23_updates_black_box_lifetime.md). -/
def BBX_CALL : Nat := 0x40F00040
def BBX_CALL_SEC : Fld := ⟨BBX_CALL, 31, 0⟩
/-- BBX_CALH: calendar, high word (23_updates_black_box_lifetime.md). -/
def BBX_CALH : Nat := 0x40F00044
def BBX_CALH_VALID : Fld := ⟨BBX_CALH, 31, 31⟩
def BBX_CALH_SEC : Fld := ⟨BBX_CALH, 7, 0⟩
/-- BBX_CALSETL: calendar load, low word (23_updates_black_box_lifetime.md). -/
def BBX_CALSETL : Nat := 0x40F00048
def BBX_CALSETL_SEC : Fld := ⟨BBX_CALSETL, 31, 0⟩
/-- BBX_CALSETH: calendar load, high word (23_updates_black_box_lifetime.md). -/
def BBX_CALSETH : Nat := 0x40F0004C
def BBX_CALSETH_SEC : Fld := ⟨BBX_CALSETH, 7, 0⟩
/-- BBX_BOOTS: fresh boots (23_updates_black_box_lifetime.md). -/
def BBX_BOOTS : Nat := 0x40F00050
def BBX_BOOTS_CNT : Fld := ⟨BBX_BOOTS, 31, 0⟩

end R

/-- The registers of BBX. -/
def regsBBX : List RegDesc :=
  [
    ⟨.BBX_CTRL, 0x40F00000, 1, 0x0, 1, 0, [⟨31, 31, .wo, 0x0⟩, ⟨30, 30, .wo, 0x0⟩, ⟨16, 16, .rw, 0x0⟩, ⟨15, 0, .rw, 0x8000⟩]⟩,
    ⟨.BBX_STAT, 0x40F00004, 1, 0x0, 1, 0, [⟨31, 16, .rc, 0x0⟩, ⟨3, 3, .w1c, 0x0⟩, ⟨2, 2, .ro, 0x0⟩, ⟨1, 1, .ro, 0x0⟩, ⟨0, 0, .w1c, 0x0⟩]⟩,
    ⟨.BBX_WDATA, 0x40F00010, 6, 0x4, 1, 0, [⟨31, 0, .rw, 0x0⟩]⟩,
    ⟨.BBX_SERL, 0x40F00030, 1, 0x0, 1, 0, [⟨31, 0, .ro, 0x0⟩]⟩,
    ⟨.BBX_SERH, 0x40F00034, 1, 0x0, 1, 0, [⟨31, 0, .ro, 0x0⟩]⟩,
    ⟨.BBX_CALL, 0x40F00040, 1, 0x0, 1, 0, [⟨31, 0, .ro, 0x0⟩]⟩,
    ⟨.BBX_CALH, 0x40F00044, 1, 0x0, 1, 0, [⟨31, 31, .ro, 0x0⟩, ⟨7, 0, .ro, 0x0⟩]⟩,
    ⟨.BBX_CALSETL, 0x40F00048, 1, 0x0, 1, 0, [⟨31, 0, .rw, 0x0⟩]⟩,
    ⟨.BBX_CALSETH, 0x40F0004C, 1, 0x0, 1, 0, [⟨7, 0, .rw, 0x0⟩]⟩,
    ⟨.BBX_BOOTS, 0x40F00050, 1, 0x0, 1, 0, [⟨31, 0, .ro, 0x0⟩]⟩ ]

/-- The register row lists by block base (R147), in rising order. -/
def blockTable : List (Nat × List RegDesc) :=
  [(baseCUE, regsCUE),
   (baseCALL, regsCALL),
   (baseDMA, regsDMA),
   (baseGPIO, regsGPIO),
   (basePWM, regsPWM),
   (baseLOOP, regsLOOP),
   (baseAFE, regsAFE),
   (baseENC, regsENC),
   (baseDROP, regsDROP),
   (baseFIRE, regsFIRE),
   (baseJET, regsJET),
   (baseMTRK, regsMTRK),
   (basePBS, regsPBS),
   (baseJRNL, regsJRNL),
   (baseHOST, regsHOST),
   (baseBYR, regsBYR),
   (baseFLS, regsFLS),
   (basePMC, regsPMC),
   (baseDRC, regsDRC),
   (baseUSTD, regsUSTD),
   (baseSYS, regsSYS),
   (baseBBX, regsBBX),
   (baseUPD, regsUPD),
   (baseSEC, regsSEC)]

/-- The element (i, j) of row `d` that stands at address `a`, if any. -/
def RegDesc.index (d : RegDesc) (a : Nat) : Option (Nat × Nat) :=
  if a < d.start then none
  else
    let o := a - d.start
    let i := if d.s1 = 0 then 0 else min (o / d.s1) (d.n1 - 1)
    let r := o - i * d.s1
    let j := if d.s2 = 0 then 0 else r / d.s2
    if i < d.n1 ∧ j < d.n2 ∧ r = j * d.s2 then some (i, j) else none

/-- The row list of the block whose 64 KiB (PWM: 48 × 0x400 bytes) extent holds `a`, if any (R147). -/
def blockOf (a : Nat) : Option (Nat × List RegDesc) :=
  blockTable.find? fun b => b.1 ≤ a && a < b.1 + (if b.1 = basePWM then 0xC000 else 0x10000)

/-- The register at address `a`: its row and its element, if a register occupies the address (R10). -/
def regAt (a : Nat) : Option (RegDesc × Nat × Nat) :=
  match blockOf a with
  | none => none
  | some b => b.2.findSome? fun d => (d.index a).map fun p => (d, p.1, p.2)

/-- The reset value of a register made of its fields' reset values. -/
def RegDesc.resetValue (d : RegDesc) : Word :=
  d.fields.foldl (fun w f => w ||| BitVec.ofNat 32 (f.reset * 2 ^ f.lo)) 0#32

/-- What register address `a` holds after power-on reset; 0 where no register stands (R10). Pin P0.0 alone differs from
the field tables: FSEL 0xF, pull-up, owner secure (R430); the GAIN words and GEAR of a parameter block reset to 1.0 (R341). -/
def regReset (a : Nat) : Word :=
  if a = R.GPIO_PCFG 0 0 then 0x0A00000F#32
  else if a = R.GPIO_PxOWN 0 0 then 0x00000001#32
  else
    match regAt a with
    | none => 0#32
    | some (d, _, j) =>
      if d.id = .LOOP_SP ∧ (16 ≤ j ∧ j < 20 ∨ j = 34) then 0x01000000#32 else d.resetValue

end Sys2Proof.Machine
end

