-- ==== Sys2Proof/Machine/Bits.lean ====
section
/-!
DEFINITION. Bit fields, sign extension and byte order.
-/

namespace Sys2Proof.Machine

/-- Field [hi:lo] of a word, as a number. -/
def fieldOf (w : Word) (hi lo : Nat) : Nat := w.toNat / 2 ^ lo % 2 ^ (hi + 1 - lo)

/-- The mask of bits [hi:lo]. -/
def maskOf (hi lo : Nat) : Word := BitVec.ofNat 32 ((2 ^ (hi + 1 - lo) - 1) * 2 ^ lo)

/-- `w` with field [hi:lo] set to `v` modulo its width. -/
def putField (w : Word) (hi lo v : Nat) : Word :=
  (w &&& ~~~ maskOf hi lo) ||| (BitVec.ofNat 32 (v * 2 ^ lo) &&& maskOf hi lo)

/-- Bit `i` of a number. -/
def nbit (v i : Nat) : Bool := v.testBit i

/-- A number of `w` bits read as two's complement. -/
def sext (w v : Nat) : Int := if v % 2 ^ w < 2 ^ (w - 1) then (v % 2 ^ w : Nat) else (v % 2 ^ w : Nat) - (2 ^ w : Nat)

/-- An integer wrapped to `w` bits. -/
def wrap (w : Nat) (v : Int) : Nat := (v % (2 ^ w : Nat)).toNat

/-- An integer clamped to the signed range of `w` bits. -/
def clampS (w : Nat) (v : Int) : Int := max (-(2 ^ (w - 1) : Nat)) (min ((2 ^ (w - 1) : Nat) - 1) v)

/-- A number clamped to `w` bits. -/
def clampU (w v : Nat) : Nat := min v (2 ^ w - 1)

/-- The `n` bytes of a number, least significant first (R6). -/
def bytesLE : Nat → Nat → List Byte
  | 0, _ => []
  | n + 1, v => BitVec.ofNat 8 v :: bytesLE n (v / 256)

/-- The number that bytes spell, least significant first (R6). -/
def natLE : List Byte → Nat
  | [] => 0
  | b :: t => b.toNat + 256 * natLE t

/-- The number that bytes spell, most significant first. -/
def natBE (l : List Byte) : Nat := natLE l.reverse

/-- `n` bytes of `l` from offset `o`, as a number, least significant first; missing bytes count 0. -/
def leAt (l : List Byte) (o n : Nat) : Nat := natLE ((l.drop o).take n)

/-- Count of the bits of `v` below bit `w` that are 1. -/
def popCount : Nat → Nat → Nat
  | 0, _ => 0
  | w + 1, v => v % 2 + popCount w (v / 2)

/-- Round-half-up shift right of an integer by `n` bits. -/
def rshift (v : Int) (n : Nat) : Int := if n = 0 then v else (v + (2 ^ (n - 1) : Nat)) / (2 ^ n : Nat)

/-- One step of the digit-by-digit square root: `n` bits of root to come. -/
def isqrtStep : Nat → Nat → Nat → Nat
  | 0, _, r => r
  | n + 1, v, r => let c := r + 2 ^ n; isqrtStep n v (if c * c ≤ v then c else r)

/-- The integer square root of a number below 2^128. -/
def isqrt (v : Nat) : Nat := isqrtStep 64 v 0

/-- One bit step of CRC-32C, reflected polynomial 0x82F63B78 (R84). -/
def crc32cBit (c : Nat) : Nat := if c % 2 = 1 then (c / 2) ^^^ 0x82F63B78 else c / 2

/-- CRC-32C over one byte (R84). -/
def crc32cByte (c : Nat) (b : Byte) : Nat :=
  (List.range 8).foldl (fun c _ => crc32cBit c) (c ^^^ b.toNat)

/-- CRC-32C over bytes, no initial value and no final XOR (R84). -/
def crc32c (c : Nat) (l : List Byte) : Nat := l.foldl crc32cByte c

/-- CRC-32C with initial value and final XOR 0xFFFF_FFFF. -/
def crc32cFull (l : List Byte) : Nat := crc32c 0xFFFFFFFF l ^^^ 0xFFFFFFFF

/-- One bit step of the CRC with polynomial 0x1021, most significant bit first (R84). -/
def crc16Bit (c : Nat) : Nat := if c / 0x8000 % 2 = 1 then (c * 2 % 0x10000) ^^^ 0x1021 else c * 2 % 0x10000

/-- CRC-16 over one byte (R84). -/
def crc16Byte (c : Nat) (b : Byte) : Nat :=
  (List.range 8).foldl (fun c _ => crc16Bit c) (c ^^^ (b.toNat * 256))

/-- CRC-16 over bytes (R84). -/
def crc16 (c : Nat) (l : List Byte) : Nat := l.foldl crc16Byte c

end Sys2Proof.Machine
end

