-- ==== Sys2Proof/Syntax.lean ====
section
/-!
DEFINITION. The commands that the module takes: one constructor of Instr per row of spec/opcode_table.json, with the
operands that the row's rule names. Indices are Fin of the count that the spec gives the unit, so no ill index exists.
-/

namespace Sys2Proof

/-- An instruction stream: 0 to 3 the cue pairs (lead core 2n, R126), 4 to 7 the crew cores 8 to 11, 8 to 11 the house
cores 12 to 15. The understudy of a pair executes its lead's stream and is named by no command of its own (R127). -/
abbrev Hart := Fin 12

/-- The three planes (R22). -/
inductive Plane where
  | control
  | data
  | management
  deriving DecidableEq, Repr

/-- Who makes a bus access: a core (with the word of the load or store that makes it, for EINSTR), a DMA channel, a host
through HOST, a remote node through BYR, the ROM in BOOT and RECOVERY, or a hardware block of a plane on its own. -/
inductive Writer where
  | core (h : Hart) (instr : Word)
  | dma (ch : Fin 64)
  | host
  | byr
  | rom
  | block (p : Plane)
  deriving DecidableEq, Repr

/-- A 66-bit block without its sync header (R273, R504): control or data, and the 64-bit payload. -/
structure Blk where
  ctl : Bool
  payload : BitVec 64
  deriving DecidableEq, Repr

/-- A host request: the session that sends it, its sequence number and its payload bytes. -/
structure Req where
  sess : Fin 64
  seq : BitVec 16
  payload : List Byte
  deriving DecidableEq, Repr


/-- The commands of the module: one constructor per row of spec/opcode_table.json, in the table's order. -/
inductive Instr where
  -- Reset, boot and the cue
  /-- POWER_ON_RESET (R154): Mains applied from DARK, or a wake land asserted with mains present, releases power-on reset; SRAM is cleared and BOOT starts. -/
  | powerOnReset (wake recoverLow : Bool)
  /-- WARM_RESET (R27): A warm reset takes effect once JRNL_STAT.DRAIN is 0, keeping SRAM, counters and LPDDR5X contents, and the module passes through BOOT. -/
  | warmReset
  /-- BOOT_CONTINUE (R194): The ROM resumes the start-up steps after waiting for FLS_STAT.BUSY to be 0 or for DRC_STAT.READY. -/
  | bootContinue
  /-- CUE_BOUNDARY (R26): The cue counter increments and every block acts on the tick: state transitions, grants, handover, commits, seal and overrun checks take effect. -/
  | cueBoundary
  /-- CUE_PRE (R57): CUE_PRE is published CUE_PRE.OFFSET event-clock cycles before each boundary. -/
  | cuePre
  /-- CUE_DONE (R47): A cue pair reports the end of its work for the cue, committing its staged loop words. -/
  | cueDone (pair : Fin 4)
  /-- CUE_PERIOD_WRITE (R42): A write of CUE_PERIOD takes effect at once in BOOT, at the next boundary in PLACES, or is refused with CFGREF. -/
  | cuePeriodWrite (w : Writer) (v : Word)
  /-- CUE_CTRL_WRITE (R53): A write of CUE_CTRL sets discipline, CUEOE and PAIREN, refusing a DISC change outside BOOT and PLACES. -/
  | cueCtrlWrite (w : Writer) (v : Word)
  /-- CUE_FOLLOWER_LOCK (R54): A follower achieves lock and steps its boundary phase, and in PLACES its counters forward only, then sets LOCK. -/
  | cueFollowerLock (rootCount rootTime : BitVec 64) (rootPeriod : Word) (phase : Nat) (phErr : BitVec 16)
  /-- CUE_HOLDOVER (R56): A follower that loses its upstream clock sets HOLDOVER, clears LOCK and continues on its own reference. -/
  | cueHoldover
  /-- SHADOWED_PAIR_READ (R45): A read of the low word of a shadowed pair copies the high word and companions of the same instant into the reader's shadow. -/
  | shadowedPairRead (w : Writer) (addr : Addr)
  /-- RC_COUNTER_READ (R12): A read of an RC field returns its value and clears it, keeping increments of the same cycle. -/
  | rcCounterRead (w : Writer) (addr : Addr) (inc : Nat)
  /-- REGISTER_WRITE (R11): A write to a register that has no row of its own acts by its field types, with plane checks and bus errors. -/
  | registerWrite (w : Writer) (addr : Addr) (v : Word)
  -- Watchdogs, curtain and debug
  /-- WATCHDOG_SERVICE (R28): A write of 0xA5C3 to SYS_WDSVC reloads the writer's plane watchdog; another value sets BADKEY. -/
  | watchdogService (w : Writer) (v : Word)
  /-- WATCHDOG_EXPIRY (R27): A plane watchdog expires, sets EXP and WDOG, and calls a curtain followed by a warm reset, or a direct warm reset. -/
  | watchdogExpiry (pl : Plane)
  /-- CURTAIN_LIMIT (R35): The curtain limit is reached before step 5, so every enabled PWM unit is disabled and FORCED is set. -/
  | curtainLimit
  /-- DIE_TEMPERATURE_UPDATE (R553): SYS_TEMP is updated with the hottest die temperature every 1 ms. -/
  | dieTemperatureUpdate (t : BitVec 16)
  /-- DEBUG_HALT (R142): A debug halt stops a cue core, splits its pair, freezes every PWM unit and writes a black-box record. -/
  | debugHalt (h : Hart)
  /-- DEBUG_RESUME (R362): The halt or timebase stop ends and every PWM unit continues from where it stopped. -/
  | debugResume
  -- Host commands and the host interface
  /-- GO (R215): Host command that enters RUN/IDLE or RUN/PAUSED at the next boundary when SYS_GOEN.EN is 1. -/
  | go (q : Req)
  /-- SUBMIT (R493): Host command that sends a swath order to firmware for acceptance and answers with its token. -/
  | submit (q : Req)
  /-- PAUSE (R263): Host command that holds the swath at a column boundary in RUN/PAUSED. -/
  | pause (q : Req)
  /-- RESUME (R264): Host command that returns RUN/PAUSED to RUN/PRINTING, re-arming only through the arming check. -/
  | resume (q : Req)
  /-- CALL_CURTAIN (R33): Host command that raises a curtain trigger. -/
  | callCurtain (q : Req)
  /-- CLEAR (R30): Host command that takes a complete curtain to PLACES. -/
  | clear (q : Req)
  /-- ENTER_WINGS (R160): Host command that enters WINGS, putting LPDDR5X in self-refresh and stopping loops. -/
  | enterWings (q : Req)
  /-- WAKE (R30): Host command that leaves WINGS for PLACES at the first boundary with DRC_STAT.READY. -/
  | wake (q : Req)
  /-- SHUTDOWN (R30): Host command that takes the module to DARK, through a curtain from RUN/IDLE. -/
  | shutdown (q : Req)
  /-- ACTIVATE (R525): Host command that asks firmware to activate a stored image. -/
  | activate (q : Req)
  /-- ENTER_RECOVERY (R195): Host command that reaches RECOVERY, through a warm reset or directly from BOOT. -/
  | enterRecovery (q : Req)
  /-- RESTART (R30): Host command that makes a warm reset into BOOT, through a curtain from RUN/IDLE. -/
  | restart (q : Req)
  /-- RECOVERY_DOWNLOAD (R531): Host command that delivers one chunk of a recovery item in RECOVERY. -/
  | recoveryDownload (q : Req)
  /-- OPEN (R490): Host command that opens a session with a role in the lowest FREE entry. -/
  | open (iface : Fin 4) (partner : Nat) (buf : Fin 64) (seq : BitVec 16) (role : BitVec 8)
  /-- CLOSE (R490): Host command that closes its session. -/
  | close (q : Req)
  /-- KEEPALIVE (R493): Host command that keeps a session open. -/
  | keepalive (q : Req)
  /-- STATUS (R493): Host command that HOST answers itself with the state, curtain, boot and journal registers. -/
  | status (q : Req)
  /-- READMEM (R493): Host command that returns memory contents. -/
  | readMem (q : Req)
  /-- WRITEMEM (R493): Host command that writes data into the usable LPDDR5X range. -/
  | writeMem (q : Req)
  /-- IMAGE (R521): Host command that delivers one image chunk as a long operation. -/
  | image (q : Req)
  /-- FWCALL (R493): Host command whose payload is passed to firmware. -/
  | fwCall (q : Req)
  /-- HOST_FRAME_RECEIVE (R491): HOST checks an incoming frame for format, session, sequence, role, state and busy resource before dispatch. -/
  | hostFrameReceive (iface : Fin 4) (partner : Nat) (buf : Fin 64) (frame : List Byte)
  /-- LONG_OPERATION_COMPLETE (R495): A long operation completes and its final status goes to the starting session as a NOTIFY. -/
  | longOperationComplete (status : Word) (payload : List Byte)
  /-- SESSION_IDLE_TIMEOUT (R490): A session with no frame for HOST_CFG.IDLE closes. -/
  | sessionIdleTimeout (sess : Fin 64)
  /-- FUNCTION_LEVEL_RESET (R490): A PCIe function level reset closes the sessions of that interface. -/
  | functionLevelReset
  /-- USB_DISCONNECT (R490): A USB disconnect closes the sessions of that interface. -/
  | usbDisconnect
  /-- PCIE_DOORBELL (R498): A write of s to the BAR0 doorbell queues the request of session s. -/
  | pcieDoorbell (v : Word)
  /-- BAR2_WRITE (R498): A host write through BAR2 reaches LPDDR5X as a management-plane write, or is dropped with BARERR. -/
  | bar2Write (off : Nat) (data : List Byte)
  /-- BAR2_READ (R498): A host read through BAR2 returns LPDDR5X data or completes with Unsupported Request. -/
  | bar2Read (off len : Nat)
  /-- ARP_REQUEST (R499): HOST answers ARP for HOST_IP(n) in hardware. -/
  | arpRequest (mac : Fin 2) (ip : Word)
  /-- ETH_FRAME_TO_FIRMWARE (R499): A received Ethernet frame that is not a host frame goes to firmware through DMA. -/
  | ethFrameToFirmware (mac : Fin 2) (data : List Byte)
  /-- PTP_EVENT_TIMESTAMP (R500): A MAC timestamps an IEEE 1588 event message and queues it in HOST_TS(n). -/
  | ptpEventTimestamp (mac : Fin 2) (tx : Bool) (fine : BitVec 4) (seqId : BitVec 16)
  /-- HOST_TS_READ (R500): A read of HOST_TS(n) word 0 fills the shadow and pops the timestamp entry. -/
  | hostTsRead (w : Writer) (mac : Fin 2)
  /-- HOST_CQ_POP (R496): Firmware removes the head entry of the command queue. -/
  | hostCqPop (w : Writer)
  /-- HOST_RSP_GO (R496): HOST adds the CRC to the answer of a session and sends it. -/
  | hostRspGo (w : Writer) (v : Word)
  /-- HOST_RSP_NOTIFY (R496): HOST adds the CRC to the notification of a session and sends it. -/
  | hostRspNotify (w : Writer) (v : Word)
  -- Lomer instructions
  /-- ADD (R89): Add two data registers. -/
  | add (h : Hart) (d s1 s2 : BitVec 5) (aux : BitVec 6)
  /-- ADDC (R89): Add two data registers and carry. -/
  | addc (h : Hart) (d s1 s2 : BitVec 5) (aux : BitVec 6)
  /-- SUB (R89): Subtract two data registers. -/
  | sub (h : Hart) (d s1 s2 : BitVec 5) (aux : BitVec 6)
  /-- SUBC (R89): Subtract with borrow. -/
  | subc (h : Hart) (d s1 s2 : BitVec 5) (aux : BitVec 6)
  /-- AND (R89): Bitwise AND. -/
  | and (h : Hart) (d s1 s2 : BitVec 5) (aux : BitVec 6)
  /-- OR (R89): Bitwise OR. -/
  | or (h : Hart) (d s1 s2 : BitVec 5) (aux : BitVec 6)
  /-- XOR (R89): Bitwise XOR. -/
  | xor (h : Hart) (d s1 s2 : BitVec 5) (aux : BitVec 6)
  /-- ANDN (R89): Bitwise AND with the complement of the second operand. -/
  | andn (h : Hart) (d s1 s2 : BitVec 5) (aux : BitVec 6)
  /-- SHL (R63): Shift left by a register amount. -/
  | shl (h : Hart) (d s1 s2 : BitVec 5) (aux : BitVec 6)
  /-- SHR (R63): Logical shift right by a register amount. -/
  | shr (h : Hart) (d s1 s2 : BitVec 5) (aux : BitVec 6)
  /-- SAR (R63): Arithmetic shift right by a register amount. -/
  | sar (h : Hart) (d s1 s2 : BitVec 5) (aux : BitVec 6)
  /-- SHLI (R63): Shift left by an immediate amount. -/
  | shli (h : Hart) (d s1 s2 : BitVec 5) (aux : BitVec 6)
  /-- SHRI (R63): Logical shift right by an immediate amount. -/
  | shri (h : Hart) (d s1 s2 : BitVec 5) (aux : BitVec 6)
  /-- SARI (R63): Arithmetic shift right by an immediate amount. -/
  | sari (h : Hart) (d s1 s2 : BitVec 5) (aux : BitVec 6)
  /-- MUL (R65): Write the low word of a product to a data register. -/
  | mul (h : Hart) (d s1 s2 : BitVec 5) (aux : BitVec 6)
  /-- MULHS (R89): Write the signed high word of a product. -/
  | mulhs (h : Hart) (d s1 s2 : BitVec 5) (aux : BitVec 6)
  /-- MULHU (R89): Write the unsigned high word of a product. -/
  | mulhu (h : Hart) (d s1 s2 : BitVec 5) (aux : BitVec 6)
  /-- ADDS (R89): Saturating signed add. -/
  | adds (h : Hart) (d s1 s2 : BitVec 5) (aux : BitVec 6)
  /-- SUBS (R89): Saturating signed subtract. -/
  | subs (h : Hart) (d s1 s2 : BitVec 5) (aux : BitVec 6)
  /-- ABS (R89): Absolute value, saturating on 0x8000_0000. -/
  | abs (h : Hart) (d s1 s2 : BitVec 5) (aux : BitVec 6)
  /-- NEG (R89): Negate. -/
  | neg (h : Hart) (d s1 s2 : BitVec 5) (aux : BitVec 6)
  /-- MIN (R89): Signed minimum. -/
  | min (h : Hart) (d s1 s2 : BitVec 5) (aux : BitVec 6)
  /-- MAX (R89): Signed maximum. -/
  | max (h : Hart) (d s1 s2 : BitVec 5) (aux : BitVec 6)
  /-- CLZ (R89): Count leading zeros. -/
  | clz (h : Hart) (d s1 s2 : BitVec 5) (aux : BitVec 6)
  /-- MOV (R89): Copy a data register. -/
  | mov (h : Hart) (d s1 s2 : BitVec 5) (aux : BitVec 6)
  /-- CMP (R89): Compare two data registers, setting NZCV. -/
  | cmp (h : Hart) (d s1 s2 : BitVec 5) (aux : BitVec 6)
  /-- TST (R89): Test bits, setting NZ. -/
  | tst (h : Hart) (d s1 s2 : BitVec 5) (aux : BitVec 6)
  /-- SEL (R64): Select one of two registers by a condition. -/
  | sel (h : Hart) (d s1 s2 : BitVec 5) (aux : BitVec 6)
  /-- ADDI (R89): Add a sign-extended immediate. -/
  | addi (h : Hart) (d s1 : BitVec 5) (imm : BitVec 16)
  /-- ANDI (R89): AND with a zero-extended immediate. -/
  | andi (h : Hart) (d s1 : BitVec 5) (imm : BitVec 16)
  /-- ORI (R89): OR with a zero-extended immediate. -/
  | ori (h : Hart) (d s1 : BitVec 5) (imm : BitVec 16)
  /-- XORI (R89): XOR with a zero-extended immediate. -/
  | xori (h : Hart) (d s1 : BitVec 5) (imm : BitVec 16)
  /-- CMPI (R89): Compare with a sign-extended immediate. -/
  | cmpi (h : Hart) (d s1 : BitVec 5) (imm : BitVec 16)
  /-- MOVI (R89): Load a sign-extended immediate. -/
  | movi (h : Hart) (d s1 : BitVec 5) (imm : BitVec 16)
  /-- MOVHI (R89): Load an immediate into the high half of a data register. -/
  | movhi (h : Hart) (d s1 : BitVec 5) (imm : BitVec 16)
  /-- MULA (R65): Load an accumulator with a signed product. -/
  | mula (h : Hart) (d s1 s2 : BitVec 5) (aux : BitVec 6)
  /-- MAC (R65): Add a signed product to an accumulator. -/
  | mac (h : Hart) (d s1 s2 : BitVec 5) (aux : BitVec 6)
  /-- MSU (R65): Subtract a signed product from an accumulator. -/
  | msu (h : Hart) (d s1 s2 : BitVec 5) (aux : BitVec 6)
  /-- MULU (R65): Load an accumulator with an unsigned product. -/
  | mulu (h : Hart) (d s1 s2 : BitVec 5) (aux : BitVec 6)
  /-- MACU (R65): Add an unsigned product to an accumulator. -/
  | macu (h : Hart) (d s1 s2 : BitVec 5) (aux : BitVec 6)
  /-- CLRA (R89): Clear an accumulator. -/
  | clra (h : Hart) (d s1 s2 : BitVec 5) (aux : BitVec 6)
  /-- EXT (R66): Extract a shifted, rounded and optionally saturated word from an accumulator. -/
  | ext (h : Hart) (d s1 s2 : BitVec 5) (aux : BitVec 6)
  /-- ACCADD (R89): Add one accumulator to another. -/
  | accadd (h : Hart) (d s1 s2 : BitVec 5) (aux : BitVec 6)
  /-- ACCSET (R89): Set an accumulator from two data registers. -/
  | accset (h : Hart) (d s1 s2 : BitVec 5) (aux : BitVec 6)
  /-- GUARD (R89): Read the guard bits of an accumulator. -/
  | guard (h : Hart) (d s1 s2 : BitVec 5) (aux : BitVec 6)
  /-- ADDAI (R60): Add an immediate to an address register. -/
  | addai (h : Hart) (d s1 : BitVec 5) (imm : BitVec 16)
  /-- MOVA (R89): Copy an address register. -/
  | mova (h : Hart) (d s1 s2 : BitVec 5) (aux : BitVec 6)
  /-- ADDAD (R60): Add a sign-extended data register to an address register. -/
  | addad (h : Hart) (d s1 s2 : BitVec 5) (aux : BitVec 6)
  /-- SUBAD (R60): Subtract a sign-extended data register from an address register. -/
  | subad (h : Hart) (d s1 s2 : BitVec 5) (aux : BitVec 6)
  /-- MOVDA (R59): Move a data register into an address register. -/
  | movda (h : Hart) (d s1 s2 : BitVec 5) (aux : BitVec 6)
  /-- MOVAD (R59): Move the low word of an address register into a data register. -/
  | movad (h : Hart) (d s1 s2 : BitVec 5) (aux : BitVec 6)
  /-- MOVAHD (R59): Move the high bits of an address register into a data register. -/
  | movahd (h : Hart) (d s1 s2 : BitVec 5) (aux : BitVec 6)
  /-- MOVM (R59): Move a data register into a modifier register. -/
  | movm (h : Hart) (d s1 s2 : BitVec 5) (aux : BitVec 6)
  /-- MOVMD (R59): Move a modifier register into a data register. -/
  | movmd (h : Hart) (d s1 s2 : BitVec 5) (aux : BitVec 6)
  /-- SETAH (R89): Set the high bits of an address register from an immediate. -/
  | setah (h : Hart) (d s1 : BitVec 5) (imm : BitVec 16)
  /-- LDS (R71): Load with sign extension through an addressing mode. -/
  | lds (h : Hart) (d : BitVec 5) (a : BitVec 4) (mode : BitVec 3) (size : BitVec 2) (off : BitVec 12)
  /-- LDZ (R71): Load with zero extension through an addressing mode. -/
  | ldz (h : Hart) (d : BitVec 5) (a : BitVec 4) (mode : BitVec 3) (size : BitVec 2) (off : BitVec 12)
  /-- ST (R71): Store data registers through an addressing mode. -/
  | st (h : Hart) (d : BitVec 5) (a : BitVec 4) (mode : BitVec 3) (size : BitVec 2) (off : BitVec 12)
  /-- LDA (R71): Load an address register. -/
  | lda (h : Hart) (d : BitVec 5) (a : BitVec 4) (mode : BitVec 3) (size : BitVec 2) (off : BitVec 12)
  /-- STA (R71): Store an address register. -/
  | sta (h : Hart) (d : BitVec 5) (a : BitVec 4) (mode : BitVec 3) (size : BitVec 2) (off : BitVec 12)
  /-- LDACC (R71): Load an accumulator from 16 bytes. -/
  | ldacc (h : Hart) (d : BitVec 5) (a : BitVec 4) (mode : BitVec 3) (size : BitVec 2) (off : BitVec 12)
  /-- STACC (R71): Store an accumulator to 16 bytes. -/
  | stacc (h : Hart) (d : BitVec 5) (a : BitVec 4) (mode : BitVec 3) (size : BitVec 2) (off : BitVec 12)
  /-- LOAD_MISS_RETURN (R92): The data of a load that missed arrives and the load completes. -/
  | loadMissReturn (h : Hart)
  /-- BCC (R72): Conditional branch with one delay slot and optional annul. -/
  | bcc (h : Hart) (annul : Bool) (cond : BitVec 4) (disp : BitVec 21)
  /-- J (R73): Jump by a word displacement. -/
  | j (h : Hart) (annul : Bool) (disp : BitVec 25)
  /-- CALL (R62): Call by a displacement, writing A14. -/
  | call (h : Hart) (annul : Bool) (disp : BitVec 25)
  /-- JR (R73): Jump to an address register; RET is JR A14. -/
  | jr (h : Hart) (d s1 s2 : BitVec 5) (aux : BitVec 6)
  /-- CALLR (R62): Call through an address register, writing A14. -/
  | callr (h : Hart) (d s1 s2 : BitVec 5) (aux : BitVec 6)
  /-- LOOP (R75): Arm a hardware loop level with start, end and count. -/
  | loop (h : Hart) (level imm : Bool) (cnt : BitVec 12) (len : BitVec 12)
  /-- WFE (R79): Wait for a call-board task input or an enabled interrupt. -/
  | wfe (h : Hart) (d s1 s2 : BitVec 5) (aux : BitVec 6)
  /-- WFE_WAKE (R79): A waiting WFE completes when a task input fires or an interrupt is pending, writing Dd. -/
  | wfeWake (h : Hart)
  /-- WAITT (R81): Wait until the cue counter reaches a target, with a timeout. -/
  | waitt (h : Hart) (d s1 s2 : BitVec 5) (aux : BitVec 6)
  /-- WAITT_TARGET_REACHED (R81): A waiting WAITT completes 8 core cycles after the boundary that reaches its target. -/
  | waittTargetReached (h : Hart)
  /-- WAITT_TIMEOUT (R81): The timeout count of a waiting WAITT reaches 0 and it completes with Z = 0. -/
  | waittTimeout (h : Hart)
  /-- SEV (R80): Publish an event on a call-board channel when the core is a named producer. -/
  | sev (h : Hart) (d s1 : BitVec 5) (imm : BitVec 16)
  /-- BMOV (R83): Resumable block move. -/
  | bmov (h : Hart) (d s1 s2 : BitVec 5) (aux : BitVec 6) (elems : Nat)
  /-- VMAC16 (R83): Resumable 16-bit vector multiply-accumulate. -/
  | vmac16 (h : Hart) (d s1 s2 : BitVec 5) (aux : BitVec 6) (elems : Nat)
  /-- VMAC32 (R83): Resumable 32-bit vector multiply-accumulate. -/
  | vmac32 (h : Hart) (d s1 s2 : BitVec 5) (aux : BitVec 6) (elems : Nat)
  /-- VMAC16M (R83): VMAC16 with modulo addressing on the first operand. -/
  | vmac16m (h : Hart) (d s1 s2 : BitVec 5) (aux : BitVec 6) (elems : Nat)
  /-- VMAC32M (R83): VMAC32 with modulo addressing on the first operand. -/
  | vmac32m (h : Hart) (d s1 s2 : BitVec 5) (aux : BitVec 6) (elems : Nat)
  /-- CRCB32 (R84): Resumable CRC-32C over bytes. -/
  | crcb32 (h : Hart) (d s1 s2 : BitVec 5) (aux : BitVec 6) (elems : Nat)
  /-- CRCB16 (R84): Resumable CRC-16 over bytes. -/
  | crcb16 (h : Hart) (d s1 s2 : BitVec 5) (aux : BitVec 6) (elems : Nat)
  /-- NOP (R89): No operation. -/
  | nop (h : Hart) (word : Word)
  /-- MFS (R87): Read a system register. -/
  | mfs (h : Hart) (d : BitVec 5) (sysreg : BitVec 10) (aux : BitVec 6)
  /-- MTS (R87): Write a system register, including mode, loop and hold registers. -/
  | mts (h : Hart) (d : BitVec 5) (sysreg : BitVec 10) (aux : BitVec 6)
  /-- RFE (R113): Return from exception, or with aux 1 from a machine check. -/
  | rfe (h : Hart) (d : BitVec 5) (sysreg : BitVec 10) (aux : BitVec 6)
  /-- TRAP (R111): Raise a software exception. -/
  | trap (h : Hart) (d : BitVec 5) (sysreg : BitVec 10) (aux : BitVec 6)
  /-- IFENCE (R105): Drain stores and refetch so that later fetches see earlier stores. -/
  | ifence (h : Hart) (d : BitVec 5) (sysreg : BitVec 10) (aux : BitVec 6)
  /-- FENCE (R90): Wait until every earlier data access has completed. -/
  | fence (h : Hart) (d : BitVec 5) (sysreg : BitVec 10) (aux : BitVec 6)
  /-- BPFLUSH (R101): Reset the branch predictor. -/
  | bpFlush (h : Hart) (d : BitVec 5) (sysreg : BitVec 10) (aux : BitVec 6)
  /-- BPBAR (R101): Stop fetch beyond this instruction until it retires. -/
  | bpBar (h : Hart) (d : BitVec 5) (sysreg : BitVec 10) (aux : BitVec 6)
  -- Core system-register operations and exceptions
  /-- INVALIDATE_DCACHE_LINE (R96): CMOP 1 invalidates the data-cache line at CMADDR. -/
  | invalidateDcacheLine (h : Hart) (d : BitVec 5)
  /-- INVALIDATE_ICACHE_LINE (R96): CMOP 2 invalidates the instruction-cache line at CMADDR. -/
  | invalidateIcacheLine (h : Hart) (d : BitVec 5)
  /-- INVALIDATE_DCACHE (R96): CMOP 3 invalidates the whole data cache. -/
  | invalidateDcache (h : Hart) (d : BitVec 5)
  /-- INVALIDATE_ICACHE (R96): CMOP 4 invalidates the whole instruction cache and line buffer. -/
  | invalidateIcache (h : Hart) (d : BitVec 5)
  /-- PFSTAT_POP (R117): A write of 1 to PFSTAT.POP removes the head posted-fault entry. -/
  | pfstatPop (h : Hart) (d : BitVec 5)
  /-- HOLDCNT_WRITE (R114): A write of 0 to HOLDCNT ends the vector hold. -/
  | holdcntWrite (h : Hart) (d : BitVec 5)
  /-- INTERRUPT_ENTRY (R111): A takeable interrupt line or POSTED_FAULT is taken at an instruction boundary, stopping any long instruction. -/
  | interruptEntry (h : Hart)
  /-- POSTED_FAULT_ARRIVAL (R117): A fault of a posted store arrives and adds an entry to the posted-fault queue, or sets OVF. -/
  | postedFaultArrival (h : Hart)
  /-- VECTOR_HOLD_EXPIRY (R114): A vector hold reaches its limit and pending interrupts become takeable. -/
  | vectorHoldExpiry (h : Hart)
  -- Lockstep
  /-- LOCKSTEP_MISMATCH (R138): The comparator finds a difference, blocks outputs, starts the hold and resets both copies to the checkpoint. -/
  | lockstepMismatch (pair : Fin 4) (group : BitVec 3) (lane : BitVec 7)
  /-- LOCKSTEP_RELEASE (R138): The restore completes and the lead, then the understudy, are released at the checkpoint address. -/
  | lockstepRelease (pair : Fin 4)
  /-- LOCKSTEP_HOLD_EXPIRY (R139): No counting CUE_DONE has arrived by the last cycle of the cue ending at B + 2, so a LOCKSTEP curtain trigger is raised. -/
  | lockstepHoldExpiry (pair : Fin 4)
  /-- AGREEMENT_BUFFER_TIMEOUT (R132): The understudy has not consumed an entry 64 core cycles after the lead, so both copies take a machine check. -/
  | agreementBufferTimeout (pair : Fin 4)
  /-- CHECKPOINT_CAPTURE (R136): A cue pair captures its checkpoint at the first instruction boundary after a cue boundary. -/
  | checkpointCapture (pair : Fin 4)
  /-- CHECKPOINT_COMMIT (R136): The checkpoint commits once every earlier output has compared equal, emptying the undo log. -/
  | checkpointCommit (pair : Fin 4)
  /-- USTD_INJ (R134): A write with GO inverts one lane of the understudy for one cycle and records the result in USTD_TRES. -/
  | ustdInj (w : Writer) (v : Word)
  -- Memories
  /-- PATROL_SCRUB (R151): The patrol scrub reads and corrects a unit of working or stage memory. -/
  | patrolScrub (unit : Nat) (found : Fin 3)
  /-- DRAM_REFRESH (R159): The LPDDR5X controller refreshes a bank at the rate the package reports. -/
  | dramRefresh (channel : Fin 8) (bank : Nat)
  /-- DRC_READY (R160): LPDDR5X training or self-refresh exit completes and DRC_STAT.READY is set. -/
  | drcReady
  /-- DRC_PACKAGE_FAILED (R161): A package fails training, leaves a request unanswered for 2 µs, or reaches DRC_UETHR, and is declared failed. -/
  | drcPackageFailed (pkg : Fin 2)
  /-- PMEM_WRITE_COMPLETE (R166): An accepted PMEM write becomes durable. -/
  | pmemWriteComplete
  /-- PMC_LOCK (R170): A write of 1 to PMC_CTRL.LOCK locks USERW until reset. -/
  | pmcLock (w : Writer)
  -- Program store
  /-- FLS_KEY_WRITE (R175): A write of step 1 or step 2 of a program-store command sequence. -/
  | flsKeyWrite (w : Writer) (addr : Addr) (v : Word)
  /-- PROGRAM_PAGE (R175): Command 0xA0 programs a page from FLS_PGBUF, making the bank busy. -/
  | programPage (w : Writer) (addr : Addr)
  /-- ERASE_BLOCK (R175): Command 0x80 erases a block, making the bank busy. -/
  | eraseBlock (w : Writer) (addr : Addr)
  /-- PROGRAM_OTP (R190): Command 0xC0 programs the OTP unit named by FLS_OTPOFF. -/
  | programOtp (w : Writer) (addr : Addr)
  /-- FLS_SEQUENCE_TIMEOUT (R176): More than 256 peripheral-bus cycles between two steps abandons the command sequence. -/
  | flsSequenceTimeout
  /-- FLS_OPERATION_DONE (R182): A program, erase or OTP operation completes, clearing BUSY and setting DONE and possibly ERR. -/
  | flsOperationDone (err : Bool)
  /-- FLS_SUSPEND (R183): A write of 1 to FLS_CTRL.SUSPEND requests a pause of the running erase. -/
  | flsSuspend (w : Writer)
  /-- FLS_SUSPEND_DONE (R183): The erase pauses, BUSY clears and SUSP is set. -/
  | flsSuspendDone
  /-- FLS_RESUME (R183): A write of 1 to FLS_CTRL.RESUME continues a suspended erase. -/
  | flsResume (w : Writer)
  /-- FLS_WP_LOCK (R192): A write of 1 to FLS_WP.LOCK locks bank write protection until reset. -/
  | flsWpLock (w : Writer)
  -- Drop pipeline
  /-- SWATH_POST (R221): A write of DROP_SWQH.POST posts a swath descriptor to the four-entry queue. -/
  | swathPost (w : Writer) (v : Word)
  /-- SWATH_CHECK (R222): The pipeline checks the next posted descriptor and refuses it with a REASON, publishing DROP_SDBAD. -/
  | swathCheck
  /-- SWATH_TABLE_LATCH (R233): The missing-nozzle table, and for a resume the start table, are latched for a swath. -/
  | swathTableLatch
  /-- DROP_FLUSH (R223): A write of DROP_CTRL.FLUSH discards every queued swath that is not ready. -/
  | dropFlush (w : Writer)
  /-- TILE_STAGED (R226): Staging of a tile into a released slot completes and the tile passes or fails. -/
  | tileStaged (swath : Fin 4) (ctx : Fin 4096) (tile : Nat)
  /-- TILE_REREAD (R227): The re-read of a failed tile completes; a further failure enters a re-request and publishes DROP_REREQ. -/
  | tileReread (swath : Fin 4) (ctx : Fin 4096) (tile : Nat)
  /-- DROP_RETRY (R227): A write of a handle to DROP_RETRY stages the failed tile afresh. -/
  | dropRetry (w : Writer) (v : Word)
  /-- DROP_RRQ_POP (R227): A write of DROP_RRQ2.POP removes the head re-request entry. -/
  | dropRrqPop (w : Writer)
  -- Firing scheduler
  /-- OBSERVER_TICK (R248): Every 100 ns the carriage observer updates position, velocity and bias and checks the velocity condition. -/
  | observerTick
  /-- FIRE_OBSEN_WRITE (R250): A change of FIRE_CTRL.OBSEN from 0 to 1 initialises the observer at the next tick. -/
  | fireObsenWrite (w : Writer) (v : Word)
  /-- ARMING_CHECK_COMPLETE (R262): The arming check ends, arming the swath with FIRE_ARMED or setting OVERSHOT. -/
  | armingCheckComplete
  /-- FIRE_REFRESH (R254): At C + (NCTX + 256) ns the new flight times take effect. -/
  | fireRefresh
  /-- SCAN_ROUND (R256): A scan round visits every context, each computing its next column and issuing it within HORIZON. -/
  | scanRound
  -- Jet ports
  /-- JET_BLOCK_SLOT (R274): Each 25.6 ns block slot of a jet-port lane sends a MARK, wave sample, general block or IDLE. -/
  | jetBlockSlot (port : Fin 32) (lane : Fin 2)
  /-- JET_CTRL_EN (R286): Setting or clearing JET_CTRL.EN starts training or turns the link OFF. -/
  | jetCtrlEn (w : Writer) (port : Fin 32) (v : Word)
  /-- JET_TLOAD (R286): A write of JET_CTRL.TLOAD returns an UP port to LOAD to reload the tables. -/
  | jetTload (w : Writer) (port : Fin 32)
  /-- JET_CAPS_RECEIVED (R284): The board's CAPS block is received and its level checked. -/
  | jetCapsReceived (port : Fin 32) (caps : BitVec 56)
  /-- JET_ECHO_RECEIVED (R278): The board's ECHO of a MARK is received and one RTT measured; the 64th sets JET_LAT. -/
  | jetEchoReceived (port : Fin 32) (rtt : Nat)
  /-- JET_STAT_RECEIVED (R285): The board's STAT block is received, recording READY, FAULT, CRCERR and LATEFIRE. -/
  | jetStatReceived (port : Fin 32) (stat : BitVec 56)
  /-- JET_TRAIN_TIMEOUT (R286): A port in TRAIN for 10 ms goes to FAULT. -/
  | jetTrainTimeout (port : Fin 32)
  /-- JET_LOCK_LOSS (R286): No valid input block for 12.8 µs takes the port to FAULT. -/
  | jetLockLoss (port : Fin 32)
  -- Media tracking
  /-- SENSOR_FRAME (R291): A CSI-2 frame ends at a sensor port and is accepted or discarded. -/
  | sensorFrame (port : Fin 2) (vc : BitVec 2) (pixels : List Byte) (formatOk : Bool) (crcErr eccErr : Nat)
  /-- CORRELATION_RESULT (R296): 12 µs after t_fe the port's correlation result completes, good or a miss, with tracking and hand-over updates. -/
  | correlationResult (port : Fin 2)
  /-- MTRK_RESULT (R302): The combined position and skew complete 50 ns after the port results and MTRK_RESULT is published. -/
  | mtrkResult
  /-- MTRK_PAIR_TIMEOUT (R302): A port's frame end does not come within 5 µs of the other's, so it has missed that FSYNC pulse. -/
  | mtrkPairTimeout (port : Fin 2)
  /-- FSYNC_PULSE (R293): FOFS cycles after a qualifying boundary a 100 ns pulse is driven on FSYNC0 and FSYNC1. -/
  | fsyncPulse
  /-- MTRK_PRESET (R303): A write of MTRK_CTRL.PRESET sets OFFSET so the next combined result equals the preset value. -/
  | mtrkPreset (w : Writer)
  /-- MTRK_CAPTURE (R308): A write of MTRK_CAP.GO copies the next accepted frame to working memory and sets DONE. -/
  | mtrkCapture (w : Writer) (port : Fin 2) (v : Word)
  -- Loop engine
  /-- SLOT_SAMPLE (R311): At a slot's sample instant its inputs are latched and its ADC group conversion starts. -/
  | slotSample (slot : Fin 64)
  /-- SLOT_UPDATE (R315): 360 ns after the sample the slot applies its output, strobes its PWM group and publishes FB and a_cmd. -/
  | slotUpdate (slot : Fin 64)
  /-- LOOP_PARAM_WRITE (R326): A write to a slot's parameter block goes to the staged copy and sets STAGED. -/
  | loopParamWrite (w : Writer) (slot : Fin 64) (idx : Fin 37) (v : Word)
  /-- REHEARSAL_GO (R336): A write of LOOP_RHCTRL.GO starts a rehearsal on a running slot in RUN/IDLE. -/
  | rehearsalGo (w : Writer) (v : Word)
  /-- REHEARSAL_STOP (R339): A write of LOOP_RHCTRL.STOP aborts the rehearsal at the next boundary. -/
  | rehearsalStop (w : Writer)
  -- PWM
  /-- PWM_PERIOD_START (R343): A unit's counter wraps to a new period, taking pending loads and starting its ramps and synced units. -/
  | pwmPeriodStart (unit : Fin 48)
  /-- PWM_LOAD_TRANSFER (R350): At its load point a unit transfers its shadow period and compares to its active registers. -/
  | pwmLoadTransfer (unit : Fin 48)
  /-- PWM_LDALL (R349): Setting a load-all bit by write or loop strobe requests a transfer for every enabled unit of the group. -/
  | pwmLdall (w : Writer) (high : Bool) (v : Word)
  /-- PWM_ENABLE (R353): A write of 1 to PWM_CTRL.EN arms the unit to join at a cue boundary. -/
  | pwmEnable (w : Writer) (unit : Fin 48)
  /-- PWM_DISABLE (R354): A write of 0 to PWM_CTRL.EN sends both outputs to their park states. -/
  | pwmDisable (w : Writer) (unit : Fin 48)
  /-- TRIP_INPUT (R358): An active trip land or comparator sets the trip latch, parks outputs, publishes PWM_TRIP and may raise a curtain trigger. -/
  | tripInput (source : Fin 72) (active : Bool)
  /-- PWM_TRIP_CLEAR (R359): A write of 1 to PWM_STAT.TRIPPED clears a latch-mode trip when no source is active. -/
  | pwmTripClear (w : Writer) (unit : Fin 48)
  /-- PEAK_CURRENT_RESET (R357): The PCSEL comparator rises after blanking and ends the present OUTH pulse. -/
  | peakCurrentReset (unit : Fin 48) (steps : Nat)
  /-- PWM_LOCK (R361): A write of 1 to PWM_LOCK.LOCK locks every trip and curtain mask until reset. -/
  | pwmLock (w : Writer)
  -- Analogue front end
  /-- ADC_RESULT (R370): 184 ns after the sample instant a group's results update AFE_ADCRES and reach the loop engine. -/
  | adcResult (group : Fin 6) (codes : List Int)
  /-- AFE_GTRIG (R369): A write to AFE_GTRIG requests a conversion of the named groups. -/
  | afeGtrig (w : Writer) (v : Word)
  /-- ADC_TRIGGER_START (R369): A waiting trigger starts a conversion when the group is idle and no loop sample is near. -/
  | adcTriggerStart (group : Fin 6)
  /-- ADC_TRIGGER_DROP (R369): A trigger not started within 800 event-clock cycles is dropped and TRIGLOST set. -/
  | adcTriggerDrop (group : Fin 6)
  /-- DELTA_SIGMA_OUTPUT (R371): A sinc filter completes an output at the end of its decimation period and publishes it. -/
  | deltaSigmaOutput (ch : Fin 16) (bits : Nat)
  /-- AFE_DSLOSS (R372): A ΔΣ clock shows no rising edge for 1 µs, so the channel holds and publishes AFE_DSLOSS. -/
  | afeDsloss (ch : Fin 16)
  /-- COMPARATOR_EDGE (R373): A comparator output changes; a rising edge sets its RISE bit and publishes AFE_CMPc. -/
  | comparatorEdge (cmp : Fin 48) (vp vn : Int)
  /-- AFE_DAC_WRITE (R374): A write of AFE_DAC.CODE sets the reference DAC unless a slot drives it. -/
  | afeDacWrite (w : Writer) (cmp : Fin 48) (v : Word)
  /-- AFE_CMPCFG_WRITE (R378): A write of AFE_CMPCFG configures a comparator, leaving its output undefined for 50 ns. -/
  | afeCmpcfgWrite (w : Writer) (cmp : Fin 48) (v : Word)
  /-- MAINS_ZERO_CROSSING (R380): A mains zero crossing publishes AFE_MAINSZC and updates AFE_MMEAS. -/
  | mainsZeroCrossing (rms : BitVec 16) (halfNs peak : Nat)
  /-- MAINS_CROSSING_TIMEOUT (R380): No crossing for 25 ms makes FREQ read 0. -/
  | mainsCrossingTimeout
  /-- MAINS_HALF_CYCLE_MISSING (R381): A half-cycle whose peak has not exceeded PFTHR by 1.15 H is missing, counted and flagged. -/
  | mainsHalfCycleMissing
  /-- POWER_FAIL_WARNING (R381): The power-fail line is asserted, PFW_N driven low, and a curtain trigger called. -/
  | powerFailWarning
  /-- RAILS_LOST (R545): The rails leave their operating ranges and the module enters DARK. -/
  | railsLost
  -- Encoders and set-points
  /-- ENCODER_TICK (R385): Each 100 ns every encoder interface latches its position, starting serial frames on their FDIV-th tick. -/
  | encoderTick
  /-- QUADRATURE_EDGE (R386): A filtered quadrature transition changes the count, or raises cause 0x1 when A and B change together. -/
  | quadratureEdge (n : Fin 8) (a b : Bool)
  /-- SINCOS_RESULT (R387): A sin/cos conversion result arrives and updates the phase, with amplitude and overspeed checks. -/
  | sincosResult (n : Fin 8)
  /-- SERIAL_FRAME_END (R390): A BiSS-C or SSI frame ends and its position is delivered or a fault raised. -/
  | serialFrameEnd (n : Fin 8) (started : Bool) (pos : BitVec 48) (crcOk ne nw : Bool)
  /-- INDEX_EDGE (R392): A rising index edge latches ENC_IDX and, when armed, loads the preset. -/
  | indexEdge (n : Fin 8)
  /-- ENC_PRESET (R392): A write of ENC_CFG.PRESET loads the preset value at the next event-clock edge. -/
  | encPreset (w : Writer) (n : Fin 8)
  /-- SETPOINT_STEP (R393): A rising STEP edge adds ±1 to a set-point count by DIR. -/
  | setpointStep (j : Fin 4) (dir early : Bool)
  -- Call board
  /-- EVENT_DELIVERY (R403): A published event reaches its channel's consumer 1 to 2 cycles later, merging and counting against the ceiling. -/
  | eventDelivery
  /-- CALL_RUNAWAY_CLEAR (R406): A write of 1 to a CALL_RUNAWAY bit re-enables the channel from the next boundary. -/
  | callRunawayClear (w : Writer) (idx : Fin 8) (v : Word)
  /-- EVIN_EDGE (R400): A rising edge on EVINn publishes EVIN(n). -/
  | evinEdge (n : Fin 16)
  /-- EVOUT_PULSE_END (R402): The 10 ns EVOUT pulse ends after the last merged event. -/
  | evoutPulseEnd (n : Fin 16)
  -- DMA
  /-- DMA_GO (R425): A write of DMA_CTRL.GO starts or resumes a channel. -/
  | dmaGo (w : Writer) (ch : Fin 64) (v : Word)
  /-- DMA_ABORT (R426): A write of DMA_CTRL.ABORT ends a channel's transfer after outstanding beats. -/
  | dmaAbort (w : Writer) (ch : Fin 64)
  /-- DMA_ABORT_COMPLETE (R425): Outstanding beats of an aborted channel end and it returns to IDLE. -/
  | dmaAbortComplete (ch : Fin 64)
  /-- DMA_READ_BEAT (R411): Each cycle an engine's read port issues a beat for the eligible channel of highest priority. -/
  | dmaReadBeat (engine : Fin 4)
  /-- DMA_READ_RETURN (R412): Read data of a beat returns into the channel's queue, or the beat fails. -/
  | dmaReadReturn (ch : Fin 64)
  /-- DMA_WRITE_ACK (R415): A write beat is acknowledged, advancing progress, and may complete the transfer or descriptor. -/
  | dmaWriteAck (ch : Fin 64)
  /-- DMA_DESCRIPTOR_FETCH (R419): A descriptor fetch completes, starting it, stopping in EMPTY or halting on FORMAT. -/
  | dmaDescriptorFetch (ch : Fin 64)
  -- Pins
  /-- GPIO_PCFG_WRITE (R433): A pin configuration write; a change of FSEL parks the pin for 2 cycles first. -/
  | gpioPcfgWrite (w : Writer) (port : Fin 8) (pin : Fin 32) (v : Word)
  /-- GPIO_FUNCTION_SWITCH (R433): After the 2-cycle park the new function takes the pin. -/
  | gpioFunctionSwitch (port : Fin 8) (pin : Fin 32)
  /-- GPIO_MASKED_WRITE (R439): A write of GPIO_PxMWL or MWH sets masked output bits, pin by pin under ownership. -/
  | gpioMaskedWrite (w : Writer) (port : Fin 8) (high : Bool) (v : Word)
  /-- GPIO_OWNER_WRITE (R436): A write of GPIO_PxOWNk sets pin owners field by field. -/
  | gpioOwnerWrite (w : Writer) (port : Fin 8) (k : Fin 4) (v : Word)
  /-- GPIO_LOCK_MASK (R437): A write of GPIO_PxLCKM is step 1 of the lock sequence. -/
  | gpioLockMask (w : Writer) (port : Fin 8) (v : Word)
  /-- GPIO_LKEY (R437): A write of GPIO_LKEY is step 2 or 3 of the lock sequence; step 3 locks the masked pins. -/
  | gpioLkey (w : Writer) (v : Word)
  /-- GPIO_LOCK_TIMEOUT (R437): A gap over 64 cycles breaks the lock sequence and sets LKSEQ. -/
  | gpioLockTimeout
  /-- WAKE_DETECT (R442): A wake land reads active on DEB samples after release and wakes the module from WINGS or DARK. -/
  | wakeDetect (land : Fin 16)
  /-- SERDAT_WRITE (R445): A write of GPIO_SERDAT pushes a TX entry or sets TXOVF. -/
  | serdatWrite (w : Writer) (n : Fin 4) (v : Word)
  /-- SERDAT_READ (R445): A read of GPIO_SERDAT pops an RX entry or sets UNDF. -/
  | serdatRead (w : Writer) (n : Fin 4)
  /-- SERIAL_TRANSFER_DONE (R445): A serial engine completes a byte or word transfer and yields an RX entry. -/
  | serialTransferDone (n : Fin 4) (rx : Word)
  /-- UART_RECEIVE (R445): A UART byte is received into the RX FIFO or lost with RXOVF. -/
  | uartReceive (n : Fin 4) (rx : Word)
  /-- I2C_STRETCH_TIMEOUT (R445): A clock stretch over 10 ms ends the transfer with STOP and sets STRETCH. -/
  | i2cStretchTimeout (n : Fin 4)
  -- Power budget scheduler
  /-- PBS_LATCH (R453): 800 event-clock cycles before a boundary PBS latches requests and measurements, tests overdraw and computes the grant. -/
  | pbsLatch
  /-- MEMBER_REPORT_TIMEOUT (R463): A member with no report for 64 cues is assigned its FLOOR. -/
  | memberReportTimeout (member : Fin 16)
  /-- SHARE_LOSS_TIMEOUT (R465): No share for 64 cues makes a member use FALLBACK and set SHARELOSS. -/
  | shareLossTimeout
  -- Work journal
  /-- JRNL_ACCEPT (R469): A write of JRNL_CTRL.ACCEPT starts acceptance of the order in JRNL_ASEQ. -/
  | jrnlAccept (w : Writer)
  /-- ACCEPT_COMPLETE (R469): ACCEPT processing ends with ARES and, for result 0x1, a new order record and token. -/
  | acceptComplete
  /-- JRNL_ABANDON (R486): A write of JRNL_CTRL.ABANDON abandons the oldest unretired order. -/
  | jrnlAbandon (w : Writer)
  /-- CV_LINE_WRITE (R475): In its fixed slot a commit-vector line holding new captures is written to PMEM. -/
  | cvLineWrite (line : Fin 512)
  /-- FINAL_SEAL (R479): At step 5 of the curtain, once DRAIN is 0, JRNL writes a FINAL seal and may set RESUMEP. -/
  | finalSeal
  /-- ORDER_RETIRE (R471): An order whose last swath has ended and whose captures are durable is written RETIRED. -/
  | orderRetire
  -- Byrov
  /-- BYR_CTRL_WRITE (R508): A write of BYR_CTRL enables or disables Byrov ports. -/
  | byrCtrlWrite (w : Writer) (v : Word)
  /-- BYR_BLOCK_SLOT (R504): Each 12.8 ns block slot of a Byrov lane sends or forwards a block. -/
  | byrBlockSlot (port : Fin 3) (arrival : List Blk)
  /-- BYR_MARK (R507): A MARK arrives on a downstream port, answered by ECHO and setting the node's time. -/
  | byrMark (port : Fin 3) (sf : BitVec 24) (crcOk : Bool) (dly : BitVec 16)
  /-- BYR_ECHO (R507): An ECHO arrives at the upstream node and one delay is measured. -/
  | byrEcho (port : Fin 3) (rtt : BitVec 32)
  /-- BYR_CAPS (R508): A peer's CAPS is received and its level checked. -/
  | byrCaps (port : Fin 3) (addr : BitVec 18) (level : BitVec 8) (tbrd : BitVec 16)
  /-- BYR_TIME (R505): A TIME block carries the superframe number. -/
  | byrTime (port : Fin 3) (sf : BitVec 56)
  /-- BYR_CUEINFO (R507): A CUEINFO block gives a follower the root cue count and boundary position. -/
  | byrCueinfo (port : Fin 3) (count : BitVec 40) (cycles : BitVec 12)
  /-- BYR_JOIN (R508): A JOIN request, admit or refuse packet is received, splicing the port or sending it to FAULT. -/
  | byrJoin (port : Fin 3) (kind : BitVec 8) (src : BitVec 18)
  /-- BYR_TRAIN_TIMEOUT (R508): A port in TRAIN for 10 ms goes to FAULT. -/
  | byrTrainTimeout (port : Fin 3)
  /-- BYR_LOCK_LOSS (R508): No valid input block for 12.8 µs, or four MARK CRC failures, takes an UP port to FAULT. -/
  | byrLockLoss (port : Fin 3)
  /-- BYR_WR (R511): A WR packet writes into a granted region and is answered with WRACK. -/
  | byrWr (src : BitVec 18) (tag : BitVec 8) (addr : Addr) (data : List Byte)
  /-- BYR_RD (R511): An RD packet reads a granted region and is answered with RDR. -/
  | byrRd (src : BitVec 18) (tag : BitVec 8) (addr : Addr) (len : BitVec 9)
  /-- BYR_RDR (R511): An RDR returns read data or a refusal to the loading core. -/
  | byrRdr (tag : BitVec 8) (status : BitVec 8) (data : List Byte)
  /-- BYR_WRACK (R511): A WRACK completes a remote store, with a refusal becoming POSTED_FAULT. -/
  | byrWrack (tag : BitVec 8) (status : BitVec 8)
  /-- REMOTE_ACCESS_TIMEOUT (R509): A remote WR or RD unanswered within BYR_TMO raises POSTED_FAULT or DBUS. -/
  | remoteAccessTimeout (tag : BitVec 8)
  /-- BYR_MSG (R512): A MSG packet is placed in the message ring for firmware. -/
  | byrMsg (src : BitVec 18) (data : List Byte)
  /-- BYR_PBS_REPORT (R463): A share report from a member reaches the owner. -/
  | byrPbsReport (group : BitVec 8) (member : Fin 16) (request floor : BitVec 20)
  /-- BYR_PBS_SHARE (R465): A share from the owner reaches a member. -/
  | byrPbsShare (group : BitVec 8) (member : Fin 16) (share : BitVec 20)
  /-- BYR_EVT (R510): An EVT packet publishes BYR_EVIN(r) when its source is accepted, or is rejected. -/
  | byrEvt (src : BitVec 18) (r : Fin 32)
  /-- BYR_MTX_GO (R512): A write of BYR_MTX.GO sends a message slot to a node. -/
  | byrMtxGo (w : Writer) (v : Word)
  /-- BYR_MRX_POP (R512): A write of BYR_MRX.POP frees the head received-message slot. -/
  | byrMrxPop (w : Writer)
  -- Updates
  /-- UPD_VERIFY (R522): A write of UPD_CTRL.VERIFY starts verification of one image chunk. -/
  | updVerify (w : Writer) (v : Word)
  /-- VERIFY_COMPLETE (R522): A chunk verification completes, setting DONE, PASS and possibly ALLOK. -/
  | verifyComplete
  /-- UPD_ACT (R525): A write of UPD_CTRL.ACT requests an activation, or is refused with ACAUSE. -/
  | updAct (w : Writer) (v : Word)
  /-- ACTIVATION_COMPLETE (R526): At boundary E after loading, slots initialise, units rejoin and the completion NOTIFY is sent. -/
  | activationComplete
  /-- IMGDATA (R523): A chain message delivers 1,024 bytes of an image chunk. -/
  | imgdata (src : BitVec 18) (chunk : BitVec 16) (p : Fin 1024) (data : List Byte)
  /-- CHUNKACK (R524): A chain message reports a chunk's verification, letting the next chunk go or retrying. -/
  | chunkack (src : BitVec 18) (chunk : BitVec 16) (result : BitVec 8)
  /-- ACTREQ (R529): A chain message asks the node to activate its inactive bank. -/
  | actreq (src : BitVec 18) (mode : Bool) (version : Word) (origin : BitVec 18)
  /-- ACTDONE (R529): A chain message reports an activation's result to the origin. -/
  | actdone (src : BitVec 18) (result : BitVec 4) (version : Word) (node : BitVec 18)
  -- Black box
  /-- BBX_WR (R535): A write of BBX_CTRL.WR queues a firmware black-box record. -/
  | bbxWr (w : Writer) (v : Word)
  /-- BBX_RECORD_WRITE (R535): BBX writes a queued record into the pin or wrap area of the black box. -/
  | bbxRecordWrite
  /-- BBX_CALSET (R538): A write of BBX_CTRL.CALSET loads the calendar and sets VALID. -/
  | bbxCalset (w : Writer) (v : Word)
  /-- CALENDAR_SECOND (R538): The calendar counts one second on the 32,768 Hz clock. -/
  | calendarSecond
  /-- NOZZLE_COUNT_FLUSH (R536): The flush of the idle nozzle-count bank into PMEM completes. -/
  | nozzleCountFlush
  /-- SEC_DBG_LOCK (R540): A write of 1 to SEC_DBG.LOCK refuses every debug halt until reset. -/
  | secDbgLock (w : Writer)
  -- Supply, clock and late rows
  /-- SELV_OVERLOAD (R548): An overloaded SELV output limits its current and sets OL5 or OL12. -/
  | selvOverload (rail12 : Bool)
  /-- SELV_THERMAL_OFF (R548): An overloaded output stage reaches 125 °C and that output switches off. -/
  | selvThermalOff (rail12 : Bool)
  /-- SELV_RESTART (R548): An output switched off restarts once its stage has cooled by 20 °C. -/
  | selvRestart (rail12 : Bool)
  /-- CLOCK_STOP (R362): The 1 GHz timebase stops, so every PWM unit freezes and FROZEN is set. -/
  | clockStop
  /-- ALWAYS_ON_RAIL_COLLAPSE (R538): With no mains and VBAT below 2.5 V the always-on rail collapses, clearing BBX_CALH.VALID, GPIO_WAKECFG and GPIO_STAT.WAKESRC. -/
  | alwaysOnRailCollapse
  /-- DELTA_SIGMA_CLOCK_RETURN (R372): Edges return on a lost ΔΣ channel clock, and the channel resumes with a filter restart. -/
  | deltaSigmaClockReturn (ch : Fin 16)
  /-- ALL_CHANNELS_IN_SELF_REFRESH (R160): Every LPDDR5X channel has entered self-refresh after entry to WINGS, so DRC_STAT.SREF reads 1 and READY 0. -/
  | allChannelsInSelfRefresh
  /-- DMA_WRITE_BEAT (R411): In a cycle, an engine's write port issues a beat for the eligible channel of highest priority whose queue holds released data. -/
  | dmaWriteBeat (engine : Fin 4)
  deriving DecidableEq, Repr

end Sys2Proof
end

