-- ==== Sys2Proof/Decode.lean ====
section
/-!
DEFINITION. The decoder over the opcode table's bits, of which no row of spec/opcode_table.json has any (DESIGN CHOICE, log entry 1), and
the formats, the encoder and the decoder of the Lomer instruction words (R88, R89).
-/

namespace Sys2Proof

/-- The command that the word `w` of `nbits` bits spells by the table: none, for no row gives bits. -/
def decodeTableWord (nbits w : Nat) : Option Instr :=
  match nbits, w with
  | _, _ => none

end Sys2Proof

namespace Sys2Proof.Machine

/-! ## Lomer words (R88, R89) -/

/-- The words of the formats (R88). -/
def wordReg (major minor : Nat) (d s1 s2 : BitVec 5) (aux : BitVec 6) : Word :=
  BitVec.ofNat 6 major ++ d ++ s1 ++ s2 ++ BitVec.ofNat 5 minor ++ aux
def wordImm (major : Nat) (d s1 : BitVec 5) (imm : BitVec 16) : Word := BitVec.ofNat 6 major ++ d ++ s1 ++ imm
def wordMem (major : Nat) (d : BitVec 5) (a : BitVec 4) (mode : BitVec 3) (size : BitVec 2) (off : BitVec 12) : Word :=
  BitVec.ofNat 6 major ++ d ++ a ++ mode ++ size ++ off
def wordBcc (annul : Bool) (cond : BitVec 4) (disp : BitVec 21) : Word :=
  BitVec.ofNat 6 0x18 ++ BitVec.ofBool annul ++ cond ++ disp
def wordJump (major : Nat) (annul : Bool) (disp : BitVec 25) : Word := BitVec.ofNat 6 major ++ BitVec.ofBool annul ++ disp
def wordLoop (level imm : Bool) (cnt len : BitVec 12) : Word :=
  BitVec.ofNat 6 0x1C ++ BitVec.ofBool level ++ BitVec.ofBool imm ++ cnt ++ len
def wordSys (minor : Nat) (d : BitVec 5) (sysreg : BitVec 10) (aux : BitVec 6) : Word :=
  BitVec.ofNat 6 0x22 ++ d ++ sysreg ++ BitVec.ofNat 5 minor ++ aux

/-- Whether R89 lists the major and minor of a word. -/
def listedWord (w : Word) : Bool :=
  let minor := fieldOf w 10 6
  match fieldOf w 31 26 with
  | 0x00 => decide (minor ≤ 27)
  | 0x08 => decide (minor ≤ 9)
  | 0x0A => decide (minor ≤ 7)
  | 0x1B => decide (minor ≤ 1)
  | 0x1D | 0x1E => decide (minor = 0)
  | 0x20 => decide (minor ≤ 6)
  | 0x22 => decide (minor ≤ 8)
  | m => decide ((1 ≤ m ∧ m ≤ 7) ∨ m = 0x09 ∨ m = 0x0B ∨ (0x10 ≤ m ∧ m ≤ 0x16) ∨ (0x18 ≤ m ∧ m ≤ 0x1A) ∨ m = 0x1C ∨ m = 0x1F)

/-- The fields of the Register format: d, s1, s2, aux. -/
def regFields (w : Word) : BitVec 5 × BitVec 5 × BitVec 5 × BitVec 6 :=
  (w.extractLsb' 21 5, w.extractLsb' 16 5, w.extractLsb' 11 5, w.extractLsb' 0 6)

/-- Major 0x00 by its minor (R89). -/
def decodeAlu (h : Hart) (w : Word) : Instr :=
  let (d, s1, s2, aux) := regFields w
  match fieldOf w 10 6 with
  | 0 => .add h d s1 s2 aux
  | 1 => .addc h d s1 s2 aux
  | 2 => .sub h d s1 s2 aux
  | 3 => .subc h d s1 s2 aux
  | 4 => .and h d s1 s2 aux
  | 5 => .or h d s1 s2 aux
  | 6 => .xor h d s1 s2 aux
  | 7 => .andn h d s1 s2 aux
  | 8 => .shl h d s1 s2 aux
  | 9 => .shr h d s1 s2 aux
  | 10 => .sar h d s1 s2 aux
  | 11 => .shli h d s1 s2 aux
  | 12 => .shri h d s1 s2 aux
  | 13 => .sari h d s1 s2 aux
  | 14 => .mul h d s1 s2 aux
  | 15 => .mulhs h d s1 s2 aux
  | 16 => .mulhu h d s1 s2 aux
  | 17 => .adds h d s1 s2 aux
  | 18 => .subs h d s1 s2 aux
  | 19 => .abs h d s1 s2 aux
  | 20 => .neg h d s1 s2 aux
  | 21 => .min h d s1 s2 aux
  | 22 => .max h d s1 s2 aux
  | 23 => .clz h d s1 s2 aux
  | 24 => .mov h d s1 s2 aux
  | 25 => .cmp h d s1 s2 aux
  | 26 => .tst h d s1 s2 aux
  | 27 => .sel h d s1 s2 aux
  | _ => .nop h w

/-- Major 0x08 by its minor (R89). -/
def decodeMac (h : Hart) (w : Word) : Instr :=
  let (d, s1, s2, aux) := regFields w
  match fieldOf w 10 6 with
  | 0 => .mula h d s1 s2 aux
  | 1 => .mac h d s1 s2 aux
  | 2 => .msu h d s1 s2 aux
  | 3 => .mulu h d s1 s2 aux
  | 4 => .macu h d s1 s2 aux
  | 5 => .clra h d s1 s2 aux
  | 6 => .ext h d s1 s2 aux
  | 7 => .accadd h d s1 s2 aux
  | 8 => .accset h d s1 s2 aux
  | 9 => .guard h d s1 s2 aux
  | _ => .nop h w

/-- Major 0x0A by its minor (R89). -/
def decodeMove (h : Hart) (w : Word) : Instr :=
  let (d, s1, s2, aux) := regFields w
  match fieldOf w 10 6 with
  | 0 => .mova h d s1 s2 aux
  | 1 => .addad h d s1 s2 aux
  | 2 => .subad h d s1 s2 aux
  | 3 => .movda h d s1 s2 aux
  | 4 => .movad h d s1 s2 aux
  | 5 => .movahd h d s1 s2 aux
  | 6 => .movm h d s1 s2 aux
  | 7 => .movmd h d s1 s2 aux
  | _ => .nop h w

/-- Major 0x20 by its minor (R89). -/
def decodeLong (h : Hart) (w : Word) (elems : Nat) : Instr :=
  let (d, s1, s2, aux) := regFields w
  match fieldOf w 10 6 with
  | 0 => .bmov h d s1 s2 aux elems
  | 1 => .vmac16 h d s1 s2 aux elems
  | 2 => .vmac32 h d s1 s2 aux elems
  | 3 => .vmac16m h d s1 s2 aux elems
  | 4 => .vmac32m h d s1 s2 aux elems
  | 5 => .crcb32 h d s1 s2 aux elems
  | 6 => .crcb16 h d s1 s2 aux elems
  | _ => .nop h w

/-- Major 0x22 by its minor (R89). -/
def decodeSys (h : Hart) (w : Word) : Instr :=
  let d := w.extractLsb' 21 5
  let r := w.extractLsb' 11 10
  let aux := w.extractLsb' 0 6
  match fieldOf w 10 6 with
  | 1 => .mfs h d r aux
  | 2 => .mts h d r aux
  | 3 => .rfe h d r aux
  | 4 => .trap h d r aux
  | 5 => .ifence h d r aux
  | 6 => .fence h d r aux
  | 7 => .bpFlush h d r aux
  | 8 => .bpBar h d r aux
  | _ => .nop h w

/-- The instruction that a word spells (R88, R89), for hart `h`; `elems` is for a long instruction, the elements that come before an
interrupt. A word that R89 does not list, or NOP's, is the row NOP with that word (R86). -/
def decodeLomer (h : Hart) (w : Word) (elems : Nat) : Instr :=
  let (d, s1, s2, aux) := regFields w
  let imm := w.extractLsb' 0 16
  let a := w.extractLsb' 17 4
  let mode := w.extractLsb' 14 3
  let size := w.extractLsb' 12 2
  let off := w.extractLsb' 0 12
  match fieldOf w 31 26 with
  | 0x00 => decodeAlu h w
  | 0x01 => .addi h d s1 imm
  | 0x02 => .andi h d s1 imm
  | 0x03 => .ori h d s1 imm
  | 0x04 => .xori h d s1 imm
  | 0x05 => .cmpi h d s1 imm
  | 0x06 => .movi h d s1 imm
  | 0x07 => .movhi h d s1 imm
  | 0x08 => decodeMac h w
  | 0x09 => .addai h d s1 imm
  | 0x0A => decodeMove h w
  | 0x0B => .setah h d s1 imm
  | 0x10 => .lds h d a mode size off
  | 0x11 => .ldz h d a mode size off
  | 0x12 => .st h d a mode size off
  | 0x13 => .lda h d a mode size off
  | 0x14 => .sta h d a mode size off
  | 0x15 => .ldacc h d a mode size off
  | 0x16 => .stacc h d a mode size off
  | 0x18 => .bcc h (w.getLsbD 25) (w.extractLsb' 21 4) (w.extractLsb' 0 21)
  | 0x19 => .j h (w.getLsbD 25) (w.extractLsb' 0 25)
  | 0x1A => .call h (w.getLsbD 25) (w.extractLsb' 0 25)
  | 0x1B => match fieldOf w 10 6 with
    | 0 => .jr h d s1 s2 aux
    | 1 => .callr h d s1 s2 aux
    | _ => .nop h w
  | 0x1C => .loop h (w.getLsbD 25) (w.getLsbD 24) (w.extractLsb' 12 12) (w.extractLsb' 0 12)
  | 0x1D => if fieldOf w 10 6 = 0 then .wfe h d s1 s2 aux else .nop h w
  | 0x1E => if fieldOf w 10 6 = 0 then .waitt h d s1 s2 aux else .nop h w
  | 0x1F => .sev h d s1 imm
  | 0x20 => decodeLong h w elems
  | 0x22 => decodeSys h w
  | _ => .nop h w

/-- The hart and the word of a Lomer instruction, with the elements of a long one (R88, R89); none for the other commands. -/
def lomerWord (i : Instr) : Option (Hart × Word × Nat) :=
  match i with
  | .add h d s1 s2 aux => some (h, wordReg 0x00 0 d s1 s2 aux, 0)
  | .addc h d s1 s2 aux => some (h, wordReg 0x00 1 d s1 s2 aux, 0)
  | .sub h d s1 s2 aux => some (h, wordReg 0x00 2 d s1 s2 aux, 0)
  | .subc h d s1 s2 aux => some (h, wordReg 0x00 3 d s1 s2 aux, 0)
  | .and h d s1 s2 aux => some (h, wordReg 0x00 4 d s1 s2 aux, 0)
  | .or h d s1 s2 aux => some (h, wordReg 0x00 5 d s1 s2 aux, 0)
  | .xor h d s1 s2 aux => some (h, wordReg 0x00 6 d s1 s2 aux, 0)
  | .andn h d s1 s2 aux => some (h, wordReg 0x00 7 d s1 s2 aux, 0)
  | .shl h d s1 s2 aux => some (h, wordReg 0x00 8 d s1 s2 aux, 0)
  | .shr h d s1 s2 aux => some (h, wordReg 0x00 9 d s1 s2 aux, 0)
  | .sar h d s1 s2 aux => some (h, wordReg 0x00 10 d s1 s2 aux, 0)
  | .shli h d s1 s2 aux => some (h, wordReg 0x00 11 d s1 s2 aux, 0)
  | .shri h d s1 s2 aux => some (h, wordReg 0x00 12 d s1 s2 aux, 0)
  | .sari h d s1 s2 aux => some (h, wordReg 0x00 13 d s1 s2 aux, 0)
  | .mul h d s1 s2 aux => some (h, wordReg 0x00 14 d s1 s2 aux, 0)
  | .mulhs h d s1 s2 aux => some (h, wordReg 0x00 15 d s1 s2 aux, 0)
  | .mulhu h d s1 s2 aux => some (h, wordReg 0x00 16 d s1 s2 aux, 0)
  | .adds h d s1 s2 aux => some (h, wordReg 0x00 17 d s1 s2 aux, 0)
  | .subs h d s1 s2 aux => some (h, wordReg 0x00 18 d s1 s2 aux, 0)
  | .abs h d s1 s2 aux => some (h, wordReg 0x00 19 d s1 s2 aux, 0)
  | .neg h d s1 s2 aux => some (h, wordReg 0x00 20 d s1 s2 aux, 0)
  | .min h d s1 s2 aux => some (h, wordReg 0x00 21 d s1 s2 aux, 0)
  | .max h d s1 s2 aux => some (h, wordReg 0x00 22 d s1 s2 aux, 0)
  | .clz h d s1 s2 aux => some (h, wordReg 0x00 23 d s1 s2 aux, 0)
  | .mov h d s1 s2 aux => some (h, wordReg 0x00 24 d s1 s2 aux, 0)
  | .cmp h d s1 s2 aux => some (h, wordReg 0x00 25 d s1 s2 aux, 0)
  | .tst h d s1 s2 aux => some (h, wordReg 0x00 26 d s1 s2 aux, 0)
  | .sel h d s1 s2 aux => some (h, wordReg 0x00 27 d s1 s2 aux, 0)
  | .mula h d s1 s2 aux => some (h, wordReg 0x08 0 d s1 s2 aux, 0)
  | .mac h d s1 s2 aux => some (h, wordReg 0x08 1 d s1 s2 aux, 0)
  | .msu h d s1 s2 aux => some (h, wordReg 0x08 2 d s1 s2 aux, 0)
  | .mulu h d s1 s2 aux => some (h, wordReg 0x08 3 d s1 s2 aux, 0)
  | .macu h d s1 s2 aux => some (h, wordReg 0x08 4 d s1 s2 aux, 0)
  | .clra h d s1 s2 aux => some (h, wordReg 0x08 5 d s1 s2 aux, 0)
  | .ext h d s1 s2 aux => some (h, wordReg 0x08 6 d s1 s2 aux, 0)
  | .accadd h d s1 s2 aux => some (h, wordReg 0x08 7 d s1 s2 aux, 0)
  | .accset h d s1 s2 aux => some (h, wordReg 0x08 8 d s1 s2 aux, 0)
  | .guard h d s1 s2 aux => some (h, wordReg 0x08 9 d s1 s2 aux, 0)
  | .mova h d s1 s2 aux => some (h, wordReg 0x0A 0 d s1 s2 aux, 0)
  | .addad h d s1 s2 aux => some (h, wordReg 0x0A 1 d s1 s2 aux, 0)
  | .subad h d s1 s2 aux => some (h, wordReg 0x0A 2 d s1 s2 aux, 0)
  | .movda h d s1 s2 aux => some (h, wordReg 0x0A 3 d s1 s2 aux, 0)
  | .movad h d s1 s2 aux => some (h, wordReg 0x0A 4 d s1 s2 aux, 0)
  | .movahd h d s1 s2 aux => some (h, wordReg 0x0A 5 d s1 s2 aux, 0)
  | .movm h d s1 s2 aux => some (h, wordReg 0x0A 6 d s1 s2 aux, 0)
  | .movmd h d s1 s2 aux => some (h, wordReg 0x0A 7 d s1 s2 aux, 0)
  | .addi h d s1 imm => some (h, wordImm 0x01 d s1 imm, 0)
  | .andi h d s1 imm => some (h, wordImm 0x02 d s1 imm, 0)
  | .ori h d s1 imm => some (h, wordImm 0x03 d s1 imm, 0)
  | .xori h d s1 imm => some (h, wordImm 0x04 d s1 imm, 0)
  | .cmpi h d s1 imm => some (h, wordImm 0x05 d s1 imm, 0)
  | .movi h d s1 imm => some (h, wordImm 0x06 d s1 imm, 0)
  | .movhi h d s1 imm => some (h, wordImm 0x07 d s1 imm, 0)
  | .addai h d s1 imm => some (h, wordImm 0x09 d s1 imm, 0)
  | .setah h d s1 imm => some (h, wordImm 0x0B d s1 imm, 0)
  | .sev h d s1 imm => some (h, wordImm 0x1F d s1 imm, 0)
  | .lds h d a mode size off => some (h, wordMem 0x10 d a mode size off, 0)
  | .ldz h d a mode size off => some (h, wordMem 0x11 d a mode size off, 0)
  | .st h d a mode size off => some (h, wordMem 0x12 d a mode size off, 0)
  | .lda h d a mode size off => some (h, wordMem 0x13 d a mode size off, 0)
  | .sta h d a mode size off => some (h, wordMem 0x14 d a mode size off, 0)
  | .ldacc h d a mode size off => some (h, wordMem 0x15 d a mode size off, 0)
  | .stacc h d a mode size off => some (h, wordMem 0x16 d a mode size off, 0)
  | .bcc h annul cond disp => some (h, wordBcc annul cond disp, 0)
  | .j h annul disp => some (h, wordJump 0x19 annul disp, 0)
  | .call h annul disp => some (h, wordJump 0x1A annul disp, 0)
  | .jr h d s1 s2 aux => some (h, wordReg 0x1B 0 d s1 s2 aux, 0)
  | .callr h d s1 s2 aux => some (h, wordReg 0x1B 1 d s1 s2 aux, 0)
  | .loop h level imm cnt len => some (h, wordLoop level imm cnt len, 0)
  | .wfe h d s1 s2 aux => some (h, wordReg 0x1D 0 d s1 s2 aux, 0)
  | .waitt h d s1 s2 aux => some (h, wordReg 0x1E 0 d s1 s2 aux, 0)
  | .bmov h d s1 s2 aux elems => some (h, wordReg 0x20 0 d s1 s2 aux, elems)
  | .vmac16 h d s1 s2 aux elems => some (h, wordReg 0x20 1 d s1 s2 aux, elems)
  | .vmac32 h d s1 s2 aux elems => some (h, wordReg 0x20 2 d s1 s2 aux, elems)
  | .vmac16m h d s1 s2 aux elems => some (h, wordReg 0x20 3 d s1 s2 aux, elems)
  | .vmac32m h d s1 s2 aux elems => some (h, wordReg 0x20 4 d s1 s2 aux, elems)
  | .crcb32 h d s1 s2 aux elems => some (h, wordReg 0x20 5 d s1 s2 aux, elems)
  | .crcb16 h d s1 s2 aux elems => some (h, wordReg 0x20 6 d s1 s2 aux, elems)
  | .mfs h d r aux => some (h, wordSys 1 d r aux, 0)
  | .mts h d r aux => some (h, wordSys 2 d r aux, 0)
  | .rfe h d r aux => some (h, wordSys 3 d r aux, 0)
  | .trap h d r aux => some (h, wordSys 4 d r aux, 0)
  | .ifence h d r aux => some (h, wordSys 5 d r aux, 0)
  | .fence h d r aux => some (h, wordSys 6 d r aux, 0)
  | .bpFlush h d r aux => some (h, wordSys 7 d r aux, 0)
  | .bpBar h d r aux => some (h, wordSys 8 d r aux, 0)
  | .nop h word => some (h, word, 0)
  | _ => none

end Sys2Proof.Machine
end

