-- ==== Sys2Proof/Config.lean ====
section
/-!
DEFINITION. What an implementation fixes and the values that the spec leaves open: opaque constants that no proof can
evaluate. Each is named by a row of the assumption log.
-/

namespace Sys2Proof.Config

/-- The byte that LPDDR5X holds at an address that nothing has written since its contents last became undefined
(R160, R162): a free value for each generation of contents (DESIGN CHOICE, log entry 3). -/
opaque dramByte : Nat → Nat → BitVec 8

/-- The n-th free value of the run (DESIGN CHOICE, log entry 4): whatever the spec leaves open, applied to State.freeCtr. -/
opaque freeNat : Nat → Nat

/-- The byte that an undefined program-store page reads as, for each generation of undefined contents (R186, log
entry 6). -/
opaque flashByte : Nat → Nat → BitVec 8

/-- Whether a read of an undefined program-store page ends in an uncorrectable error (R186, DESIGN CHOICE, log entry 6). -/
opaque flashBad : Nat → Nat → Bool

/-- Whether a quadrature count rises when A leads B (R385 gives no sense; DESIGN CHOICE, log entry 9). -/
opaque quadALeads : Bool

/-- A way in which a slot's command moves over its next runs, as (pc, vc, ac) of each (R321 and R334 bound it and give no
recurrence; DESIGN CHOICE, log entry 12). -/
opaque motion : Nat → List (Int × Int × Int)

/-- The supplies of the banks as GPIO_BANK shows them (R429): the integrator's board (DESIGN CHOICE, log entry 13). -/
opaque gpioBank : BitVec 16

/-- Whether the root ring of the Byrov domain is closed (R503): the integrator's cabling (DESIGN CHOICE, log entry 14). -/
opaque byrClosed : Bool

/-- The turnaround of this module's ECHO in 62.5 ps steps, which its CAPS declares (R505, R507; DESIGN CHOICE, log entry 14). -/
opaque byrTurnaround : BitVec 16

end Sys2Proof.Config
end

