-- ==== Sys2Proof/Machine/Store.lean ====
section
/-!
DEFINITION. Sparse maps from Nat: lists of (key, value) pairs with rising keys, in which an unlisted key reads as a
default. Register files, memories and unit arrays of the machine state are held in them.
-/

namespace Sys2Proof.Machine

/-- A sparse map: what is listed differs from the default that its reader names. -/
abbrev SMap (α : Type) := List (Nat × α)

/-- The value listed at key `k`, if any. -/
def mfind {α : Type} : SMap α → Nat → Option α
  | [], _ => none
  | (a, v) :: t, k => if a = k then some v else mfind t k

/-- The value at key `k`, `d` where none is listed. -/
def mget {α : Type} (d : α) (m : SMap α) (k : Nat) : α := (mfind m k).getD d

/-- `m` without key `k`. -/
def merase {α : Type} : SMap α → Nat → SMap α
  | [], _ => []
  | (a, v) :: t, k => if a = k then merase t k else (a, v) :: merase t k

/-- `m` with (k, v) put before the first greater key. -/
def minsert {α : Type} : SMap α → Nat → α → SMap α
  | [], k, v => [(k, v)]
  | (a, x) :: t, k, v => if k < a then (k, v) :: (a, x) :: t else (a, x) :: minsert t k v

/-- `m` with key `k` holding `v`. -/
def mset {α : Type} (m : SMap α) (k : Nat) (v : α) : SMap α := minsert (merase m k) k v

/-- `m` with key `k` holding `v`, where `v` is the value that an unlisted key reads as when `isDef` says so: then nothing
is listed. -/
def msetCanon {α : Type} (isDef : Bool) (m : SMap α) (k : Nat) (v : α) : SMap α :=
  if isDef then merase m k else mset m k v

/-- `m` with the value at `k` changed by `f`. -/
def mmod {α : Type} (d : α) (m : SMap α) (k : Nat) (f : α → α) : SMap α := mset m k (f (mget d m k))

/-- The canonical form: keys strictly rising, no listed value that `isDef` calls the default of its key. -/
def mwf {α : Type} (isDef : Nat → α → Bool) : SMap α → Bool
  | [] => true
  | [(a, v)] => !isDef a v
  | (a, v) :: (b, w) :: t => decide (a < b) && !isDef a v && mwf isDef ((b, w) :: t)

end Sys2Proof.Machine
end

