-- ==== Sys2Proof/Machine/State.lean ====
section
/-!
DEFINITION. The state of the module as plain data. The peripheral registers stand in `regs`, keyed by address (Regs.lean);
everything else that the spec gives the machine stands in the structures below, one per chapter.
What the spec leaves open here: log entries 2, 4 and 24.
-/

namespace Sys2Proof.Machine

/-! ## Reasons to stop -/

/-- Why the machine stops with a fault. No command of this module stops the machine (every error is taken as the
exception, the flag or the answer that the spec describes), so the type has one name only. -/
inductive Fault where
  /-- Raised by no meaning: kept so that the type is inhabited. Safe: it never arises. -/
  | none
  deriving DecidableEq, Repr

/-- Why a command is refused. -/
inductive Refusal where
  /-- Raised by `exec` for a command that has no meaning yet. Safe: the model stops where the hardware goes on. -/
  | notModelled (mnemonic : String)
  deriving DecidableEq, Repr

/-! ## Memory -/

/-- Memory: (physical address, byte) pairs in canonical form (Host.Cell). -/
abbrev Memory := List Host.Cell

/-- What a byte that nothing has written reads as, where that is a fixed value: 0 in ROM, SRAM (R154) and PMEM, 0xFF
(erased) in the program store; `none` in the LPDDR5X window, whose contents are undefined (R160), and in the lowest 64 KiB of
local store 12, which the ROM overwrites at every reset (R154). Log entry 3. -/
def memDefault (a : Nat) : Option Byte :=
  if (0x1000000000 ≤ a ∧ a ≤ 0x17FFFFFFFF) ∨ (0x08300000 ≤ a ∧ a < 0x08310000) then Option.none
  else if 0x0200000000 ≤ a ∧ a ≤ 0x02FFFFFFFF then some 0xFF#8
  else some 0x00#8

/-- Whether `v` is the fixed value that an unlisted address `a` reads as. -/
def isMemDefault (a : Nat) (v : Byte) : Bool := memDefault a == some v

/-- The canonical form of memory. -/
def Memory.wf (m : Memory) : Bool := mwf isMemDefault m

/-! ## Lomer cores (chapters 03 and 04) -/

/-- The condition flags (R63). -/
structure Flags where
  sv : Bool
  n : Bool
  z : Bool
  c : Bool
  v : Bool
  deriving DecidableEq, Repr

/-- One level of hardware loop (R75). -/
structure HwLoop where
  start : Addr
  last : Addr
  count : Word
  armed : Bool
  deriving DecidableEq, Repr

/-- A branch whose delay slot executes next (R72): its address, its target when taken, and whether R77 applies to it. -/
structure DelaySlot where
  branch : Addr
  target : Option Addr
  disarms : Bool
  deriving DecidableEq, Repr

/-- What the bytes of a load go to (R71, R83, R113): a data register, sign- or zero-extended, a pair of data registers, an
address register, an accumulator, one element of a long instruction, the frame of RFE. -/
inductive LoadDst where
  | data (d : Nat) (signed : Bool)
  | dataPair (d : Nat)
  | addr (a : Nat)
  | acc (n : Nat)
  | elem
  | frame
  deriving DecidableEq, Repr

/-- A load that waits for its data (R92, R116, R509): the instruction word, the destination, the parts (address, bytes) not
yet read, the bytes read so far, and the address register to write back with its new value; `remote` marks a part that waits
for an answer from a Byrov window. -/
structure LoadReq where
  word : Word
  dst : LoadDst
  parts : List (Addr × Nat)
  got : List Byte := []
  wb : Option (Nat × Addr) := Option.none
  remote : Bool := false
  deriving DecidableEq, Repr

/-- What a core waits for between two commands: nothing, a WFE event (R79), a WAITT target (R81), a load's data, remote
stores before a FENCE (R90). -/
inductive CoreWait where
  | none
  | wfe (d : Nat)
  | waitt (dt dm : Nat)
  | load (r : LoadReq)
  | fence
  deriving DecidableEq, Repr

/-- Whether a core executes: running, halted by the debug port (R142), stopped by a second machine check (R122), or held
in reset (R140, R564). -/
inductive RunState where
  | running
  | halted
  | stopped
  | inReset
  deriving DecidableEq, Repr

/-- One entry of the posted-fault queue (R117). -/
structure PostedFault where
  addr : Addr
  size : Nat
  remote : Bool
  deriving DecidableEq, Repr

/-- A Lomer core: the register classes of R58, the system registers of R87 and R124, and its execution state. -/
structure Core where
  d : SMap Word := []
  a : SMap Addr := []
  spMachine : Addr := 0
  spTask : Addr := 0
  m : SMap Word := []
  acc : SMap Acc := []
  flags : Flags := ⟨false, false, false, false, false⟩
  pc : Addr := 0
  delay : Option DelaySlot := Option.none
  loop0 : HwLoop := ⟨0, 0, 0, false⟩
  loop1 : HwLoop := ⟨0, 0, 0, false⟩
  cpl : BitVec 4 := 0
  ie : Bool := false
  tm : Bool := false
  mca : Bool := false
  holdCnt : Nat := 0
  vbase : Addr := 0
  tacc : BitVec 6 := 0
  estat : Word := 0
  epc : Addr := 0
  eaddr : Addr := 0
  eaddr2 : Addr := 0
  einstr : Word := 0
  mcstat : Word := 0
  mcepc : Addr := 0
  mcflags : Word := 0
  cmaddr : Addr := 0
  pf : List PostedFault := []
  pfOvf : Bool := false
  ien : BitVec 48 := 0
  ipend : BitVec 48 := 0
  iprio : SMap Word := []
  bpStatic : Bool := false
  bpFreeze : Bool := false
  bpbr : Word := 0
  bpmis : Word := 0
  bplook : Word := 0
  bpDir : SMap Nat := []
  bpTarget : SMap Addr := []
  bpReturn : List Addr := []
  vhold : SMap Word := []
  wait : CoreWait := CoreWait.none
  inputs : BitVec 16 := 0
  run : RunState := RunState.running
  /-- Data-cache lines by line number (address / 64); the cache does not snoop other masters (R94). -/
  dcache : SMap (List Byte) := []
  /-- Lines of the instruction cache and of the line buffer by line number; what an instruction does comes with its command, so
  that no contents are held (R94, log entry 22). -/
  icache : List Nat := []
  lineBuf : List Nat := []
  /-- Lines of the data cache and of the instruction cache in which a parity error stands (R95). -/
  dcBad : List Nat := []
  icBad : List Nat := []
  deriving DecidableEq, Repr

/-! ## Lockstep (chapter 05) -/

/-- One undo-log entry (R137): the aligned 8-byte unit of the local store and its old bytes. -/
abbrev UndoEntry := Nat × List Byte

/-- The lockstep state of one cue pair. -/
structure Pair where
  committed : Core := {}
  captured : Option Core := Option.none
  captureDue : Bool := false
  undoLead : List UndoEntry := []
  undoUnder : List UndoEntry := []
  undoBase : Nat := 0
  blocked : Bool := false
  hold : Bool := false
  holdB : BitVec 64 := 0
  released : Bool := false
  expired : Bool := false
  /-- Comparator lanes, (group, lane), that catch no difference: what the start-up test looks for (R135). No reset mends one. -/
  dead : List (Nat × Nat) := []
  deriving DecidableEq, Repr

/-! ## Device state (chapter 01) -/

/-- The job sub-states of RUN. -/
inductive Job where
  | idle
  | printing
  | paused
  deriving DecidableEq, Repr

/-- The device states. -/
inductive Dev where
  | dark
  | boot
  | places
  | run (j : Job)
  | curtain
  | wings
  | recovery
  deriving DecidableEq, Repr

/-- The state that a curtain is followed by (R27, R30). -/
inductive Follow where
  | dark
  | boot
  | recovery
  deriving DecidableEq, Repr

/-- The host commands that become due at a cue boundary (R32). -/
inductive StateCmd where
  | go
  | pause
  | resume
  | clear
  | enterWings
  | wake
  | shutdown
  | enterRecovery
  | restart
  deriving DecidableEq, Repr

/-- A waiting host command, the session that waits for its answer, and the cycle in which it arrived (R491). -/
structure WaitingCmd where
  cmd : StateCmd
  sess : Fin 64
  seq : BitVec 16
  clk : Nat
  deriving DecidableEq, Repr

/-- Device state, curtain progress, watchdogs and waiting state events. -/
structure Sys where
  dev : Dev := Dev.boot
  done : Bool := false
  resumeP : Bool := false
  mainsDue : Bool := false
  faultDue : Bool := false
  callDue : Option (Fin 64 × BitVec 16) := Option.none
  wakeDue : Bool := false
  cmds : List WaitingCmd := []
  follow : Option Follow := Option.none
  /-- Event-clock cycles since the first boundary of the curtain. -/
  elapsed : Nat := 0
  /-- Event-clock cycles since the first boundary after the mains warning, while a curtain runs. -/
  mainsElapsed : Option Nat := Option.none
  limitReached : Bool := false
  /-- Step 1 of the curtain is under way: a column is still being emitted (R34). -/
  emitting : Bool := false
  curtainLimitUs : Nat := 0
  wdPeriodUs : SMap Nat := []
  wdRemainNs : SMap Nat := []
  resetDue : Bool := false
  /-- The rails have left their ranges while DRAIN was 1: DARK is entered when DRAIN falls (R29, R475). -/
  railsDue : Bool := false
  recoveryReq : Bool := false
  /-- The STATE that SYS_STATE still reports until every channel is in self-refresh after entry to WINGS (R160). -/
  shown : Option Dev := Option.none
  /-- Reference source of SYSCFG (R204): 0 crystal, 1 REFCLK_IN, 2 Byrov-recovered. -/
  refSource : Nat := 0
  deriving DecidableEq, Repr

/-! ## The cue (chapter 02) -/

/-- The cue and time counters and what R42 to R56 keep beside the registers. -/
structure Cue where
  count : BitVec 64 := 0
  time : BitVec 64 := 0
  /-- Half nanoseconds that the 2.5 ns event clock leaves over, 0 or 1. -/
  halfNs : Nat := 0
  phase : Nat := 0
  done : BitVec 4 := 0
  /-- The event-clock cycle of the CUE_DONE write that `done` records and the pair's k before it, by pair; that of a second write
  and what DUPDONE was before it: writes in a boundary's own cycle count for the cue that the boundary begins (R47). -/
  doneClk : SMap (Nat × Nat) := []
  again : SMap (Nat × Bool) := []
  k : SMap Nat := []
  /-- A follower that locked in RUN still corrects its boundary phase (R55). -/
  phasing : Bool := false
  /-- Event-clock cycles left of the pulse on CUE_OUT and of the five after it, in which the land may still be read either way. -/
  outLeft : Nat := 0
  nextPeriod : Option Word := Option.none
  /-- PAIREN in force; a write takes effect at the next boundary (R53). -/
  pairen : BitVec 4 := 0
  disc : BitVec 2 := 0
  last : BitVec 64 := 0
  tofs : BitVec 64 := 0
  deriving DecidableEq, Repr

/-! ## Call board (chapter 17) -/

/-- An event in a channel's resynchroniser: the channel, the event-clock cycle of publication, and whether it has merged
with another (R404). -/
structure CallEvent where
  ch : Nat
  cycle : Nat
  merged : Bool
  deriving DecidableEq, Repr

/-- Events on their way, channels that wait for the boundary after a runaway bit was cleared (R406), and EVOUT pulses that are
high, with the cycles of their last events (R402); what left the resynchronisers in the last cycle in which anything did: the
cycle, and the channels with whether the ceiling discarded the event (R403, R405). -/
structure Call where
  inflight : List CallEvent := []
  waiting : BitVec 256 := 0
  evout : BitVec 16 := 0
  evoutClk : SMap Nat := []
  outClk : Nat := 0
  out : List (Nat × Bool) := []
  deriving DecidableEq, Repr

/-! ## Program store (chapter 07) -/

/-! ## Start-up (chapter 08) -/

/-- What BOOT keeps beside the SYS registers (R194 to R211): whether it followed a warm reset, the step that it takes next (0:
BOOT has ended), whether RECOVER_N was sampled low, the time (ns) of the release of reset, whether an image has been loaded and from
which bank, the schema level in force, the CORE state by core, the held-back CUE writes (record, offset, value), the
SETTINGS record; and what the PMEM header records: whether it is initialised, PKGDEAD, the Byrov address of the last step 15
(DESIGN CHOICE, log entry 17). -/
structure Boot where
  warm : Bool := false
  step : Nat := 2
  recover : Bool := false
  t0 : Nat := 0
  loaded : Bool := false
  bank : Nat := 0
  schema : Nat := 0
  cores : SMap Core := []
  held : List (Nat × Nat × Word) := []
  settings : Option (List Byte) := Option.none
  /-- The count has not been loaded since the last power-on reset (R43). -/
  countDue : Bool := true
  hdrInit : Bool := false
  hdrDead : Nat := 0
  hdrAddr : Option Nat := Option.none
  deriving DecidableEq, Repr

/-- An operation that the flash die runs: kind as FLS_STAT.OP codes it (1 program, 2 erase, 3 OTP), target address, the OTP
unit, and how often the erase has been suspended (R175, R183). -/
structure FlsOp where
  kind : Nat
  target : Nat
  unit : Nat
  suspends : Nat
  deriving DecidableEq, Repr

/-- The program store beside its registers and its contents in memory: the command sequence in progress (steps
done, 3 when its next step is late; bank, master, cycle of the last step), the running and the suspended operation, the write pointers by block, the OTP row, the
programmed OTP units, and the pages whose contents are undefined with the generation of their undefined bytes (R186). -/
structure Fls where
  steps : Nat := 0
  seqBank : Nat := 0
  seqBy : Nat := 0
  seqClk : Nat := 0
  op : Option FlsOp := Option.none
  susp : Option FlsOp := Option.none
  suspReq : Bool := false
  pointer : SMap Nat := []
  otp : SMap Byte := []
  otpDone : SMap Bool := []
  undef : SMap Nat := []
  deriving DecidableEq, Repr

/-! ## PWM units (chapter 14) -/

/-- One period, in 62.5 ps steps from its start (R344 to R348): its length, the interval [a, b) in which the ideal waveform of
compare A is high, with stretches applied, and that of compare B with independent outputs; the active intervals of OUTH and OUTL,
`none` where the output is not active, and the part of OUTL before a, which the period before began; the short intervals that
count once a and b have passed. -/
structure PwmPlan where
  len : Nat := 0
  a : Nat := 0
  b : Nat := 0
  aB : Nat := 0
  bB : Nat := 0
  outH : Option (Nat × Nat) := Option.none
  outL : Option (Nat × Nat) := Option.none
  carryL : Option (Nat × Nat) := Option.none
  shortH : Nat := 0
  shortL : Nat := 0
  deriving DecidableEq, Repr

/-- A PWM unit beside its registers: active compare B, a period that waits for the next wrap (R350), a pending transfer and the
time (ns) of its setting (R350, R351), waiting for SYNCUNIT to join (R353), outputs held parked until the next period start
(R359), the time at which its counter stood at 0, the present period, and the time at which its park last changed. -/
structure PwmUnit where
  actB : Nat := 0
  nextPeriod : Option Nat := Option.none
  load : Bool := false
  loadNs : Nat := 0
  syncWait : Bool := false
  returnWait : Bool := false
  startNs : Int := 0
  plan : PwmPlan := {}
  parkNs : Nat := 0
  deriving DecidableEq, Repr

/-- The PWM block: units, active trip lands, the freeze of R362 and what waits for its end: writes by address, and the disabling of
units by the module, an entry without a value at the unit's PWM_CTRL. -/
structure Pwm where
  units : SMap PwmUnit := []
  lands : BitVec 24 := 0
  clockStopped : Bool := false
  frozenAt : Option Nat := Option.none
  deferred : List (Nat × Option Word) := []
  deriving DecidableEq, Repr

/-! ## Encoders and set-points (chapter 16) -/

/-- An encoder interface beside its registers (R385 to R392): the position in counts, the position delivered at the last
tick and at the last sample instant, the land levels with whether the next ones are a new reference (R386), the last two
positions with their instants in ns (edges, conversions or frames), the direction of the last edge, the phases of the last
conversion and of the last good one, an index edge that waits for the next conversion, a passed frame that waits for its tick, the latch instant of
the running frame, ticks until the next frame, faults not yet reported and reported at the last tick, the cycle and
size of the last quadrature count, whether the last tick had a sample of its own (R249), and the travel since the last
rewrite of the lifetime records (R537). -/
structure EncUnit where
  pos : Int := 0
  out : Int := 0
  sample : Int := 0
  a : Bool := false
  b : Bool := false
  newRef : Bool := true
  seen : Nat := 0
  p1 : Int := 0
  t1 : Nat := 0
  p0 : Int := 0
  t0 : Nat := 0
  dir : Int := 1
  phase : Nat := 0
  goodPhase : Nat := 0
  idxWait : Bool := false
  frame : Bool := false
  latchNs : Nat := 0
  toFrame : Nat := 0
  faultNew : Bool := false
  faultOut : Bool := false
  edgeClk : Nat := 0
  edgeDelta : Int := 0
  newOut : Bool := false
  travel : Nat := 0
  deriving DecidableEq, Repr

/-- The encoder block: interfaces, and the values of the set-point inputs (step counts, last analogue values). -/
structure Enc where
  units : SMap EncUnit := []
  spval : SMap Int := []
  deriving DecidableEq, Repr

/-! ## Analogue front end (chapter 15) -/

/-- One SAR group (R367, R369): a trigger that waits since a cycle, and the conversions under way, oldest first, with the
cycle of their sample instant and the loop slots that it belongs to; the cycle from which the group is idle again. -/
structure AdcGroup where
  waiting : Option Nat := Option.none
  freeAt : Nat := 0
  convs : List (Nat × List Nat) := []
  deriving DecidableEq, Repr

/-- One ΔΣ channel's filter (R371): integrators, comb delays, outputs still to be flushed; the cycle of the last output and
the value before it (R313). -/
structure DsFilter where
  i1 : Nat := 0
  i2 : Nat := 0
  i3 : Nat := 0
  c1 : Nat := 0
  c2 : Nat := 0
  c3 : Nat := 0
  flush : Nat := 0
  outClk : Nat := 0
  prev : Int := 0
  deriving DecidableEq, Repr

/-- The front end: groups, each loop slot's own ADC results by 32 × slot + channel (R370), ΔΣ filters, the instants (ns) at
which running ramps started, the last half-cycles in ns, newest first, and the number of consecutive complete ones. -/
structure Afe where
  groups : SMap AdcGroup := []
  slotRes : SMap Int := []
  ds : SMap DsFilter := []
  ramps : SMap Nat := []
  halves : List Nat := []
  good : Nat := 0
  deriving DecidableEq, Repr

/-! ## Media tracking (chapter 12) -/

/-- A hand-over (R297): the new reference, the offsets dy_old − dy_new and dx_old − dx_new of the frames that count, newest
first (the rekey frame is the last), the frames still to come, and the last displacement against the new reference. -/
structure HandOver where
  frame : List Byte
  offY : List Int
  offX : List Int
  left : Nat
  newY : Int
  newX : Int
  deriving DecidableEq, Repr

/-- A port of media tracking (R295 to R301): reference frame and its position, position, the last good displacement and
its change from the one before, counts dead-reckoned since the last good result with their distance in nm / 2^46 and whether DRMAX has
been exceeded, consecutive
misses, the auxiliary encoder at the last result, the hand-over, the frames (none: discarded) and t_exp whose results are due, oldest first,
the last accepted Frame End, a missed FSYNC pulse, the result (good, t_exp) that waits for its pair, an armed capture. -/
structure MtrkPort where
  ref : Option (List Byte) := Option.none
  refY : Int := 0
  refX : Int := 0
  y : Int := 0
  x : Int := 0
  dy : Int := 0
  dx : Int := 0
  ddy : Int := 0
  ddx : Int := 0
  drY : Int := 0
  drNm : Int := 0
  drOver : Bool := false
  miss : Nat := 0
  aux : Int := 0
  handOver : Option HandOver := Option.none
  pend : List (Option (List Byte) × Nat) := []
  lastFe : Option Nat := Option.none
  skip : Bool := false
  res : Option (Bool × Nat) := Option.none
  capture : Bool := false
  deriving DecidableEq, Repr

/-- A combined result (R302, R304): whether there is one, y_c in Q40.8 nm and without OFFSET, t_exp in ns, its flags, and the cycle of its
completion. -/
structure MtrkResult where
  valid : Bool := false
  y : Int := 0
  raw : Int := 0
  texp : Nat := 0
  single : Bool := false
  dr : Bool := false
  clk : Nat := 0
  deriving DecidableEq, Repr

/-- The media-tracking block: ports, OFFSET and skew, a preset that waits, a combined result that is due, the last two
combined results, and the event-clock cycles left of an FSYNC pulse and of the five after it. -/
structure Mtrk where
  ports : SMap MtrkPort := []
  offset : Int := 0
  theta : Int := 0
  preset : Bool := false
  due : Bool := false
  last : MtrkResult := {}
  prev : MtrkResult := {}
  fsyncLeft : Nat := 0
  deriving DecidableEq, Repr

/-! ## Loop engine (chapter 13) -/

/-- A slot's state beside its registers: staged parameter words, integrators (Q2.46; `i1` the main one, `i2` the second of
FOC and PFC, `ip` the outer one of MEDIA), filter D and the negated feedback of the last run (PID), filtered velocity and
last position (AXIS, MEDIA), filter vms, amplitude and run count (PFC), profile (pc, vc, ac) with the reference of the last
run, the source value at entry to SOURCE mode, the latched inputs with their faults, sample time and MTRK result, whether a
sample waits for its update, output, second and third duty and FB with those of the update before and the cycle of the last
one, whether the slot is stopped by a fault, its curtain state, its run counts for R333 and R334, and the planned runs of the
profile or the stop as (pc, vc, ac) with the target and limits that they were planned for (R321, R334). -/
structure LoopSlot where
  staged : SMap Word := []
  i1 : Int := 0
  i2 : Int := 0
  ip : Int := 0
  d : Int := 0
  yprev : Int := 0
  fresh : Bool := true
  vm : Int := 0
  pPrev : Int := 0
  vms : Int := 0
  amp : Int := 0
  pfcRun : Nat := 0
  pc : Int := 0
  vc : Int := 0
  ac : Int := 0
  r : Int := 0
  sp : Int := 0
  srcIn : Bool := false
  xs0 : Int := 0
  raw : List Int := []
  inFault : Bool := false
  sampleNs : Nat := 0
  mtrk : MtrkResult := {}
  sampled : Bool := false
  u : Int := 0
  dutyB : Int := 0
  dutyC : Int := 0
  fb : Int := 0
  uPrev : Int := 0
  fbPrev : Int := 0
  outClk : Nat := 0
  stopped : Bool := false
  inposRuns : Nat := 0
  finishRuns : Nat := 0
  finished : Bool := false
  plan : List (Int × Int × Int) := []
  planKey : List Int := []
  deriving DecidableEq, Repr

/-- A rehearsal (R336 to R339): waiting for the next boundary, armed for the slot's next run, or running; the run number,
the sequence register, a STOP that waits for the boundary, the last u, the SLOT, POINT and WAVE that it started with, and
whether the slot met a fault since. -/
structure Rehearsal where
  waiting : Bool := false
  armed : Bool := false
  running : Bool := false
  n : Nat := 0
  lfsr : Nat := 1
  stop : Bool := false
  lastU : Int := 0
  slot : Nat := 0
  point : Nat := 0
  wave : Nat := 0
  faulted : Bool := false
  deriving DecidableEq, Repr

/-- The loop engine: slots, rehearsal, whether slots run under curtain control, and the first group not yet started. -/
structure Loop where
  slots : SMap LoopSlot := []
  rh : Rehearsal := {}
  curtain : Bool := false
  group : Nat := 0
  deriving DecidableEq, Repr

/-! ## Pins (chapter 19) -/

/-- The GPIO block beside its registers: pins (32 × port + pin) in the park of a function switch (R433); the lock sequence
of R437 as steps done, port, the writer's number and the cycle of the last step; the cycle of the last output change by
port and of the last set-up change by pin (R433, R440); the FIFOs of the serial engines (R445). -/
structure Gpio where
  parked : List Nat := []
  lkStep : Nat := 0
  lkPort : Nat := 0
  lkBy : Nat := 0
  lkClk : Nat := 0
  outClk : SMap Nat := []
  pinClk : SMap Nat := []
  tx : SMap (List Word) := []
  rx : SMap (List Word) := []
  deriving DecidableEq, Repr

/-! ## Power budget scheduler (chapter 20) -/

/-- One phase's measurement (R448, R449): the last outputs of its channels and whether they wait for their pair, the sums of
v × i and i² over the window in progress with the number of pairs, and (Σ i², pairs) of the last windows, newest first. -/
structure PbsPhase where
  rv : Int := 0
  ri : Int := 0
  vNew : Bool := false
  iNew : Bool := false
  sumVI : Int := 0
  sumI2 : Nat := 0
  n : Nat := 0
  wins : List (Nat × Nat) := []
  deriving DecidableEq, Repr

/-- A grant computed for the next boundary (R457): G by class, permit, reservation, B and the head power. -/
structure PbsGrant where
  g : SMap Nat := []
  permit : Bool := false
  headRes : Bool := false
  b : Int := 0
  head : Nat := 0
  deriving DecidableEq, Repr

/-- The last report of a share-group member at the owner (R463); `lost` after 64 cues without one. -/
structure PbsReport where
  request : Nat
  floor : Nat
  lost : Bool
  deriving DecidableEq, Repr

/-- PBS beside its registers: phases, the ADC count of each temperature source at the last latch, the grant that waits for
its boundary and the head power in force, shedding (SH and the two counts), reports at the owner, the last share received,
and P_meas and the request total of the last latch for the report. -/
structure Pbs where
  phases : SMap PbsPhase := []
  seen : SMap Nat := []
  next : Option PbsGrant := Option.none
  head : Nat := 0
  sh : Nat := 0
  od : Nat := 0
  clean : Nat := 0
  reports : SMap PbsReport := []
  share : Option Nat := Option.none
  total : Nat := 0
  deriving DecidableEq, Repr

/-! ## Byrov fabric (chapter 22) -/

/-- Who waits for a remote access: a hart, a DMA channel, or another block. -/
inductive RemoteBy where
  | hart (h : Nat)
  | dma (c : Nat)
  | other
  deriving DecidableEq, Repr

/-- A remote access without its answer (R509, R511): tag, sender, direction, address in the window and size. -/
structure RemoteAcc where
  tag : Nat
  by_ : RemoteBy
  wr : Bool
  addr : Addr
  size : Nat
  deriving DecidableEq, Repr

/-- A Byrov port beside its registers (R504 to R508): slot of the superframe, CRC of the general payloads so far and of the
previous superframe, blocks that wait to be sent, the last block sent with its 66 bits and the scrambler's state (R273), whether
CAPS came with a fitting level, the peer's level and turnaround, the asymmetry that this TRAIN uses, ECHOs measured or answered with
the sum of round trips, MARK CRC failures in a row, superframe number received. -/
structure ByrPort where
  slot : Nat := 0
  crc : Nat := 0xFFFFFFFF
  prevCrc : Nat := 0
  out : List Blk := []
  last : Option Blk := Option.none
  scr : Nat := 0
  bits : Nat := 0
  caps : Bool := false
  level : Nat := 0
  tbrd : Nat := 0
  skew : Int := 0
  echos : Nat := 0
  rtt : Nat := 0
  fails : Nat := 0
  sf : Nat := 0
  deriving DecidableEq, Repr

/-- The fabric: ports, accesses without an answer, received messages (slot, source), nodes admitted to the rings below, root
time (ns) and the root's cue count with the cycles to its boundary from the last CUEINFO. -/
structure Byr where
  ports : SMap ByrPort := []
  remote : List RemoteAcc := []
  rx : List (Nat × Nat) := []
  members : List Nat := []
  rootNs : Nat := 0
  rootCue : Nat := 0
  rootCyc : Nat := 0
  deriving DecidableEq, Repr

/-! ## Host interface (chapter 22) -/

/-- An open session (R490): role, interface, partner, last sequence number answered, the command (opcode, sequence number)
that waits for its answer, and the stored answer (R491). -/
structure HostSess where
  role : Nat
  iface : Nat
  partner : Nat
  last : Nat
  pend : Option (Nat × Nat) := Option.none
  stored : Option (List Byte) := Option.none
  deriving DecidableEq, Repr

/-- One PTP timestamp (R500). -/
structure PtpStamp where
  time : BitVec 64
  tx : Bool
  fine : Nat
  seqId : Nat
  deriving DecidableEq, Repr

/-- HOST beside its registers: sessions, the command queue, the last frame sent on each session (64: a sender without
session), the long operation (session, opcode, number), the session of an ACTIVATE, PTP queues, the
last ARP answer (MAC port, address answered for), the last BAR2 completion, frames on their way to firmware, and how often each MSI-X
vector has been signalled (R497). -/
structure HostIf where
  sess : SMap HostSess := []
  cq : List Nat := []
  sent : SMap (List Byte) := []
  long : Option (Nat × Nat × Nat) := Option.none
  actSess : Option Nat := Option.none
  ts : SMap (List PtpStamp) := []
  arp : Option (Nat × Word) := Option.none
  bar2 : Option (List Byte) := Option.none
  ethRx : List (Nat × List Byte) := []
  msix : SMap Nat := []
  deriving DecidableEq, Repr

/-! ## DMA (chapter 18) -/

/-- A DMA channel beside its registers (R409 to R426): the transfer in progress as source, destination and bytes left from
the last completed byte, its descriptor (address, flag word, next; none in register mode), whether a descriptor fetch is
due, bytes completed of the descriptor, read beats issued and not returned (address, size), bytes read but not yet sent, write beats
issued (address, bytes), whether the read side waits for the queue to fall, bytes released by a request, check accumulator
with the bytes of a partial word, ABORT pending and the cycle of its write (R426), and the read beats of the last 1,000 cycles (cycle, bytes). -/
structure DmaChan where
  src : Nat := 0
  dst : Nat := 0
  left : Nat := 0
  dsc : Option (Nat × Word × Nat) := Option.none
  fetch : Bool := false
  done : Nat := 0
  rd : List (Nat × Nat) := []
  queue : List Byte := []
  wr : List (Nat × List Byte) := []
  wait : Bool := false
  credit : Nat := 0
  acc : Nat := 0
  part : List Byte := []
  abort : Bool := false
  abortClk : Nat := 0
  window : List (Nat × Nat) := []
  deriving DecidableEq, Repr

/-- The DMA block: channels, the channel that each engine's read and write port served last (R411), and the cycle after the one in
which it issued its last beat (R409). -/
structure Dma where
  ch : SMap DmaChan := []
  rdLast : SMap Nat := []
  wrLast : SMap Nat := []
  rdNext : SMap Nat := []
  wrNext : SMap Nat := []
  deriving DecidableEq, Repr

/-! ## Print path (chapters 09 to 11 and 21) -/

/-- A swath descriptor as the pipeline has read it (R217): its address, order, swath index, byte 0x0A, F, N, tile array base,
mask CRC, participating contexts in ascending order, and whether it was posted as a resume (R241). -/
structure SwathDesc where
  addr : Nat
  order : Nat
  swath : Nat
  b0a : Nat
  f : Nat
  n : Nat
  base : Nat
  mcrc : Nat
  ctxs : List Nat
  resume : Bool
  deriving DecidableEq, Repr

/-- A swath in DROP's queue (R221 to R229, R241): its number in posting order, posted address and RESUME, descriptor once
checked, whether its tables are latched with the missing-nozzle bits and the start columns by context, next tile to stage by
context, whether and since which cycle it is ready; once handed over its JSN, the next swath column that each context emits
and the starved tiles as (context, tile) (R231), and whether it had an emission fault (R238). -/
structure DropSwath where
  uid : Nat
  addr : Nat
  resume : Bool
  desc : Option SwathDesc := Option.none
  latched : Bool := false
  miss : SMap Nat := []
  start : SMap Nat := []
  next : SMap Nat := []
  ready : Bool := false
  readyClk : Nat := 0
  jsn : Option Nat := Option.none
  pos : SMap Nat := []
  lost : List (Nat × Nat) := []
  fault : Bool := false
  /-- A curtain has discarded columns of it: it does not end by what still leaves (R265). -/
  cut : Bool := false
  deriving DecidableEq, Repr

/-- What has become of a staged tile (R226, R227). -/
inductive TileSt where
  | staging
  | reread
  | passed
  | failed
  deriving DecidableEq, Repr

/-- A tile in a context's ring, the slot table of R224: swath number, tile index, ring position, state, payload CRC of the
header, emission CRC so far with the payload columns read into it, whether an emission read found an uncorrectable error. -/
structure DropTile where
  uid : Nat
  tile : Nat
  slot : Nat
  st : TileSt := TileSt.staging
  hcrc : Nat := 0
  crc : Nat := 0xFFFFFFFF
  read : Nat := 0
  ue : Bool := false
  deriving DecidableEq, Repr

/-- An entry of the re-request queue (R227); `done`: its tile has since passed or been released. -/
structure DropRrq where
  order : Nat
  swath : Nat
  ctx : Nat
  tile : Nat
  reason : Nat
  handle : Nat
  done : Bool
  deriving DecidableEq, Repr

/-- The drop pipeline beside its registers: swath queue, next swath number, tiles by context (oldest first) with the ring
position last taken, the handles in use with their tile (swath number, context, tile; none: its tile has passed or been
released) and the re-request queue. -/
structure Drop where
  q : List DropSwath := []
  uid : Nat := 0
  ring : SMap (List DropTile) := []
  last : SMap Nat := []
  handles : SMap (Option (Nat × Nat × Nat)) := []
  rrq : List DropRrq := []
  /-- The contexts of slots released while a tile was due for them, in release order (R225). -/
  freed : List Nat := []
  deriving DecidableEq, Repr

/-- An observer state (R248, R251): tick in ns, p in Q40.8 nm, v in Q8.24 m/s, a in Q10.22 m/s². -/
structure Obs where
  tick : Nat := 0
  p : Int := 0
  v : Int := 0
  a : Int := 0
  deriving DecidableEq, Repr

/-- The firing scheduler beside its registers (R248 to R264): the latest observer state and the one before it, bias, commanded
acceleration latched at the last tick, last innovation, initialisation due at the next tick; the number of the swath held,
the drop-table set of the last one; the head gap (nm) and drop velocity by context that flight times come from since the last
refresh (R254); the arming check under way (its start and state), no new check before the velocity condition has failed
(R262), and the instant up to which columns are still issued after a stall (R261). -/
structure Fire where
  obs : Obs := {}
  prev : Obs := {}
  b : Int := 0
  acmd : Int := 0
  e : Int := 0
  init : Bool := false
  swath : Option Nat := Option.none
  setNo : Nat := 0
  flight : SMap (Nat × Nat) := []
  arm : Option Obs := Option.none
  blocked : Bool := false
  until_ : Nat := 0
  /-- The scan round in progress: the instant of its start in ns and the next context to be visited (R256). -/
  round : Option (Nat × Nat) := Option.none
  /-- Writes to registers that R247 locks, made in the present cycle: cycle, address, old value. -/
  wrote : List (Nat × Nat × Word) := []
  deriving DecidableEq, Repr

/-- A column on its way through a jet port (R257, R275): context, swath column, TS in 62.5 ps steps, the 32 bytes of levels,
the swath's number and JSN. -/
structure JetCol where
  ctx : Nat
  col : Nat
  ts : Nat
  data : List Byte
  uid : Nat
  jsn : Nat
  deriving DecidableEq, Repr

/-- An output lane (R274 to R277): next slot, superframe number, CRC of its general payloads so far and of the previous
superframe, blocks of the frame in progress with the columns that leave with its last one, the swath that SWATH was sent for,
swaths with a frame in this superframe and in the one before, the last block sent; the last 58 scrambled bits, the newest lowest,
and the 66 bits that block was sent as, the first lowest (R273). -/
structure JetLane where
  slot : Nat := 0
  sf : Nat := 0
  crc : Nat := 0xFFFFFFFF
  prevCrc : Nat := 0
  out : List Blk := []
  cols : List JetCol := []
  swath : Option Nat := Option.none
  inSf : List Nat := []
  prevSf : List Nat := []
  last : Option Blk := Option.none
  scr : Nat := 0
  bits : Nat := 0
  deriving DecidableEq, Repr

/-- A jet port beside its registers (R276 to R287): lanes, queued columns, frames of LOAD still to be sent, WAVE in force,
whether a fitting CAPS came, ECHOs measured with the sum of round trips, failed superframes in a row and the superframe in which
the last of them was reported (R285), the ns at which it left service, the asymmetry that this TRAIN uses (R278). -/
structure JetPort where
  lane0 : JetLane := {}
  lane1 : JetLane := {}
  queue : List JetCol := []
  load : List (List Blk) := []
  wave : Bool := false
  caps : Bool := false
  echos : Nat := 0
  rtt : Nat := 0
  fails : Nat := 0
  failSf : Nat := 0
  downNs : Nat := 0
  skew : Int := 0
  deriving DecidableEq, Repr

/-- The work journal beside its registers and PMEM (R469 to R479): the capture table (JSN, NEXT) by context, commit-vector
lines with a capture that is not durable, open swath records (JSN, and whether it is interrupted), the order that an ACCEPT
under way names (ASEQ, ANSW, ADIG), and orders whose last swath has ended (order, JSN). -/
structure Jrnl where
  cap : SMap (Nat × Nat) := []
  dirty : List Nat := []
  opens : List (Nat × Bool) := []
  acc : Option (Nat × Nat × Nat) := Option.none
  ended : List (Nat × Nat) := []
  deriving DecidableEq, Repr

/-- The nozzle counts of R536 by 64 × context + nozzle: the counting bank, the bank whose flush runs, a swap that waits. -/
structure Nozzles where
  bank : SMap Nat := []
  flush : Option (SMap Nat) := Option.none
  due : Bool := false
  deriving DecidableEq, Repr

/-! ## Black box and lifetime records (chapter 23) -/

/-- BBX beside its registers and PMEM (R532 to R538): next serial number, fresh-boot count, calendar and the cycle of its last load, pin area of the present
boot with the records it holds, next slot of the wrap area, records lost since the last one written, and what the next
rewrite adds to the lifetime records: missing half-cycles and power-fail warnings. -/
structure Bbx where
  serial : Nat := 1
  boots : Nat := 0
  cal : BitVec 40 := 0
  calValid : Bool := false
  calClk : Option Nat := Option.none
  area : Nat := 0
  pin : Nat := 0
  wrap : Nat := 2048
  lost : Nat := 0
  halves : Nat := 0
  warns : Nat := 0
  deriving DecidableEq, Repr

/-! ## Updates (chapter 23) -/

/-- What an activation does after its record (R526, R527): the pause at a boundary that is due, or the pause in progress with
the PWM units that were enabled at P, the mode, the session that started it and the node that asked for it. -/
structure Activation where
  hot : Bool
  bank : Nat
  origin : Option Nat
  paused : Bool := false
  units : List Nat := []
  deriving DecidableEq, Repr

/-- A request of a recovery download that waits for the program store (R188): a chunk of a session, or a packet of the chain. -/
inductive RecWait where
  | chunk (sess seq : Nat) (payload : List Byte)
  | packet (src chunk packet : Nat) (data : List Byte)
  deriving DecidableEq, Repr

/-- UPD beside its registers: the verification under way (bank, chunk), passed chunks by bank (0x3FF the manifest), the
activation under way, the recovery download in progress (item, next offset) with the bank or slot that it goes to, the
bytes of a journal item, what waits for a busy program store; forwarding
along the chain (R524): the bank forwarded, the chunk without its CHUNKACK with the times it was sent again, acknowledged
chunks, whether forwarding has stopped; and the last chunk that came along the chain with its sender. -/
structure Upd where
  verify : Option (Nat × Nat) := Option.none
  passed : SMap (List Nat) := []
  act : Option Activation := Option.none
  item : Option (Nat × Nat) := Option.none
  itemTo : Nat := 0
  itemData : List Byte := []
  recWait : List RecWait := []
  chainBank : Nat := 0
  chainOut : Option (Nat × Nat) := Option.none
  chainDone : List Nat := []
  chainStop : Bool := false
  chainSrc : Option (Nat × Nat) := Option.none
  deriving DecidableEq, Repr

/-! ## Black box queue (chapter 23) -/

/-- A record that waits for BBX: event code, data words, cue count and time of the event, and the cycle of its arrival (R534, R535). -/
structure BbxRec where
  code : Nat
  data : List Word
  cue : BitVec 64
  time : BitVec 64
  clk : Nat
  deriving DecidableEq, Repr

/-- One entry of the interrupt map (R204): source block base, source output, core, line. -/
structure IrqEntry where
  base : Nat
  output : Nat
  core : Nat
  line : Nat
  deriving DecidableEq, Repr

/-! ## The whole state -/

/-- The state of the module. -/
structure State where
  /-- Commands that wait, first in first out. -/
  pending : List Instr := []
  /-- Event-clock cycles since reset (the model's own time base, DESIGN CHOICE, log entry 5). -/
  clk : Nat := 0
  /-- Index of the next free value (the model's own field, DESIGN CHOICE, log entry 4). -/
  freeCtr : Nat := 0
  /-- Generations of the undefined contents of LPDDR5X and of the ROM's part of local store 12 (the model's own fields, log
  entry 3). -/
  dramEpoch : Nat := 0
  romEpoch : Nat := 0
  /-- Peripheral registers by address, where they differ from their reset value. -/
  regs : SMap Word := []
  /-- The same as the present event-clock cycle began: what has been set since wins over a clearing write (R12). -/
  regs0 : SMap Word := []
  /-- High-word shadows by master and register address (R45). -/
  shadow : SMap Word := []
  mem : Memory := []
  cores : SMap Core := []
  pairs : SMap Pair := []
  sys : Sys := {}
  boot : Boot := {}
  cue : Cue := {}
  call : Call := {}
  irqMap : List IrqEntry := []
  /-- Granules of the control, data, management and shared partitions of working memory (R152, R204). -/
  wmPart : List Nat := [0, 0, 0, 128]
  bbxQueue : List BbxRec := []
  /-- Aligned 8-byte units with a correctable (1) or uncorrectable (2) error present, by unit number (R148, R157, R167). -/
  ecc : SMap Nat := []
  fls : Fls := {}
  pwm : Pwm := {}
  enc : Enc := {}
  afe : Afe := {}
  mtrk : Mtrk := {}
  loop : Loop := {}
  gpio : Gpio := {}
  pbs : Pbs := {}
  byr : Byr := {}
  host : HostIf := {}
  dma : Dma := {}
  drop : Drop := {}
  fire : Fire := {}
  jet : SMap JetPort := []
  jrnl : Jrnl := {}
  nozzles : Nozzles := {}
  bbx : Bbx := {}
  upd : Upd := {}
  /-- PMEM writes accepted and not yet complete, by the number of their master, oldest first (R166, PMC_STAT.DEPTH). -/
  pmcQueue : List Nat := []
  /-- 64-byte LPDDR5X lines moved in the present cue (DRC_LINES). -/
  drcLines : Nat := 0
  /-- Times (ns) of the uncorrectable errors of each package in the last second (R161). -/
  drcUeTimes : SMap (List Nat) := []
  /-- Faults of posted stores on their way back: core, entry (R117). -/
  postedFlight : List (Nat × PostedFault) := []
  /-- A self-refresh exit is running (R160). -/
  drcWaking : Bool := false
  /-- The event-clock cycle in which DRC_STAT.READY rose (R160). -/
  drcReadyClk : Nat := 0
  deriving DecidableEq, Repr

/-- The machine right after the first power-on reset is released: state BOOT before its step 2 (R30, R194), every field at its
reset value; core 12 runs the ROM and every other core is held in reset (R193); LPDDR5X training runs (R160) and the
management watchdog stands at 2 s (R27); no OTP unit is programmed, so that key slot 0 is usable (R200). -/
def State.reset : State :=
  { cores := ((List.range 16).filter fun n => n != 12).map fun n => (n, { run := RunState.inReset }),
    regs := [(R.SEC_KEYSTAT, 0x100#32)], drcWaking := true, sys := { wdRemainNs := [(2, 2000000000)] }, bbx := { boots := 1 } }

end Sys2Proof.Machine
end

