-- ==== Sys2Proof/Machine/Ops.lean ====
section
/-!
DEFINITION. The operations that the meanings share: registers and fields, memory, free values, events on the call board,
interrupt lines, curtain triggers and black-box events.
What the spec leaves open here: log entries 4 and 8.
-/

namespace Sys2Proof.Machine

/-! ## Registers -/

/-- The stored value of the register at address `a`. -/
def State.getReg (s : State) (a : Nat) : Word := (mfind s.regs a).getD (regReset a)

/-- `s` with the register at `a` holding `v`. -/
def State.setReg (s : State) (a : Nat) (v : Word) : State :=
  { s with regs := msetCanon (v == regReset a) s.regs a v }

/-- The value of a field. -/
def State.getF (s : State) (f : Fld) : Nat := fieldOf (s.getReg f.addr) f.hi f.lo

/-- `s` with a field set. -/
def State.setF (s : State) (f : Fld) (v : Nat) : State := s.setReg f.addr (putField (s.getReg f.addr) f.hi f.lo v)

/-- Whether a field is not 0. -/
def State.flag (s : State) (f : Fld) : Bool := s.getF f != 0

/-- A field of `w` bits read as two's complement. -/
def State.getS (s : State) (f : Fld) : Int := sext (f.hi + 1 - f.lo) (s.getF f)

/-- `s` with a one-bit field set. -/
def State.raise (s : State) (f : Fld) : State := s.setF f 1

/-- `s` with a field cleared. -/
def State.lower (s : State) (f : Fld) : State := s.setF f 0

/-- `s` with bit `b` of a field set. -/
def State.raiseBit (s : State) (f : Fld) (b : Nat) : State := s.setF f (s.getF f ||| 2 ^ b)

/-- `s` with bit `b` of a field cleared. -/
def State.lowerBit (s : State) (f : Fld) (b : Nat) : State :=
  if (s.getF f).testBit b then s.setF f (s.getF f - 2 ^ b) else s

/-- `s` with a counter field raised by `n`, saturating at the field's greatest value. -/
def State.count (s : State) (f : Fld) (n : Nat) : State := s.setF f (min (s.getF f + n) (2 ^ (f.hi + 1 - f.lo) - 1))

/-! ## Field-type writes and reads (R11, R12) -/

/-- What a write of `v` leaves in one field of a register that holds `w` (R11, R13); `locked` says that RWL fields are
locked. -/
def fieldWrite (locked : Bool) (v w : Word) (f : FieldDesc) : Word :=
  let m := maskOf f.hi f.lo
  match f.ty with
  | .rw => (w &&& ~~~ m) ||| (v &&& m)
  | .rwl => if locked then w else (w &&& ~~~ m) ||| (v &&& m)
  | .w1c => w &&& ~~~ (v &&& m)
  | .w1s => w ||| (v &&& m)
  | .ro => w
  | .rc => w
  | .wo => w

/-- A write by field types to the register of row `d` that holds `w` (R11). -/
def typedWrite (d : RegDesc) (locked : Bool) (v w : Word) : Word := d.fields.foldl (fieldWrite locked v) w

/-- What a read by field types leaves in a register that holds `w`: RC fields are cleared (R11). -/
def typedReadClear (d : RegDesc) (w : Word) : Word :=
  d.fields.foldl (fun w f => if f.ty = .rc then w &&& ~~~ maskOf f.hi f.lo else w) w

/-- What a read of a register that holds `w` returns: every field but the WO ones (R11). -/
def typedRead (d : RegDesc) (w : Word) : Word :=
  d.fields.foldl (fun r f => if f.ty = .wo then r else r ||| (w &&& maskOf f.hi f.lo)) 0#32

/-- The bits of the register at `a` that have been set in the present event-clock cycle. -/
def State.setNow (s : State) (a : Nat) : Word := s.getReg a &&& ~~~ (mfind s.regs0 a).getD (regReset a)

/-- The bits of the W1C fields of a register. -/
def RegDesc.w1cMask (d : RegDesc) : Word := d.fields.foldl (fun m f => if f.ty = .w1c then m ||| maskOf f.hi f.lo else m) 0#32

/-- A write by field types (R11) of `v` to the register of row `d` at address `a`; a W1C bit that was set in this cycle stays
(R12). -/
def State.writeTyped (s : State) (d : RegDesc) (a : Nat) (locked : Bool) (v : Word) : State :=
  s.setReg a (typedWrite d locked (v &&& ~~~ (d.w1cMask &&& s.setNow a)) (s.getReg a))

/-! ## Free values -/

/-- The next free value and the state with the counter advanced (DESIGN CHOICE, log entry 4). -/
def State.fresh (s : State) : Nat × State := (Config.freeNat s.freeCtr, { s with freeCtr := s.freeCtr + 1 })

/-- A quotient that the spec does not round: exact where `den` divides `num`, else the integer below or above it by a free
value (DESIGN CHOICE, log entry 8). -/
def State.roundFree (s : State) (num : Int) (den : Nat) : Int × State :=
  if num % (den : Int) = 0 then (num / (den : Int), s)
  else
    let (r, s) := s.fresh
    (num / (den : Int) + (r % 2 : Nat), s)

/-! ## Memory bytes -/

/-- The generation of the undefined contents that hold address `a`. -/
def State.memEpoch (s : State) (a : Nat) : Nat := if a < 0x1000000000 then s.romEpoch else s.dramEpoch

/-- The byte at physical address `a`. -/
def State.rd8 (s : State) (a : Nat) : Byte :=
  match mfind s.mem a with
  | some v => v
  | none => (memDefault a).getD (Config.dramByte (s.memEpoch a) a)

/-- `s` with the byte at physical address `a` set. -/
def State.wr8 (s : State) (a : Nat) (v : Byte) : State := { s with mem := msetCanon (isMemDefault a v) s.mem a v }

/-- `n` bytes from address `a`. -/
def State.rdBytes (s : State) (a : Nat) : Nat → List Byte
  | 0 => []
  | n + 1 => s.rd8 a :: s.rdBytes (a + 1) n

/-- `s` with bytes stored from address `a`. -/
def State.wrBytes (s : State) (a : Nat) : List Byte → State
  | [] => s
  | b :: t => (s.wr8 a b).wrBytes (a + 1) t

/-- The `n`-byte number at address `a`, least significant byte first (R6). -/
def State.rdNat (s : State) (a n : Nat) : Nat := natLE (s.rdBytes a n)

/-- `s` with the `n`-byte number `v` stored at address `a` (R6). -/
def State.wrNat (s : State) (a n v : Nat) : State := s.wrBytes a (bytesLE n v)

/-! ## The address map (R145) -/

/-- The regions of R145. -/
inductive Region where
  | rom
  | localStore (core : Nat)
  | working
  | stage
  | peripheral
  | pmem
  | program
  | dram
  | remote
  | hole
  deriving DecidableEq, Repr

/-- The region of a 40-bit physical address (R145), the alias of the own local store resolved. -/
def regionOf (a : Nat) : Region :=
  if a < 0x40000 then .rom
  else if 0x08000000 ≤ a ∧ a < 0x08400000 then .localStore ((a - 0x08000000) / 0x40000)
  else if 0x10000000 ≤ a ∧ a < 0x12000000 then .working
  else if 0x20000000 ≤ a ∧ a < 0x26000000 then .stage
  else if 0x40000000 ≤ a ∧ a < 0x41000000 then .peripheral
  else if 0x0100000000 ≤ a ∧ a < 0x0101000000 then .pmem
  else if 0x0200000000 ≤ a ∧ a < 0x0300000000 then .program
  else if 0x1000000000 ≤ a ∧ a < 0x1800000000 then .dram
  else if 0x8000000000 ≤ a ∧ a < 0x10000000000 then .remote
  else .hole

/-- The base of the local store of physical core `n` (R145). -/
def localBase (n : Nat) : Nat := 0x08000000 + 0x40000 * n

/-- The physical address that core `n` reaches at `a`: its own local store also stands at 0x0F00_0000 (R145). -/
def ownAlias (n a : Nat) : Nat := if 0x0F000000 ≤ a ∧ a < 0x0F040000 then localBase n + (a - 0x0F000000) else a

end Sys2Proof.Machine

namespace Sys2Proof

/-! ## Masters and planes (R22) -/

/-- The physical core of a hart: the lead 2n of cue pair n, crew cores 8 to 11, house cores 12 to 15 (R126). -/
def coreOf (h : Hart) : Nat := if h.val < 4 then 2 * h.val else h.val + 4

/-- The harts in order. -/
def allHarts : List Hart := List.finRange 12

/-- The plane of a hart (R22). -/
def planeOfHart (h : Hart) : Plane := if h.val < 4 then .control else if h.val < 8 then .data else .management

/-- The plane as whose access an access counts: DMA as the data plane (R152), HOST and BYR as their own plane (R22), the
ROM as house core 12 (R193). -/
def Writer.plane : Writer → Plane
  | .core h _ => planeOfHart h
  | .dma _ => .data
  | .host => .management
  | .byr => .management
  | .rom => .management
  | .block p => p

/-- A number for each master, the key of its read shadows (R45). -/
def Writer.num : Writer → Nat
  | .core h _ => coreOf h
  | .dma c => 32 + c.val
  | .host => 16
  | .byr => 17
  | .rom => 12
  | .block _ => 18

/-- Whether a master is a house core (the ROM runs on core 12, R193). -/
def Writer.isHouse : Writer → Bool
  | .core h _ => decide (8 ≤ h.val)
  | .rom => true
  | _ => false

/-- Whether a master is a crew core. -/
def Writer.isCrew : Writer → Bool
  | .core h _ => decide (4 ≤ h.val ∧ h.val < 8)
  | _ => false

/-- Whether a master is a cue pair. -/
def Writer.isCue : Writer → Bool
  | .core h _ => decide (h.val < 4)
  | _ => false

/-- The plane's number in SYS_WDSTAT (0 control, 1 data, 2 management). -/
def Plane.num : Plane → Nat
  | .control => 0
  | .data => 1
  | .management => 2

end Sys2Proof

namespace Sys2Proof.Machine

/-! ## Device state -/

/-- BOOT, PLACES or RECOVERY: R24 governs register writes. -/
def Dev.setup : Dev → Bool
  | .boot | .places | .recovery => true
  | _ => false

/-- BOOT or PLACES: where configuration registers accept writes. -/
def State.bootOrPlaces (s : State) : Bool :=
  match s.sys.dev with
  | .boot | .places => true
  | _ => false

/-- PLACES, RUN, CURTAIN or WINGS: the cue runs and the call board routes (R41, R399). -/
def State.cueRuns (s : State) : Bool :=
  match s.sys.dev with
  | .places | .run _ | .curtain | .wings => true
  | _ => false

/-- RUN, in any sub-state. -/
def State.inRun (s : State) : Bool :=
  match s.sys.dev with
  | .run _ => true
  | _ => false

/-- The pause of a hot activation (R526, R527). -/
def State.paused (s : State) : Bool := s.upd.act.any fun a => a.paused

/-- `s` with the system structure changed. -/
def State.modSys (s : State) (f : Sys → Sys) : State := { s with sys := f s.sys }

/-- `s` with the cue structure changed. -/
def State.modCue (s : State) (f : Cue → Cue) : State := { s with cue := f s.cue }

/-- A curtain trigger whose cause bit is `f` (R33): in RUN it becomes due; in CURTAIN its bit is recorded; elsewhere
nothing happens (R30). -/
def State.trigger (s : State) (f : Fld) : State :=
  match s.sys.dev with
  | .run _ => (s.raise f).modSys fun y => { y with faultDue := true }
  | .curtain => s.raise f
  | _ => s

/-! ## Cores and pairs -/

/-- Physical core `n`. -/
def State.core (s : State) (n : Nat) : Core := mget {} s.cores n

/-- `s` with physical core `n` set. -/
def State.setCore (s : State) (n : Nat) (c : Core) : State := { s with cores := mset s.cores n c }

/-- Cue pair `n`. -/
def State.pair (s : State) (n : Nat) : Pair := mget {} s.pairs n

/-- `s` with cue pair `n` changed. -/
def State.modPair (s : State) (n : Nat) (f : Pair → Pair) : State := { s with pairs := mmod {} s.pairs n f }

/-- Whether pair `n` is split (R142). -/
def State.isSplit (s : State) (n : Nat) : Bool := (s.getF R.USTD_STAT_SPLIT).testBit n

/-- The core state of a hart. -/
def State.hart (s : State) (h : Hart) : Core := s.core (coreOf h)

/-- `s` with a hart's core state set: for a cue pair that is not split, in both copies (R126, R129). -/
def State.setHart (s : State) (h : Hart) (c : Core) : State :=
  let s := s.setCore (coreOf h) c
  if h.val < 4 && !s.isSplit h.val then s.setCore (coreOf h + 1) c else s

/-- Whether hart `h` can start an instruction: it runs, waits for nothing, is not held by a restart (R138), and the module is
not in the pause of an activation (R527). -/
def State.canIssue (s : State) (h : Hart) : Bool :=
  (s.hart h).run == .running && (s.hart h).wait == .none && !(decide (h.val < 4) && (s.pair h.val).blocked) && !s.paused

/-- Whether master `w` can make an access now: a core must be able to issue the instruction that makes it (R122, R128, R564). -/
def State.masterActs (s : State) : Writer → Bool
  | .core h _ => s.canIssue h
  | _ => true

/-- Whether TACC lets task mode reach physical address `a` (R106, R124): the own local store and working memory always. -/
def Core.granted (c : Core) (own a : Nat) : Bool :=
  match regionOf a with
  | .peripheral => c.tacc.getLsbD 0
  | .pmem => c.tacc.getLsbD 1
  | .dram => c.tacc.getLsbD 2
  | .stage => c.tacc.getLsbD 3
  | .program => c.tacc.getLsbD 4
  | .localStore k => k == own || c.tacc.getLsbD 5
  | .working => true
  | .hole => true
  | _ => false

/-- Whether a data access of hart `h` at physical address `a` is refused by TACC. -/
def State.denied (s : State) (h : Hart) (a : Nat) : Bool := (s.hart h).tm && !(s.hart h).granted (coreOf h) a

/-- Whether an access of master `w` at `a` is refused by TACC (R106): a core's in task mode. -/
def State.deniedTo (s : State) (w : Writer) (a : Nat) : Bool :=
  match w with
  | .core h _ => s.denied h a
  | _ => false

/-- `s` with a hart's core state changed by `f`. -/
def State.modHart (s : State) (h : Hart) (f : Core → Core) : State := s.setHart h (f (s.hart h))

/-- `s` with `f` done to the core of a hart and, for a cue pair that is not split, to its understudy (R126): what reaches both
copies from outside the pair. -/
def State.eachCopy (s : State) (h : Hart) (f : Core → Core) : State :=
  let n := coreOf h
  let s := s.setCore n (f (s.core n))
  if h.val < 4 && !s.isSplit h.val then s.setCore (n + 1) (f (s.core (n + 1))) else s

/-- The hart of which physical core `n` is the lead or the only core, or to which it is the understudy. -/
def hartOfCore (n : Nat) : Hart := if n < 8 then Fin.ofNat 12 (n / 2) else Fin.ofNat 12 (n - 4)

/-! ## Interrupt lines (R110, R204) -/

/-- `s` with interrupt line `line` of physical core `core` latched pending (R124). -/
def State.latchLine (s : State) (core line : Nat) : State :=
  s.eachCopy (hartOfCore core) fun c => { c with ipend := c.ipend ||| BitVec.ofNat 48 (2 ^ line) }

/-- `s` with the lines latched that the interrupt map gives output `out` of the block at `base` (a pulse on the output). -/
def State.irqPulse (s : State) (base out : Nat) : State :=
  s.irqMap.foldl (fun s e => if e.base = base ∧ e.output = out then s.latchLine e.core e.line else s) s

/-- `s.irqPulse`, if the block's enable field is 1. -/
def State.irqPulseIf (s : State) (en : Fld) (base : Nat) : State := if s.flag en then s.irqPulse base 0 else s

/-- CALL_STAT.RAW. -/
def State.callRaw (s : State) : Bool := (List.range 8).any fun w => s.getReg (R.CALL_RUNAWAY w) != 0

/-- Whether DMA channel `c` contributes to its engine's interrupt output (R428). -/
def State.dmaIrq (s : State) (c : Nat) : Bool :=
  s.flag (R.DMA_CTRL_IRQEN c) && (s.flag (R.DMA_STAT_DONE c) || s.flag (R.DMA_STAT_ERR c) || s.flag (R.DMA_STAT_BAD c))

/-- Whether output `out` of the block at `base` is asserted by a condition that lasts, as the block's control register
enables it (the fields "1 asserts the … interrupt output while …"). -/
def State.irqLevel (s : State) (base out : Nat) : Bool :=
  if base = baseFLS then s.flag R.FLS_CTRL_IRQEN && (s.flag R.FLS_STAT_DONE || s.flag R.FLS_STAT_ERR)
  else if base = baseDROP then s.flag R.DROP_CTRL_RRQIRQ && !s.drop.rrq.isEmpty
  else if base = baseLOOP then
    (s.flag R.LOOP_CTRL_RHIRQ && s.flag R.LOOP_RHSTAT_DONE) || (s.flag R.LOOP_CTRL_FLTIRQ && s.flag R.LOOP_STAT_FAULT)
  else if base = basePWM then (List.range 48).any fun n => s.flag (R.PWM_CTRL_TRIPIRQ n) && s.flag (R.PWM_STAT_TRIPPED n)
  else if base = baseAFE then
    (s.flag R.AFE_CTRL_PFIRQ && s.flag R.AFE_STAT_PFW) || (s.flag R.AFE_CTRL_DSIRQ && s.flag R.AFE_STAT_DSLOSS)
      || (s.flag R.AFE_CTRL_OVRIRQ && s.flag R.AFE_STAT_OVR) || (s.flag R.AFE_CTRL_TRIGIRQ && s.flag R.AFE_STAT_TRIGLOST)
  else if base = baseENC then (List.range 8).any fun i => s.flag (R.ENC_CFG_FLTIRQ i) && s.flag (R.ENC_STAT_FAULT i)
  else if base = baseCALL then s.flag R.CALL_CTRL_RAWIRQ && s.callRaw
  else if base = baseDMA then (List.range 16).any fun i => s.dmaIrq (16 * out + i)
  else if base = basePBS then
    (s.flag R.PBS_CTRL_LINKIRQ && s.flag R.PBS_STAT_SHARELOSS) || (s.flag R.PBS_CTRL_OVRIRQ && s.flag R.PBS_STAT_OVRD)
  else if base = baseJRNL then
    (s.flag R.JRNL_CTRL_RETIRQ && s.flag R.JRNL_STAT_RETIRED) || (s.flag R.JRNL_CTRL_ORDIRQ && s.flag R.JRNL_STAT_ORDERR)
      || (s.flag R.JRNL_CTRL_DEFIRQ && s.flag R.JRNL_STAT_DEFECT)
  else if base = baseHOST then s.flag R.HOST_CTRL_CQIRQ && !s.host.cq.isEmpty
  else if base = baseBYR then
    s.flag R.BYR_CTRL_IRQEN && (!s.byr.rx.isEmpty || (List.range 3).any fun q => s.getF (R.BYR_PORT_LINK q) == 4)
  else if base = baseUPD then s.flag R.UPD_CTRL_IRQEN && s.flag R.UPD_STAT_DONE
  else if base = baseBBX then s.flag R.BBX_CTRL_LOSTIRQ && s.flag R.BBX_STAT_LOST
  else false

/-- `s` with the lines pending whose source is asserted: a line that software cleared while its source is asserted is
pending again at once (R124). -/
def State.settle (s : State) : State :=
  s.irqMap.foldl (fun t e => if s.irqLevel e.base e.output then t.latchLine e.core e.line else t) s

/-! ## The call board (R397 to R406) -/

/-- The runaway bit of channel `ch`. -/
def State.isRunaway (s : State) (ch : Nat) : Bool := (s.getReg (R.CALL_RUNAWAY (ch / 32))).getLsbD (ch % 32)

/-- Whether channel `ch` delivers: enabled, with a consumer, not in runaway, not waiting for a boundary (R397, R406). -/
def State.delivers (s : State) (ch : Nat) : Bool :=
  s.flag (R.CALL_CH_EN ch) && s.flag (R.CALL_CH_SUBV ch) && !s.isRunaway ch && !s.call.waiting.getLsbD ch

/-- Merge an event into one of the same channel and cycle: that event, marked merged. -/
def mergeEvent (ch cycle : Nat) : List CallEvent → List CallEvent
  | [] => []
  | e :: t => if e.ch = ch ∧ e.cycle = cycle then { e with merged := true } :: t else e :: mergeEvent ch cycle t

/-- `s` with one event entering channel `ch`: a second event of the same cycle merges and counts one coincidence however
many merge (R404); a channel that does not deliver discards it uncounted (R397, R406). -/
def State.enterChannel (s : State) (ch : Nat) : State :=
  if !s.cueRuns || !s.delivers ch then s
  else
    match s.call.inflight.find? (fun e => e.ch = ch ∧ e.cycle = s.clk) with
    | none => { s with call := { s.call with inflight := s.call.inflight ++ [⟨ch, s.clk, false⟩] } }
    | some e =>
      let s1 := { s with call := { s.call with inflight := mergeEvent ch s.clk s.call.inflight } }
      if e.merged then s1 else s1.count (R.CALL_COIN_CNT ch) 1

/-- `s` with source `src` publishing one event (R397, R399, R400). -/
def State.publish (s : State) (src : Nat) : State :=
  if s.flag (R.CALL_PUB_V src) then s.enterChannel (s.getF (R.CALL_PUB_CH src)) else s

/-! The producer sources (R400). -/
namespace Src

def cueTick : Nat := 0x000
def cuePre : Nat := 0x001
def cueOverrun : Nat := 0x002
def drcPkgFail : Nat := 0x008
def dropSdBad : Nat := 0x010
def dropReReq : Nat := 0x011
def dropReady : Nat := 0x012
def dropStarve : Nat := 0x013
def dropEmitFault : Nat := 0x014
def dropSwEnd : Nat := 0x015
def fireArmed : Nat := 0x018
def fireLate : Nat := 0x019
def fireStall : Nat := 0x01A
def fireOvershot : Nat := 0x01B
def fireObsFlt : Nat := 0x01C
def mtrkResult : Nat := 0x020
def mtrkLost : Nat := 0x021
def mtrkFault : Nat := 0x022
def loopFault : Nat := 0x028
def loopInpos : Nat := 0x029
def loopRhDone : Nat := 0x02A
def afeDsLoss : Nat := 0x030
def afeMainsZc : Nat := 0x031
def encFault (i : Nat) : Nat := 0x038 + i
def evin (n : Nat) : Nat := 0x040 + n
def jetUp (p : Nat) : Nat := 0x080 + p
def jetDown (p : Nat) : Nat := 0x0A0 + p
def jetLate (p : Nat) : Nat := 0x0C0 + p
def jetLinkErr (p : Nat) : Nat := 0x0E0 + p
def pwmTrip (n : Nat) : Nat := 0x100 + n
def afeCmp (c : Nat) : Nat := 0x140 + c
def dmaDone (c : Nat) : Nat := 0x180 + c
def byrEvin (r : Nat) : Nat := 0x1C0 + r

end Src

/-! ## Pins (R431, R432) -/

/-- Whether pin `y` of port `x` carries the function of code `fsel` now: selected, and not in the park of a switch. -/
def State.carries (s : State) (x y fsel : Nat) : Bool :=
  s.getF (R.GPIO_PCFG_FSEL x y) == fsel && !s.gpio.parked.contains (32 * x + y)

/-! ## Black-box events (R534, R535) -/

/-- A record among those that wait: the module's own before firmware's of the same cycle (R535). -/
def bbxInsert (r : BbxRec) : List BbxRec → List BbxRec
  | [] => [r]
  | x :: t => if r.code < 0x8000 ∧ 0x8000 ≤ x.code ∧ x.clk = r.clk then r :: x :: t else x :: bbxInsert r t

/-- `s` with a record queued for BBX; one that the queue of 16 has no room for is lost and counted (R535). -/
def State.bbxEvent (s : State) (code : Nat) (data : List Word) : State :=
  let q := bbxInsert ⟨code, data, s.cue.count, s.cue.time, s.clk⟩ s.bbxQueue
  if q.length ≤ 16 then { s with bbxQueue := q }
  else { (s.count R.BBX_STAT_LOST 1) with bbxQueue := q.take 16, bbx := { s.bbx with lost := s.bbx.lost + 1 } }

end Sys2Proof.Machine
end

