-- ==== Sys2Proof/Machine/Mem.lean ====
section
/-!
DEFINITION. Accesses to the memories of R145: on-die SRAM, LPDDR5X and PMEM, with their ECC, partition and range rules
(R146 to R170).
What the spec leaves open here: log entries 3 and 29.
-/

namespace Sys2Proof.Machine

/-- What a read answers: bytes, a bus error, or an SRAM error that ECC cannot correct (R148). -/
inductive RdResult where
  | ok (bytes : List Byte)
  | busError
  | eccError
  deriving DecidableEq, Repr

/-- The ECC mark of the aligned 8-byte unit that holds address `a`: 0 none, 1 correctable, 2 uncorrectable. -/
def State.eccAt (s : State) (a : Nat) : Nat := mget 0 s.ecc (a / 8)

/-- `s` with the ECC mark of `a`'s unit set. -/
def State.setEcc (s : State) (a m : Nat) : State := { s with ecc := msetCanon (m == 0) s.ecc (a / 8) m }

/-- The first addresses of the 8-byte units that `n` bytes from `a` touch. -/
def unitsOf (a n : Nat) : List Nat := (List.range ((a + n + 7) / 8 - a / 8)).map fun i => (a / 8 + i) * 8

/-! ## On-die SRAM (R148 to R154) -/

/-- The SYS_ECC bit of an SRAM region. -/
def sramUeFld : Region → Fld
  | .working => R.SYS_ECC_WMUE
  | .stage => R.SYS_ECC_STUE
  | _ => R.SYS_ECC_LSUE

/-- `s` with an uncorrectable SRAM error at `a` reported: the region's bit, and the address when all three bits were 0. -/
def State.sramUe (s : State) (r : Region) (a : Nat) : State :=
  let first := !s.flag R.SYS_ECC_WMUE && !s.flag R.SYS_ECC_STUE && !s.flag R.SYS_ECC_LSUE
  let s := s.raise (sramUeFld r)
  if first then
    (s.setF R.SYS_ECCADDRL_ADDR (a % 2 ^ 32)).setF R.SYS_ECCADDRH_ADDR (a / 2 ^ 32)
  else s

/-- Check the unit at `u` on a read: a single-bit error is corrected, written back and counted; whether it is readable. -/
def State.sramCheck (r : Region) (p : State × Bool) (u : Nat) : State × Bool :=
  match p.1.eccAt u with
  | 0 => p
  | 1 => ((p.1.setEcc u 0).count R.SYS_ECC_CECNT 1, p.2)
  | _ => (p.1.sramUe r u, false)

/-- Read `n` bytes of SRAM at `a` (R148). -/
def State.sramRead (s : State) (r : Region) (a n : Nat) : State × RdResult :=
  let (s, ok) := (unitsOf a n).foldl (State.sramCheck r) (s, true)
  (s, if ok then .ok (s.rdBytes a n) else .eccError)

/-- What HOST or BYR reads of SRAM for itself; in place of a unit that cannot be corrected it gets free bytes, the spec giving no
outcome for these readers (R148, DESIGN CHOICE, log entry 29). -/
def State.blockRead (s : State) (r : Region) (a n : Nat) : State × List Byte :=
  match s.sramRead r a n with
  | (s, .ok l) => (s, l)
  | (s, _) =>
    let (x, s) := s.fresh
    (s, (List.range n).map fun i => if s.eccAt (a + i) = 2 then BitVec.ofNat 8 (x / 256 ^ i) else s.rd8 (a + i))

/-- The first addresses of the units that a store of `n` bytes at `a` covers only in part: those are read first (R149). -/
def partialUnits (a n : Nat) : List Nat := (unitsOf a n).filter fun u => !(decide (a ≤ u) && decide (u + 8 ≤ a + n))

/-- Whether storing `n` bytes at `a` leaves a unit partly old with an uncorrectable error in it (R149). -/
def State.partialBad (s : State) (a n : Nat) : Bool := (partialUnits a n).any fun u => s.eccAt u == 2

/-- `s` with the ECC marks of the units that a store covers cleared: the store writes fresh check bits. -/
def State.freshEcc (s : State) (a n : Nat) : State := (unitsOf a n).foldl (fun s u => s.setEcc u 0) s

/-- The reads of a read-modify-write of SRAM, whether each could be corrected (R148, R149). -/
def State.sramMerge (s : State) (r : Region) (a n : Nat) : State × Bool :=
  (partialUnits a n).foldl (State.sramCheck r) (s, true)

/-- Bytes stored with fresh check bits. -/
def State.putFresh (s : State) (a : Nat) (l : List Byte) : State := (s.freshEcc a l.length).wrBytes a l

/-- Store bytes in SRAM (R149): refused, unit unchanged, when a partly written unit cannot be corrected. -/
def State.sramWrite (s : State) (r : Region) (a : Nat) (l : List Byte) : State × Bool :=
  match s.sramMerge r a l.length with
  | (s, true) => (s.putFresh a l, true)
  | (s, false) => (s, false)

/-- The partition of working memory that holds `a` (R152): 0 control, 1 data, 2 management, 3 shared. -/
def State.wmPartition (s : State) (a : Nat) : Nat :=
  let g := (a - 0x10000000) / 0x40000
  let c := s.wmPart.getD 0 0
  let d := s.wmPart.getD 1 0
  let m := s.wmPart.getD 2 0
  if g < c then 0 else if g < c + d then 1 else if g < c + d + m then 2 else 3

/-- Whether a master may write working memory at `a` (R152). -/
def State.wmWritable (s : State) (w : Writer) (a : Nat) : Bool :=
  let p := s.wmPartition a
  p == 3 || w.plane.num == p || (s.sys.dev.setup && w.isHouse)

/-- Whether a master may write stage memory (R153): the drop pipeline (a block of the data plane), DMA and crew cores. -/
def stageWritable : Writer → Bool
  | .dma _ => true
  | .block .data => true
  | w => w.isCrew

/-! ## LPDDR5X (R155 to R162) -/

/-- The usable range of the window (R156, R162). -/
def State.dramUsable (s : State) (a n : Nat) : Bool :=
  let top := if s.flag R.DRC_STAT_HALF then 0x13C0000000 else 0x1780000000
  decide (0x1000000000 ≤ a ∧ a + n ≤ top)

/-- The package that serves address `a` (R155, R162): bit 10 with both in service, the live one in half mode. -/
def State.dramPackage (s : State) (a : Nat) : Nat :=
  if s.flag R.DRC_STAT_HALF then (if (s.getF R.DRC_STAT_PKGDEAD).testBit 0 then 1 else 0) else a / 1024 % 2

/-- Whether every byte of an access lies on a package in service (R161). -/
def State.dramAlive (s : State) (a n : Nat) : Bool :=
  (unitsOf a n).all fun u => !(s.getF R.DRC_STAT_PKGDEAD).testBit (s.dramPackage u)

/-- Declare package `p` failed (R161). -/
def State.drcFail (s : State) (p : Nat) : State :=
  let s := s.raiseBit R.DRC_STAT_PKGDEAD p
  let s := s.raise R.DRC_STAT_PKGFAIL
  let s := s.bbxEvent 0x0007 [s.getReg R.DRC_STAT]
  let s := s.irqPulseIf R.DRC_CTRL_PKGIRQ baseDRC
  s.publish Src.drcPkgFail

/-- Report an uncorrectable LPDDR5X error at `a` (R157), and declare its package failed when the errors of one second
reach DRC_UETHR (R161). -/
def State.dramUe (s : State) (a : Nat) : State :=
  let p := s.dramPackage a
  let now := s.cue.time.toNat
  let times := now :: ((mget [] s.drcUeTimes p).filter fun t => decide (now < t + 1000000000))
  let s := if s.flag R.DRC_STAT_UE then s
    else (s.setF R.DRC_UEADDRL_ADDR (a % 2 ^ 32)).setF R.DRC_UEADDRH_ADDR (a / 2 ^ 32)
  let s := s.raise R.DRC_STAT_UE
  let s := s.count (if p = 0 then R.DRC_UECNT_PKG0 else R.DRC_UECNT_PKG1) 1
  let s := s.irqPulseIf R.DRC_CTRL_UEIRQ baseDRC
  let s := { s with drcUeTimes := mset s.drcUeTimes p times }
  let thr := s.getF R.DRC_UETHR_THR
  if thr ≠ 0 ∧ thr ≤ times.length ∧ ¬ (s.getF R.DRC_STAT_PKGDEAD).testBit p then s.drcFail p else s

/-- The first addresses of the 32-byte halves of lines that `n` bytes from `a` touch (R157). -/
def halvesOf (a n : Nat) : List Nat := (List.range ((a + n + 31) / 32 - a / 32)).map fun i => (a / 32 + i) * 32

/-- What the code over the half at `h` finds: 0 nothing, 1 a single-bit error, 2 what it cannot correct, two errors among
them (R157). -/
def State.halfEcc (s : State) (h : Nat) : Nat :=
  let l := (List.range 4).map fun i => s.eccAt (h + 8 * i)
  if l.contains 2 then 2 else min 2 l.sum

/-- Check one half of an LPDDR5X line on a read (R157). -/
def State.dramCheck (q : State × Bool) (h : Nat) : State × Bool :=
  match q.1.halfEcc h with
  | 0 => q
  | 1 => ((((q.1.freshEcc h 32).count R.DRC_CECNT_CNT 1).raise R.DRC_STAT_CE).irqPulseIf R.DRC_CTRL_CEIRQ baseDRC, q.2)
  | _ => (q.1.dramUe h, false)

/-- The numbers of the 64-byte lines that an access touches. -/
def lineList (a n : Nat) : List Nat := (List.range ((a + n + 63) / 64 - a / 64)).map fun i => a / 64 + i

/-- How many 64-byte lines an access touches. -/
def linesOf (a n : Nat) : Nat := (a + n + 63) / 64 - a / 64

/-- The lines that a store of `n` bytes at `a` covers only in part: the controller reads them first (R157). -/
def partialLines (a n : Nat) : List Nat := (lineList a n).filter fun x => !(decide (a ≤ 64 * x) && decide (64 * x + 64 ≤ a + n))

/-- `s` with `k` lines of traffic counted for DRC_LINES. -/
def State.dramTraffic (s : State) (k : Nat) : State := { s with drcLines := s.drcLines + k }

/-- Read `n` bytes of the LPDDR5X window (R156, R157, R161). -/
def State.dramRead (s : State) (a n : Nat) : State × RdResult :=
  if !s.dramUsable a n || !s.dramAlive a n then (s, .busError)
  else
    let (s, ok) := (halvesOf a n).foldl State.dramCheck (s.dramTraffic (linesOf a n), true)
    (s, if ok then .ok (s.rdBytes a n) else .busError)

/-- Store bytes in the LPDDR5X window: a partial line is a read-modify-write, one line read more, and stays as it is where the
read cannot be corrected (R157). -/
def State.dramWrite (s : State) (a : Nat) (l : List Byte) : State × Bool :=
  let n := l.length
  if !s.dramUsable a n || !s.dramAlive a n then (s, false)
  else
    let s := s.dramTraffic (linesOf a n + (partialLines a n).length)
    match ((partialLines a n).flatMap fun x => [64 * x, 64 * x + 32]).foldl State.dramCheck (s, true) with
    | (s, true) => (s.putFresh a l, true)
    | (s, false) => (s, false)

/-! ## PMEM (R163 to R167) -/

/-- The base of PMEM. -/
def pmemBase : Nat := 0x0100000000

/-- Whether the table of R164 lets master `w` write PMEM offset `o`. -/
def State.pmemWritable (s : State) (w : Writer) (o : Nat) : Bool :=
  if o < 0x10000 then decide (s.sys.dev = .boot) && w.isHouse
  else if o < 0x100000 then w.isHouse
  else if o < 0xB40000 then false
  else (s.getF R.PMC_CTRL_USERW).testBit w.plane.num

/-- `s` with a PMEM event recorded: its status field, and its offset when PERM and UE were both 0 (PMC_ERRADDR). -/
def State.pmemEvent (s : State) (perm : Bool) (o : Nat) : State :=
  let first := !s.flag R.PMC_STAT_PERM && !s.flag R.PMC_STAT_UE
  let s := if first then
      (s.setF R.PMC_ERRADDR_KIND (if perm then 1 else 0)).setF R.PMC_ERRADDR_OFFSET o
    else s
  s.raise (if perm then R.PMC_STAT_PERM else R.PMC_STAT_UE)

/-- Check one unit of PMEM on a read. -/
def State.pmemCheck (q : State × Bool) (u : Nat) : State × Bool :=
  match q.1.eccAt u with
  | 0 => q
  | 1 => (((q.1.setEcc u 0).count R.PMC_CECNT_CNT 1).raise R.PMC_STAT_CE, q.2)
  | _ => (q.1.pmemEvent false (u - pmemBase), false)

/-- Read `n` bytes of PMEM (R167). -/
def State.pmemRead (s : State) (a n : Nat) : State × RdResult :=
  let (s, ok) := (unitsOf a n).foldl State.pmemCheck (s, true)
  (s, if ok then .ok (s.rdBytes a n) else .busError)

/-- PMC_STAT.DEPTH shows the writes accepted and not yet complete; what comes while 16 wait is accepted as they complete. -/
def State.pmcShow (s : State) : State := s.setF R.PMC_STAT_DEPTH (min 16 s.pmcQueue.length)

/-- The writes of the units that `n` bytes at PMEM address `a` touch wait at the PMC for the master with number `who` (R166):
a larger write is a series of them. -/
def State.pmemAccept (s : State) (who a n : Nat) : State :=
  ({ s with pmcQueue := s.pmcQueue ++ List.replicate (unitsOf a n).length who }).pmcShow

/-- Store bytes in PMEM for master `w` (R164, R165, R167). -/
def State.pmemWrite (s : State) (w : Writer) (a : Nat) (l : List Byte) : State × Bool :=
  let o := a - pmemBase
  if !s.pmemWritable w o then (s.pmemEvent true o, false)
  else
    match (partialUnits a l.length).foldl State.pmemCheck (s, true) with
    | (s, true) => ((s.putFresh a l).pmemAccept w.num a l.length, true)
    | (s, false) => (s, false)

/-- The number under which a block of the module, or the ROM for it, waits at the PMC. -/
def blockNum : Nat := Writer.num (.block .management)

/-- `s` with a block of the module (JRNL, BBX, the ROM) storing bytes in its own PMEM partition (R164). -/
def State.pmemStore (s : State) (o : Nat) (l : List Byte) : State :=
  (s.putFresh (pmemBase + o) l).pmemAccept blockNum (pmemBase + o) l.length

/-- The oldest accepted PMEM write completes (R166). -/
def State.pmemDone (s : State) : State := ({ s with pmcQueue := s.pmcQueue.tail }).pmcShow

/-! ## Local stores of a cue pair (R131) -/

/-- The physical core whose local store `w` owns, if it is a core. -/
def ownStoreOf : Writer → Option Nat
  | .core h _ => some (coreOf h)
  | .rom => some 12
  | _ => none

/-- `s` with the old contents of the stored units put in the undo logs of pair `n` (R137). -/
def State.undoLog (s : State) (n : Nat) (a len : Nat) : State :=
  (unitsOf a len).foldl (fun s u =>
    if 1024 ≤ (s.pair n).undoLead.length then s.raiseBit R.USTD_STAT_LOGOVF n
    else
      let hw := (s.pair n).undoLead.length + 1
      let s := s.modPair n fun p =>
        { p with undoLead := p.undoLead ++ [(u, s.rdBytes u 8)],
                 undoUnder := p.undoUnder ++ [(u + 0x40000, s.rdBytes (u + 0x40000) 8)] }
      if s.getF (R.USTD_LOGHW_MAX n) < hw then s.setF (R.USTD_LOGHW_MAX n) hw else s) s

/-- Store bytes in the local store of core `n` at physical address `a` for master `w`: the store of an understudy takes no
write of another master, and what enters the lead's store enters both (R131); each copy makes its own read-modify-write
(R149); a pair's own stores are logged (R137). -/
def State.localWrite (s : State) (w : Writer) (n : Nat) (a : Nat) (l : List Byte) : State × Bool :=
  let k := l.length
  let own := decide (ownStoreOf w = some n)
  if 8 ≤ n || (own && s.isSplit (n / 2)) then s.sramWrite (.localStore n) a l
  else if n % 2 = 1 then (s, false)
  else
    let (s, ok1) := s.sramMerge (.localStore n) a k
    let (s, ok2) := s.sramMerge (.localStore (n + 1)) (a + 0x40000) k
    if !(ok1 && ok2) then (s, false)
    else
      let s := if own then s.undoLog (n / 2) a k else s
      ((s.putFresh a l).putFresh (a + 0x40000) l, true)

/-! ## All memories -/

/-- Read `n` bytes at `a` from a memory that is neither the program store, a remote window nor peripheral space. -/
def State.memRead (s : State) (a n : Nat) : State × RdResult :=
  match regionOf a with
  | .rom => (s, .ok (s.rdBytes a n))
  | .localStore k => s.sramRead (.localStore k) a n
  | .working => s.sramRead .working a n
  | .stage => s.sramRead .stage a n
  | .pmem => s.pmemRead a n
  | .dram => s.dramRead a n
  | _ => (s, .busError)

/-- Store bytes at `a` for master `w` in a memory that is neither the program store, a remote window nor peripheral
space; the Bool says whether the write was accepted. -/
def State.memWrite (s : State) (w : Writer) (a : Nat) (l : List Byte) : State × Bool :=
  match regionOf a with
  | .localStore k => s.localWrite w k a l
  | .working => if s.wmWritable w a then s.sramWrite .working a l else (s, false)
  | .stage => if stageWritable w then s.sramWrite .stage a l else (s, false)
  | .pmem => s.pmemWrite w a l
  | .dram => s.dramWrite a l
  | _ => (s, false)

end Sys2Proof.Machine
end

