-- ==== Sys2Proof/Machine/Enc.lean ====
section
/-!
DEFINITION. Encoder interfaces and set-point inputs (R385 to R396).
What the spec leaves open here: log entries 9 and 40.
-/

namespace Sys2Proof.Machine

/-- Encoder interface `i`. -/
def State.encUnit (s : State) (i : Nat) : EncUnit := mget {} s.enc.units i

/-- `s` with encoder interface `i` changed. -/
def State.modEnc (s : State) (i : Nat) (f : EncUnit → EncUnit) : State :=
  { s with enc := { s.enc with units := mmod {} s.enc.units i f } }

/-- A count kept in 48 bits (R385). -/
def count48 (v : Int) : Int := sext 48 (wrap 48 v)

/-- Whether interface `i` runs: enabled, in a state of R385; sin/cos and serial interfaces stop in WINGS. -/
def State.encRuns (s : State) (i : Nat) : Bool :=
  s.flag (R.ENC_CFG_EN i) && s.cueRuns && (s.getF (R.ENC_CFG_MODE i) == 0 || s.sys.dev != .wings)

/-- The bit and CAUSE of a fault, its count, event and report (R391). -/
def State.encFault (s : State) (i cause : Nat) : State :=
  let s := (s.raise (R.ENC_STAT_FAULT i)).setF (R.ENC_STAT_CAUSE i) cause
  let s := (s.raiseBit R.ENC_GSTAT_FAULT i).count (R.ENC_ERRCNT_CNT i) 1
  (s.modEnc i fun u => { u with faultNew := true }).publish (Src.encFault i)

/-- The position of interface `i` at time `ns`: between quadrature edges interpolated from the last two (R386), in sin/cos
mode extrapolated from the last two conversions (R387), in the serial modes the position that stands (R390). -/
def State.encAt (s : State) (i ns : Nat) : Int × State :=
  let u := s.encUnit i
  if u.seen < 2 ∨ u.t1 ≤ u.t0 then (u.pos, s)
  else
    match s.getF (R.ENC_CFG_MODE i) with
    | 0 =>
      let step := 2 ^ s.getF (R.ENC_CFG_FRAC i)
      let (q, s) := s.roundFree ((step * (ns - u.t1) : Nat) : Int) (u.t1 - u.t0)
      (count48 (u.pos + u.dir * min q ((step : Int) - 1)), s)
    | 1 =>
      let (q, s) := s.roundFree ((u.p1 - u.p0) * ((ns : Int) - u.t1)) (u.t1 - u.t0)
      (count48 (u.pos + q), s)
    | _ => (u.pos, s)

/-- The position of interface `i` latched at a slot's sample instant and whether it reports a fault to it (R385, R391). -/
def State.encSample (s : State) (i : Nat) : Int × Bool × State :=
  let u := s.encUnit i
  if s.encRuns i && s.flag (R.ENC_STAT_VALID i) then
    let (p, s) := s.encAt i s.cue.time.toNat
    (p, u.faultNew || u.faultOut, s.modEnc i fun u => { u with sample := p })
  else (u.pos, u.faultNew || u.faultOut, s)

/-- `s` with position `p` of interface `i` delivered to the consumers of a tick and shown in ENC_POSL and ENC_POSH; `new` says
that the tick has a sample of its own (R249). -/
def State.encDeliver (s : State) (i : Nat) (p : Int) (new : Bool) : State :=
  let s := s.modEnc i fun u =>
    { u with out := p, travel := u.travel + (p - u.out).natAbs, faultOut := u.faultNew, faultNew := false, newOut := new }
  (s.setF (R.ENC_POSL_POS i) (wrap 32 p)).setF (R.ENC_POSH_POS i) (wrap 48 p / 2 ^ 32)

/-- One tick of a serial interface: a passed frame is delivered, advanced to the tick by the velocity of the last two
(R390), and every FDIV-th tick starts a frame (R389), whose latch instant is 5 ns to 10 ns after the tick (R395). -/
def State.encSerialTick (s : State) (i : Nat) : State :=
  let now := s.cue.time.toNat
  let u := s.encUnit i
  let s :=
    if u.frame then
      let (q, s) := if u.seen < 2 ∨ u.t1 ≤ u.t0 then ((0 : Int), s)
        else s.roundFree ((u.p1 - u.p0) * ((now : Int) - u.t1)) (u.t1 - u.t0)
      let p := count48 (u.p1 + q)
      let s := s.modEnc i fun u => { u with pos := p, frame := false }
      (s.encDeliver i p true).raise (R.ENC_STAT_VALID i)
    else s.encDeliver i u.pos false
  if u.toFrame + 1 < s.getF (R.ENC_SCFG_FDIV i) then s.modEnc i fun u => { u with toFrame := u.toFrame + 1 }
  else
    let (r, s) := s.fresh
    s.modEnc i fun u => { u with toFrame := 0, latchNs := now + 5 + r % 6 }

/-- One tick of interface `i` (R385). An interface that does not run, and a sin/cos interface without a conversion yet, deliver no
sample for it (R249). -/
def State.encTickUnit (s : State) (i : Nat) : State :=
  if !s.encRuns i then s.modEnc i fun u => { u with newOut := false, faultOut := false }
  else
    match s.getF (R.ENC_CFG_MODE i) with
    | 0 =>
      let (p, s) := s.encAt i s.cue.time.toNat
      (s.encDeliver i p true).raise (R.ENC_STAT_VALID i)
    | 1 =>
      let (p, s) := s.encAt i s.cue.time.toNat
      let s := s.encDeliver i p (decide ((s.encUnit i).seen ≠ 0))
      if (s.encUnit i).seen = 0 then s else s.raise (R.ENC_STAT_VALID i)
    | _ => s.encSerialTick i

/-- One 100 ns tick of all interfaces. -/
def State.encTick (s : State) : State := (List.range 8).foldl State.encTickUnit s

/-! ## Index and preset (R392) -/

/-- The value of ENC_SETH:SETL. -/
def State.encSet (s : State) (i : Nat) : Int :=
  sext 48 (s.getF (R.ENC_SETL_SET i) + 2 ^ 32 * s.getF (R.ENC_SETH_SET i))

/-- `s` with the position of interface `i` loaded; a quadrature edge of the same cycle counts after the load (R392). -/
def State.encLoad (s : State) (i : Nat) : State :=
  let v := s.encSet i
  s.modEnc i fun u =>
    let p := count48 (v + if u.edgeClk = s.clk then u.edgeDelta else 0)
    { u with pos := p, out := p, p1 := u.p1 + (p - u.pos), p0 := u.p0 + (p - u.pos) }

/-- A rising index edge of interface `i` (R392). -/
def State.encIndex (s : State) (i : Nat) : State :=
  if !s.encRuns i then s
  else
    let (p, s) := s.encAt i s.cue.time.toNat
    let s := (s.setF (R.ENC_IDX_POS i) (wrap 32 p)).raise (R.ENC_STAT_IDXSEEN i)
    if s.flag (R.ENC_CFG_IDXARM i) then (s.encLoad i).lower (R.ENC_CFG_IDXARM i) else s

/-- An index edge at the land: in sin/cos mode it is taken at the next conversion (R392). -/
def State.encIndexEdge (s : State) (i : Nat) : State :=
  if s.getF (R.ENC_CFG_MODE i) = 1 then s.modEnc i fun u => { u with idxWait := s.encRuns i }
  else s.encIndex i

/-! ## Quadrature (R386) -/

/-- The place of a pair of quadrature levels in the sequence 00, 10, 11, 01. -/
def quadPlace (a b : Bool) : Nat :=
  match a, b with
  | false, false => 0
  | true, false => 1
  | true, true => 2
  | false, true => 3

/-- Accepted levels of A and B of interface `i` (R386). -/
def State.encEdge (s : State) (i : Nat) (a b : Bool) : State :=
  let u := s.encUnit i
  let levels (s : State) : State := s.modEnc i fun u => { u with a := a, b := b, newRef := false }
  if u.newRef || !s.encRuns i || s.getF (R.ENC_CFG_MODE i) != 0 then levels s
  else if a != u.a && b != u.b then (levels s).encFault i 1
  else if a == u.a && b == u.b then s
  else
    let up := decide ((quadPlace a b + 4 - quadPlace u.a u.b) % 4 = 1)
    let dir : Int := if (up == Config.quadALeads) == s.flag (R.ENC_CFG_DIRINV i) then -1 else 1
    let delta := dir * (2 ^ s.getF (R.ENC_CFG_FRAC i) : Nat)
    let now := s.cue.time.toNat
    (levels s).modEnc i fun u =>
      { u with pos := count48 (u.pos + delta), dir := dir, seen := min 2 (u.seen + 1), t0 := u.t1, t1 := now,
               edgeDelta := if u.edgeClk = s.clk then u.edgeDelta + delta else delta, edgeClk := s.clk }

/-! ## Sin/cos (R387) -/

/-- The `n` leading bits of the angle of (c, s) as a fraction of a turn: each doubling of the angle moves one bit up. -/
def angleBits : Nat → Int → Int → Nat → Nat
  | 0, _, _, acc => acc
  | n + 1, c, s, acc =>
    let half := decide (s < 0 ∨ (s = 0 ∧ c < 0))
    angleBits n (c * c - s * s) (2 * c * s) (2 * acc + half.toNat)

/-- floor(atan2(s, c) / 2π × 4,096) mod 4,096 (R387). -/
def phase4096 (s c : Int) : Nat := angleBits 12 c s 0

/-- The ADC channel of the sine of interface `i`. -/
def State.encSinChannel (s : State) (i : Nat) : Nat :=
  4 * s.getF (R.ENC_CFG_SCGRP i) + 2 * s.getF (R.ENC_CFG_SCPAIR i)

/-- A conversion of interface `i` arrives from AFE_ADCRES (R387). -/
def State.encSincos (s : State) (i : Nat) : State :=
  if !s.encRuns i || s.getF (R.ENC_CFG_MODE i) != 1 then s
  else
    let ch := s.encSinChannel i
    let sn := s.getS (R.AFE_ADCRES_VAL ch)
    let cs := s.getS (R.AFE_ADCRES_VAL (ch + 1))
    let amp2 := (sn * sn + cs * cs).toNat
    let amin := s.getF (R.ENC_AMP_AMIN i)
    let amax := s.getF (R.ENC_AMP_AMAX i)
    let (ph0, s) := if sn = 0 ∧ cs = 0 then (let (r, s) := s.fresh; (r % 4096, s)) else (phase4096 sn cs, s)
    let ph := if s.flag (R.ENC_CFG_DIRINV i) then (4096 - ph0) % 4096 else ph0
    let u := s.encUnit i
    let turn (x : Nat) : Int := sext 12 (wrap 12 ((ph : Int) - x))
    let jump := turn u.phase
    let at_ := (s.cue.time.toNat - 184) / 200 * 200
    let hold (s : State) : State := s.modEnc i fun u =>
      { u with phase := ph, p0 := u.pos, p1 := u.pos, t0 := u.t1, t1 := at_, seen := min 2 (u.seen + 1) }
    let s :=
      if amp2 < amin * amin ∨ amax * amax < amp2 then (hold s).encFault i 2
      else if u.seen = 0 then
        let p := count48 (u.pos - u.pos % 4096 + ph)
        s.modEnc i fun u => { u with phase := ph, goodPhase := ph, pos := p, p1 := p, p0 := p, t1 := at_, seen := 1 }
      else if 1024 < jump ∨ jump < -1024 then (hold s).encFault i 3
      else
        let p := count48 (u.pos + turn u.goodPhase)
        s.modEnc i fun u =>
          { u with phase := ph, goodPhase := ph, pos := p, p0 := u.p1, p1 := p, t0 := u.t1, t1 := at_,
                   seen := min 2 (u.seen + 1) }
    if (s.encUnit i).idxWait then (s.modEnc i fun u => { u with idxWait := false }).encIndex i else s

/-! ## Serial frames (R389, R390) -/

/-- The number that a Gray code of `w` bits spells: each bit is the exclusive or of the code's bits from the top down. -/
def grayNat : Nat → Nat → Nat
  | 0, _ => 0
  | w + 1, g => g ^^^ grayNat w (g / 2)

/-- End of a frame of interface `i`: whether it started (BiSS-C start bit; SSI: SLO high before the frame), the position
bits, whether the CRC matches, and the levels of nE and nW (R389). -/
def State.encFrameEnd (s : State) (i : Nat) (started : Bool) (pos : Nat) (crcOk ne nw : Bool) : State :=
  let mode := s.getF (R.ENC_CFG_MODE i)
  if !s.encRuns i || mode < 2 then s
  else if !started then s.encFault i 6
  else
    let s := if mode = 2 && !nw then s.raise (R.ENC_STAT_WARN i) else s
    if mode = 2 && s.flag (R.ENC_SCFG_CRCEN i) && !crcOk then s.encFault i 4
    else if mode = 2 && !ne then s.encFault i 5
    else
      let bits := s.getF (R.ENC_SCFG_BITS i)
      let raw := pos % 2 ^ bits
      let v : Int := if mode = 4 then grayNat bits raw else raw
      let p := count48 (if s.flag (R.ENC_CFG_DIRINV i) then -v else v)
      s.modEnc i fun u =>
        { u with p0 := u.p1, t0 := u.t1, p1 := p, t1 := u.latchNs, frame := true, seen := min 2 (u.seen + 1) }

/-! ## Set-point inputs (R393, R394) -/

/-- The value of set-point input `j`: a step count, or the last analogue value. -/
def State.setpoint (s : State) (j : Nat) : Int := mget 0 s.enc.spval j

/-- `s` with the value of set-point input `j` set and shown. -/
def State.setSetpoint (s : State) (j : Nat) (v : Int) : State :=
  let s := { s with enc := { s.enc with spval := mset s.enc.spval j v } }
  if j < 4 then (s.setF (R.ENC_SPCNTL_VAL j) (wrap 32 v)).setF (R.ENC_SPCNTH_VAL j) (wrap 48 v / 2 ^ 32)
  else s.setF (R.ENC_SPCNTL_VAL j) (wrap 16 v)

/-- A rising STEP edge of input `j` with DIR sampled at the edge; `early` says that DIR changed within its window (R393). -/
def State.setpointEdge (s : State) (j : Nat) (dir early : Bool) : State :=
  if !s.flag (R.ENC_SPCFG_EN j) then s
  else
    let up := dir != s.flag (R.ENC_SPCFG_DIRINV j)
    let s := s.setSetpoint j (count48 (s.setpoint j + if up then 1 else -1))
    if early then s.raiseBit R.ENC_GSTAT_SPERR j else s

/-- An ADC value `r` for an analogue set-point input, the deadband applied (R394). -/
def State.setpointAnalogue (s : State) (j : Nat) (r : Int) : State :=
  if !s.flag (R.ENC_SPCFG_EN j) then s
  else
    let db : Int := s.getF (R.ENC_SPCFG_DB j)
    s.setSetpoint j (if -db ≤ r ∧ r ≤ db then 0 else r)

/-! ## Register writes (R392, R396) -/

/-- Whether every field of a value for ENC_CFG is in range (R396). -/
def encCfgOk (v : Word) : Bool :=
  decide (fieldOf v 30 28 < 5) && decide (fieldOf v 23 20 < 9) && decide (fieldOf v 15 13 < 6)

/-- Whether every field of a value for ENC_SCFG is in range (R396): BITS by the mode that ENC_CFG holds (R389). -/
def State.encScfgOk (s : State) (i : Nat) (v : Word) : Bool :=
  let bits := fieldOf v 11 6
  fieldOf v 31 24 != 0 && decide (19 ≤ fieldOf v 23 12 ∧ fieldOf v 23 12 ≤ 1999)
    && decide (8 ≤ bits ∧ bits ≤ if s.getF (R.ENC_CFG_MODE i) = 3 ∨ s.getF (R.ENC_CFG_MODE i) = 4 then 32 else 48)

/-- The bits of ENC_CFG other than PRESET and IDXARM. -/
def encCfgFixed (v : Word) : Word := v &&& ~~~ maskOf 26 25

/-- Whether R392 turns PRESET and IDXARM of interface `i` away: it is the observer's while a swath is on the scheduler. -/
def State.encLocked (s : State) (i : Nat) : Bool := s.getF R.FIRE_CFG_ENC == i && s.flag R.FIRE_STAT_SW

/-- The PRESET and IDXARM bits of a write to ENC_CFG(i) (R392). -/
def State.encArm (s : State) (i : Nat) (v : Word) : State :=
  if s.encLocked i then if v.getLsbD 26 || v.getLsbD 25 then s.raise (R.ENC_STAT_CFGREF i) else s
  else
    let s := s.setF (R.ENC_CFG_IDXARM i) (v.getLsbD 25).toNat
    if v.getLsbD 26 then s.encLoad i else s

/-- A write to ENC_CFG(i) (R385, R392, R396). -/
def State.encCfgWrite (s : State) (d : RegDesc) (i a : Nat) (v : Word) : State :=
  if encCfgFixed v = encCfgFixed (s.getReg a) then s.encArm i v
  else if !s.bootOrPlaces then (s.raise (R.ENC_STAT_CFGREF i)).encArm i v
  else if !encCfgOk v then s.raise (R.ENC_STAT_CFGREF i)
  else
    let was := s.flag (R.ENC_CFG_EN i)
    let s := s.writeTyped d a false (v &&& ~~~ maskOf 25 25)
    let s := if v.getLsbD 31 && !was then
        (s.lower (R.ENC_STAT_VALID i)).modEnc i fun u =>
          { u with seen := 0, newRef := true, frame := false, toFrame := 0, newOut := false, faultOut := false }
      else s
    s.encArm i v

/-- A register write to ENC. -/
def State.encRegWrite (s : State) (d : RegDesc) (i a : Nat) (v : Word) : State :=
  match d.id with
  | .ENC_CFG => s.encCfgWrite d i a v
  | .ENC_SCFG =>
    if s.bootOrPlaces && s.encScfgOk i v then s.writeTyped d a false v else s.raise (R.ENC_STAT_CFGREF i)
  | .ENC_SPCFG =>
    if s.bootOrPlaces && decide (fieldOf v 20 16 < 24) then s.writeTyped d a false v
    else s.raise (R.ENC_STAT_CFGREF i)
  | .ENC_STAT =>
    let s := s.writeTyped d a false v
    if s.flag (R.ENC_STAT_FAULT i) then s else s.lowerBit R.ENC_GSTAT_FAULT i
  | _ => s.writeTyped d a false v

/-- Entry to WINGS: sin/cos and serial interfaces stop and clear VALID (R385). -/
def State.encWings (s : State) : State :=
  (List.range 8).foldl (fun s i =>
    if s.getF (R.ENC_CFG_MODE i) = 0 then s
    else (s.lower (R.ENC_STAT_VALID i)).modEnc i fun u => { u with seen := 0, frame := false, newOut := false, faultOut := false }) s

/-! ## Commands -/

/-- ENCODER_TICK (R385). -/
def execEncoderTick (s : State) : Host.Outcome State Fault Refusal := .next s.encTick.settle

/-- QUADRATURE_EDGE (R386). -/
def execQuadratureEdge (i : Fin 8) (a b : Bool) (s : State) : Host.Outcome State Fault Refusal := 
  .next (State.settle <| s.encEdge i (a && s.carries 5 (3 * i) 3) (b && s.carries 5 (3 * i + 1) 3))

/-- SINCOS_RESULT (R387). -/
def execSincosResult (i : Fin 8) (s : State) : Host.Outcome State Fault Refusal := .next (State.settle <| s.encSincos i)

/-- SERIAL_FRAME_END (R389). -/
def execSerialFrameEnd (i : Fin 8) (started : Bool) (pos : BitVec 48) (crcOk ne nw : Bool) (s : State) :
    Host.Outcome State Fault Refusal :=
  .next (State.settle <| s.encFrameEnd i (started && s.carries 5 (2 * i) 4 && s.carries 5 (2 * i + 1) 4) pos.toNat crcOk ne nw)

/-- INDEX_EDGE (R392). -/
def execIndexEdge (i : Fin 8) (s : State) : Host.Outcome State Fault Refusal :=
  .next (State.settle <| if s.carries 5 (3 * i + 2) 3 then s.encIndexEdge i else s)

/-- SETPOINT_STEP (R393). -/
def execSetpointStep (j : Fin 4) (dir early : Bool) (s : State) : Host.Outcome State Fault Refusal :=
  .next (State.settle <| if s.carries 4 (24 + 2 * j) 9 then s.setpointEdge j (dir && s.carries 4 (25 + 2 * j) 9) early else s)

end Sys2Proof.Machine
end

