-- ==== Sys2Proof/Machine/Pwm.lean ====
section
/-!
DEFINITION. The PWM units (R343 to R366): periods and compares, dead time and minimum pulse, load-all, join and park, trips,
peak-current reset and the freeze.
What the spec leaves open here: log entry 38.
-/

namespace Sys2Proof.Machine

/-- PWM unit `n`. -/
def State.pwmUnit (s : State) (n : Nat) : PwmUnit := mget {} s.pwm.units n

/-- `s` with PWM unit `n` changed. -/
def State.modUnit (s : State) (n : Nat) (f : PwmUnit → PwmUnit) : State :=
  { s with pwm := { s.pwm with units := mmod {} s.pwm.units n f } }

/-- Whether the units are frozen (R362). -/
def State.pwmFrozen (s : State) : Bool := s.flag R.PWM_GSTAT_FROZEN

/-- The time that the units' counters see: it stands still in a freeze (R362). -/
def State.pwmNow (s : State) : Nat := s.pwm.frozenAt.getD s.cue.time.toNat

/-- Steps since unit `n`'s counter stood at 0. -/
def State.pwmHere (s : State) (n : Nat) : Nat := 16 * ((s.pwmNow : Int) - (s.pwmUnit n).startNs).toNat

/-! ## The waveform of one period (R344 to R348) -/

/-- The ideal waveform of a compare over one period (R344 to R346): low throughout, high throughout, or high in [a, b). -/
inductive Ideal where
  | low
  | high
  | span (a b : Nat)
  deriving DecidableEq, Repr

/-- The ideal waveform of compare `cmp` in a period of `t` steps (R344 to R346). -/
def idealOf (mode t cmp : Nat) : Ideal :=
  if cmp = 0 then .low
  else if t ≤ cmp ∨ cmp = 0xFFFFF then .high
  else if mode = 1 then .span ((t - cmp) / 2) ((t - cmp) / 2 + cmp) else .span 0 cmp

/-- Whether a compare is clamped to its period (R346). -/
def compareClamps (t cmp : Nat) : Bool := decide (t ≤ cmp ∧ cmp ≠ 0xFFFFF)

/-- The non-empty interval of two instants. -/
def interval (a b : Nat) : Option (Nat × Nat) := if a < b then some (a, b) else none

/-- Whether an interval is active just before instant `x`. -/
def wasActive (x : Nat) (iv : Option (Nat × Nat)) : Bool := iv.any fun p => decide (p.1 < x ∧ x ≤ p.2)

/-- How a period begins: the counter's value in steps, which outputs were active just before, whether both come from their park
(R353, R359), and what was left of a dead time of OUTL. -/
structure PwmStart where
  x : Nat := 0
  wasH : Bool := false
  wasL : Bool := false
  parked : Bool := false
  pendL : Nat := 0

/-- The delay before a rising edge at the start `x`: none for an output that was active, the dead time where the other was or both
come from their park (R345, R347, R353). -/
def PwmStart.delayH (p : PwmStart) (dth : Nat) : Nat := if p.wasH then 0 else if p.wasL || p.parked then dth else 0
def PwmStart.delayL (p : PwmStart) (dtl : Nat) : Nat := if p.wasL then 0 else if p.wasH || p.parked then dtl else p.pendL

/-- Dead times, minimum pulse and what MINPH and MINPL choose for a unit. -/
structure PwmRules where
  dth : Nat
  dtl : Nat
  minp : Nat
  strH : Bool
  strL : Bool

/-- One independent output (R347): its interval, and 1 if it is short. -/
def independentSpan (i : Ideal) (t x minp : Nat) (stretch : Bool) : (Nat × Nat) × Option (Nat × Nat) × Nat :=
  match i with
  | .low => ((t, t), none, 0)
  | .high => ((0, t), interval x t, 0)
  | .span a b =>
    let short := decide (b - a < minp)
    let b := if short && stretch then a + minp else b
    ((a, b), if short && !stretch then none else interval (max a x) b, short.toNat)

/-- OUTL from the start of a period, or from a mid-period load, to the rise of the ideal waveform at `a`: it goes on, rises after
its dead time, or stays as the period before left it. An interval that begins here is dropped where it is short (R347, R348). -/
def leadL (p : PwmStart) (r : PwmRules) (a : Nat) : Option (Nat × Nat) :=
  if p.wasL then interval p.x a
  else if p.wasH || p.parked then (if a < p.x + r.dtl + r.minp then none else interval (p.x + r.dtl) a)
  else if 0 < p.pendL then interval (p.x + p.pendL) a
  else none

/-- The complementary outputs of a period that begins as `p` says (R344 to R348). -/
def complementaryWave (i : Ideal) (mode t : Nat) (r : PwmRules) (p : PwmStart) : PwmPlan :=
  match i with
  | .low => { len := t, a := t, b := t, outL := interval (p.x + p.delayL r.dtl) t }
  | .high => { len := t, a := 0, b := t, outH := interval (p.x + p.delayH r.dth) t }
  | .span a0 b0 =>
    let shortH := decide (b0 - a0 < r.dth + r.minp)
    let b1 := if shortH && r.strH then a0 + r.dth + r.minp else b0
    let lowWidth := t - b1 + a0
    let shortL := decide (lowWidth < r.dtl + r.minp)
    let lack := r.dtl + r.minp - lowWidth
    let a2 := if shortL && r.strL && mode == 1 then a0 + lack / 2 else a0
    let b2 := if shortL && r.strL then b1 - (if mode = 1 then lack - lack / 2 else lack) else b1
    let fromH := if a2 < p.x then max (a2 + r.dth) (p.x + p.delayH r.dth) else a2 + r.dth
    let fromL := if b2 < p.x then max (b2 + r.dtl) (p.x + p.delayL r.dtl) else b2 + r.dtl
    { len := t, a := a2, b := b2, carryL := leadL p r a2,
      outH := if shortH && !r.strH then none else interval fromH b2,
      outL := if shortL && !r.strL then none else interval fromL (t + a2),
      shortH := shortH.toNat, shortL := shortL.toNat }

/-- The rules of unit `n`; in peak-current mode MINPL counts as drop (R348). -/
def State.pwmRules (s : State) (n : Nat) : PwmRules :=
  { dth := s.getF (R.PWM_DT_DTH n), dtl := s.getF (R.PWM_DT_DTL n), minp := s.getF (R.PWM_MINP_MINP n),
    strH := s.flag (R.PWM_CFG_MINPH n), strL := s.flag (R.PWM_CFG_MINPL n) && s.getF (R.PWM_CFG_MODE n) != 2 }

/-- The active period of unit `n` in steps. -/
def State.pwmSteps (s : State) (n : Nat) : Nat := 16 * s.getF (R.PWM_PERIOD_ACTIVE n)

/-- The period of unit `n` that begins as `p` says, from its active values. -/
def State.pwmWave (s : State) (n : Nat) (p : PwmStart) : PwmPlan :=
  let t := s.pwmSteps n
  let mode := s.getF (R.PWM_CFG_MODE n)
  let r := s.pwmRules n
  let iA := idealOf mode t (s.getF (R.PWM_ACTCMP_CMP n))
  if s.flag (R.PWM_CFG_OUTM n) then
    let (sA, h, nh) := independentSpan iA t p.x r.minp r.strH
    let (sB, l, nl) := independentSpan (idealOf mode t (s.pwmUnit n).actB) t p.x r.minp r.strL
    { len := t, a := sA.1, b := sA.2, aB := sB.1, bB := sB.2, outH := h, outL := l, shortH := nh, shortL := nl }
  else complementaryWave iA mode t r p

/-- CMPCLAMP of unit `n` for the compares in use (R346). -/
def State.pwmClamp (s : State) (n : Nat) : State :=
  let t := s.pwmSteps n
  if compareClamps t (s.getF (R.PWM_ACTCMP_CMP n)) || (s.flag (R.PWM_CFG_OUTM n) && compareClamps t (s.pwmUnit n).actB) then
    s.raise (R.PWM_STAT_CMPCLAMP n)
  else s

/-- `s` with the short intervals of unit `n` counted: OUTH's where `h` holds, OUTL's where `l` holds (R348). -/
def State.pwmCount (s : State) (n : Nat) (h l : Bool) : State :=
  let p := (s.pwmUnit n).plan
  let nh := if h then p.shortH else 0
  let nl := if l then p.shortL else 0
  if nh + nl = 0 then s
  else
    let s := s.modUnit n fun u => { u with plan := { p with shortH := p.shortH - nh, shortL := p.shortL - nl } }
    ((s.count (R.PWM_DROPCNT_OUTH n) nh).count (R.PWM_DROPCNT_OUTL n) nl).raise (R.PWM_STAT_MINP n)

/-- The same for the intervals whose ideal pulse has begun (OUTH) or ended (OUTL) `x` steps into the period; with independent
outputs both count at their own begin. -/
def State.pwmCountTo (s : State) (n x : Nat) : State :=
  let p := (s.pwmUnit n).plan
  s.pwmCount n (decide (p.a ≤ x)) (decide ((if s.flag (R.PWM_CFG_OUTM n) then p.aB else p.b) ≤ x))

/-- `s` with unit `n`'s new period planned: the present one ended `x` steps after its start, the counter stands at PHASE or 0 in
steps, `start` (R345 to R348). -/
def State.pwmPlanPeriod (s : State) (n x start : Nat) (parked : Bool) : State :=
  let p := (s.pwmUnit n).plan
  let st : PwmStart :=
    if parked then { x := start, parked := true }
    else { x := start, wasH := wasActive x p.outH, wasL := wasActive x p.outL || wasActive x p.carryL,
           pendL := match p.outL with | some (a, _) => if p.b ≤ x ∧ x ≤ a then a - x else 0 | none => 0 }
  let w := s.pwmWave n st
  (s.modUnit n fun u => { u with plan := w }).pwmClamp n

/-- The level of an output `x` steps into its period where no edge lies within the last 13 ns: whether it is active (R347). -/
def PwmPlan.level (p : PwmPlan) (low : Bool) (x : Nat) : Option Bool :=
  let ivs := if low then [p.outL, p.carryL] else [p.outH]
  let edge (e : Nat) : Bool := decide (e ≤ x ∧ x < e + 208)
  if x < 208 ∨ p.len ≤ x ∨ ivs.any (fun iv => iv.any fun v => edge v.1 || edge v.2) then none
  else some (ivs.any fun iv => iv.any fun v => decide (v.1 ≤ x ∧ x < v.2))

/-- The level that unit `n` drives on the land of OUTH or OUTL, where the state tells one: the park state, which POLH and POLL do
not invert, or the waveform (R347, R354). -/
def State.pwmLand (s : State) (n : Nat) (low : Bool) : Option Bool :=
  let u := s.pwmUnit n
  if s.flag (R.PWM_STAT_PARKED n) then
    if s.pwmNow < u.parkNs + 13 then none
    else match s.getF (if low then R.PWM_CFG_PARKL n else R.PWM_CFG_PARKH n) with
      | 0 => some false
      | 1 => some true
      | _ => none
  else (u.plan.level low (s.pwmHere n)).map fun b => b != s.flag (if low then R.PWM_CFG_POLL n else R.PWM_CFG_POLH n)

/-! ## Load-all (R349 to R351) -/

/-- The load-all bit of group `g`. -/
def ldallBit (g : Nat) : Fld :=
  if g < 32 then ⟨R.PWM_LDALL, g, g⟩ else ⟨R.PWM_LDALLH, g - 32, g - 32⟩

/-- The units of group `g` that are enabled. -/
def State.groupUnits (s : State) (g : Nat) : List Nat :=
  (List.range 48).filter fun n => s.getF (R.PWM_CFG_GRP n) == g && s.flag (R.PWM_CTRL_EN n)

/-- `s` with load-all bit `g` cleared when no enabled unit of the group still has to transfer (R351). -/
def State.settleGroup (s : State) (g : Nat) : State :=
  if (s.groupUnits g).any fun n => (s.pwmUnit n).load then s else s.lower (ldallBit g)

/-- `s` with load-all bit `g` set (R349): every enabled unit of the group owes one transfer; a setting while the bit is 1
merges with the pending load (R351). -/
def State.setLoadAll (s : State) (g : Nat) : State :=
  if 48 ≤ g ∨ s.flag (ldallBit g) = true then s
  else
    let now := s.pwmNow
    let s := s.raise (ldallBit g)
    let s := (s.groupUnits g).foldl (fun s n => s.modUnit n fun u => { u with load := true, loadNs := now }) s
    s.settleGroup g

/-- `s` with unit `n`'s shadows taken into its active registers (R349); a period taken inside a period waits for the wrap
(R350). -/
def State.pwmTransfer (s : State) (n : Nat) (atStart : Bool) : State :=
  let p := s.getF (R.PWM_PERIOD_PERIOD n)
  let s := s.setF (R.PWM_ACTCMP_CMP n) (s.getF (R.PWM_CMPA_CMP n))
  let b := s.getF (R.PWM_CMPB_CMP n)
  let s := s.modUnit n fun u =>
    { u with actB := b, load := false, nextPeriod := if atStart then none else some p }
  let s := if atStart then s.setF (R.PWM_PERIOD_ACTIVE n) p else s
  s.settleGroup (s.getF (R.PWM_CFG_GRP n))

/-! ## Ramps (R375) -/

/-- `s` with the ramps of PWM unit `n` started by its period start, 24 ns after it (R375). -/
def State.rampStart (s : State) (n : Nat) : State :=
  let t := s.cue.time.toNat + 24
  { s with afe := { s.afe with ramps := (List.range 24).foldl (fun m r =>
      if s.getF (R.AFE_RAMP_SRCUNIT r) = n then mset m r t else m) s.afe.ramps } }

/-- `s` with the ramps of unit `n` at 0 V: it no longer runs (R375). -/
def State.rampStop (s : State) (n : Nat) : State :=
  { s with afe := { s.afe with ramps := s.afe.ramps.filter fun r => s.getF (R.AFE_RAMP_SRCUNIT r.1) != n } }

/-! ## Join and park (R353 to R355) -/

/-- `s` with unit `n`'s outputs in their park state. -/
def State.pwmPark (s : State) (n : Nat) : State :=
  let now := s.cue.time.toNat
  (s.raise (R.PWM_STAT_PARKED n)).modUnit n fun u => { u with parkNs := now }

/-- `s` with both outputs of unit `n` parked and the unit disabled (R354). -/
def State.pwmDisableUnit (s : State) (n : Nat) : State :=
  let s := s.pwmCountTo n (s.pwmHere n)
  let s := ((s.lower (R.PWM_CTRL_EN n)).lower (R.PWM_STAT_JOINPEND n)).lower (R.PWM_STAT_RUN n)
  let s := (s.pwmPark n).rampStop n
  let s := s.modUnit n fun u => { u with load := false, syncWait := false, returnWait := false, nextPeriod := none, plan := {} }
  s.settleGroup (s.getF (R.PWM_CFG_GRP n))

/-- `s` with unit `n` disabled by the module; a frozen unit holds its outputs until the freeze ends (R353, R362). -/
def State.pwmOff (s : State) (n : Nat) : State :=
  if s.pwmFrozen then { s with pwm := { s.pwm with deferred := s.pwm.deferred ++ [(R.PWM_CTRL n, none)] } }
  else s.pwmDisableUnit n

/-- `s` with every enabled unit disabled (R353). -/
def State.pwmDisableAll (s : State) : State :=
  (List.range 48).foldl (fun s n => if s.flag (R.PWM_CTRL_EN n) then s.pwmOff n else s) s

/-- `s` with unit `n` joining, which begins a period: counter at PHASE, shadows active, both outputs inactive until their edges; a trip latch keeps
it parked until it clears (R353, R359). -/
def State.pwmJoin (s : State) (n : Nat) : State :=
  let s := s.pwmTransfer n true
  let now : Int := s.cue.time.toNat
  let ph := s.getF (R.PWM_PHASE_PHASE n)
  let trip := s.flag (R.PWM_STAT_TRIPPED n)
  let s := s.modUnit n fun u => { u with startNs := now - ph, syncWait := false, returnWait := trip, plan := {} }
  let s := (s.lower (R.PWM_STAT_JOINPEND n)).raise (R.PWM_STAT_RUN n)
  let s := if trip then s else s.lower (R.PWM_STAT_PARKED n)
  (s.pwmPlanPeriod n 0 (16 * ph) true).rampStart n

/-- The joins of one cue boundary of RUN (R353). -/
def State.pwmBoundary (s : State) : State :=
  if !s.inRun || s.pwmFrozen then s
  else
    (List.range 48).foldl (fun s n =>
      if s.flag (R.PWM_STAT_JOINPEND n) && s.flag (R.PWM_PERIOD_PERIOD n) then
        if s.flag (R.PWM_CFG_SYNC n) then s.modUnit n fun u => { u with syncWait := true } else s.pwmJoin n
      else s) s

/-- Whether an enabled slot's output names unit `n` (R352). -/
def State.pwmSlotDriven (s : State) (n : Nat) : Bool :=
  (List.range 64).any fun k =>
    s.flag (R.LOOP_SCFG_EN k) &&
      match s.getF (R.LOOP_SOUT_KIND k) with
      | 1 => s.getF (R.LOOP_SOUT_A k) == n
      | 2 => s.getF (R.LOOP_SOUT_A k) == n || s.getF (R.LOOP_SOUT_B k) == n
      | 3 => s.getF (R.LOOP_SOUT_A k) == n || s.getF (R.LOOP_SOUT_B k) == n || s.getF (R.LOOP_SOUT_C k) == n
      | _ => false

/-- `s` with the enabled units that no slot names disabled, those with CURT as `curt` says (R355). -/
def State.pwmCurtain (s : State) (curt : Bool) : State :=
  (List.range 48).foldl (fun s n =>
    if s.flag (R.PWM_CTRL_EN n) && !s.pwmSlotDriven n && s.flag (R.PWM_CFG_CURT n) == curt then s.pwmOff n
    else s) s

/-! ## Trips (R358 to R361) -/

/-- Whether comparator `c`'s output is 1. -/
def State.cmpOut (s : State) (c : Nat) : Bool :=
  if c < 32 then (s.getReg R.AFE_CMPOUTL).getLsbD c else (s.getReg R.AFE_CMPOUTH).getLsbD (c - 32)

/-- Whether unit `n`'s masks select trip source `k`: lands 0 to 23, comparators 24 to 71. -/
def State.tripSelected (s : State) (n k : Nat) : Bool :=
  if k < 24 then (s.getF (R.PWM_TRIPL_MASK n)).testBit k
  else if k < 56 then (s.getF (R.PWM_TRIPC0_MASK n)).testBit (k - 24)
  else (s.getF (R.PWM_TRIPC1_MASK n)).testBit (k - 56)

/-- Whether trip source `k` is active now. -/
def State.tripActive (s : State) (k : Nat) : Bool := if k < 24 then s.pwm.lands.getLsbD k else s.cmpOut (k - 24)

/-- Whether a selected trip source of unit `n` is active now (PWM_STAT.TRIPCUR). -/
def State.tripCur (s : State) (n : Nat) : Bool := (List.range 72).any fun k => s.tripActive k && s.tripSelected n k

/-- Whether trip source `k` calls a curtain (R360). -/
def State.tripCurt (s : State) (k : Nat) : Bool :=
  if k < 24 then (s.getF R.PWM_TCURT_CURT).testBit k
  else if k < 56 then (s.getF R.PWM_CCURTL_CURT).testBit (k - 24)
  else (s.getF R.PWM_CCURTH_CURT).testBit (k - 56)

/-- `s` with unit `n`'s trip latch set: outputs parked, PWM_TRIP published (R358, R360). -/
def State.pwmTripUnit (s : State) (n : Nat) : State :=
  if s.flag (R.PWM_STAT_TRIPPED n) then s
  else
    let s := (s.raise (R.PWM_STAT_TRIPPED n)).pwmPark n
    let s := s.modUnit n fun u => { u with returnWait := true }
    (s.raise R.PWM_GSTAT_TRIP).publish (Src.pwmTrip n)

/-- `s` with trip source `k` having become active (R358, R360): the latches of the units that select it, the lands seen,
the curtain trigger. -/
def State.tripSource (s : State) (k : Nat) : State :=
  let s := if k < 24 then s.raiseBit R.PWM_TRIPST_SEEN k else s
  let s := (List.range 48).foldl (fun s n => if s.tripSelected n k then s.pwmTripUnit n else s) s
  if s.inRun && s.tripCurt k then s.trigger R.SYS_CURTAIN_TRIP else s

/-- `s` with trip land `k` at a level (`active`: low). -/
def State.tripLand (s : State) (k : Nat) (active : Bool) : State :=
  let was := s.pwm.lands.getLsbD k
  let m := BitVec.ofNat 24 (2 ^ k)
  let s := { s with pwm := { s.pwm with lands := if active then s.pwm.lands ||| m else s.pwm.lands &&& ~~~ m } }
  if active && !was then s.tripSource k else s

/-! ## Period starts and load points (R343, R350, R356, R359) -/

/-- `s` with a latched trip of unit `n` released at a period start: cycle-by-cycle when no selected source is active;
outputs return once the latch is clear (R359). -/
def State.pwmRelease (s : State) (n : Nat) : State :=
  let s := if s.flag (R.PWM_STAT_TRIPPED n) && s.flag (R.PWM_CFG_TRIPMODE n) && !s.tripCur n then
      s.lower (R.PWM_STAT_TRIPPED n) else s
  if !s.flag (R.PWM_STAT_TRIPPED n) && (s.pwmUnit n).returnWait then
    (s.modUnit n fun u => { u with returnWait := false }).lower (R.PWM_STAT_PARKED n)
  else s

/-- A period of unit `n` begins with the counter at `ph` cycles, `x` steps into the present one (R343, R350, R353, R359): a
waiting period and a pending load set in an earlier cycle are taken, a trip is released, the period is planned, its ramps start. -/
def State.pwmBegin (s : State) (n x ph : Nat) : State :=
  let s := match (s.pwmUnit n).nextPeriod with
    | some p => (s.modUnit n fun u => { u with nextPeriod := none }).setF (R.PWM_PERIOD_ACTIVE n) p
    | none => s
  let u := s.pwmUnit n
  let s := if u.load && s.getF (R.PWM_CFG_LDPT n) != 2 && decide (u.loadNs < s.cue.time.toNat) then s.pwmTransfer n true else s
  let parked := s.flag (R.PWM_STAT_PARKED n)
  let now : Int := s.cue.time.toNat
  let s := (s.modUnit n fun u => { u with startNs := now - ph }).pwmRelease n
  (s.pwmPlanPeriod n x (16 * ph) parked).rampStart n

/-- A sync of unit `m` (R356): a waiting join, or a period from PHASE. The present one is cut: of its intervals only those that ended
before count. A counter that has just wrapped stands at 0. -/
def State.pwmSyncUnit (s : State) (m : Nat) : State :=
  if (s.pwmUnit m).syncWait then s.pwmJoin m
  else
    let p := (s.pwmUnit m).plan
    let x := min (s.pwmHere m) p.len
    let ph := s.getF (R.PWM_PHASE_PHASE m)
    let s := if x % max 1 p.len = 16 * ph then s else s.raise (R.PWM_STAT_SYNCADJ m)
    let s := if x = p.len then s.pwmCountTo m x else s.pwmCount m (decide (p.b ≤ x)) false
    s.pwmBegin m x ph

/-- Whether the period starts of unit `n` act on unit `m`: it waits to join on them, or is synchronised to them (R353, R356). -/
def State.pwmSyncs (s : State) (n m : Nat) : Bool :=
  m != n && s.flag (R.PWM_CFG_SYNC m) && s.getF (R.PWM_CFG_SYNCUNIT m) == n && ((s.pwmUnit m).syncWait || s.flag (R.PWM_STAT_RUN m))

/-- `s` with the units that synchronise to unit `n` acting on its period start, and those that synchronise to them; `fuel` bounds
the chain, which must not close on itself (R356). -/
def State.pwmSync : Nat → Nat → State → State
  | 0, _, s => s
  | fuel + 1, n, s =>
    (List.range 48).foldl (fun s m => if s.pwmSyncs n m then (s.pwmSyncUnit m).pwmSync fuel m else s) s

/-- A period start of unit `n` (R343). -/
def State.pwmPeriodStart (s : State) (n : Nat) : State :=
  if !s.flag (R.PWM_STAT_RUN n) || s.pwmFrozen then s
  else
    let len := (s.pwmUnit n).plan.len
    ((s.pwmCountTo n len).pwmBegin n len 0).pwmSync 48 n

/-- The complementary outputs `x` steps into the period `p` after a load of the ideal waveform `i` (R350): before the pulse begins
the new one takes its place, unless its begin has passed; a pulse ends at the new compare or at once, and no second one starts. -/
def reloadWave (i : Ideal) (mode x : Nat) (r : PwmRules) (p : PwmPlan) : PwmPlan :=
  let t := p.len
  let onL := wasActive x p.outL || wasActive x p.carryL
  let low : PwmPlan := { p with a := t, b := t, outH := none, outL := none, shortH := 0, shortL := 0,
                                carryL := if onL then interval (min x t) t else p.carryL.bind fun v => interval v.1 t }
  let next := match i with | .span a _ => t + a | _ => t
  if x < p.a then
    match i with
    | .span a _ => if x ≤ a then { complementaryWave i mode t r { x := 0, wasL := onL } with carryL := p.carryL.bind fun v => interval v.1 a } else low
    | _ => low
  else if x < p.b then
    let b0 := match i with | .low => x | .high => t | .span _ b => max x (min t b)
    let from' := p.a + r.dth
    let short := decide (x < from' ∧ b0 - p.a < r.dth + r.minp)
    let b1 := if short && r.strH then p.a + r.dth + r.minp else b0
    let shortL := i != .high && decide (next - b1 < r.dtl + r.minp)
    let b2 := if shortL && r.strL then max x (next - (r.dtl + r.minp)) else b1
    { p with b := b2,
             outH := if short && !r.strH then none else p.outH.bind fun v => interval v.1 b2,
             outL := if i = .high ∨ (shortL = true ∧ r.strL = false) then none else interval (b2 + r.dtl) next,
             shortH := p.shortH + short.toNat, shortL := shortL.toNat }
  else { p with outL := p.outL.bind fun v => interval v.1 next }

/-- An independent output likewise: the ideal interval and the active one. -/
def reloadSpan (i : Ideal) (t x minp : Nat) (stretch : Bool) (sp : Nat × Nat) (out : Option (Nat × Nat)) (short : Nat) :
    (Nat × Nat) × Option (Nat × Nat) × Nat :=
  if x < sp.1 then
    match i with
    | .span a _ => if x ≤ a then independentSpan i t x minp stretch else ((t, t), none, 0)
    | _ => ((t, t), none, 0)
  else if x < sp.2 then
    let b := match i with | .low => x | .high => t | .span _ b => max x (min t b)
    ((sp.1, b), out.bind fun v => interval v.1 b, short)
  else (sp, out, short)

/-- The load point of unit `n` inside a period: immediate (LDPT 0b10), two timebase cycles after the bit was set, or the centre
point (0b01, not edge-aligned), in a later cycle than the setting (R350). -/
def State.pwmLoadPoint (s : State) (n : Nat) : State :=
  let ldpt := s.getF (R.PWM_CFG_LDPT n)
  let u := s.pwmUnit n
  let now := s.cue.time.toNat
  let inside := (ldpt == 2 && decide (u.loadNs + 2 ≤ now)) ||
    (ldpt == 1 && s.getF (R.PWM_CFG_MODE n) != 0 && decide (u.loadNs < now))
  if !s.flag (R.PWM_STAT_RUN n) || s.pwmFrozen || !u.load || !inside then s
  else
    let x := s.pwmHere n
    let s := (s.pwmCountTo n x).pwmTransfer n false
    let t := s.pwmSteps n
    let mode := s.getF (R.PWM_CFG_MODE n)
    let r := s.pwmRules n
    let iA := idealOf mode t (s.getF (R.PWM_ACTCMP_CMP n))
    let p := (s.pwmUnit n).plan
    let q := if s.flag (R.PWM_CFG_OUTM n) then
        let (sA, h, nh) := reloadSpan iA t x r.minp r.strH (p.a, p.b) p.outH p.shortH
        let (sB, l, nl) := reloadSpan (idealOf mode t (s.pwmUnit n).actB) t x r.minp r.strL (p.aB, p.bB) p.outL p.shortL
        { p with a := sA.1, b := sA.2, aB := sB.1, bB := sB.2, outH := h, outL := l, shortH := nh, shortL := nl }
      else reloadWave iA mode x r p
    ((s.modUnit n fun u => { u with plan := q }).pwmClamp n).pwmCountTo n x

/-- The peak-current reset of unit `n`, `steps` into its period (R357): it ends the present OUTH pulse once the on-time has
reached LEB and MINP; OUTL follows after its dead time, unless that interval is short (R348). -/
def State.pwmPeakReset (s : State) (n steps : Nat) : State :=
  match (s.pwmUnit n).plan.outH with
  | some (a, b) =>
    let r := s.pwmRules n
    let blank := max (16 * s.getF (R.PWM_PCM_LEB n)) r.minp
    if s.getF (R.PWM_CFG_MODE n) = 2 ∧ s.flag (R.PWM_STAT_RUN n) ∧ ¬ s.pwmFrozen ∧ a + blank ≤ steps ∧ steps < b then
      let t := s.pwmSteps n
      let short := decide (t - steps < r.dtl + r.minp)
      (s.modUnit n fun u =>
        let p := { u.plan with outH := interval a steps, b := steps }
        { u with plan := if s.flag (R.PWM_CFG_OUTM n) then p
            else { p with outL := if short then none else interval (steps + r.dtl) t, shortL := short.toNat } }).pwmCountTo n steps
    else s
  | none => s

/-- A rising output of comparator `c` reaches the units in peak-current mode that select it (R357). -/
def State.pwmPeakCmp (s : State) (c : Nat) : State :=
  (List.range 48).foldl (fun s n =>
    if s.getF (R.PWM_CFG_MODE n) = 2 ∧ s.getF (R.PWM_PCM_PCSEL n) = c then s.pwmPeakReset n (s.pwmHere n) else s) s

/-- The short intervals that the present instant decides are counted (R348). -/
def State.pwmTick (s : State) : State :=
  (List.range 48).foldl (fun s n => if s.flag (R.PWM_STAT_RUN n) then s.pwmCountTo n (s.pwmHere n) else s) s

/-! ## Freeze (R362) -/

/-- `s` with every unit frozen. -/
def State.pwmFreeze (s : State) : State :=
  if s.pwmFrozen then s
  else { (s.raise R.PWM_GSTAT_FROZEN) with pwm := { s.pwm with frozenAt := some s.cue.time.toNat } }

/-! ## Register writes (R349 to R366) -/

/-- Whether a trip or curtain mask (R361). -/
def isTripMask : RegId → Bool
  | .PWM_TCURT | .PWM_CCURTL | .PWM_CCURTH | .PWM_TRIPL | .PWM_TRIPC0 | .PWM_TRIPC1 => true
  | _ => false

/-- Whether a value may be written to a configuration register of unit `n` (R366). -/
def State.pwmCfgOk (s : State) (id : RegId) (n : Nat) (v : Word) : Bool :=
  match id with
  | .PWM_CFG =>
    fieldOf v 31 30 != 3 && fieldOf v 26 25 != 3 && fieldOf v 24 23 != 3 && fieldOf v 22 21 != 3
      && decide (fieldOf v 20 15 < 48)
      && (!v.getLsbD 14 || (decide (fieldOf v 13 8 < 48) && fieldOf v 13 8 != n))
  | .PWM_PHASE =>
    let p := s.getF (R.PWM_PERIOD_PERIOD n)
    p == 0 || decide (fieldOf v 15 0 < p)
  | .PWM_PCM => decide (fieldOf v 29 24 < 48)
  | _ => true

/-- A write to PWM_CTRL(n) (R353, R354). -/
def State.pwmCtrlWrite (s : State) (d : RegDesc) (n a : Nat) (v : Word) : State :=
  let en := v.getLsbD 0
  let was := s.flag (R.PWM_CTRL_EN n)
  if en && s.sys.dev == .curtain then s.raise (R.PWM_STAT_CFGREF n)
  else
    let s := s.writeTyped d a false v
    if en && !was then s.raise (R.PWM_STAT_JOINPEND n) else if !en && was then s.pwmDisableUnit n else s

/-- A write to PWM_LDALL or PWM_LDALLH (R349). -/
def State.pwmLdallWrite (s : State) (high : Bool) (v : Word) : State :=
  let base := if high then 32 else 0
  (List.range (if high then 16 else 32)).foldl (fun s i => if v.getLsbD i then s.setLoadAll (base + i) else s) s

/-- A write to PWM_STAT(n) (R359): TRIPPED clears only while no selected source is active. -/
def State.pwmStatWrite (s : State) (d : RegDesc) (n a : Nat) (v : Word) : State :=
  let cur := s.tripCur n
  let was := s.flag (R.PWM_STAT_TRIPPED n)
  let s := s.writeTyped d a false v
  if was && cur then s.raise (R.PWM_STAT_TRIPPED n) else s

/-- A register write to PWM by its rules, the freeze apart. -/
def State.pwmWriteNow (s : State) (d : RegDesc) (n a : Nat) (v : Word) : State :=
  if isTripMask d.id && s.flag R.PWM_LOCK_LOCK then
    match d.id with
    | .PWM_TCURT | .PWM_CCURTL | .PWM_CCURTH => s.raise R.PWM_GSTAT_CFGREF
    | _ => s.raise (R.PWM_STAT_CFGREF n)
  else
    match d.id with
    | .PWM_CTRL => s.pwmCtrlWrite d n a v
    | .PWM_LDALL => s.pwmLdallWrite false v
    | .PWM_LDALLH => s.pwmLdallWrite true v
    | .PWM_STAT => s.pwmStatWrite d n a v
    | .PWM_CMPA | .PWM_CMPB =>
      if s.pwmSlotDriven n then s.raise (R.PWM_STAT_CFGREF n) else s.writeTyped d a false v
    | .PWM_PERIOD =>
      let p := fieldOf v 15 0
      if p < 16 ∨ p ≤ s.getF (R.PWM_PHASE_PHASE n) then s.raise (R.PWM_STAT_CFGREF n) else s.writeTyped d a false v
    | .PWM_CFG | .PWM_PHASE | .PWM_DT | .PWM_MINP | .PWM_PCM =>
      if s.flag (R.PWM_CTRL_EN n) || s.pwmFrozen || !s.pwmCfgOk d.id n v then s.raise (R.PWM_STAT_CFGREF n)
      else
        let now := s.cue.time.toNat
        let s := s.writeTyped d a false v
        if d.id = .PWM_CFG then s.modUnit n fun u => { u with parkNs := now } else s
    | .PWM_TRIPST =>
      let s := s.writeTyped d a false v
      s.setF R.PWM_TRIPST_SEEN (s.getF R.PWM_TRIPST_SEEN ||| s.pwm.lands.toNat)
    | .PWM_TRIPL | .PWM_TRIPC0 | .PWM_TRIPC1 =>
      let s := s.writeTyped d a false v
      if s.tripCur n then s.pwmTripUnit n else s
    | _ => s.writeTyped d a false v

/-- Whether a write acts at once although the units are frozen: EN = 0 parks, and R366 refuses configuration (R362). -/
def pwmActsFrozen (id : RegId) (v : Word) : Bool :=
  match id with
  | .PWM_CTRL => !v.getLsbD 0
  | .PWM_CFG | .PWM_PHASE | .PWM_DT | .PWM_MINP | .PWM_PCM => true
  | _ => false

/-- A register write to PWM: while frozen, most writes wait for the end of the freeze (R362). -/
def State.pwmRegWrite (s : State) (d : RegDesc) (n a : Nat) (v : Word) : State :=
  if s.pwmFrozen && !pwmActsFrozen d.id v then
    { s with pwm := { s.pwm with deferred := s.pwm.deferred ++ [(a, some v)] } }
  else s.pwmWriteNow d n a v

/-- `s` with the freeze ended: counters continue from where they stopped, and the waiting writes and disablings take effect in their
order (R362). -/
def State.pwmUnfreeze (s : State) : State :=
  match s.pwm.frozenAt with
  | none => s
  | some t =>
    let gap : Int := s.cue.time.toNat - t
    let units := s.pwm.units.map fun u => (u.1, { u.2 with startNs := u.2.startNs + gap })
    let w := s.pwm.deferred
    let s := { (s.lower R.PWM_GSTAT_FROZEN) with pwm := { s.pwm with units := units, frozenAt := none, deferred := [] } }
    w.foldl (fun s p =>
      match regAt p.1, p.2 with
      | some (d, n, _), some v => s.pwmWriteNow d n p.1 v
      | some (_, n, _), none => s.pwmDisableUnit n
      | none, _ => s) s

/-- What a read of a PWM register returns beside its stored fields: TRIPCUR and FROZEN are seen as they are now. -/
def State.pwmRegRead (s : State) (d : RegDesc) (n : Nat) (w : Word) : Word :=
  match d.id with
  | .PWM_STAT => putField (putField w 3 3 (s.tripCur n).toNat) 11 11 s.pwmFrozen.toNat
  | _ => w

end Sys2Proof.Machine
end

