-- ==== Sys2Proof/Machine/Afe.lean ====
section
/-!
DEFINITION. The analogue front end (R367 to R384): SAR groups, ΔΣ filters, comparators with their DACs and ramps, and mains
sensing.
What the spec leaves open here: log entry 39.
-/

namespace Sys2Proof.Machine

/-- ADC group `g`. -/
def State.adcGroup (s : State) (g : Nat) : AdcGroup := mget {} s.afe.groups g

/-- `s` with ADC group `g` changed. -/
def State.modGroup (s : State) (g : Nat) (f : AdcGroup → AdcGroup) : State :=
  { s with afe := { s.afe with groups := mmod {} s.afe.groups g f } }

/-- Whether groups convert: PLACES, RUN and CURTAIN (R369). -/
def State.adcRuns (s : State) : Bool := s.cueRuns && s.sys.dev != .wings

/-- Whether a sin/cos interface claims group `g` (R387). -/
def State.adcClaimed (s : State) (g : Nat) : Bool :=
  (List.range 8).any fun i =>
    s.flag (R.ENC_CFG_EN i) && s.getF (R.ENC_CFG_MODE i) == 1 && s.getF (R.ENC_CFG_SCGRP i) == g

/-- The five source selectors of slot `k` (R313): IN0 to IN3 and SRC. -/
def State.slotSelectors (s : State) (k : Nat) : List Nat :=
  [s.getF (R.LOOP_SIN01_IN0 k), s.getF (R.LOOP_SIN01_IN1 k), s.getF (R.LOOP_SIN23_IN2 k), s.getF (R.LOOP_SIN23_IN3 k),
   fieldOf (s.getReg (R.LOOP_SP k 33)) 31 16]

/-- The ADC channel that a selector samples: KIND 0x1, or an analogue set-point input (R313, R394). -/
def State.selChannel (s : State) (sel : Nat) : Option Nat :=
  if sel / 4096 = 1 then some (sel % 4096)
  else if sel / 4096 = 5 ∧ 4 ≤ sel % 4096 ∧ sel % 4096 < 8 then some (s.getF (R.ENC_SPCFG_CH (sel % 4096)))
  else none

/-! ## SAR groups (R367 to R370) -/

/-- `s` with a conversion of group `g` started at the sample instant of slot `k`; loop triggers of one instant merge
(R369). -/
def State.adcSlotTrigger (s : State) (g k : Nat) : State :=
  s.modGroup g fun x =>
    if x.convs.any fun c => c.1 == s.clk then
      { x with convs := x.convs.map fun c => if c.1 = s.clk then (c.1, c.2 ++ [k]) else c }
    else { x with convs := x.convs ++ [(s.clk, [k])], freeAt := s.clk + 80 }

/-- `s` with a register or call-board trigger of group `g` waiting; one that already waits merges (R369). -/
def State.adcTrigger (s : State) (g : Nat) : State :=
  if s.adcRuns && !s.adcClaimed g then
    s.modGroup g fun x => if x.waiting.isSome then x else { x with waiting := some s.clk }
  else s

/-- A waiting trigger of group `g` starts its conversion once the group is idle: 200 ns, 80 cycles, after its last sample instant
(R367, R369). -/
def State.adcStart (s : State) (g : Nat) : State :=
  let x := s.adcGroup g
  if x.waiting.isSome && s.adcRuns && decide (x.freeAt ≤ s.clk) then
    s.modGroup g fun x => { x with waiting := none, convs := x.convs ++ [(s.clk, [])], freeAt := s.clk + 80 }
  else s

/-- A trigger of group `g` that has waited for 800 cycles is dropped (R369). -/
def State.adcDrop (s : State) (g : Nat) : State :=
  if (s.adcGroup g).waiting.any fun t => decide (t + 800 ≤ s.clk) then
    (s.modGroup g fun x => { x with waiting := none }).raise R.AFE_STAT_TRIGLOST
  else s

/-- `s` with every waiting trigger dropped without TRIGLOST: the module leaves PLACES, RUN and CURTAIN (R369). -/
def State.adcLeave (s : State) : State :=
  { s with afe := { s.afe with groups := s.afe.groups.map fun g => (g.1, { g.2 with waiting := none }) } }

/-- The result of a channel: the rounded code, 0 for a negative unipolar input, saturated; and whether it saturated
(R368). -/
def adcCode (uni : Bool) (v : Int) : Int × Bool :=
  if uni && decide (v < 0) then (0, false) else (clampS 16 v, decide (clampS 16 v ≠ v))

/-- `s` with one channel's result stored, shown and counted, and given to the slots of its conversion (R368, R370). -/
def State.adcStore (s : State) (slots : List Nat) (c : Nat) (v : Int) : State :=
  let (r, ovr) := adcCode ((s.getF (R.AFE_GCFG_UNI (c / 4))).testBit (c % 4)) v
  let s := s.setF (R.AFE_ADCRES_VAL c) (wrap 16 r)
  let s := s.setF (R.AFE_ADCRES_CNT c) ((s.getF (R.AFE_ADCRES_CNT c) + 1) % 65536)
  let s := if ovr then (s.raiseBit R.AFE_OVR_CH c).raise R.AFE_STAT_OVR else s
  let s := { s with afe := { s.afe with slotRes := slots.foldl (fun m k => mset m (32 * k + c) r) s.afe.slotRes } }
  (List.range 4).foldl (fun s j =>
    if s.getF (R.ENC_SPCFG_CH (4 + j)) = c ∧ slots.any (fun k => (s.slotSelectors k).contains (0x5004 + j)) then
      s.setpointAnalogue (4 + j) r
    else s) s

/-- A conversion of group `g` arrives with the rounded, unsaturated codes of its four channels (R370); a claimed group
converts continuously (R387). -/
def State.adcResult (s : State) (g : Nat) (codes : List Int) : State :=
  match (s.adcGroup g).convs with
  | (_, slots) :: t =>
    let s := s.modGroup g fun x => { x with convs := t }
    (List.range 4).foldl (fun s i => s.adcStore slots (4 * g + i) (codes.getD i 0)) s
  | [] =>
    if s.adcClaimed g then (List.range 4).foldl (fun s i => s.adcStore [] (4 * g + i) (codes.getD i 0)) s else s

/-! ## ΔΣ channels (R371, R372) -/

/-- The filter of ΔΣ channel `d`. -/
def State.dsFilter (s : State) (d : Nat) : DsFilter := mget {} s.afe.ds d

/-- `s` with the filter of ΔΣ channel `d` set. -/
def State.setDs (s : State) (d : Nat) (x : DsFilter) : State := { s with afe := { s.afe with ds := mset s.afe.ds d x } }

/-- `s` with channel `d` restarted: its first N outputs are flushed (R371). -/
def State.dsRestart (s : State) (d : Nat) : State :=
  let x := s.dsFilter d
  s.setDs d { flush := s.getF (R.AFE_DSCFG_ORDER d), outClk := x.outClk, prev := x.prev }

/-- The output of channel `d` that a slot takes: the latest that arrived at least one cycle before (R313). -/
def State.dsSample (s : State) (d : Nat) : Int :=
  let x := s.dsFilter d
  if x.outClk < s.clk then s.getS (R.AFE_DSRES_VAL d) else x.prev

/-- One bit into the integrators, modulo 2^32. -/
def DsFilter.push (x : DsFilter) (b : Bool) : DsFilter :=
  let i1 := (x.i1 + b.toNat) % 2 ^ 32
  let i2 := (x.i2 + i1) % 2 ^ 32
  { x with i1 := i1, i2 := i2, i3 := (x.i3 + i2) % 2 ^ 32 }

/-- The sum S of an order-`n` filter at the end of a decimation period, and the comb delays advanced. -/
def DsFilter.comb (x : DsFilter) (n : Nat) : Nat × DsFilter :=
  let v := if n = 1 then x.i1 else if n = 2 then x.i2 else x.i3
  let y1 := (v + 2 ^ 32 - x.c1) % 2 ^ 32
  let y2 := (y1 + 2 ^ 32 - x.c2) % 2 ^ 32
  let y3 := (y2 + 2 ^ 32 - x.c3) % 2 ^ 32
  (if n = 1 then y1 else if n = 2 then y2 else y3, { x with c1 := v, c2 := y1, c3 := y2 })

/-- sat((2S / R^N − 1) × 32,768), ties upward (R371). -/
def dsValue (sum rn : Nat) : Int :=
  clampS 16 ((2 * ((2 * (sum : Int) - rn) * 32768) + rn) / (2 * (rn : Int)))

/-- An output of channel `d` completes with the OSR bits of its decimation period, the first in bit 0 (R371). -/
def State.dsOutput (s : State) (d bits : Nat) : State :=
  if !s.flag (R.AFE_DSCFG_EN d) || s.flag (R.AFE_DSRES_LOSS d) then s
  else
    let osr := s.getF (R.AFE_DSCFG_OSR d)
    let n := s.getF (R.AFE_DSCFG_ORDER d)
    let x := (List.range osr).foldl (fun x i => x.push (bits.testBit i)) (s.dsFilter d)
    let (sum, x) := x.comb n
    if x.flush = 0 then
      let s := (s.setDs d { x with outClk := s.clk, prev := s.getS (R.AFE_DSRES_VAL d) }).setF (R.AFE_DSRES_VAL d) (wrap 16 (dsValue sum (osr ^ n)))
      s.setF (R.AFE_DSRES_CNT d) ((s.getF (R.AFE_DSRES_CNT d) + 1) % 32768)
    else s.setDs d { x with flush := x.flush - 1 }

/-- The clock of channel `d` is lost (R372). -/
def State.dsLoss (s : State) (d : Nat) : State :=
  if s.flag (R.AFE_DSCFG_EN d) then
    ((s.raise (R.AFE_DSRES_LOSS d)).raise R.AFE_STAT_DSLOSS).publish Src.afeDsLoss
  else s

/-- The clock of channel `d` returns: a restart (R372). -/
def State.dsReturn (s : State) (d : Nat) : State :=
  if s.flag (R.AFE_DSRES_LOSS d) then (s.lower (R.AFE_DSRES_LOSS d)).dsRestart d else s

/-! ## Comparators (R373 to R379) -/

/-- `s` with the synchronised output of comparator `c` at a level: a rising edge sets its RISE bit, publishes AFE_CMPc and
acts on the trips and the peak-current resets (R357, R358, R373). -/
def State.cmpLevel (s : State) (c : Nat) (level : Bool) : State :=
  let was := s.cmpOut c
  let s := if c < 32 then (if level then s.raiseBit R.AFE_CMPOUTL_OUT c else s.lowerBit R.AFE_CMPOUTL_OUT c)
    else (if level then s.raiseBit R.AFE_CMPOUTH_OUT (c - 32) else s.lowerBit R.AFE_CMPOUTH_OUT (c - 32))
  if level && !was then
    let s := if c < 32 then s.raiseBit R.AFE_CMPRISEL_RISE c else s.raiseBit R.AFE_CMPRISEH_RISE (c - 32)
    ((s.publish (Src.afeCmp c)).tripSource (24 + c)).pwmPeakCmp c
  else s

/-- V_RAMP of ramp `r` in steps of 0.1 µV: SLOPE × 0.1 mV/µs from its start, stopping at 2.5 V; 0 while its source unit is not
running (R375). -/
def State.rampLevel (s : State) (r : Nat) : Nat :=
  match mfind s.afe.ramps r with
  | some t =>
    if s.flag (R.PWM_STAT_RUN (s.getF (R.AFE_RAMP_SRCUNIT r))) then
      min 25000000 (s.getF (R.AFE_RAMP_SLOPE r) * (s.cue.time.toNat - t))
    else 0
  | none => 0

/-- The reference of comparator `c` in steps of 0.1 µV / 4,095: max(0, V_DAC − V_RAMP) (R373). -/
def State.cmpReference (s : State) (c : Nat) : Int :=
  let ramp := if s.flag (R.AFE_CMPCFG_RAMPEN c) then s.rampLevel (s.getF (R.AFE_CMPCFG_RAMPSEL c)) else 0
  max 0 ((s.getF (R.AFE_DAC_ACTIVE c) * 25000000 : Nat) - (ramp * 4095 : Nat))

/-- The internal tie level in µV (R379). -/
def tieLevel (code : Nat) : Int := if code = 0 then 250000 else if code = 1 then 1000000 else 2000000

/-- The output of comparator `c` with land voltages `vp` and `vn` in µV as the comparator sees them (R373, R379). -/
def State.cmpCompare (s : State) (c : Nat) (vp vn : Int) : Bool :=
  let scale (v : Int) : Int := v * 10 * 4095
  let check := s.getF (R.AFE_CMPCFG_CHECK c)
  let p := scale (if check = 2 then tieLevel (s.getF (R.AFE_CMPCFG_TIELVL c)) else vp)
  let n := if s.flag (R.AFE_CMPCFG_NSEL c) then scale vn else s.cmpReference c
  s.flag (R.AFE_CMPCFG_EN c) && (if check = 1 then decide (p < n) else decide (n < p))

/-- The inputs of comparator `c` stand at `vp` and `vn` (R373). -/
def State.cmpInputs (s : State) (c : Nat) (vp vn : Int) : State := s.cmpLevel c (s.cmpCompare c vp vn)

/-- AFE_STAT.CHKON: a comparator is in a self-check (R379). -/
def State.cmpChkon (s : State) : State :=
  s.setF R.AFE_STAT_CHKON ((List.range 48).any fun c => s.flag (R.AFE_CMPCFG_CHECK c)).toNat

/-- A write to AFE_CMPCFG(c): for up to 50 ns the output is undefined, a free level; a disabled comparator then drives 0
(R373, R378). -/
def State.cmpcfgWrite (s : State) (d : RegDesc) (c a : Nat) (v : Word) : State :=
  if fieldOf v 29 28 = 3 ∨ fieldOf v 27 26 = 3 ∨ 24 ≤ fieldOf v 24 20 then s.raise R.AFE_STAT_CFGREF
  else
    let s := (s.writeTyped d a false v).cmpChkon
    let (r, s) := s.fresh
    let s := s.cmpLevel c (r % 2 == 1)
    if v.getLsbD 31 then s else s.cmpLevel c false

/-- Whether an enabled slot drives reference DAC `c` (R374). -/
def State.dacDriven (s : State) (c : Nat) : Bool :=
  (List.range 64).any fun k =>
    s.flag (R.LOOP_SCFG_EN k) && s.getF (R.LOOP_SOUT_KIND k) == 4 && s.getF (R.LOOP_SOUT_A k) == c

/-- `s` with the DACs that no slot drives at their own codes (R374). -/
def State.dacFollow (s : State) : State :=
  (List.range 48).foldl (fun s c =>
    if s.dacDriven c then s else s.setF (R.AFE_DAC_ACTIVE c) (s.getF (R.AFE_DAC_CODE c))) s

/-- A write to AFE_DAC(c) (R374). -/
def State.dacWrite (s : State) (d : RegDesc) (c a : Nat) (v : Word) : State :=
  if s.dacDriven c then s.raise R.AFE_STAT_CFGREF
  else (s.writeTyped d a false v).setF (R.AFE_DAC_ACTIVE c) (fieldOf v 11 0)

/-! ## Mains sensing (R380, R381) -/

/-- A half-cycle ends or is judged: whether its peak has exceeded PFTHR; PFW clears after four complete in a row (R381). -/
def State.mainsHalf (s : State) (complete : Bool) : State :=
  let g := if complete then s.afe.good + 1 else 0
  let s := { s with afe := { s.afe with good := g } }
  if 4 ≤ g then (s.lower R.AFE_STAT_PFW).lower R.SYS_PWR_PFW else s

/-- A zero crossing: the RMS in 0.1 V and the length (ns) of the half-cycle just ended, and its peak in V (R380, R381). -/
def State.mainsCrossing (s : State) (rms halfNs peak : Nat) : State :=
  let halves := (halfNs :: s.afe.halves).take 8
  let s := { s with afe := { s.afe with halves := halves } }
  let (f, s) := s.roundFree ((100 * 1000000000 * halves.length : Nat) : Int) (2 * halves.foldl (· + ·) 0)
  let s := (s.setF R.AFE_MMEAS_RMS rms).setF R.AFE_MMEAS_FREQ (clampU 16 f.toNat)
  (s.mainsHalf (decide (2 * s.getF R.AFE_MAINS_PFTHR < peak))).publish Src.afeMainsZc

/-- No crossing for 25 ms (R380). -/
def State.mainsSilent (s : State) : State :=
  { (s.setF R.AFE_MMEAS_FREQ 0) with afe := { s.afe with halves := [] } }

/-- A half-cycle is missing at its detection point (R381). -/
def State.mainsMissing (s : State) : State :=
  let s := ((s.mainsHalf false).raise R.AFE_STAT_PFW).raise R.AFE_STAT_PFSEEN |>.count R.AFE_MAINS_MISS 1
  { s with bbx := { s.bbx with halves := s.bbx.halves + 1 } }

/-- `f` of `s` while the auxiliary supply runs, which is in every state but DARK (R380). -/
def State.whileSupplied (s : State) (f : State → State) : State := if s.sys.dev = .dark then s else f s

/-! ## Register writes (R384) -/

/-- A write to AFE_CTRL: a changed DSDIV restarts the enabled channels on DSCLK_OUT (R371). -/
def State.afeCtrlWrite (s : State) (d : RegDesc) (a : Nat) (v : Word) : State :=
  let div := fieldOf v 14 8
  if div < 16 ∨ 80 < div then s.raise R.AFE_STAT_CFGREF
  else
    let changed := div ≠ s.getF R.AFE_CTRL_DSDIV
    let s := s.writeTyped d a false v
    if changed then
      (List.range 16).foldl (fun s d =>
        if s.flag (R.AFE_DSCFG_EN d) && !s.flag (R.AFE_DSCFG_CLKSRC d) then s.dsRestart d else s) s
    else s

/-- A write to AFE_GTRIG (R369). -/
def State.gtrigWrite (s : State) (v : Word) : State :=
  if s.adcRuns then (List.range 6).foldl (fun s g => if v.getLsbD g then s.adcTrigger g else s) s
  else s.raise R.AFE_STAT_CFGREF

/-- A register write to AFE; `n` is the register's index. -/
def State.afeRegWrite (s : State) (d : RegDesc) (n a : Nat) (v : Word) : State :=
  match d.id with
  | .AFE_CTRL => s.afeCtrlWrite d a v
  | .AFE_GTRIG => s.gtrigWrite v
  | .AFE_GCFG => if s.bootOrPlaces then s.writeTyped d a false v else s.raise R.AFE_STAT_CFGREF
  | .AFE_DSCFG =>
    let osr := fieldOf v 8 0
    if s.bootOrPlaces && decide (fieldOf v 29 28 ≠ 0 ∧ 4 ≤ osr ∧ osr ≤ 256) then (s.writeTyped d a false v).dsRestart n
    else s.raise R.AFE_STAT_CFGREF
  | .AFE_CMPCFG => s.cmpcfgWrite d n a v
  | .AFE_DAC => s.dacWrite d n a v
  | .AFE_RAMP => if 48 ≤ fieldOf v 29 24 then s.raise R.AFE_STAT_CFGREF else s.writeTyped d a false v
  | .AFE_MAINS => if fieldOf v 7 0 < 20 then s.raise R.AFE_STAT_CFGREF else s.writeTyped d a false v
  | _ => s.writeTyped d a false v

/-! ## Commands -/

/-- ADC_RESULT (R370). -/
def execAdcResult (group : Fin 6) (codes : List Int) (s : State) : Host.Outcome State Fault Refusal :=
  .next (State.settle <| s.adcResult group codes)

/-- ADC_TRIGGER_DROP (R369). -/
def execAdcTriggerDrop (group : Fin 6) (s : State) : Host.Outcome State Fault Refusal := .next (State.settle <| s.adcDrop group)

/-- AFE_DSLOSS (R372). -/
def execAfeDsloss (ch : Fin 16) (s : State) : Host.Outcome State Fault Refusal := .next (State.settle <| s.dsLoss ch)

/-- DELTA_SIGMA_CLOCK_RETURN (R372). -/
def execDeltaSigmaClockReturn (ch : Fin 16) (s : State) : Host.Outcome State Fault Refusal := .next (State.settle <| s.dsReturn ch)

/-- COMPARATOR_EDGE (R373). -/
def execComparatorEdge (cmp : Fin 48) (vp vn : Int) (s : State) : Host.Outcome State Fault Refusal :=
  .next (State.settle <| s.cmpInputs cmp vp vn)

/-- MAINS_ZERO_CROSSING (R380). -/
def execMainsZeroCrossing (rms : BitVec 16) (halfNs peak : Nat) (s : State) : Host.Outcome State Fault Refusal :=
  .next (State.settle <| s.whileSupplied fun s => s.mainsCrossing rms.toNat halfNs peak)

/-- MAINS_CROSSING_TIMEOUT (R380). -/
def execMainsCrossingTimeout (s : State) : Host.Outcome State Fault Refusal :=
  .next (State.settle <| s.whileSupplied State.mainsSilent)

/-- MAINS_HALF_CYCLE_MISSING (R381). -/
def execMainsHalfCycleMissing (s : State) : Host.Outcome State Fault Refusal :=
  .next (State.settle <| s.whileSupplied State.mainsMissing)

/-- PWM_PERIOD_START (R343, R375). -/
def execPwmPeriodStart (unit : Fin 48) (s : State) : Host.Outcome State Fault Refusal :=
  .next (State.settle <| s.pwmPeriodStart unit)

/-- PWM_LOAD_TRANSFER (R350): a period start or a load point inside the period. -/
def execPwmLoadTransfer (unit : Fin 48) (s : State) : Host.Outcome State Fault Refusal := .next (State.settle <| s.pwmLoadPoint unit)

/-- PEAK_CURRENT_RESET (R357). -/
def execPeakCurrentReset (unit : Fin 48) (steps : Nat) (s : State) : Host.Outcome State Fault Refusal :=
  .next (State.settle <| s.pwmPeakReset unit steps)

/-- TRIP_INPUT (R358): sources 0 to 23 are the trip lands, 24 to 71 the comparators; a disabled comparator drives 0 (R373). -/
def execTripInput (source : Fin 72) (active : Bool) (s : State) : Host.Outcome State Fault Refusal :=
  .next (State.settle <| if source.val < 24 then s.tripLand source (active && s.carries 4 source 2)
    else s.cmpLevel (source - 24) (active && s.flag (R.AFE_CMPCFG_EN (source - 24))))

end Sys2Proof.Machine
end

