-- ==== Sys2Proof/Machine/Flags.lean ====
section
/-!
DEFINITION. The condition flags of the Lomer cores: how each kind of instruction sets them (R63) and how conditions test
them (R64).
-/

namespace Sys2Proof.Machine

/-- FLAGS as a word (R63). -/
def Flags.toWord (f : Flags) : Word :=
  BitVec.ofNat 32 (f.sv.toNat * 16 + f.n.toNat * 8 + f.z.toNat * 4 + f.c.toNat * 2 + f.v.toNat)

/-- FLAGS from a word. -/
def flagsOfWord (w : Word) : Flags := ⟨w.getLsbD 4, w.getLsbD 3, w.getLsbD 2, w.getLsbD 1, w.getLsbD 0⟩

/-- N and Z of a result; C and V unchanged (R63). -/
def Flags.nz (f : Flags) (r : Word) : Flags := { f with n := r.msb, z := r == 0 }

/-- All four flags (R63). -/
def Flags.nzcv (f : Flags) (r : Word) (c v : Bool) : Flags := { f with n := r.msb, z := r == 0, c := c, v := v }

/-- A saturating instruction's flags: V is the clamp, SV sticks (R63). -/
def Flags.sat (f : Flags) (r : Word) (c clamp : Bool) : Flags :=
  { f with n := r.msb, z := r == 0, c := c, v := clamp, sv := f.sv || clamp }

/-- N, Z and the last bit shifted out; a shift by 0 leaves C (R63). -/
def Flags.shift (f : Flags) (r : Word) (amount : Nat) (out : Bool) : Flags :=
  { f with n := r.msb, z := r == 0, c := if amount = 0 then f.c else out }

/-- Whether a + b (+ carry) carries out of bit 31. -/
def addCarry (a b : Word) (cin : Bool) : Bool := decide (2 ^ 32 ≤ a.toNat + b.toNat + cin.toNat)

/-- Whether a + b (+ carry) overflows the signed range. -/
def addOverflow (a b : Word) (cin : Bool) : Bool :=
  let r := a.toInt + b.toInt + cin.toNat
  decide (r < -2 ^ 31 ∨ 2 ^ 31 ≤ r)

/-- Whether a − b (− borrow) needs no borrow. -/
def subCarry (a b : Word) (bin : Bool) : Bool := decide (b.toNat + bin.toNat ≤ a.toNat)

/-- Whether a − b (− borrow) overflows the signed range. -/
def subOverflow (a b : Word) (bin : Bool) : Bool :=
  let r := a.toInt - b.toInt - bin.toNat
  decide (r < -2 ^ 31 ∨ 2 ^ 31 ≤ r)

/-- The conditions of R64. -/
def Flags.cond (f : Flags) (code : Nat) : Bool :=
  match code with
  | 0 => f.z
  | 1 => !f.z
  | 2 => f.c
  | 3 => !f.c
  | 4 => f.n
  | 5 => !f.n
  | 6 => f.v
  | 7 => !f.v
  | 8 => f.c && !f.z
  | 9 => !f.c || f.z
  | 10 => f.n == f.v
  | 11 => f.n != f.v
  | 12 => !f.z && f.n == f.v
  | 13 => f.z || f.n != f.v
  | 14 => true
  | _ => f.sv

end Sys2Proof.Machine
end

