-- ==== Sys2Proof/Machine/LoopLaw.lean ====
section
/-!
DEFINITION. The slot laws of the loop engine (R314 to R325), over plain numbers: number formats, integrators, and one run of
each slot type. A computation runs in `Law`, whose state is the CLAMP bit.
What the spec leaves open here: log entries 8, 11 and 37.
-/

namespace Sys2Proof.Machine

/-- A slot computation; its state says whether a value was saturated at the ends of its format (R317). -/
abbrev Law := StateM Bool

/-- Saturate to `w` bits. -/
def satL (w : Nat) (v : Int) : Law Int := do
  if clampS w v ≠ v then set true
  pure (clampS w v)

/-- A product rounded at `sh` fraction bits and saturated to `w` bits (R317). -/
def mulL (a b : Int) (sh w : Nat) : Law Int := satL w (rshift (a * b) sh)

/-- A quotient rounded to nearest, ties towards +∞; `b` > 0. -/
def rdiv (a b : Int) : Int := (2 * a + b) / (2 * b)

/-- A quotient of Q2.30 values; the divisor is at least 1/64 (R319). -/
def divL (a b : Int) : Law Int := satL 32 (rdiv (a * 2 ^ 30) (max b (2 ^ 24)))

/-- `v` clamped to [lo, hi]. -/
def clampI (v lo hi : Int) : Int := max lo (min v hi)

/-- The nearest integer to the square root of a quotient, with a sign: round(±√(a / b)); no tie arises. -/
def rootRound (neg : Bool) (a b : Nat) : Int :=
  let m : Int := ((isqrt (4 * a / b) + 1) / 2 : Nat)
  if neg then -m else m

/-- π/2 in 2^-96. -/
def halfPi : Nat := 124451306656115542615260972311

/-- Terms `k`, `k` + 1, … of the sine series after `term` (all in 2^-96), `n` of them; `x2` is the square of the angle. -/
def sineSeries (x2 : Nat) : Nat → Nat → Int → Int
  | 0, _, _ => 0
  | n + 1, k, term => term + sineSeries x2 n (k + 1) (-(term * x2 / ((2 * k) * (2 * k + 1) * 2 ^ 96 : Nat)))

/-- sin of `r` 2^-30 of a quarter turn, in 2^-60, to the nearest; `r` is at most 2^30. -/
def sineQuarter (r : Nat) : Int :=
  let x := halfPi * r / 2 ^ 30
  rshift (sineSeries (x * x / 2 ^ 96) 15 1 x) 36

/-- The sine of an angle in 2^-32 of a turn, in 2^-60: exact to far below the rounding of a product (R317, R319, R337). -/
def sineTurn (a : Nat) : Int :=
  let r := a % 2 ^ 30
  match a / 2 ^ 30 % 4 with
  | 0 => sineQuarter r
  | 1 => sineQuarter (2 ^ 30 - r)
  | 2 => -sineQuarter r
  | _ => -sineQuarter (2 ^ 30 - r)

/-- The cosine, likewise. -/
def cosineTurn (a : Nat) : Int := sineTurn (a + 2 ^ 30)

/-- What one run takes: parameter words (signed), inputs, which of IN1 to IN3 are named, reference, limits after the grant,
the granted current limit, the rehearsal injection (point and value), and a free number for a word that R341 does not allow. -/
structure RunIn where
  p : Nat → Int
  x : Nat → Int
  named : Nat → Bool
  r : Int
  hi : Int
  lo : Int
  k6 : Int
  dr : Bool := false
  ym : Int := 0
  vroll : Int := 0
  point : Nat := 4
  w : Int := 0
  free : Nat := 0

/-- What one run gives beside the slot: output u, error e, and the second and third duty. -/
structure RunOut where
  slot : LoopSlot
  u : Int
  e : Int
  b : Int := 0
  c : Int := 0

/-- The injection at a point (R337). -/
def RunIn.inj (i : RunIn) (pt : Nat) (v : Int) : Law Int := if i.point = pt then satL 32 (v + i.w) else pure v

/-- The limits of `integ` as Q2.46. -/
def RunIn.integ (i : RunIn) (acc kprod e u : Int) : Int :=
  if (i.hi < u ∧ 0 < e) ∨ (u < i.lo ∧ e < 0) then acc
  else clampI (acc + kprod) (i.lo * 2 ^ 16) (i.hi * 2 ^ 16)

/-- Coefficient K`n`. -/
def RunIn.k (i : RunIn) (n : Nat) : Int := i.p (2 + n)

/-- A sum of Q2.30 terms and a Q2.46 integrator, as Q2.30. -/
def sumL (terms integ : Int) : Law Int := satL 32 (rshift (terms * 2 ^ 16 + integ) 16)

/-- PI and PCM (R319). -/
def lawPi (i : RunIn) (pcm : Bool) (s : LoopSlot) : Law RunOut := do
  let e ← i.inj 1 (← satL 32 (i.r - i.x 0))
  let ff ← if pcm then pure 0 else mulL (i.k 2) (i.x 1) 24 32
  let u ← sumL ((← mulL (i.k 0) e 24 32) + ff) s.i1
  let vin := if pcm then 1 else 2
  let u ← if i.named vin then divL (← mulL u (i.k 3) 24 32) (i.x vin) else pure u
  let u ← i.inj 2 u
  let acc := i.integ s.i1 (← mulL (i.k 1) e 8 48) e u
  pure { slot := { s with i1 := acc }, u := clampI u i.lo i.hi, e := e }

/-- PID (R312, R319). -/
def lawPid (i : RunIn) (s : LoopSlot) : Law RunOut := do
  let y := -(i.x 0)
  let yp := if s.fresh then y else s.yprev
  let e ← i.inj 1 (← satL 32 (i.r - i.x 0))
  let dv ← mulL (i.k 2) (← satL 32 (y - yp)) 24 32
  let d ← satL 32 (s.d + (← mulL (i.k 3) (← satL 32 (dv - s.d)) 24 32))
  let kr ← mulL (i.k 4) i.r 24 32
  let prop ← mulL (i.k 0) (← satL 32 (kr - i.x 0)) 24 32
  let u ← sumL (prop + d + (← mulL (i.k 5) (i.x 1) 24 32)) s.i1
  let u ← i.inj 2 u
  let acc := i.integ s.i1 (← mulL (i.k 1) e 8 48) e u
  pure { slot := { s with i1 := acc, d := d, yprev := y }, u := clampI u i.lo i.hi, e := e }

/-- sat31 (R319). -/
def sat31 (v : Int) : Law Int := satL 32 v

/-- The velocity part that AXIS and MEDIA share: reference velocity `vr`, u and its integrator. -/
def lawVel (i : RunIn) (vr : Int) (s : LoopSlot) : Law RunOut := do
  let ev ← satL 64 (vr - s.vm)
  let ev ← if i.point = 1 then satL 64 (ev + rshift i.w 6) else pure ev
  let u ← sumL ((← mulL (i.k 2) ev 18 32) + (← mulL (i.k 4) s.ac 18 32)) s.i1
  let u ← i.inj 2 u
  let acc := i.integ s.i1 (← mulL (i.k 3) ev 2 48) ev u
  pure { slot := { s with i1 := acc }, u := clampI u i.lo i.hi, e := ev }

/-- AXIS (R319). -/
def lawAxis (i : RunIn) (s : LoopSlot) : Law RunOut := do
  let step ← satL 64 ((i.x 0 - s.pPrev) * 2 ^ 24)
  let vm ← satL 64 (s.vm + (← mulL (i.k 5) (← satL 64 (step - s.vm)) 24 64))
  let pc := if i.point = 0 then s.pc + rshift i.w 30 else s.pc
  let err ← sat31 (pc - i.x 0)
  let vr ← satL 64 ((← satL 64 (i.k 0 * err)) + (← mulL (i.k 1) s.vc 24 64))
  lawVel i vr { s with vm := vm, pPrev := i.x 0 }

/-- MEDIA (R319, R325). -/
def lawMedia (i : RunIn) (s : LoopSlot) : Law RunOut := do
  let vm ← satL 64 (s.vm + (← mulL (i.k 5) (← satL 64 (i.vroll - s.vm)) 24 64))
  let pc := if i.point = 0 then s.pc + rshift i.w 22 else s.pc
  let dist := pc - i.ym
  let ip ← if i.dr then pure s.ip
    else do pure (clampI (s.ip + (← satL 48 (i.k 6 * dist * 2 ^ 14))) (i.lo * 2 ^ 16) (i.hi * 2 ^ 16))
  let vr ← satL 64 ((← mulL (i.k 0) dist 8 64) + rshift ip 22 + (← mulL (i.k 1) s.vc 24 64))
  lawVel i vr { s with vm := vm, pPrev := i.x 1, ip := ip }

/-- The electrical angle of FOC in 2^-32 of a turn: frac(fmod(x0, AUX0) / AUX0 + AUX1) (R319); free where AUX0 is 0, which
the register table forbids (DESIGN CHOICE, log entry 37). -/
def focAngle (x0 : Int) (aux0 aux1 free : Nat) : Nat :=
  if aux0 = 0 then free % 2 ^ 32 else wrap 32 (rdiv (x0.tmod aux0 * 2 ^ 32) aux0 + aux1)

/-- FOC (R319). `cs` and `sn` are the cosine and sine of the electrical angle, in 2^-60. -/
def lawFoc (i : RunIn) (cs sn : Int) (s : LoopSlot) : Law RunOut := do
  let al := i.x 1
  let t := i.x 1 + 2 * i.x 2
  let be ← satL 32 (rootRound (decide (t < 0)) (t * t).toNat 3)
  let id ← satL 32 ((← mulL al cs 60 32) + (← mulL be sn 60 32))
  let iq ← satL 32 ((← mulL be cs 60 32) - (← mulL al sn 60 32))
  let iqr := clampI i.r (-i.k6) i.k6
  let vd ← sumL (← mulL (i.k 0) (-id) 24 32) s.i2
  let i2 := i.integ s.i2 (← mulL (i.k 1) (-id) 8 48) (-id) vd
  let eq ← i.inj 1 (← satL 32 (iqr - iq))
  let vq ← i.inj 2 (← sumL (← mulL (i.k 0) eq 24 32) s.i1)
  let i1 := i.integ s.i1 (← mulL (i.k 1) eq 8 48) eq vq
  let m2 := (vd * vd + vq * vq).toNat
  let om := i.p 14
  let above := decide (0 ≤ om ∧ (om * om).toNat < m2)
  let scale (v : Int) : Int := if above then rootRound (decide (v < 0)) (v * v * om * om).toNat m2 else v
  let vd ← if i.named 3 then divL (scale vd) (i.x 3) else pure (scale vd)
  let vq ← if i.named 3 then divL (scale vq) (i.x 3) else pure (scale vq)
  let va ← satL 32 ((← mulL vd cs 60 32) - (← mulL vq sn 60 32))
  let vbe ← satL 32 ((← mulL vd sn 60 32) + (← mulL vq cs 60 32))
  let half := rdiv (-va) 2
  let side := rootRound (decide (vbe < 0)) (3 * (vbe * vbe).toNat) 4
  let vb ← satL 32 (half + side)
  let vc ← satL 32 (half - side)
  let vo := rdiv (-(max va (max vb vc) + min va (min vb vc))) 2
  let duty (v : Int) : Int := clampI (2 ^ 29 + rdiv (v + vo) 2) 0 (2 ^ 30)
  pure { slot := { s with i1 := i1, i2 := i2 }, u := duty va, e := eq, b := duty vb, c := duty vc }

/-- PFC (R319); which runs are outer runs is free where AUX0 is 0, which the register table forbids (DESIGN CHOICE, log entry
37). -/
def lawPfc (i : RunIn) (s : LoopSlot) : Law RunOut := do
  let n := wrap 32 (i.p 35)
  let outer := if n = 0 then i.free % 2 = 0 else s.pfcRun % n = 0
  let s ← if outer then do
      let ev ← satL 32 (i.r - i.x 0)
      let a ← sumL (← mulL (i.k 0) ev 24 32) s.i2
      let i2 := i.integ s.i2 (← mulL (i.k 1) ev 8 48) ev a
      pure { s with i2 := i2, amp := clampI a 0 i.k6, pfcRun := 1 }
    else pure { s with pfcRun := s.pfcRun + 1 }
  let sq ← mulL (i.x 1) (i.x 1) 30 32
  let vms ← satL 32 (s.vms + (← mulL (i.k 5) (← satL 32 (sq - s.vms)) 24 32))
  let ir ← divL (← mulL s.amp (i.x 1) 30 32) vms
  let ei ← i.inj 1 (← satL 32 (ir - i.x 2))
  let ratio ← divL (i.x 1) (i.x 0)
  let d ← sumL (2 ^ 30 - ratio + (← mulL (i.k 2) ei 24 32)) s.i1
  let d ← i.inj 2 d
  let acc := i.integ s.i1 (← mulL (i.k 3) ei 8 48) ei d
  pure { slot := { s with i1 := acc, vms := vms }, u := clampI d i.lo i.hi, e := ei }

end Sys2Proof.Machine
end

