-- ==== Sys2Proof/Machine/Mtrk.lean ====
section
/-!
DEFINITION. Media tracking (R290 to R308): frames, correlation, tracking with hand-over and dead reckoning, and the combined
position.
What the spec leaves open here: log entries 8, 10 and 36.
-/

namespace Sys2Proof.Machine

/-- Port `p`. -/
def State.mtrkPort (s : State) (p : Nat) : MtrkPort := mget {} s.mtrk.ports p

/-- `s` with port `p` changed. -/
def State.modPort (s : State) (p : Nat) (f : MtrkPort → MtrkPort) : State :=
  { s with mtrk := { s.mtrk with ports := mmod {} s.mtrk.ports p f } }

/-- `s` with the block changed, its ports apart. -/
def State.modMtrk (s : State) (f : Mtrk → Mtrk) : State := { s with mtrk := f s.mtrk }

/-- Whether port `p` tracks: PLACES, RUN or CURTAIN, and its EN bit (R305). -/
def State.mtrkRuns (s : State) (p : Nat) : Bool :=
  s.cueRuns && s.sys.dev != .wings && s.flag (if p = 0 then R.MTRK_CTRL_EN0 else R.MTRK_CTRL_EN1)

/-- Whether both ports are used (MODE 0b10). -/
def State.mtrkPair (s : State) : Bool := s.getF R.MTRK_CFG_MODE == 2

/-- LOSTp. -/
def lostFld (p : Nat) : Fld := if p = 0 then R.MTRK_STAT_LOST0 else R.MTRK_STAT_LOST1

/-! ## Correlation (R295) -/

/-- Pixel (y, x) of a 64 × 64 frame. -/
def pixel (f : Array Byte) (y x : Int) : Int := ((f.getD (64 * y + x).toNat 0#8).toNat : Int)

/-- A frame oriented by SWAPXY, FLIPX and FLIPY. -/
def State.orient (s : State) (p : Nat) (f : List Byte) : List Byte :=
  let a := f.toArray
  let swap := s.flag (R.MTRK_PCFG_SWAPXY p)
  let fx := s.flag (R.MTRK_PCFG_FLIPX p)
  let fy := s.flag (R.MTRK_PCFG_FLIPY p)
  (List.range 4096).map fun i =>
    let y := if fy then 63 - i / 64 else i / 64
    let x := if fx then 63 - i % 64 else i % 64
    a.getD (if swap then 64 * x + y else 64 * y + x) 0#8

/-- Sums over the 32 × 32 window: n Σab − Σa Σb of the reference's window and the frame's at shift (sy, sx), and
n Σb² − (Σb)² of the frame's. -/
def windowSums (a b : Array Byte) (sy sx : Int) : Int × Int :=
  let z : Int × Int × Int × Int := (List.range 1024).foldl (fun z i =>
    let y : Int := 16 + (i / 32 : Nat)
    let x : Int := 16 + (i % 32 : Nat)
    let u := pixel a y x
    let v := pixel b (y + sy) (x + sx)
    (z.1 + u * v, z.2.1 + u, z.2.2.1 + v, z.2.2.2 + v * v)) (0, 0, 0, 0)
  (1024 * z.1 - z.2.1 * z.2.2.1, 1024 * z.2.2.2 - z.2.2.1 * z.2.2.1)

/-- The variance term n Σa² − (Σa)² of a frame's window. -/
def windowVar (a : Array Byte) : Nat := (windowSums a a 0 0).2.toNat

/-- The standard deviation of a frame's window in grey levels, rounded freely (DESIGN CHOICE, log entry 8) and saturated (TEX). -/
def State.textureOf (s : State) (f : List Byte) : Nat × State :=
  let v := windowVar f.toArray
  let r := isqrt (v / 1048576)
  let (e, s) := s.fresh
  (min 255 (if r * r * 1048576 = v then r else r + e % 2), s)

/-- The integer shifts within ±3 pixels of a prediction in counts on one axis, none above 16 pixels. -/
def axisShifts (p : Int) : List Int :=
  ((List.range 33).map fun (i : Nat) => (i : Int) - 16).filter fun y => decide (-384 ≤ 128 * y - p ∧ 128 * y - p ≤ 384)

/-- The shifts searched about a prediction. -/
def shiftsAbout (py px : Int) : List (Int × Int) := (axisShifts py).flatMap fun y => (axisShifts px).map fun x => (y, x)

/-- Whether a shift lies on the edge of the searched ones. -/
def onEdge (l : List (Int × Int)) (sh : Int × Int) : Bool :=
  (l.all fun e => decide (e.1 ≤ sh.1)) || (l.all fun e => decide (sh.1 ≤ e.1)) ||
    (l.all fun e => decide (e.2 ≤ sh.2)) || (l.all fun e => decide (sh.2 ≤ e.2))

/-- The peak of the zero-mean normalised cross-correlation over shifts: the shift and its window sums. A window without variance
counts as uncorrelated, and the first of equal peaks is taken (DESIGN CHOICE, log entry 10). -/
def peakOf (a b : Array Byte) (l : List (Int × Int)) : Option ((Int × Int) × Int × Int) :=
  l.foldl (fun best sh =>
    let m := windowSums a b sh.1 sh.2
    let w := max 1 m.2
    match best with
    | none => some (sh, m.1, w)
    | some (_, n, v) => if n * n.natAbs * w < m.1 * m.1.natAbs * v then some (sh, m.1, w) else best) none

/-- The correlation at a shift times 2^30 and the standard deviation of the reference's window, to the nearest unit below. -/
def score (a b : Array Byte) (sy sx : Int) : Int :=
  let m := windowSums a b sy sx
  m.1 * 2 ^ 30 / (max 1 (isqrt m.2.toNat) : Nat)

/-- The vertex, in counts from the peak, of the quadratic through the peak's correlation `c` and its neighbours' (R295). -/
def vertex (lo c hi : Int) : Int :=
  let den := 2 * c - lo - hi
  if den ≤ 0 then 0 else max (-64) (min 64 (64 * (hi - lo) / den))

/-- What a correlation finds (R295, R296): displacement in counts, CONF, whether the peak lies on the edge, and whether the
result is good. -/
structure Corr where
  dy : Int
  dx : Int
  conf : Nat
  edge : Bool
  good : Bool
  deriving DecidableEq, Repr

/-- Correlate `frame` with reference `ref` about a predicted displacement in counts. The peak, its edge test, the quadratic fit and
CONF follow R295; the gradient refinement step, which the spec names without a formula, adds at most half a pixel, a free
value (DESIGN CHOICE, log entry 10). -/
def State.correlate (s : State) (ref frame : List Byte) (py px : Int) (tex : Nat) : Corr × State :=
  let l := shiftsAbout py px
  let inside := decide (-13 * 128 ≤ py ∧ py ≤ 13 * 128 ∧ -13 * 128 ≤ px ∧ px ≤ 13 * 128)
  let a := ref.toArray
  let b := frame.toArray
  match peakOf a b l with
  | none => (⟨0, 0, 0, true, false⟩, s)
  | some (sh, n, v) =>
    let den := windowVar a * v.toNat
    let (fy, s) := s.fresh
    let (fx, s) := s.fresh
    let (fc, s) := s.fresh
    let r := isqrt (65536 * (n * n).toNat / den)
    let conf := if den = 0 then fc % 256 else if n < 0 then 0
      else min 255 (if r * r * den = 65536 * (n * n).toNat then r else r + fc % 2)
    let edge := onEdge l sh
    let qy := if edge then 0 else vertex (score a b (sh.1 - 1) sh.2) (score a b sh.1 sh.2) (score a b (sh.1 + 1) sh.2)
    let qx := if edge then 0 else vertex (score a b sh.1 (sh.2 - 1)) (score a b sh.1 sh.2) (score a b sh.1 (sh.2 + 1))
    let good := inside && !edge && decide (s.getF R.MTRK_TRK_CONFMIN ≤ conf ∧ s.getF R.MTRK_TRK_TEXMIN ≤ tex)
    (⟨128 * sh.1 + qy + ((fy % 129 : Nat) : Int) - 64, 128 * sh.2 + qx + ((fx % 129 : Nat) : Int) - 64, conf, edge, good⟩, s)

/-! ## Frames (R290 to R292) -/

/-- `s` with a discarded frame of port `p`: counted, and a miss (R291). -/
def State.mtrkDiscard (s : State) (p : Nat) (fmt : Bool) (crcErr eccErr : Nat) : State :=
  let s := (s.count (R.MTRK_ERR_CRC p) crcErr).count (R.MTRK_ERR_ECC p) eccErr
  let s := if fmt then s.count (R.MTRK_ERR_FMT p) 1 else s
  (s.raise R.MTRK_STAT_FRERR).irqPulseIf R.MTRK_CTRL_ERRIRQ baseMTRK

/-- A frame between one Frame Start and one Frame End at port `p` on virtual channel `vc` (R290 to R292). -/
def State.mtrkFrame (s : State) (p vc : Nat) (pixels : List Byte) (formatOk : Bool) (crcErr eccErr : Nat) : State :=
  if !s.mtrkRuns p || vc != s.getF (R.MTRK_PCFG_VC p) then s
  else
    let now := s.cue.time.toNat
    let u := s.mtrkPort p
    let texp := now - s.getF (R.MTRK_PCFG_EXPOFS p)
    let early := match u.lastFe with | some t => decide (now < t + 25000) | none => false
    let fmt := !formatOk || pixels.length != 4096 || early
    if u.skip && s.mtrkPair then s.mtrkDiscard p fmt crcErr eccErr
    else if fmt || crcErr != 0 || eccErr != 0 then
      (s.mtrkDiscard p fmt crcErr eccErr).modPort p fun u => { u with pend := u.pend ++ [(none, texp)] }
    else
      let base := s.getF (R.MTRK_CAP_ADDR p) * 4096
      let s := if u.capture then
          ((s.memWrite (.block .control) base pixels).1.modPort p fun u => { u with capture := false }).raise
            (R.MTRK_CAP_DONE p)
        else s
      s.modPort p fun u => { u with pend := u.pend ++ [(some (s.orient p pixels), texp)], lastFe := some now }

/-! ## Tracking (R297 to R301) -/

/-- The auxiliary encoder's position as delivered at the last tick (R299). -/
def State.auxPos (s : State) : Int := (s.encUnit (s.getF R.MTRK_CFG_AUXENC)).out

/-- The auxiliary travel since port `p`'s last result, in nm with 16 fraction bits before RATIO. -/
def State.auxNm (s : State) (p : Nat) : Int := (s.auxPos - (s.mtrkPort p).aux) * s.getS R.MTRK_AUXSCALE_SCALE

/-- `s` with port `p`'s position shown. -/
def State.mtrkShow (s : State) (p : Nat) : State :=
  let u := s.mtrkPort p
  let s := (s.setF (R.MTRK_PYL_Y p) (wrap 32 u.y)).setF (R.MTRK_PYH_Y p) (wrap 40 u.y / 2 ^ 32)
  let s := (s.setF (R.MTRK_PX_X p) (wrap 32 u.x)).setF (R.MTRK_PSTAT_MISS p) (min 255 u.miss)
  let s := s.setF (R.MTRK_PSTAT_HANDOVER p) u.handOver.isSome.toNat
  s.setF (R.MTRK_PSTAT_REF p) u.ref.isSome.toNat

/-- The mean of offsets, rounded freely (DESIGN CHOICE, log entry 8). -/
def State.meanOf (s : State) (l : List Int) : Int × State := s.roundFree (l.foldl (· + ·) 0) (max 1 l.length)

/-- The end of port `p`'s hand-over (R297, R298). -/
def State.handOverEnd (s : State) (p : Nat) (h : HandOver) (short : Bool) : State :=
  let (oy, s) := s.meanOf h.offY
  let (ox, s) := s.meanOf h.offX
  let s := s.modPort p fun u =>
    { u with ref := some h.frame, refY := u.refY + oy, refX := u.refX + ox, dy := h.newY, dx := h.newX, handOver := none }
  let s := if short then s.raise R.MTRK_STAT_HOSHORT else s
  let counted := h.offY.dropLast
  let n := counted.length
  if n < 4 then s
  else
    let sum : Int := counted.foldl (fun (z : Int) d => z + d) 0
    let sq : Int := counted.foldl (fun (z : Int) d => z + d * d) 0
    let (r, s) := s.fresh
    let num := ((n * sq - sum * sum) * 262144).toNat
    let q := isqrt (num / (n * n))
    s.setF (R.MTRK_NOISE_SIGMA p) (min 65535 (if q * q * (n * n) = num then q else q + r % 2))

/-- A miss of port `p`, be it a frame that fails, a discarded one or a pulse without one: it ends a hand-over short; dead reckoning,
and loss after MISSMAX misses (R298 to R300). -/
def State.mtrkMiss (s : State) (p : Nat) : State :=
  let s := match (s.mtrkPort p).handOver with
    | some h => s.handOverEnd p h true
    | none => s
  let nm16 := if s.flag R.MTRK_CFG_AUXEN then s.auxNm p * (s.getF R.MTRK_RATIO_RATIO : Int) else 0
  let scale := s.getF (R.MTRK_SCALE_SCALE p)
  let (d, s) := if scale = 0 then ((0 : Int), s) else s.roundFree nm16 (scale * 2 ^ 30)
  let aux := s.auxPos
  let s := s.modPort p fun u => { u with y := u.y + d, drY := u.drY + d, drNm := u.drNm + nm16, aux := aux, miss := u.miss + 1 }
  let s := s.count (R.MTRK_ERR_MISS p) 1
  let lim := s.getF R.MTRK_DRMAX_DRMAX
  let u := s.mtrkPort p
  let s := if lim ≠ 0 ∧ lim * 1000 * 2 ^ 46 < u.drNm.natAbs ∧ u.drOver = false then
      (((s.modPort p fun u => { u with drOver := true }).raise R.MTRK_STAT_FAULT).irqPulseIf R.MTRK_CTRL_FLTIRQ baseMTRK).publish
        Src.mtrkFault
    else s
  let s := if s.getF R.MTRK_DRMAX_MISSMAX ≤ u.miss ∧ ¬ s.flag (lostFld p) then
      let s := s.modPort p fun u => { u with ref := none, handOver := none }
      ((s.raise (lostFld p)).irqPulseIf R.MTRK_CTRL_LOSTIRQ baseMTRK).publish Src.mtrkLost
    else s
  s.mtrkShow p

/-- RATIO learned from a good result of port `p` that moved the camera by `dy` counts (R301). -/
def State.mtrkLearn (s : State) (p : Nat) (dy : Int) : State :=
  let auxNm16 := s.auxNm p
  let scale := s.getF (R.MTRK_SCALE_SCALE p)
  if s.flag R.MTRK_CFG_RLEARN && decide (128 * scale ≤ auxNm16.natAbs ∧ auxNm16 ≠ 0) then
    let ratio : Int := s.getF R.MTRK_RATIO_RATIO
    let sgn : Int := if auxNm16 < 0 then -1 else 1
    let num := dy * scale * sgn * 2 ^ 30 - ratio * auxNm16.natAbs
    let (q, s) := s.roundFree num (256 * auxNm16.natAbs)
    s.setF R.MTRK_RATIO_RATIO (min (2 ^ 32 - 1) (ratio + q).toNat)
  else s

/-- A frame during a hand-over, already good against the old reference with displacement (dy, dx): correlate against the
new one (R297). -/
def State.handOverFrame (s : State) (p : Nat) (h : HandOver) (frame : List Byte) (dy dx : Int) (tex : Nat) : State :=
  let oy := h.offY.getLast?.getD 0
  let ox := h.offX.getLast?.getD 0
  let (c, s) := s.correlate h.frame frame (dy - oy) (dx - ox) tex
  let h := if c.good then
      { h with offY := (dy - c.dy) :: h.offY, offX := (dx - c.dx) :: h.offX, newY := c.dy, newX := c.dx }
    else h
  let h := { h with left := h.left - 1 }
  if h.left = 0 then s.handOverEnd p h false else s.modPort p fun u => { u with handOver := some h }

/-- A good result of port `p` with displacement (dy, dx) (R297, R301). -/
def State.mtrkGood (s : State) (p : Nat) (frame : List Byte) (dy dx : Int) (tex : Nat) : State :=
  let u := s.mtrkPort p
  let y := u.refY + dy
  let s := s.mtrkLearn p (y - u.y)
  let aux := s.auxPos
  let s := s.modPort p fun u =>
    { u with y := y, x := u.refX + dx, ddy := dy - u.dy, ddx := dx - u.dx, dy := dy, dx := dx, drY := 0, drNm := 0,
             drOver := false, miss := 0, aux := aux }
  let rekey : Int := 128 * s.getF R.MTRK_TRK_REKEY
  let s :=
    match u.handOver with
    | some h => s.handOverFrame p h frame dy dx tex
    | none =>
      if rekey ≤ dy ∨ dy ≤ -rekey ∨ rekey ≤ dx ∨ dx ≤ -rekey then
        s.modPort p fun u => { u with handOver := some ⟨frame, [dy], [dx], s.getF R.MTRK_TRK_HOVER, 0, 0⟩ }
      else s
  s.mtrkShow p

/-- The result of port `p`'s frame, good or a miss (R296 to R300). -/
def State.mtrkTrack (s : State) (p : Nat) (frame : Option (List Byte)) : Bool × State :=
  match frame with
  | none => (false, s.mtrkMiss p)
  | some f =>
    let (tex, s) := s.textureOf f
    let s := s.setF (R.MTRK_PSTAT_TEX p) tex
    let u := s.mtrkPort p
    match u.ref with
    | none =>
      if s.getF R.MTRK_TRK_TEXMIN ≤ tex then
        let aux := s.auxPos
        let s := s.modPort p fun u =>
          { u with ref := some f, refY := u.y, refX := u.x, dy := 0, dx := 0, ddy := 0, ddx := 0, drY := 0, drNm := 0,
                   drOver := false, miss := 0, aux := aux }
        (true, (s.lower (lostFld p)).mtrkShow p)
      else (false, s.mtrkMiss p)
    | some r =>
      let py := if u.miss = 0 then u.dy + u.ddy else u.dy + u.drY
      let px := if u.miss = 0 then u.dx + u.ddx else u.dx
      let (c, s) := s.correlate r f py px tex
      let s := (s.setF (R.MTRK_PSTAT_CONF p) c.conf).setF (R.MTRK_PSTAT_EDGE p) c.edge.toNat
      if c.good then (true, s.mtrkGood p f c.dy c.dx tex)
      else (false, s.mtrkMiss p)

/-- `s` with port `p`'s result (good or not, t_exp) stored; the combined result becomes due when it is complete (R302). -/
def State.mtrkDone (s : State) (p : Nat) (good : Bool) (texp : Nat) : State :=
  let s := s.modPort p fun u => { u with res := some (good, texp) }
  if s.mtrkPair then
    if (s.mtrkPort 0).res.isSome && (s.mtrkPort 1).res.isSome then s.modMtrk fun m => { m with due := true } else s
  else if s.getF R.MTRK_CFG_MODE = p then s.modMtrk fun m => { m with due := true }
  else s

/-- Port `p`'s result completes, 12 µs after its Frame End (R296). -/
def State.mtrkPortResult (s : State) (p : Nat) : State :=
  match (s.mtrkPort p).pend with
  | [] => s
  | (f, texp) :: rest =>
    let s := s.modPort p fun u => { u with pend := rest }
    let (good, s) := s.mtrkTrack p f
    s.mtrkDone p good texp

/-- The t_exp of port `p`'s frame of the present pulse, if its Frame End has come. -/
def State.mtrkTexp (s : State) (p : Nat) : Option Nat :=
  match (s.mtrkPort p).res with
  | some r => some r.2
  | none => (s.mtrkPort p).pend.head?.map (·.2)

/-- Port `p`'s Frame End has not come within 5 µs of the other port's: it has missed that FSYNC pulse (R302). Having no t_exp of its
own, it takes the other's into the mean (DEDUCED, log entry 36). -/
def State.mtrkPairTimeout (s : State) (p : Nat) : State :=
  match if s.mtrkPair && s.mtrkRuns p && (s.mtrkTexp p).isNone then s.mtrkTexp (1 - p) else none with
  | some t => ((s.modPort p fun u => { u with skip := true }).mtrkMiss p).mtrkDone p false t
  | none => s

/-! ## Combined position (R302, R303) -/

/-- SCALE_p × Y_p in nm with 16 fraction bits. -/
def State.mtrkNm16 (s : State) (p : Nat) : Int := (s.getF (R.MTRK_SCALE_SCALE p) : Int) * (s.mtrkPort p).y

/-- θ × BASELINE / 2 in nm with 16 fraction bits, times 10^6. -/
def State.skewHalf (s : State) : Int := s.mtrk.theta * (s.getF R.MTRK_BASELINE_NM : Int)

/-- The combined result of R302 without OFFSET (nm × 2^16 over a divisor), twice its t_exp, and its flags. -/
def State.mtrkCombine (s : State) : (Int × Nat) × Nat × Bool × Bool :=
  if s.mtrkPair then
    let g0 := (s.mtrkPort 0).res.getD (false, 0)
    let g1 := (s.mtrkPort 1).res.getD (false, 0)
    if g0.1 == g1.1 then ((s.mtrkNm16 0 + s.mtrkNm16 1, 2), g0.2 + g1.2, false, !g0.1)
    else if g0.1 then ((s.mtrkNm16 0 * 2000000 + s.skewHalf, 2000000), 2 * g0.2, true, false)
    else ((s.mtrkNm16 1 * 2000000 - s.skewHalf, 2000000), 2 * g1.2, true, false)
  else
    let p := s.getF R.MTRK_CFG_MODE
    let g := (s.mtrkPort p).res.getD (false, 0)
    ((s.mtrkNm16 p, 1), 2 * g.2, false, false)

/-- The skew of two good results, Q16.16 µrad (R302). -/
def State.mtrkSkew (s : State) : State :=
  let both := ((s.mtrkPort 0).res.getD (false, 0)).1 && ((s.mtrkPort 1).res.getD (false, 0)).1
  let base := s.getF R.MTRK_BASELINE_NM
  if s.mtrkPair && both && base != 0 then
    let (q, s) := s.roundFree ((s.mtrkNm16 1 - s.mtrkNm16 0) * 1000000) base
    s.modMtrk fun m => { m with theta := clampS 32 q }
  else s

/-- The combined result completes (R302, R303). -/
def State.mtrkComplete (s : State) : State :=
  if !s.mtrk.due then s
  else
    let s := s.mtrkSkew
    let ((num, den), texp2, single, dr) := s.mtrkCombine
    let (texp, s) := s.roundFree texp2 2
    let texp := texp.toNat
    let (raw, s) := s.roundFree num (256 * den)
    let set := sext 48 (s.getF R.MTRK_SETL_SET + 2 ^ 32 * s.getF R.MTRK_SETH_SET)
    let off := if s.mtrk.preset then set - raw else s.mtrk.offset
    let y := count48 (off + raw)
    let s := s.modMtrk fun m =>
      { m with offset := off, preset := false, due := false, prev := m.last, last := ⟨true, y, raw, texp, single, dr, s.clk⟩ }
    let s := (s.modPort 0 fun u => { u with res := none }).modPort 1 fun u => { u with res := none }
    let s := (s.setF R.MTRK_POSL_POS (wrap 32 y)).setF R.MTRK_POSH_POS (wrap 48 y / 2 ^ 32)
    let s := (s.setF R.MTRK_SKEW_THETA (wrap 32 s.mtrk.theta)).setF R.MTRK_TEXP_TIME (texp % 2 ^ 32)
    ((s.setF R.MTRK_STAT_SINGLE single.toNat).setF R.MTRK_STAT_DR dr.toNat).publish Src.mtrkResult

/-- `s` with `y` shown as the combined position. -/
def State.mtrkShowPos (s : State) (y : Int) : State :=
  (s.setF R.MTRK_POSL_POS (wrap 32 y)).setF R.MTRK_POSH_POS (wrap 48 y / 2 ^ 32)

/-- A write of PRESET (R303): the next combined result is preset, or the one that has completed in the same cycle. -/
def State.mtrkPreset (s : State) : State :=
  let m := s.mtrk
  if m.last.valid ∧ m.last.clk = s.clk then
    let set := sext 48 (s.getF R.MTRK_SETL_SET + 2 ^ 32 * s.getF R.MTRK_SETH_SET)
    (s.modMtrk fun m => { m with offset := set - m.last.raw, last := { m.last with y := set } }).mtrkShowPos set
  else s.modMtrk fun m => { m with preset := true }

/-- The result that a loop slot takes at a sample instant: the latest that completed a cycle before (R304). -/
def State.mtrkSample (s : State) : MtrkResult := if s.mtrk.last.clk < s.clk then s.mtrk.last else s.mtrk.prev

/-- Whether an FSYNC pulse belongs to the present cue (R293, R305). -/
def State.fsyncDue (s : State) : Bool :=
  s.cueRuns && s.sys.dev != .wings && s.flag R.MTRK_CTRL_FSYNCEN && s.cue.count.toNat % s.getF R.MTRK_CFG_FDIV == 0

/-- An FSYNC pulse of 100 ns (R293): the frames that follow belong to it. -/
def State.mtrkFsync (s : State) : State :=
  if s.fsyncDue then
    ((s.modPort 0 fun u => { u with skip := false }).modPort 1 fun u => { u with skip := false }).modMtrk fun m =>
      { m with fsyncLeft := 45 }
  else s

/-- Entry to WINGS: both references are discarded (R305). -/
def State.mtrkWings (s : State) : State :=
  ([0, 1].foldl (fun s p =>
    (s.modPort p fun u => { u with ref := none, handOver := none, pend := [], res := none, miss := 0 }).mtrkShow p) s).modMtrk
      fun m => { m with due := false, fsyncLeft := 0 }

/-! ## Register writes (R305, R308) -/

/-- Whether every field of a value is in range. -/
def mtrkValueOk (id : RegId) (v : Word) : Bool :=
  match id with
  | .MTRK_CFG => fieldOf v 9 8 != 3 && fieldOf v 3 0 != 0
  | .MTRK_TRK => decide (1 ≤ fieldOf v 15 11 ∧ fieldOf v 15 11 ≤ 16 ∧ 2 ≤ fieldOf v 10 6 ∧ fieldOf v 10 6 ≤ 12)
  | .MTRK_DRMAX => fieldOf v 31 24 != 0
  | _ => true

/-- A register write to MTRK; `n` is the register's index. -/
def State.mtrkRegWrite (s : State) (d : RegDesc) (n a : Nat) (v : Word) : State :=
  let off := !s.flag R.MTRK_CTRL_EN0 && !s.flag R.MTRK_CTRL_EN1
  match d.id with
  | .MTRK_CTRL =>
    let s := s.writeTyped d a false v
    if v.getLsbD 7 then s.mtrkPreset else s
  | .MTRK_CFG | .MTRK_FSYNC | .MTRK_TRK | .MTRK_PCFG =>
    if off && mtrkValueOk d.id v then s.writeTyped d a false v else s.raise R.MTRK_STAT_CFGREF
  | .MTRK_DRMAX => if mtrkValueOk d.id v then s.writeTyped d a false v else s.raise R.MTRK_STAT_CFGREF
  | .MTRK_CAP =>
    let s := s.writeTyped d a false v
    if v.getLsbD 31 then (s.lower (R.MTRK_CAP_DONE n)).modPort n fun u => { u with capture := true } else s
  | _ => s.writeTyped d a false v

/-! ## Commands -/

/-- SENSOR_FRAME (R291). -/
def execSensorFrame (port : Fin 2) (vc : BitVec 2) (pixels : List Byte) (formatOk : Bool) (crcErr eccErr : Nat) (s : State) :
    Host.Outcome State Fault Refusal :=
  .next (State.settle <| s.mtrkFrame port vc.toNat pixels formatOk crcErr eccErr)

/-- CORRELATION_RESULT (R295, R296). -/
def execCorrelationResult (port : Fin 2) (s : State) : Host.Outcome State Fault Refusal := .next (State.settle <| s.mtrkPortResult port)

/-- MTRK_RESULT (R302). -/
def execMtrkResult (s : State) : Host.Outcome State Fault Refusal := .next s.mtrkComplete.settle

/-- MTRK_PAIR_TIMEOUT (R302). -/
def execMtrkPairTimeout (port : Fin 2) (s : State) : Host.Outcome State Fault Refusal := .next (State.settle <| s.mtrkPairTimeout port)

/-- FSYNC_PULSE (R293). -/
def execFsyncPulse (s : State) : Host.Outcome State Fault Refusal := .next s.mtrkFsync.settle

end Sys2Proof.Machine
end

