-- ==== Sys2Proof/Machine/Loop.lean ====
section
/-!
DEFINITION. The loop engine (R309 to R342): sampling, runs, set-points and profiles, output, commit and hold, faults,
curtain control and rehearsal.
What the spec leaves open here: log entries 11, 12 and 37.
-/

namespace Sys2Proof.Machine

/-- Slot `k`. -/
def State.slot (s : State) (k : Nat) : LoopSlot := mget {} s.loop.slots k

/-- `s` with slot `k` changed. -/
def State.modSlot (s : State) (k : Nat) (f : LoopSlot → LoopSlot) : State :=
  { s with loop := { s.loop with slots := mmod {} s.loop.slots k f } }

/-- `s` with the rehearsal changed. -/
def State.modRh (s : State) (f : Rehearsal → Rehearsal) : State := { s with loop := { s.loop with rh := f s.loop.rh } }

/-- Active parameter word `j` of slot `k`, signed; word 0 stands at offset 0x40. -/
def State.lp (s : State) (k j : Nat) : Int := (s.getReg (R.LOOP_SP k j)).toInt

/-- The same, unsigned. -/
def State.lpu (s : State) (k j : Nat) : Nat := (s.getReg (R.LOOP_SP k j)).toNat

/-- The TYPE of slot `k`. -/
def State.slotType (s : State) (k : Nat) : Nat := s.getF (R.LOOP_SCFG_TYPE k)

/-- AXIS or MEDIA. -/
def State.slotMoves (s : State) (k : Nat) : Bool := s.slotType k == 2 || s.slotType k == 3

/-- MODE of slot `k`'s SPCFG (R320). -/
def State.slotMode (s : State) (k : Nat) : Nat := s.lpu k 33 % 16

/-- SRC of slot `k`'s SPCFG (R313). -/
def State.slotSrc (s : State) (k : Nat) : Nat := s.lpu k 33 / 65536

/-- The slot that a selector names, for KIND 0x6 and 0x7. -/
def selSlot (sel : Nat) : Option Nat := if sel / 4096 = 6 ∨ sel / 4096 = 7 then some (sel % 4096) else none

/-- The sample period of slot `k` in event-clock cycles (R311). -/
def State.slotTs (s : State) (k : Nat) : Nat :=
  s.getF R.CUE_PERIOD_PERIOD * 2 ^ s.getF (R.LOOP_SCFG_DIV k) / max 1 (s.getF R.LOOP_CTRL_SUB)

/-- The target SP of a moving slot: counts for AXIS, Q40.8 nm for MEDIA (R320). -/
def State.slotTarget (s : State) (k : Nat) : Int := sext 48 (s.lpu k 0 + 2 ^ 32 * s.lpu k 1)

/-- Fraction bits of a moving slot's position: 0 for AXIS, 8 for MEDIA (R317). -/
def State.posFrac (s : State) (k : Nat) : Nat := if s.slotType k = 3 then 8 else 0

/-- `w` × 2^PSHIFT feedback units per second^`n`, per sample^`n` with 24 fraction bits, as an exact fraction. -/
def State.perSampleFrac (s : State) (k w n : Nat) : Nat × Nat :=
  (w * 2 ^ s.getF (R.LOOP_SCFG_PSHIFT k) * 2 ^ 24 * (25 * s.slotTs k) ^ n, (10 ^ 10) ^ n)

/-- A limit of `w` × 2^PSHIFT feedback units per second^`n`, per sample^`n` with 24 fraction bits, never above the limit. -/
def State.perSample (s : State) (k w n : Nat) : Int :=
  let (num, den) := s.perSampleFrac k w n
  ((num / den : Nat) : Int)

/-! ## Hold (R328, R329) -/

/-- Whether the owner pair of slot `k` is held, by R50 or by lockstep. -/
def State.slotHeld (s : State) (k : Nat) : Bool :=
  let p := s.getF (R.LOOP_SCFG_OWNER k)
  !s.loop.curtain && ((s.getF R.CUE_STAT_HOLD).testBit p || (s.pair p).hold)

/-- Whether slot `k` runs (R312, R328, R334). -/
def State.slotRuns (s : State) (k : Nat) : Bool :=
  (s.inRun || s.sys.dev == .curtain) && !s.paused && s.flag (R.LOOP_SCFG_EN k) && !(s.slot k).stopped && !s.slotHeld k

/-! ## Sampling (R310, R311, R313) -/

/-- The number n of the present sub-cycle: cue count × SUB + j; a change of the cue's length falls in the last (R310, R311). -/
def State.subCycle (s : State) : Nat :=
  let sub := max 1 (s.getF R.LOOP_CTRL_SUB)
  s.cue.count.toNat * sub + min (s.cue.phase / max 1 (s.getF R.CUE_PERIOD_PERIOD / sub)) (sub - 1)

/-- Whether slot `k` runs in the present sub-cycle (R311). -/
def State.slotDue (s : State) (k : Nat) : Bool :=
  s.slotRuns k && s.subCycle % 2 ^ s.getF (R.LOOP_SCFG_DIV k) == s.getF (R.LOOP_SCFG_DOFS k)

/-- The value and fault of a source selector at a sample instant; ADC values come with their conversion. -/
def State.selSample (s : State) (sel : Nat) : Int × Bool × State :=
  let ix := sel % 4096
  match sel / 4096 with
  | 2 => (s.dsSample ix, false, s)
  | 3 => s.encSample ix
  | 4 =>
    let lost := if s.mtrkPair then s.flag R.MTRK_STAT_LOST0 || s.flag R.MTRK_STAT_LOST1
      else s.flag (lostFld (s.getF R.MTRK_CFG_MODE))
    (s.mtrkSample.y, lost || s.flag R.MTRK_STAT_FAULT, s)
  | 5 => (if ix < 4 then s.setpoint ix else 0, false, s)
  | 6 =>
    let u := s.slot ix
    (if u.stopped then 0 else if u.outClk < s.clk then u.u else u.uPrev, false, s)
  | 7 =>
    let u := s.slot ix
    (if u.outClk < s.clk then u.fb else u.fbPrev, false, s)
  | _ => (0, false, s)

/-- The sample instant of slot `k`, in a sub-cycle in which it runs: every input latched, conversions started (R313, R315). -/
def State.slotSample (s : State) (k : Nat) : State :=
  if !s.slotDue k then s
  else
    let (raw, bad, s) := (s.slotSelectors k).foldl (fun (z : List Int × Bool × State) sel =>
      let (v, f, s) := z.2.2.selSample sel
      let s := match s.selChannel sel with
        | some c => s.adcSlotTrigger (c / 4) k
        | none => s
      (z.1 ++ [v], z.2.1 || f, s)) ([], false, s)
    let now := s.cue.time.toNat
    let m := s.mtrkSample
    s.modSlot k fun u => { u with raw := raw, inFault := bad, sampleNs := now, mtrk := m, sampled := true }

/-- The raw value of input `i` (4: SRC) of slot `k` at its update: ADC channels from the slot's own conversion; an analogue
set-point with its deadband (R313, R370, R394). -/
def State.slotRaw (s : State) (k i : Nat) : Int :=
  let sel := (s.slotSelectors k).getD i 0
  match s.selChannel sel with
  | some c =>
    let r := mget 0 s.afe.slotRes (32 * k + c)
    if sel / 4096 = 5 then
      let db : Int := s.getF (R.ENC_SPCFG_DB (sel % 4096))
      if -db ≤ r ∧ r ≤ db then 0 else r
    else r
  | none => (s.slot k).raw.getD i 0

/-- Whether a selector delivers a Q1.15 value (R314). -/
def selAnalogue (sel : Nat) : Bool := sel / 4096 == 1 || sel / 4096 == 2 || (sel / 4096 == 5 && decide (4 ≤ sel % 4096))

/-- The fraction bits of a selector's value as the law takes it: Q1.15, counts, MTRK's and a MEDIA slot's Q40.8 nm, else Q2.30
(R313, R314, R323). -/
def State.selFrac (s : State) (sel : Nat) : Nat :=
  match sel / 4096 with
  | 1 | 2 => 15
  | 4 => 8
  | 5 => if sel % 4096 < 4 then 0 else 15
  | 6 => 30
  | 7 =>
    match s.slotType (sel % 4096) with
    | 2 | 4 => 0
    | 3 => 8
    | _ => 30
  | _ => 0

/-- Whether a selector is a counting source of R320: counts or a position. -/
def State.selCounts (s : State) (sel : Nat) : Bool := decide (s.selFrac sel ≤ 8)

/-- Input `i` of slot `k` as the law takes it (R314). -/
def State.slotInput (s : State) (k i : Nat) : Law Int :=
  let sel := (s.slotSelectors k).getD i 0
  let r := s.slotRaw k i
  if selAnalogue sel then mulL (r - s.lp k (20 + i)) (s.lp k (16 + i)) 9 32 else pure r

/-! ## Grants (R330) -/

/-- The grant fraction G of slot `k`, UQ1.15; ignored under curtain control (R334). -/
def State.slotGrant (s : State) (k : Nat) : Nat :=
  let c := s.getF (R.LOOP_SCFG_PBSCLS k)
  if c = 0 ∨ s.loop.curtain then 0x8000 else s.getF (R.PBS_GNT_G c)

/-! ## Set-points and profiles (R320, R321, R334) -/

/-- The limits of a motion per run, with 24 fraction bits: speed (none for a stop), acceleration, acceleration while the speed
rises, and jerk if it is limited; fraction bits of a position. -/
structure MotionLim where
  vmax : Option Int
  amax : Int
  grown : Int
  jmax : Option Int
  frac : Nat

/-- One run of a motion as (pc, vc, ac). -/
abbrev Motion := Int × Int × Int

/-- `v` moved towards 0 by at most `d`. -/
def towardZero (v d : Int) : Int := if 0 ≤ v then max 0 (v - d) else min 0 (v + d)

/-- The greatest change of the acceleration in one run; without a jerk limit any within the limits is in reach. -/
def MotionLim.jerk (l : MotionLim) (ac : Int) : Int := l.jmax.getD (2 * l.amax + ac.natAbs)

/-- The greatest |ac| after a run whose own is `ac`: the limit, to which a greater one falls at the jerk limit (R330). -/
def MotionLim.top (l : MotionLim) (rising : Bool) (ac : Int) : Int :=
  max (if rising then min l.amax l.grown else l.amax) (match l.jmax with | some j => ac.natAbs - j | none => 0)

/-- Whether the run `n` may follow the run `m` (R321, R334): vc changes by ac and pc by vc, a fraction of it to either neighbour,
and every limit holds; a speed that a commit has left above VMAX is braked as hard as they allow. -/
def MotionLim.stepOk (l : MotionLim) (m n : Motion) : Bool :=
  let (pc, vc, ac) := n
  let one : Int := 2 ^ (24 - l.frac)
  let hardest := if 0 ≤ vc then max (-(l.top false m.2.2)) (m.2.2 - l.jerk m.2.2) else min (l.top false m.2.2) (m.2.2 + l.jerk m.2.2)
  decide (vc = m.2.1 + ac) && decide ((ac - m.2.2).natAbs ≤ l.jerk m.2.2)
    && decide (ac.natAbs ≤ l.top (decide (m.2.1.natAbs < vc.natAbs)) m.2.2)
    && (match l.vmax with | some v => decide (vc.natAbs ≤ v) || ac == hardest | none => decide (0 ≤ vc * m.2.1))
    && decide (((pc - m.1) * one - vc).natAbs < one)

/-- Whether a plan from the run `m` keeps the limits and ends at rest, at `target` where one is given. -/
def MotionLim.planOk (l : MotionLim) (target : Option Int) : Motion → List Motion → Bool
  | m, [] => m.2.1 == 0 && m.2.2 == 0 && (match target with | some t => m.1 == t | none => true)
  | m, n :: t => l.stepOk m n && l.planOk target n t

/-- A plan that every limit allows: at rest, a run out and one back by no more than the distance; else one run that lets ac, and
with ac 0 then vc, fall (R321: the generator may lower any of them). -/
def MotionLim.slowPlan (l : MotionLim) (target : Option Int) (m : Motion) : List Motion :=
  let (pc, vc, ac) := m
  let one : Int := 2 ^ (24 - l.frac)
  if ac ≠ 0 then
    let a := towardZero ac (l.jerk ac)
    [(pc + (vc + a) / one, vc + a, a)]
  else if vc ≠ 0 then
    let c := min (min l.amax (l.jerk 0)) vc.natAbs
    let a := if 0 < vc then -c else c
    [(pc + (vc + a) / one, vc + a, a)]
  else
    let dist := target.getD pc - pc
    let cap := min (min l.amax l.grown) (min (l.jmax.getD (2 * l.amax) / 2) (l.vmax.getD 0))
    let c := min cap (dist.natAbs * one)
    let n := (c + one - 1) / one
    if c ≤ 0 then []
    else if 0 < dist then [(pc + n, c, c), (pc + n, 0, -c), (pc + n, 0, 0)]
    else [(pc - n, -c, -c), (pc - n, 0, c), (pc - n, 0, 0)]

/-- One run of slot `k` on its plan for `key`. A new one is planned from the present pc, vc and ac where the target or a limit has
changed: any that keeps the limits and ends as asked (DESIGN CHOICE, log entry 12). -/
def State.motionRun (s : State) (k : Nat) (key : List Int) (l : MotionLim) (target : Option Int) : State :=
  let u := s.slot k
  let now : Motion := (u.pc, u.vc, u.ac)
  let (plan, s) := if u.planKey = key ∧ u.plan ≠ [] then (u.plan, s)
    else
      let free := Config.motion s.freeCtr
      (if free ≠ [] ∧ l.planOk target now free then free else l.slowPlan target now, { s with freeCtr := s.freeCtr + 1 })
  match plan with
  | [] => s
  | n :: t => s.modSlot k fun u => { u with pc := count48 n.1, vc := n.2.1, ac := n.2.2, plan := t, planKey := key }

/-- The limits that the words at `j` (acceleration) and `j` + 1 (jerk, 0 none) give slot `k` for a motion. -/
def State.motionLim (s : State) (k j : Nat) (vmax : Option Int) (grant : Nat) : MotionLim :=
  let amax := s.perSample k (s.lpu k j) 2
  { vmax := vmax, amax := amax, grown := rshift (amax * grant) 15,
    jmax := if s.lpu k (j + 1) = 0 then none else some (s.perSample k (s.lpu k (j + 1)) 3), frac := s.posFrac k }

/-- What a plan rests on: its purpose, target and limits. -/
def MotionLim.key (l : MotionLim) (purpose target : Int) : List Int :=
  [purpose, target, l.vmax.getD 0, l.amax, l.grown, l.jmax.getD (-1)]

/-- One run of the profile generator towards `target` (R321). -/
def State.profileRun (s : State) (k : Nat) (target : Int) : State :=
  let u := s.slot k
  if u.pc = target ∧ u.vc = 0 ∧ u.ac = 0 then s
  else
    let l := s.motionLim k 25 (some (s.perSample k (s.lpu k 24) 1)) (s.slotGrant k)
    s.motionRun k (l.key 1 target) l (some target)

/-- One run of a stop under CAMAX and CJMAX: vc falls to 0 with ac, without passing it, and pc then holds (R334). -/
def State.stopRun (s : State) (k : Nat) : State :=
  let u := s.slot k
  if u.vc = 0 ∧ u.ac = 0 then s
  else
    let l := s.motionLim k 27 none 0x8000
    s.motionRun k (l.key 0 0) l none

/-- A commanded position `pc` set directly; vc and ac are its first and second differences (R320). -/
def State.directRun (s : State) (k : Nat) (pc : Int) : Law State := do
  let u := s.slot k
  let vc ← satL 64 ((pc - u.pc) * 2 ^ (24 - s.posFrac k))
  let ac ← satL 64 (vc - u.vc)
  pure (s.modSlot k fun u => { u with pc := pc, vc := vc, ac := ac, plan := [] })

/-- A changed target starts a new move: INPOS is cleared (R333). -/
def State.newMove (s : State) (k : Nat) : State :=
  let target := s.slotTarget k
  if (s.slot k).sp ≠ target then
    ((s.modSlot k fun u => { u with sp := target, inposRuns := 0 }).lower (R.LOOP_SSTAT_INPOS k)).lower
      (if k < 32 then ⟨R.LOOP_INPOSL, k, k⟩ else ⟨R.LOOP_INPOSH, k - 32, k - 32⟩)
  else s

/-- A run of a moving slot whose velocity an analogue source commands: vc = xs × VMAX, and pc integrates it (R320). -/
def State.rateRun (s : State) (k : Nat) (xs : Int) : Law State := do
  let (num, den) := s.perSampleFrac k (s.lpu k 24) 1
  let vc ← satL 64 (rdiv (xs * num) (den * 2 ^ s.selFrac (s.slotSrc k)))
  let ac ← satL 64 (vc - (s.slot k).vc)
  let (d, s) := s.roundFree vc (2 ^ (24 - s.posFrac k))
  pure (s.modSlot k fun u => { u with ac := ac, vc := vc, pc := count48 (u.pc + d), plan := [] })

/-- The commanded motion of a moving slot's run (R320): a counting source in feedback units, whatever its own fraction bits. -/
def State.moveRun (s : State) (k : Nat) : Law State := do
  let target := s.slotTarget k
  let s := s.newMove k
  let xs := s.slotRaw k 4
  match s.slotMode k with
  | 0 => (s.modSlot k fun u => { u with srcIn := false }).directRun k target
  | 1 => pure ((s.modSlot k fun u => { u with srcIn := false }).profileRun k target)
  | _ =>
    if !s.selCounts (s.slotSrc k) then s.rateRun k xs
    else
      let s := if (s.slot k).srcIn then s else s.modSlot k fun u => { u with srcIn := true, xs0 := xs }
      let way ← satL 48 (rshift (s.lp k 34 * (xs - (s.slot k).xs0) * 2 ^ s.posFrac k) (24 + s.selFrac (s.slotSrc k)))
      s.directRun k (← satL 48 (way + target))

/-- The reference r of a per-unit slot, Q2.30: SP0, with GEAR × SRC in MODE 2, where one count or nm counts as 1.0 (R320). -/
def State.slotRef (s : State) (k : Nat) : Law Int :=
  if s.slotMoves k then pure 0
  else if s.slotMode k = 2 then do
    let q30 : Int := s.slotRaw k 4 * 2 ^ (30 - s.selFrac (s.slotSrc k))
    satL 32 ((← mulL (s.lp k 34) q30 24 32) + s.lp k 0)
  else pure (s.lp k 0)

/-- Whether slot `k` stops under curtain control now: its group has started (R334). -/
def State.slotStopping (s : State) (k : Nat) : Bool :=
  s.loop.curtain && decide (s.getF (R.LOOP_SCFG_CGRP k) ≤ s.loop.group)

/-- Whether slot `k` is a FOC slot that follows the slot its SRC names (R334). -/
def State.slotFollows (s : State) (k : Nat) : Option Nat := if s.slotType k = 4 then selSlot (s.slotSrc k) else none

/-- A reference ramped towards 0 by at most CRAMP (R334). -/
def rampZero (r : Int) (step : Nat) : Int := if 0 ≤ r then max 0 (r - step) else min 0 (r + step)

/-! ## Outputs (R315, R316) -/

/-- The compare value of a Q2.30 duty for a period of `p` ns (R316). -/
def compareOf (d : Int) (p : Nat) : Nat :=
  if d ≤ 0 then 0 else if 2 ^ 30 ≤ d then 0xFFFFF else (rshift (d * (p * 16 : Nat)) 30).toNat

/-- The period of unit `n` as loaded. -/
def State.unitPeriod (s : State) (n : Nat) : Nat := s.getF (R.PWM_PERIOD_ACTIVE n)

/-- `s` with compare A of unit `n` set for a duty. -/
def State.setCompare (s : State) (n : Nat) (d : Int) (p : Nat) : State := s.setF (R.PWM_CMPA_CMP n) (compareOf d p)

/-- `s` with the PWM units of slot `k`, by its output kind (R316). -/
def State.slotUnits (s : State) (k : Nat) : List Nat :=
  match s.getF (R.LOOP_SOUT_KIND k) with
  | 1 => [s.getF (R.LOOP_SOUT_A k)]
  | 2 => [s.getF (R.LOOP_SOUT_A k), s.getF (R.LOOP_SOUT_B k)]
  | 3 => [s.getF (R.LOOP_SOUT_A k), s.getF (R.LOOP_SOUT_B k), s.getF (R.LOOP_SOUT_C k)]
  | _ => []

/-- `s` with slot `k`'s output applied (R315, R316). -/
def State.slotApply (s : State) (k : Nat) (o : RunOut) : State :=
  let a := s.getF (R.LOOP_SOUT_A k)
  let b := s.getF (R.LOOP_SOUT_B k)
  let c := s.getF (R.LOOP_SOUT_C k)
  let p := s.unitPeriod a
  match s.getF (R.LOOP_SOUT_KIND k) with
  | 1 => (s.setCompare a o.u p).setLoadAll (s.getF (R.LOOP_SOUT_GRP k))
  | 2 =>
    let s := (s.setCompare a (rdiv (2 ^ 30 + o.u) 2) p).setCompare b (rdiv (2 ^ 30 - o.u) 2) p
    s.setLoadAll (s.getF (R.LOOP_SOUT_GRP k))
  | 3 => (((s.setCompare a o.u p).setCompare b o.b p).setCompare c o.c p).setLoadAll (s.getF (R.LOOP_SOUT_GRP k))
  | 4 =>
    let code := (rshift (clampI o.u 0 (2 ^ 30) * 4095) 30).toNat
    s.setF (R.AFE_DAC_ACTIVE a) code
  | _ => s

/-- `s` with the PWM units of slot `k` disabled: they park (R332, R334). -/
def State.slotPark (s : State) (k : Nat) : State :=
  (s.slotUnits k).foldl (fun s n => if s.flag (R.PWM_CTRL_EN n) then s.pwmOff n else s) s

/-- a_cmd of slot `k` in counts/s² over 2^PSHIFT, rounded to nearest (R322); 0 unless AXIS. -/
def State.slotAcmd (s : State) (k : Nat) : Int :=
  let ts := s.slotTs k
  if s.slotType k = 2 ∧ ts ≠ 0 then
    rdiv ((s.slot k).ac * 10 ^ 20) ((625 * ts * ts * 2 ^ (24 + s.getF (R.LOOP_SCFG_PSHIFT k)) : Nat) : Int)
  else 0

/-- `s` with slot `k`'s output, FB and a_cmd made visible (R315, R322, R323). -/
def State.slotShow (s : State) (k : Nat) (o : RunOut) (fb : Int) : State :=
  let s := s.modSlot k fun u =>
    { u with uPrev := u.u, fbPrev := u.fb, u := o.u, dutyB := o.b, dutyC := o.c, fb := fb, outClk := s.clk }
  let s := (s.setF (R.LOOP_SOUTV_U k) (wrap 32 o.u)).setF (R.LOOP_SFBL_FB k) (wrap 32 fb)
  let s := s.setF (R.LOOP_SFBH_FB k) (wrap 48 fb / 2 ^ 32)
  s.setF (R.LOOP_SACMD_ACMD k) (wrap 32 (clampS 32 (s.slotAcmd k)))

/-! ## Faults and in-position (R331 to R333) -/

/-- The bit of slot `k` in LOOP_FAULTL or LOOP_FAULTH. -/
def loopFaultBit (k : Nat) : Fld := if k < 32 then ⟨R.LOOP_FAULTL, k, k⟩ else ⟨R.LOOP_FAULTH, k - 32, k - 32⟩

/-- The bit of slot `k` in LOOP_INPOSL or LOOP_INPOSH. -/
def loopInposBit (k : Nat) : Fld := if k < 32 then ⟨R.LOOP_INPOSL, k, k⟩ else ⟨R.LOOP_INPOSH, k - 32, k - 32⟩

/-- LOOP_STAT.FAULT follows the fault bits. -/
def State.loopFaultStat (s : State) : State :=
  s.setF R.LOOP_STAT_FAULT (s.getReg R.LOOP_FAULTL != 0 || s.getReg R.LOOP_FAULTH != 0).toNat

/-- Slot `k` meets fault cause `cause` (R332). -/
def State.slotFault (s : State) (k cause : Nat) : State :=
  let was := s.flag (R.LOOP_SSTAT_FAULT k)
  let s := if s.loop.rh.slot = k then s.modRh fun h => { h with faulted := true } else s
  let s := (s.raise (R.LOOP_SSTAT_FAULT k)).setF (R.LOOP_SSTAT_FCAUSE k) cause
  let s := (s.raise (loopFaultBit k)).loopFaultStat
  let s := if was then s else s.publish Src.loopFault
  if s.flag (R.LOOP_SCFG_FACT k) then
    ((s.slotPark k).modSlot k fun u => { u with stopped := true, u := 0, uPrev := 0 }).lower (R.LOOP_SSTAT_RUN k)
  else s

/-- The fault cause that a run of slot `k` with position or feedback `y` meets, if any; the lowest of several (R331). -/
def State.faultCause (s : State) (k : Nat) (y : Int) (ageNs : Nat) : Option Nat :=
  let u := s.slot k
  let lim : Int := (s.lpu k 32 : Nat)
  let moves := s.slotMoves k
  let err := if moves then ((u.pc - y).natAbs : Int) else y.natAbs
  let lim8 := if s.slotType k = 3 then lim * 256 else lim
  if lim ≠ 0 ∧ lim8 < err then some (if moves then 1 else 2)
  else if u.inFault then some 3
  else if s.slotType k = 3 ∧ s.lpu k 35 ≠ 0 ∧ s.lpu k 35 < ageNs then some 4
  else none

/-- The in-position test of a moving slot's run (R333). -/
def State.inposRun (s : State) (k : Nat) (y : Int) : State :=
  let u := s.slot k
  let ended := u.vc = 0 ∧ u.ac = 0 ∧ (s.slotMode k = 1 → u.pc = s.slotTarget k)
  let win : Int := ((s.lpu k 31 / 256 * 2 ^ s.posFrac k : Nat) : Int)
  if ended ∧ ((u.pc - y).natAbs : Int) ≤ win then
    let n := u.inposRuns + 1
    let s := s.modSlot k fun u => { u with inposRuns := n }
    if max 1 (s.lpu k 31 % 256) ≤ n ∧ ¬ s.flag (R.LOOP_SSTAT_INPOS k) then
      let s := ((s.raise (R.LOOP_SSTAT_INPOS k)).raise (loopInposBit k)).publish Src.loopInpos
      s.irqPulseIf R.LOOP_CTRL_INPIRQ baseLOOP
    else s
  else ((s.modSlot k fun u => { u with inposRuns := 0 }).lower (R.LOOP_SSTAT_INPOS k)).lower (loopInposBit k)

/-! ## Curtain (R334) -/

/-- Whether slot `k` counts as finished. -/
def State.slotFinished (s : State) (k : Nat) : Bool :=
  !s.flag (R.LOOP_SCFG_EN k) || (s.slot k).stopped || (s.slot k).finished

/-- `s` with CURTAX, CURTCV and the started groups as the finished slots make them; the end of the last group also ends the units
that were kept for it (R334, R355). -/
def State.curtainGroups (s : State) : State :=
  if !s.loop.curtain then s
  else
    let done (g : Nat) : Bool := (List.range 64).all fun k => s.getF (R.LOOP_SCFG_CGRP k) != g || s.slotFinished k
    let g := (List.range 8).foldl (fun n g => if n = g && done g then g + 1 else n) 0
    let s := { s with loop := { s.loop with group := max s.loop.group g } }
    let s := if done 0 then s.raise R.LOOP_STAT_CURTAX else s
    if (List.range 64).all s.slotFinished && !s.flag R.LOOP_STAT_CURTCV then (s.raise R.LOOP_STAT_CURTCV).pwmCurtain true else s

/-- The finish condition of slot `k`'s run, and the finish itself on the eighth in a row (R334). -/
def State.finishRun (s : State) (k : Nat) (r u : Int) : State :=
  if !s.slotStopping k || (s.slot k).finished then s
  else
    let x := s.slot k
    let thr := s.lpu k 30
    let ok :=
      if s.slotMoves k then decide (x.vc = 0 ∧ (x.vm.natAbs : Int) ≤ s.perSample k thr 1)
      else match s.slotFollows k with
        | some m => s.slotFinished m
        | none => decide (r = 0 ∧ u.natAbs ≤ thr)
    let n := if ok then x.finishRuns + 1 else 0
    let s := s.modSlot k fun x => { x with finishRuns := n }
    if n = 8 then
      let s := ((s.modSlot k fun x => { x with finished := true }).raise (R.LOOP_SSTAT_CURTDONE k)).slotPark k
      s.curtainGroups
    else s

/-- The first boundary of a curtain: every enabled, not stopped slot comes under curtain control (R327, R334). -/
def State.loopCurtain (s : State) : State :=
  { s with loop := { s.loop with curtain := true, group := 0 } }.curtainGroups

/-! ## Rehearsal (R336 to R339) -/

/-- The injected value of run `n` of the rehearsal (R337). -/
def State.rhValue (s : State) : Int :=
  let amp := (s.getReg R.LOOP_RHAMP).toInt
  let n := s.loop.rh.n
  match s.loop.rh.wave with
  | 0 => amp
  | 1 => clampS 32 (rshift (amp * sineTurn (s.getF R.LOOP_RHFREQ_FREQ * n % 2 ^ 32)) 60)
  | _ => if s.loop.rh.lfsr % 2 = 1 then amp else clampS 32 (-amp)

/-- One step of the sequence x^15 + x^14 + 1. -/
def lfsrStep (v : Nat) : Nat := v * 2 % 32768 + (v / 16384 + v / 8192) % 2

/-- `s` with the rehearsal ended (R339). -/
def State.rhEnd (s : State) (abort : Bool) : State :=
  let k := s.loop.rh.slot
  let wasOpen := s.loop.rh.point = 3 ∧ s.loop.rh.running
  let u := s.loop.rh.lastU
  let s := if wasOpen then s.modSlot k fun x => { x with i1 := u * 2 ^ 16 } else s
  let s := s.modRh fun _ => {}
  let s := (s.lower R.LOOP_RHSTAT_BUSY).raise R.LOOP_RHSTAT_DONE
  (if abort then s.raise R.LOOP_RHSTAT_ABORT else s).publish Src.loopRhDone

/-- The 32-bit value of a signal code (R338). -/
def State.rhSignal (s : State) (k : Nat) (x : Nat → Int) (r e u w : Int) (ageNs : Nat) (code : Nat) : Nat :=
  let m := s.slot k
  wrap 32 (match code with
    | 0 => r
    | 1 => x 0
    | 2 => e
    | 3 => u
    | 4 => w
    | 5 => rshift m.i1 16
    | 6 => m.vm
    | 7 => x 1
    | 8 => x 2
    | 9 => (s.getReg (R.LOOP_SACMD k)).toInt
    | 10 => (ageNs : Int)
    | _ => 0)

/-- A run of the rehearsed slot: record, next run number, end after LEN records (R337 to R339). When the sequence steps is free
with FREQ[15:0] 0, which the register table forbids (DESIGN CHOICE, log entry 37). -/
def State.rhRun (s : State) (k : Nat) (x : Nat → Int) (r e u w : Int) (ageNs : Nat) : State :=
  let n := s.loop.rh.n
  let cnt := s.getF R.LOOP_RHSTAT_COUNT
  let sig (f : Fld) : List Byte := bytesLE 4 (s.rhSignal k x r e u w ageNs (s.getF f))
  let rec16 := sig R.LOOP_RHCAP_SIG0 ++ sig R.LOOP_RHCAP_SIG1 ++ sig R.LOOP_RHCAP_SIG2 ++ sig R.LOOP_RHCAP_SIG3
  let due := n % max 1 (s.getF R.LOOP_RHCAP_DEC) = 0
  let s := if due then
      (s.memWrite (.block .control) (s.getF R.LOOP_RHBUF_ADDR * 16 + 16 * cnt) rec16).1.setF R.LOOP_RHSTAT_COUNT (cnt + 1)
    else s
  let runs := s.getF R.LOOP_RHFREQ_FREQ % 65536
  let (r, s) := if runs = 0 ∧ s.loop.rh.wave = 2 then s.fresh else (1, s)
  let next := if runs = 0 then r % 2 = 0 else (n + 1) % runs = 0
  let s := s.modRh fun h => { h with n := n + 1, lastU := u, lfsr := if next then lfsrStep h.lfsr else h.lfsr }
  if due ∧ s.getF R.LOOP_RHLEN_LEN ≤ cnt + 1 then s.rhEnd false else s

/-- A boundary: abort conditions, a fault of the slot since the start among them, and a waiting rehearsal armed (R336, R339). -/
def State.rhBoundary (s : State) : State :=
  let h := s.loop.rh
  if !(h.waiting || h.armed || h.running) then s
  else
    if h.stop || s.sys.dev != .run .idle || s.slotHeld h.slot || h.faulted then s.rhEnd true
    else if h.waiting then s.modRh fun h => { h with waiting := false, armed := true }
    else s

/-- A write of GO (R336). The rehearsal keeps the SLOT, POINT and WAVE that it starts with (DESIGN CHOICE, log entry 37). -/
def State.rhGo (s : State) : State :=
  let k := s.getF R.LOOP_RHCTRL_SLOT
  if s.sys.dev = .run .idle ∧ ¬ s.flag R.LOOP_RHSTAT_BUSY ∧ s.slotRuns k then
    let (r, s) := s.fresh
    let s := s.modRh fun _ =>
      { waiting := true, lfsr := r % 32767 + 1, slot := k, point := s.getF R.LOOP_RHCTRL_POINT, wave := s.getF R.LOOP_RHCTRL_WAVE }
    (((s.raise R.LOOP_RHSTAT_BUSY).lower R.LOOP_RHSTAT_DONE).lower R.LOOP_RHSTAT_ABORT).setF R.LOOP_RHSTAT_COUNT 0
  else s.raise R.LOOP_STAT_CFGREF

/-! ## One run (R318, R319) -/

/-- The granted limits (R330) and inputs of slot `k`'s run. -/
def State.runIn (s : State) (k : Nat) (x : Nat → Int) (r : Int) (point : Nat) (w : Int) (ym vroll : Int) (free : Nat) : Law RunIn := do
  let g : Int := s.slotGrant k
  let scaled := s.slotType k = 0 ∨ s.slotType k = 1 ∨ s.slotType k = 5
  let k6 ← if s.slotType k = 4 ∨ s.slotType k = 6 then do pure (rshift ((← satL 32 (s.lp k 8 * 2 ^ 6)) * g) 15) else pure 0
  pure { p := s.lp k, x := x, named := fun i => (s.slotSelectors k).getD i 0 / 4096 != 0, r := r,
         hi := if scaled then rshift (s.lp k 14 * g) 15 else s.lp k 14,
         lo := if scaled then rshift (s.lp k 15 * g) 15 else s.lp k 15,
         k6 := k6, dr := (s.slot k).mtrk.dr, ym := ym, vroll := vroll, point := point, w := w, free := free }

/-- The law of slot `k` for one run. -/
def State.slotLaw (s : State) (k : Nat) (i : RunIn) : Law RunOut :=
  let u := s.slot k
  match s.slotType k with
  | 0 => lawPi i false u
  | 1 => lawPid i u
  | 2 => lawAxis i u
  | 3 => lawMedia i u
  | 4 =>
    let th := focAngle (i.x 0) (s.lpu k 35) (s.lpu k 36) i.free
    lawFoc i (cosineTurn th) (sineTurn th) u
  | 5 => lawPi i true u
  | _ => lawPfc i u

/-- The first run after initialisation: filters and the position command start from the measured position (R312). -/
def State.slotFirst (s : State) (k : Nat) (y x1 : Int) : State :=
  if (s.slot k).fresh then
    s.modSlot k fun u =>
      { u with pPrev := if s.slotType k = 3 then x1 else y, pc := if s.slotMoves k then y else 0, sp := s.slotTarget k, plan := [] }
  else s

/-- The references of slot `k`'s run: the motion of a moving slot, r of a per-unit slot, under curtain control where its
group has started (R320, R334). -/
def State.slotRefRun (s : State) (k : Nat) (r : Int) : Law (Int × State) :=
  if s.slotStopping k then
    if s.slotMoves k then pure (0, s.stopRun k)
    else if (s.slotFollows k).isSome then pure (r, s)
    else pure (rampZero (s.slot k).r (s.lpu k 29), s)
  else if s.slotMoves k then do pure (0, ← s.moveRun k)
  else pure (r, s)

/-- The roller velocity and the outer position of a MEDIA slot's run, with the roller's count `x1` and an age in ns (R324, R325). -/
def State.outer (s : State) (k : Nat) (x1 : Int) (ageNs : Nat) : Law (Int × Int) :=
  if s.slotType k = 3 then do
    let u := s.slot k
    let dx1 := if u.fresh then 0 else x1 - u.pPrev
    let vroll ← satL 64 (rshift (dx1 * s.getS R.MTRK_AUXSCALE_SCALE * (s.getF R.MTRK_RATIO_RATIO : Int)) 22)
    let ym ← satL 48 (u.mtrk.y + rdiv (vroll * (ageNs * 10 : Nat)) ((25 * max 1 (s.slotTs k) * 65536 : Nat) : Int))
    pure (vroll, ym)
  else pure (0, 0)

/-- The slot after a run in OPEN, in which the law does not run: the integrators are held at 0, and the roller's count of this run
is the one that the next takes its change from (R324, R337). -/
def LoopSlot.opened (u : LoopSlot) (media : Bool) (x1 : Int) : LoopSlot :=
  { u with i1 := 0, i2 := 0, ip := 0, pPrev := if media then x1 else u.pPrev }

/-- The update instant of slot `k`: its law runs on the latched inputs and the output is applied (R315 to R339). -/
def State.slotUpdate (s : State) (k : Nat) : State :=
  if !(s.slot k).sampled || !s.slotRuns k then s.modSlot k fun u => { u with sampled := false }
  else
    let (x, clamp) := (do
      let a ← s.slotInput k 0
      let b ← s.slotInput k 1
      let c ← s.slotInput k 2
      let d ← s.slotInput k 3
      pure fun i => if i = 0 then a else if i = 1 then b else if i = 2 then c else d : Law (Nat → Int)).run false
    let u0 := s.slot k
    let ageNs := u0.sampleNs - u0.mtrk.texp
    let ((vroll, ym), clamp) := (s.outer k (x 1) ageNs).run clamp
    let y := if s.slotType k = 3 then ym else x 0
    let s := s.slotFirst k y (x 1)
    let h := s.loop.rh
    let mine := h.slot = k ∧ (h.armed ∨ h.running)
    let s := if mine ∧ h.armed then s.modRh fun h => { h with armed := false, running := true, n := 0 } else s
    let w := if mine then s.rhValue else 0
    let point := if mine then h.point else 4
    let (r0, clamp) := (s.slotRef k).run clamp
    let ((r1, s), clamp) := (s.slotRefRun k r0).run clamp
    let (free, s) := if s.lpu k 35 = 0 ∧ (s.slotType k = 4 ∨ s.slotType k = 6) then s.fresh else (0, s)
    let (rin, clamp) := (do
      let r ← if point = 0 ∧ ¬ s.slotMoves k then satL 32 (r1 + w) else pure r1
      s.runIn k x r point w ym vroll free : Law RunIn).run clamp
    let (o, clamp) := (if point = 3 then pure { slot := (s.slot k).opened (s.slotType k == 3) (x 1), u := w, e := 0 }
      else s.slotLaw k rin : Law RunOut).run clamp
    let s := s.modSlot k fun _ => { o.slot with fresh := false, r := r1, sampled := false }
    let s := if clamp then s.raise (R.LOOP_SSTAT_CLAMP k) else s
    let s := (s.raise (R.LOOP_SSTAT_RUN k)).setF (R.LOOP_SSTAT_GRANTLIM k) (decide (s.slotGrant k < 0x8000)).toNat
    let s := if (s.slot k).finished then s else s.slotApply k o
    let s := s.slotShow k o (if s.slotType k = 2 ∨ s.slotType k = 4 then x 0 else y)
    let s := if s.slotMoves k then s.inposRun k y else s
    let s := if mine then s.rhRun k x rin.r o.e o.u w ageNs else s
    let s := match s.faultCause k y ageNs with
      | some c => s.slotFault k c
      | none => s
    (s.finishRun k r1 o.u).curtainGroups

/-! ## Initialisation, commit (R312, R326) -/

/-- The first boundary of RUN: every slot initialised (R312). -/
def State.loopInit (s : State) : State :=
  let slots := s.loop.slots.map fun u => (u.1, { staged := u.2.staged : LoopSlot })
  let s := { s with loop := { slots := slots } }
  let s := (s.lower R.LOOP_STAT_CURTAX).lower R.LOOP_STAT_CURTCV
  (List.range 64).foldl (fun s k =>
    ((s.lower (R.LOOP_SSTAT_CURTDONE k)).lower (R.LOOP_SSTAT_INPOS k)).lower (loopInposBit k)) s

/-- The slots stop: no slot runs outside RUN and CURTAIN (R312). -/
def State.loopStop (s : State) : State :=
  let s := { s with loop := { s.loop with slots := s.loop.slots.map fun u => (u.1, { u.2 with sampled := false }) } }
  (List.range 64).foldl (fun s k => s.lower (R.LOOP_SSTAT_RUN k)) s

/-- `s` with the staged words of slot `k` active (R326). -/
def State.slotCommit (s : State) (k : Nat) : State :=
  let s := (s.slot k).staged.foldl (fun s p => s.setReg (R.LOOP_SP k p.1) p.2) s
  (s.modSlot k fun u => { u with staged := [] }).lower (R.LOOP_SSTAT_STAGED k)

/-- `s` with every staged word of every slot of pair `p` active (R326); none once a curtain has started (R327). -/
def State.loopCommit (s : State) (p : Nat) : State :=
  if s.loop.curtain then s
  else (List.range 64).foldl (fun s k => if s.getF (R.LOOP_SCFG_OWNER k) = p then s.slotCommit k else s) s

/-- `s` with the staged words of pair `p`'s slots discarded (R138). -/
def State.loopDiscard (s : State) (p : Nat) : State :=
  (List.range 64).foldl (fun s k =>
    if s.getF (R.LOOP_SCFG_OWNER k) = p ∧ ¬ (s.slot k).staged.isEmpty then
      (s.modSlot k fun u => { u with staged := [] }).lower (R.LOOP_SSTAT_STAGED k)
    else s) s

/-- HELD of every slot as its owner's hold makes it (R328). -/
def State.loopHeld (s : State) : State :=
  (List.range 64).foldl (fun s k =>
    if s.flag (R.LOOP_SCFG_EN k) then s.setF (R.LOOP_SSTAT_HELD k) (s.slotHeld k).toNat else s) s

/-! ## The schedule check (R335) -/

/-- The lane occupancy of a type in event-clock cycles, w(s) of R335. -/
def typeWindow (t : Nat) : Nat :=
  match t with
  | 0 => 12
  | 1 => 16
  | 2 => 24
  | 3 => 32
  | 4 => 48
  | 5 => 12
  | 6 => 24
  | _ => 0

/-- Whether two slots share a sub-cycle (R335). -/
def State.shareSub (s : State) (a b : Nat) : Bool :=
  let m := 2 ^ min (s.getF (R.LOOP_SCFG_DIV a)) (s.getF (R.LOOP_SCFG_DIV b))
  s.getF (R.LOOP_SCFG_DOFS a) % m == s.getF (R.LOOP_SCFG_DOFS b) % m

/-- Whether an output kind goes with a type (R318). -/
def kindOk (t kind : Nat) : Bool :=
  match t with
  | 0 | 1 => kind == 0 || kind == 1 || kind == 2 || kind == 4
  | 2 | 3 => kind == 0 || kind == 1 || kind == 2
  | 4 => kind == 3
  | 5 => kind == 4
  | 6 => kind == 1
  | _ => false

/-- The ADC groups that slot `k` samples. -/
def State.slotGroups (s : State) (k : Nat) : List Nat := (s.slotSelectors k).filterMap fun x => (s.selChannel x).map (· / 4)

/-- Whether a selector gives a position in counts: an encoder, a step/direction count, or FB of an AXIS or FOC slot (R313, R323). -/
def State.selPosition (s : State) (sel : Nat) : Bool :=
  match sel / 4096 with
  | 3 => true
  | 5 => decide (sel % 4096 < 4)
  | 7 => s.slotType (sel % 4096) == 2 || s.slotType (sel % 4096) == 4
  | _ => false

/-- Whether the inputs of slot `k` are of the kinds that its type takes (R318): a position in counts, or MTRK with the roller
encoder of R324. Any selector, None with its value 0 included, agrees with an input that is a signal (DEDUCED, log entry 37). -/
def State.inputsOk (s : State) (k : Nat) : Bool :=
  let sel (i : Nat) : Nat := (s.slotSelectors k).getD i 0
  match s.slotType k with
  | 2 | 4 => s.selPosition (sel 0)
  | 3 => sel 0 / 4096 == 4 && sel 1 / 4096 == 3 && sel 1 % 4096 == s.getF R.MTRK_CFG_AUXENC
  | _ => true

/-- The checks of R335 for a cue period and a SUB value. -/
def State.loopSchedule (s : State) (period sub : Nat) : Bool :=
  let en := (List.range 64).filter fun k => s.flag (R.LOOP_SCFG_EN k)
  let len := period / max 1 sub
  let ph (k : Nat) := s.getF (R.LOOP_SPHASE_PHASE k)
  let pairs := en.flatMap fun a => (en.filter (a < ·)).map fun b => (a, b)
  sub != 0 && period % sub == 0
    && en.all (fun k => decide (ph k + 145 ≤ len))
    && pairs.all (fun (a, b) =>
      !(a / 16 == b / 16 && s.shareSub a b) ||
        decide (ph a + typeWindow (s.slotType a) ≤ ph b ∨ ph b + typeWindow (s.slotType b) ≤ ph a))
    && pairs.all (fun (a, b) =>
      !(s.shareSub a b && (s.slotGroups a).any fun g => (s.slotGroups b).contains g) ||
        decide (ph a = ph b ∨ ph a + 80 ≤ ph b ∨ ph b + 80 ≤ ph a))
    && (List.range 64).all (fun k => kindOk (s.slotType k) (s.getF (R.LOOP_SOUT_KIND k)) && s.inputsOk k)
    && (List.range 64).all (fun k => match selSlot (s.slotSrc k) with
      | some m => decide (s.getF (R.LOOP_SCFG_CGRP m) ≤ s.getF (R.LOOP_SCFG_CGRP k))
      | none => true)

/-! ## Register writes (R326, R327, R341, R342) -/

/-- Whether a source selector is allowed (R313). -/
def selOk (sel : Nat) : Bool :=
  let ix := sel % 4096
  match sel / 4096 with
  | 0 => true
  | 1 => decide (ix < 24)
  | 2 => decide (ix < 16)
  | 3 => decide (ix < 8)
  | 4 => ix == 0
  | 5 => decide (ix < 8)
  | 6 | 7 => decide (ix < 64)
  | _ => false

/-- Whether a value is allowed in a configuration register of a slot (R342). -/
def slotCfgOk (id : RegId) (v : Word) : Bool :=
  match id with
  | .LOOP_SCFG => fieldOf v 30 28 != 7 && decide (fieldOf v 23 21 < 2 ^ fieldOf v 25 24)
  | .LOOP_SIN01 | .LOOP_SIN23 => selOk (fieldOf v 31 16) && selOk (fieldOf v 15 0)
  | .LOOP_SOUT =>
    decide (fieldOf v 31 28 ≤ 4 ∧ fieldOf v 23 18 < 48 ∧ fieldOf v 17 12 < 48 ∧ fieldOf v 11 6 < 48 ∧ fieldOf v 5 0 < 48)
  | _ => true

/-- A write of a parameter word (R326). -/
def State.paramWrite (s : State) (w : Writer) (k j : Nat) (v : Word) : State :=
  if j = 33 ∧ ¬ (selOk (fieldOf v 31 16) ∧ fieldOf v 15 4 = 0 ∧ fieldOf v 3 0 < 3) then s.raise R.LOOP_STAT_CFGREF
  else if s.bootOrPlaces && w.isHouse then
    let s := (s.setReg (R.LOOP_SP k j) v).modSlot k fun u => { u with staged := merase u.staged j }
    if (s.slot k).staged.isEmpty then s.lower (R.LOOP_SSTAT_STAGED k) else s
  else (s.modSlot k fun u => { u with staged := mset u.staged j v }).raise (R.LOOP_SSTAT_STAGED k)

/-- Whether the writer is a cue pair other than slot `k`'s owner (R327). -/
def State.notOwner (s : State) (w : Writer) (k : Nat) : Bool :=
  match w with
  | .core h _ => decide (h.val < 4 ∧ h.val ≠ s.getF (R.LOOP_SCFG_OWNER k))
  | _ => false

/-- A write that clears FAULT bits (LOOP_FAULTL, LOOP_FAULTH, LOOP_SSTAT): clearing either clears both. -/
def State.faultClear (s : State) (k : Nat) : State :=
  ((s.lower (R.LOOP_SSTAT_FAULT k)).lower (loopFaultBit k)).loopFaultStat

/-- A write to LOOP_RHCTRL (R336, R339). -/
def State.rhctrlWrite (s : State) (d : RegDesc) (a : Nat) (v : Word) : State :=
  if fieldOf v 13 12 = 3 then s.raise R.LOOP_STAT_CFGREF
  else
    let busy := s.flag R.LOOP_RHSTAT_BUSY
    let s := if v.getLsbD 30 && busy then s.modRh fun h => { h with stop := true } else s
    let s := s.writeTyped d a false v
    if v.getLsbD 31 then s.rhGo else s

/-- The cue period that the next boundary brings: one that waits, else the present one (R42). -/
def State.nextCuePeriod (s : State) : Nat := (s.cue.nextPeriod.map (fieldOf · 15 0)).getD (s.getF R.CUE_PERIOD_PERIOD)

/-- A register write to LOOP by master `w`; `k` and `j` are the register's indices. -/
def State.loopRegWrite (s : State) (w : Writer) (d : RegDesc) (k j a : Nat) (v : Word) : State :=
  match d.id with
  | .LOOP_CTRL =>
    let sub := fieldOf v 11 8
    let keep := sub = s.getF R.LOOP_CTRL_SUB
    let ok := 1 ≤ sub ∧ sub ≤ 8 ∧ (s.sys.dev = .boot ∨ (s.sys.dev = .places ∧ s.loopSchedule s.nextCuePeriod sub))
    if keep ∨ ok then s.writeTyped d a false v else s.raise R.LOOP_STAT_CFGREF
  | .LOOP_FAULTL => (List.range 32).foldl (fun s i => if (v &&& ~~~ s.setNow a).getLsbD i then s.faultClear i else s) s
  | .LOOP_FAULTH => (List.range 32).foldl (fun s i => if (v &&& ~~~ s.setNow a).getLsbD i then s.faultClear (32 + i) else s) s
  | .LOOP_RHCTRL => s.rhctrlWrite d a v
  | .LOOP_RHFREQ | .LOOP_RHAMP | .LOOP_RHBUF => s.writeTyped d a false v
  | .LOOP_RHCAP => if fieldOf v 23 16 = 0 then s.raise R.LOOP_STAT_CFGREF else s.writeTyped d a false v
  | .LOOP_RHLEN => if fieldOf v 15 0 = 0 then s.raise R.LOOP_STAT_CFGREF else s.writeTyped d a false v
  | .LOOP_SCFG | .LOOP_SPHASE | .LOOP_SIN01 | .LOOP_SIN23 | .LOOP_SOUT =>
    if s.notOwner w k || !s.bootOrPlaces || !slotCfgOk d.id v then s.raise R.LOOP_STAT_CFGREF
    else (s.writeTyped d a false v).dacFollow
  | .LOOP_SSTAT =>
    if s.notOwner w k then s.raise R.LOOP_STAT_CFGREF
    else
      let s := s.writeTyped d a false v
      if v.getLsbD 0 && !s.flag (R.LOOP_SSTAT_FAULT k) then s.faultClear k else s
  | .LOOP_SP => if s.notOwner w k then s.raise R.LOOP_STAT_CFGREF else s.paramWrite w k j v
  | .LOOP_SFBL | .LOOP_SFBH | .LOOP_SOUTV | .LOOP_SACMD => if s.notOwner w k then s.raise R.LOOP_STAT_CFGREF else s
  | _ => s.writeTyped d a false v

/-! ## Commands -/

/-- Whether slot `k` samples within the next 80 event-clock cycles (R311, R369). -/
def State.slotSoon (s : State) (k : Nat) : Bool :=
  let sub := max 1 (s.getF R.LOOP_CTRL_SUB)
  let len := s.getF R.CUE_PERIOD_PERIOD / sub
  s.slotRuns k && (List.range (sub + 1)).any fun j =>
    let at_ := j * len + s.getF (R.LOOP_SPHASE_PHASE k)
    decide (s.cue.phase < at_ ∧ at_ ≤ s.cue.phase + 80)
      && (s.cue.count.toNat * sub + j) % 2 ^ s.getF (R.LOOP_SCFG_DIV k) == s.getF (R.LOOP_SCFG_DOFS k)

/-- ADC_TRIGGER_START (R369): no loop sample instant of the group falls within the next 80 cycles. -/
def execAdcTriggerStart (group : Fin 6) (s : State) : Host.Outcome State Fault Refusal :=
  .next (State.settle <|
    if (List.range 64).any fun k => (s.slotGroups k).contains group && s.slotSoon k then s else s.adcStart group)

/-- SLOT_SAMPLE (R313). -/
def execSlotSample (slot : Fin 64) (s : State) : Host.Outcome State Fault Refusal := .next (State.settle <| s.slotSample slot)

/-- SLOT_UPDATE (R315). -/
def execSlotUpdate (slot : Fin 64) (s : State) : Host.Outcome State Fault Refusal := .next (State.settle <| s.slotUpdate slot)

end Sys2Proof.Machine
end

