-- ==== Sys2Proof/Machine/Lockstep.lean ====
section
/-!
DEFINITION. Understudy lockstep (R126 to R144, R564): checkpoints and undo logs, mismatches and the lockstep hold, injection,
agreement-buffer timeouts, the debug split; and the machine check (R122), which a mismatch may end in.
What the spec leaves open here: log entry 31.
-/

namespace Sys2Proof.Machine

/-! ## Machine check (R114, R122) -/

/-- The hold of vector `n`, at most 1,024 core cycles (R114). -/
def Core.holdOf (c : Core) (n : Nat) : Nat := min 1024 ((mget 0 c.vhold n).toNat % 2048)

/-- Machine check of a hart (R122): no frame, A15 unchanged, vector 0; a second one stops the core. A hold set for vector 0
starts; a hold of 0 leaves the one that is active (R114, DEDUCED, log entry 28). -/
def State.machineCheck (s : State) (h : Hart) (cause : Nat) : State :=
  s.modHart h fun c =>
    if c.mca then { c with run := .stopped }
    else
      { c with mcstat := BitVec.ofNat 32 (c.delay.isSome.toNat * 2 ^ 9 + c.tm.toNat * 2 ^ 8 + cause),
               mcepc := match c.delay with | some d => d.branch | none => c.pc,
               mcflags := c.flags.toWord, tm := false, mca := true, pc := c.vbase, delay := none, wait := .none,
               holdCnt := if c.holdOf 0 = 0 then c.holdCnt else c.holdOf 0 }

/-! ## Checkpoints (R136, R137) -/

/-- A checkpoint is captured at the first instruction boundary after a cue boundary (R136); an instruction that waits has not
reached one. -/
def State.capture (s : State) (n : Nat) : State :=
  let c := s.core (2 * n)
  let at_ := c.delay.isNone && c.wait == .none
  if (s.pair n).captureDue && at_ && !s.isSplit n && !(s.pair n).blocked then
    s.modPair n fun p => { p with captured := some c, captureDue := false, undoBase := p.undoLead.length }
  else s

/-- A captured checkpoint is committed once every output before it has compared equal; it empties the undo logs of what
came before it, and clears LOGOVF (R136, R137). -/
def State.commit (s : State) (n : Nat) : State :=
  match (s.pair n).captured with
  | none => s
  | some c =>
    (s.modPair n fun p =>
      { p with committed := c, captured := none, undoLead := p.undoLead.drop p.undoBase,
               undoUnder := p.undoUnder.drop p.undoBase, undoBase := 0 }).lowerBit R.USTD_STAT_LOGOVF n

/-- Undo-log entries put back, the newest first (R138). -/
def State.rollback (s : State) (l : List UndoEntry) : State :=
  l.reverse.foldl (fun s e => (s.freshEcc e.1 8).wrBytes e.1 e.2) s

/-- A core with the predictor as BPFLUSH leaves it (R101). -/
def Core.bpFlush (c : Core) : Core := { c with bpDir := [], bpTarget := [], bpReturn := [] }

/-- A copy restored from the committed checkpoint `k` (R136, R138): the counters, pending lines and posted faults that a
checkpoint leaves out, and the inputs, stay; caches and predictor are invalidated. -/
def Core.restored (c k : Core) : Core :=
  { k with bpbr := c.bpbr, bpmis := c.bpmis, bplook := c.bplook, ipend := c.ipend, pf := c.pf,
           pfOvf := c.pfOvf, inputs := c.inputs, delay := none, wait := .none, dcache := [], icache := [], lineBuf := [], dcBad := [], icBad := [],
           run := c.run }.bpFlush

/-- Steps 5 of R138: both local stores rolled back, both copies restored. -/
def State.restorePair (s : State) (n : Nat) : State :=
  let p := s.pair n
  let s := (s.rollback p.undoLead).rollback p.undoUnder
  let s := s.setCore (2 * n) ((s.core (2 * n)).restored p.committed)
  let s := s.setCore (2 * n + 1) ((s.core (2 * n + 1)).restored p.committed)
  s.modPair n fun p => { p with captured := none, undoLead := [], undoUnder := [], undoBase := 0 }

/-! ## Mismatch (R138 to R140, R564) -/

/-- `s` with a mismatch of pair `n` recorded (R138 step 2). -/
def State.mismatchRecord (s : State) (n group lane : Nat) : State :=
  let w := 2 ^ 31 + group * 2 ^ 28 + lane * 2 ^ 21 + s.cue.count.toNat % 2 ^ 16
  let s := s.setReg (R.USTD_MMINFO n) (BitVec.ofNat 32 w)
  let s := (s.raiseBit R.USTD_STAT_MM n).count ⟨R.USTD_MMCNT, 8 * n + 7, 8 * n⟩ 1
  let s := s.irqPulseIf R.USTD_CTRL_MMIRQ baseUSTD
  s.bbxEvent 0x0004 [s.getReg (R.USTD_MMINFO n), BitVec.ofNat 32 n]

/-- `s` with both copies of pair `n` held in reset (R140, R564). -/
def State.pairInReset (s : State) (n : Nat) : State :=
  let off (k : Nat) (s : State) : State := s.setCore k { s.core k with run := .inReset, wait := .none, delay := none }
  (off (2 * n) (off (2 * n + 1) s)).modPair n fun p => { p with blocked := true }

/-- `s` with the set-points that pair `n` has staged and its CUE_DONE record gone (R138 step 4). -/
def State.pairDiscard (s : State) (n : Nat) : State :=
  (s.loopDiscard n).modCue fun c =>
    { c with done := c.done &&& ~~~ BitVec.ofNat 4 (2 ^ n), again := merase c.again n }

/-- A mismatch that does not restart the pair (R140, R564): steps 1 to 4 of R138, and the curtain trigger at once. -/
def State.mismatchFatal (s : State) (n : Nat) : State :=
  let s := ((s.raiseBit R.USTD_STAT_RESTART n).pairDiscard n).pairInReset n
  (s.modPair n fun p => { p with hold := s.inRun, expired := true }).loopHeld.trigger R.SYS_CURTAIN_LOCKSTEP

/-- A mismatch of pair `n` outside test injection (R138): nothing while the pair is split or already held in reset, or on a lane
that the comparator does not catch. -/
def State.mismatch (s : State) (n group lane : Nat) : State :=
  if s.isSplit n || (s.core (2 * n)).run = .inReset || (s.pair n).dead.contains (group, lane) then s
  else
    let s := s.mismatchRecord n group lane
    if (s.getF R.USTD_STAT_RESTART).testBit n || (s.getF R.USTD_STAT_LOGOVF).testBit n then s.mismatchFatal n
    else
      let s := ((s.raiseBit R.USTD_STAT_RESTART n).pairDiscard n).restorePair n
      (s.modPair n fun p =>
        { p with blocked := true, hold := true, holdB := s.cue.count, released := false, expired := false }).loopHeld

/-- The lead is released at the checkpoint (R138 step 6), also where a curtain has ended the restart in between. -/
def State.lockstepRelease (s : State) (n : Nat) : State :=
  if (s.pair n).blocked && (s.core (2 * n)).run != .inReset then
    s.modPair n fun p => { p with blocked := false, released := true }
  else s

/-- `s` with pair `n`'s lockstep hold and restart ended. -/
def State.lockstepEnd (s : State) (n : Nat) : State :=
  ((s.modPair n fun p => { p with hold := false }).lowerBit R.USTD_STAT_RESTART n).loopHeld

/-- No counting write has come by the last cycle of the cue that ends at B + 2 (R139, R564). -/
def State.lockstepExpiry (s : State) (n : Nat) : State :=
  let p := s.pair n
  if p.hold && !p.expired && !s.cue.done.getLsbD n && s.cue.count == p.holdB + 1 then
    match s.sys.dev with
    | .run _ => (s.modPair n fun p => { p with expired := true }).trigger R.SYS_CURTAIN_LOCKSTEP
    | .curtain => (s.trigger R.SYS_CURTAIN_LOCKSTEP).lockstepEnd n
    | _ => s.lockstepEnd n
  else s

/-- A boundary: the hold of pair `n` ends when a counting CUE_DONE was written after the release (R139). -/
def State.lockstepBoundary (s : State) (n : Nat) (counted : Bool) : State :=
  if (s.pair n).hold && (s.pair n).released && counted then s.lockstepEnd n else s

/-- The curtain starts: it ends the holds and restarts (R138, R140), but that of a pair held in reset since a mismatch outside
RUN (R564). -/
def State.lockstepCurtain (s : State) : State :=
  (List.range 4).foldl (fun s n =>
    if (s.getF R.USTD_STAT_RESTART).testBit n && ((s.core (2 * n)).run != .inReset || (s.pair n).hold) then s.lockstepEnd n
    else s) s

/-! ## Agreement buffer and split (R132, R142) -/

/-- An agreement-buffer timeout: both copies take the machine check 0x03 (R132). -/
def State.agreementTimeout (s : State) (n : Nat) : State :=
  if s.isSplit n || (s.pair n).blocked then s
  else (s.raiseBit R.USTD_STAT_TIMEOUT n).machineCheck (Fin.ofNat 12 n) 0x03

/-- Pair `n` is split by a debug halt: the understudy stops (R142). -/
def State.splitPair (s : State) (n : Nat) : State :=
  if s.isSplit n then s
  else
    let s := s.raiseBit R.USTD_STAT_SPLIT n
    let s := s.setCore (2 * n + 1) { s.core (2 * n + 1) with run := .halted }
    s.bbxEvent 0x0005 [BitVec.ofNat 32 n]

/-! ## Injection (R134, R135, R143) -/

/-- The number of lanes of a group (R133). -/
def groupLanes (g : Nat) : Nat :=
  match g with
  | 0 => 41
  | 1 => 44
  | 2 => 72
  | 3 => 120
  | 4 => 43
  | 5 => 18
  | 6 => 17
  | _ => 9

/-- A write to USTD_INJ (R134): the injected lane differs for one compared cycle, which the comparator of a pair that is not
split catches, unless the lane is dead. -/
def State.injWrite (s : State) (d : RegDesc) (a : Nat) (v : Word) : State :=
  let go := v.getLsbD 31
  if !s.bootOrPlaces || (go && !s.flag R.USTD_CTRL_TESTMODE) || groupLanes (fieldOf v 9 7) ≤ fieldOf v 6 0 then
    s.raise R.USTD_STAT_CFGREF
  else
    let s := s.writeTyped d a false v
    if go then
      (s.raise R.USTD_TRES_DONE).setF R.USTD_TRES_CAUGHT (!s.isSplit (fieldOf v 11 10) && !(s.pair (fieldOf v 11 10)).dead.contains (fieldOf v 9 7, fieldOf v 6 0)).toNat
    else s

/-- A register write to USTD (R134, R143). -/
def State.ustdRegWrite (s : State) (d : RegDesc) (a : Nat) (v : Word) : State :=
  match d.id with
  | .USTD_INJ => s.injWrite d a v
  | .USTD_CTRL =>
    if s.bootOrPlaces || v.getLsbD 0 == s.flag R.USTD_CTRL_TESTMODE then s.writeTyped d a false v
    else (s.setF R.USTD_CTRL_MMIRQ (v.getLsbD 1).toNat).raise R.USTD_STAT_CFGREF
  | _ => s.writeTyped d a false v

/-- The first lane of the four pairs that the comparators do not catch: (pair, group, lane). -/
def State.firstDead (s : State) : Option (Nat × Nat × Nat) :=
  (List.range 4).findSome? fun n => (List.range 8).findSome? fun g =>
    ((List.range (groupLanes g)).find? fun l => (s.pair n).dead.contains (g, l)).map fun l => (n, g, l)

/-- The start-up test (R135): each of the 364 lanes of each pair injected once; the first one that is not caught is recorded. -/
def State.startupTest (s : State) : State :=
  let s := s.raise R.USTD_TRES_DONE
  match s.firstDead with
  | none => (s.raise R.USTD_TRES_CAUGHT).lower R.USTD_TRES_FAIL
  | some (n, g, l) =>
    ((((s.lower R.USTD_TRES_CAUGHT).raise R.USTD_TRES_FAIL).setF R.USTD_TRES_PAIR n).setF R.USTD_TRES_GROUP g).setF
      R.USTD_TRES_LANE l

/-! ## Commands -/

/-- LOCKSTEP_MISMATCH (R138). -/
def execLockstepMismatch (pair : Fin 4) (group : BitVec 3) (lane : BitVec 7) (s : State) : Host.Outcome State Fault Refusal :=
  .next (State.settle <| s.mismatch pair group.toNat lane.toNat)

/-- LOCKSTEP_RELEASE (R138). -/
def execLockstepRelease (pair : Fin 4) (s : State) : Host.Outcome State Fault Refusal := .next (State.settle <| s.lockstepRelease pair)

/-- LOCKSTEP_HOLD_EXPIRY (R139, R564). -/
def execLockstepHoldExpiry (pair : Fin 4) (s : State) : Host.Outcome State Fault Refusal := .next (State.settle <| s.lockstepExpiry pair)

/-- AGREEMENT_BUFFER_TIMEOUT (R132). -/
def execAgreementBufferTimeout (pair : Fin 4) (s : State) : Host.Outcome State Fault Refusal :=
  .next (State.settle <| s.agreementTimeout pair)

/-- CHECKPOINT_CAPTURE (R136). -/
def execCheckpointCapture (pair : Fin 4) (s : State) : Host.Outcome State Fault Refusal := .next (State.settle <| s.capture pair)

/-- CHECKPOINT_COMMIT (R136, R137). -/
def execCheckpointCommit (pair : Fin 4) (s : State) : Host.Outcome State Fault Refusal := .next (State.settle <| s.commit pair)

end Sys2Proof.Machine
end

