-- ==== Sys2Proof/Machine/Operands.lean ====
section
/-!
DEFINITION. The operand forms of the Lomer instructions: register classes (R58 to R61, R107), addressing
modes (R67 to R70) and the parts of an access (R116).
What the spec leaves open here: log entry 28.
-/

namespace Sys2Proof.Machine

/-! ## Registers (R58, R107) -/

/-- Data register Dn. -/
def Core.dr (c : Core) (n : Nat) : Word := mget 0 c.d n

/-- `c` with Dn holding `v`. -/
def Core.setD (c : Core) (n : Nat) (v : Word) : Core := { c with d := msetCanon (v == 0) c.d n v }

/-- Address register An; A15 is banked by MODE.TM (R107). -/
def Core.ar (c : Core) (n : Nat) : Addr := if n = 15 then (if c.tm then c.spTask else c.spMachine) else mget 0 c.a n

/-- `c` with An holding `v`. -/
def Core.setA (c : Core) (n : Nat) (v : Addr) : Core :=
  if n = 15 then (if c.tm then { c with spTask := v } else { c with spMachine := v })
  else { c with a := msetCanon (v == 0) c.a n v }

/-- Modifier register Mn. -/
def Core.mr (c : Core) (n : Nat) : Word := mget 0 c.m n

/-- `c` with Mn holding `v`. -/
def Core.setM (c : Core) (n : Nat) (v : Word) : Core := { c with m := msetCanon (v == 0) c.m n v }

/-- Accumulator ACCn. -/
def Core.accr (c : Core) (n : Nat) : Acc := mget 0 c.acc n

/-- `c` with ACCn holding `v`. -/
def Core.setAcc (c : Core) (n : Nat) (v : Acc) : Core := { c with acc := msetCanon (v == 0) c.acc n v }

/-- A data register used as an address operand (R60). -/
def asAddr (v : Word) : Addr := v.signExtend 40

/-- The low and the high word of an address, the high one in bits [7:0]. -/
def addrLow (a : Addr) : Word := a.setWidth 32
def addrHigh (a : Addr) : Word := (a >>> 32).setWidth 32

/-- An address with its low or its high word replaced. -/
def putLow (a : Addr) (v : Word) : Addr := (a.extractLsb' 32 8) ++ v
def putHigh (a : Addr) (v : Word) : Addr := (v.extractLsb' 0 8) ++ (a.extractLsb' 0 32)

/-! ## Fields (R59, R88) -/

/-- The register that an address-class field of the Register or Immediate format names, and whether the field is reserved. -/
def aIdx (f : BitVec 5) : Nat := f.toNat / 2
def aBad (f : BitVec 5) : Bool := f.getLsbD 0

/-- Whether an accumulator or modifier field is reserved. -/
def kBad (f : BitVec 5) : Bool := f.getLsbD 3 || f.getLsbD 4

/-! ## Addressing modes (R67 to R70) -/

/-- The least k with 2^k ≥ `n`. -/
def ceilLog2 (n : Nat) : Nat := ((List.range 41).find? fun k => decide (n ≤ 2 ^ k)).getD 40

/-- Whether a modifier holds a buffer length (R69). -/
def lengthOk (m : Word) : Bool := fieldOf m 31 24 == 0 && m != 0

/-- The circular update of R69. -/
def moduloStep (an : Addr) (m : Word) (step : Int) : Addr :=
  let len : Int := fieldOf m 23 0
  let k := ceilLog2 (fieldOf m 23 0)
  let b := an.toNat / 2 ^ k * 2 ^ k
  let o : Int := (an.toNat % 2 ^ k : Nat) + step
  BitVec.ofInt 40 (b + (if len ≤ o then o - len else if o < 0 then o + len else o))

/-- The lowest `k` bits of `v` in reverse order. -/
def reverseBits (k v : Nat) : Nat := ((List.range k).map fun i => if v.testBit i then 2 ^ (k - 1 - i) else 0).sum

/-- The reverse-carry sum of R70. -/
def bitReverseStep (an : Addr) (m : Word) : Addr :=
  if m = 0 then an
  else
    let k := m.toNat.log2 + 1
    let low := reverseBits k ((reverseBits k (an.toNat % 2 ^ k) + reverseBits k m.toNat) % 2 ^ k)
    BitVec.ofNat 40 (an.toNat / 2 ^ k * 2 ^ k + low)

/-- The access address and the new value of An in an addressing mode (R67); `open_` is what An takes where Mn holds no buffer
length (R69). -/
def addressing (c : Core) (a : Nat) (mode : BitVec 3) (off : BitVec 12) (open_ : Addr) : Addr × Option Addr :=
  let an := c.ar a
  match mode.toNat with
  | 0 => (an + off.signExtend 40, none)
  | 1 => (an, some (an + off.signExtend 40))
  | 2 => (an, some (an + asAddr (c.mr a)))
  | 3 => (an - off.zeroExtend 40, some (an - off.zeroExtend 40))
  | 4 => (an, some (if lengthOk (c.mr a) then moduloStep an (c.mr a) off.toInt else open_))
  | _ => (an, some (bitReverseStep an (c.mr a)))

/-- Whether a Memory format encoding is reserved (R61, R67). -/
def memBad (a : BitVec 4) (mode : BitVec 3) (off : BitVec 12) : Bool :=
  match mode.toNat with
  | 0 | 1 | 3 => false
  | 2 | 5 => decide (8 ≤ a.toNat) || off != 0
  | 4 => decide (8 ≤ a.toNat)
  | _ => true

/-- The bytes of a size field (R67). -/
def sizeBytes (size : BitVec 2) : Nat := 2 ^ size.toNat

/-- An access of `n` bytes as parts that each stay within one aligned 8-byte unit, lowest first (R116). -/
def splitParts : Nat → Addr → Nat → List (Addr × Nat)
  | 0, _, _ => []
  | f + 1, a, n =>
    let k := min n (8 - a.toNat % 8)
    if n = 0 then [] else (a, k) :: splitParts f (a + BitVec.ofNat 40 k) (n - k)

/-- The parts of an access of at most 16 bytes; an access to peripheral space is made as it stands, for R9 to judge (R116). -/
def partsOf (a : Addr) (n : Nat) : List (Addr × Nat) :=
  if regionOf a.toNat = .peripheral then [(a, n)] else splitParts 3 a n

/-- Bytes given to the parts of an access. -/
def giveParts : List (Addr × Nat) → List Byte → List (Addr × List Byte)
  | [], _ => []
  | (a, n) :: t, l => (a, l.take n) :: giveParts t (l.drop n)

end Sys2Proof.Machine
end

