-- ==== Sys2Proof/Machine/Prog.lean ====
section
/-!
DEFINITION. The program store (R171 to R192): reads, the command sequence, program, erase, OTP and erase suspend.
What the spec leaves open here: log entries 6, 7 and 32.
-/

namespace Sys2Proof.Machine

/-- The base of the program store (R171). -/
def flsBase : Nat := 0x0200000000

/-- The bank of a program-store address (R171). -/
def flsBank (a : Nat) : Nat := (a - flsBase) / 0x40000000

/-- The block, 0 to 1023 over the four banks, of a program-store address (R171). -/
def flsBlock (a : Nat) : Nat := (a - flsBase) / 0x400000

/-- The page, 0 to 262143 over the four banks, of a program-store address (R171). -/
def flsPage (a : Nat) : Nat := (a - flsBase) / 0x4000

/-- `s` with the program-store structure changed. -/
def State.modFls (s : State) (f : Fls → Fls) : State := { s with fls := f s.fls }

/-- Whether an operation runs (R181). -/
def State.flsBusy (s : State) : Bool := s.fls.op.isSome

/-- Whether the bank that holds `a` is busy (R179): a program or erase of it runs; an OTP operation makes no bank busy
(R190). -/
def State.flsBankBusy (s : State) (a : Nat) : Bool :=
  match s.fls.op with
  | none => false
  | some o => o.kind ≠ 3 && flsBank o.target == flsBank a

/-- Whether `a` lies in a block whose erase is suspended (R184). -/
def State.flsSuspended (s : State) (a : Nat) : Bool :=
  match s.fls.susp with
  | none => false
  | some o => flsBlock o.target == flsBlock a

/-- Whether no cache may serve or allocate a line that holds `a` (R179, R184). -/
def State.flsUncached (s : State) (a : Nat) : Bool := regionOf a == .program && (s.flsBankBusy a || s.flsSuspended a)

/-- `s` with an uncorrectable program-store read at `a` reported (R173). -/
def State.flsUe (s : State) (a : Nat) : State :=
  let s := if s.flag R.FLS_STAT_UE then s
    else (s.setF R.FLS_UEADDRL_ADDR (a % 2 ^ 32)).setF R.FLS_UEADDRH_ADDR (a / 2 ^ 32)
  s.raise R.FLS_STAT_UE

/-- The byte of the program store at `a`: a free value in a page whose contents are undefined (R186). -/
def State.flsByte (s : State) (a : Nat) : Byte :=
  match mfind s.fls.undef (flsPage a) with
  | none => s.rd8 a
  | some e => Config.flashByte e a

/-- Whether a read at `a` of an undefined page ends in an uncorrectable error (R186). -/
def State.flsBad (s : State) (a : Nat) : Bool :=
  match mfind s.fls.undef (flsPage a) with
  | none => false
  | some e => Config.flashBad e (flsPage a)

/-- Whether a read of `n` bytes at `a`, a suspended block apart, meets what BCH cannot correct (R173, R186). -/
def State.flsUncorrectable (s : State) (a n : Nat) : Bool :=
  (unitsOf a n).any fun u => !s.flsSuspended u && (s.eccAt u == 2 || s.flsBad u)

/-- Whether a read of `n` bytes at `a` is one that BCH corrects (R173). -/
def State.flsCorrected (s : State) (a n : Nat) : Bool := (unitsOf a n).any fun u => !s.flsSuspended u && s.eccAt u == 1

/-- Whether a read of `n` bytes at `a` touches a bank that is busy, and whether it touches a suspended block. -/
def State.flsHitsBusy (s : State) (a n : Nat) : Bool := s.flsBankBusy a || s.flsBankBusy (a + n - 1)
def State.flsHitsSuspended (s : State) (a n : Nat) : Bool := s.flsSuspended a || s.flsSuspended (a + n - 1)

/-- `s` with a read at `a` of a suspended block reported (R184). -/
def State.flsSbr (s : State) (a : Nat) : State :=
  let s := if s.flag R.FLS_STAT_SBR then s
    else (s.setF R.FLS_SBRADDRL_ADDR (a % 2 ^ 32)).setF R.FLS_SBRADDRH_ADDR (a / 2 ^ 32)
  s.raise R.FLS_STAT_SBR

/-- Read `n` bytes of the program store, at most a page (R173, R179, R184): a corrected read counts once, and the addresses that
are latched are the read's. -/
def State.flsRead (s : State) (a n : Nat) : State × RdResult :=
  if s.flsHitsBusy a n then (s.raise R.FLS_STAT_BUSYHIT, .busError)
  else
    let s := if s.flsHitsSuspended a n then s.flsSbr (if s.flsSuspended a then a else (a + n - 1) / 0x400000 * 0x400000) else s
    if s.flsUncorrectable a n then (s.flsUe a, .busError)
    else
      let s := if s.flsCorrected a n then s.count R.FLS_CECNT_CNT 1 else s
      (s, .ok ((List.range n).map fun i => if s.flsSuspended (a + i) then 0xFF#8 else s.flsByte (a + i)))

/-! ## The command sequence (R174 to R176) -/

/-- A refused command or write: CMDREF, CAUSE, and the sequence starts again (R176). -/
def State.flsRefuse (s : State) (cause : Nat) : State :=
  ((s.raise R.FLS_STAT_CMDREF).setF R.FLS_STAT_CAUSE cause).modFls fun f => { f with steps := 0 }

/-- A write at `a` that R174 does not accept: CMDREF; between two steps it also breaks the sequence (CAUSE 0x1); a busy bank
records it as any access (R179). -/
def State.flsForeign (s : State) (a : Nat) : State :=
  let s := if s.flsBankBusy a then s.raise R.FLS_STAT_BUSYHIT else s
  if s.fls.steps = 0 then s.raise R.FLS_STAT_CMDREF else s.flsRefuse 1

/-- Whether the integrator may program OTP unit `u` (R189). -/
def otpIntegrator (u : Nat) : Bool :=
  (4 ≤ u && u < 8) || (14 ≤ u && u < 32) || (256 ≤ u && u < 512)

/-- Why step 3 with word `v` at `a` is refused; 0 when it is not (R176). The order of the checks is the model's (log
entry 7). -/
def State.flsVerdict (s : State) (a v : Nat) : Nat :=
  let unit := s.getF R.FLS_OTPOFF_UNIT
  if s.flsBusy then 2
  else if s.fls.susp.isSome then 8
  else if !(v == 0xA0 || v == 0x80 || v == 0xC0) then 3
  else if v == 0xA0 && a % 0x4000 != 0 then 3
  else if v == 0x80 && a % 0x400000 != 0 then 3
  else if v == 0xC0 && flsBank a != 0 then 3
  else if !s.flag R.FLS_CTRL_WEN then 5
  else if s.flag R.SYS_PWR_PFW then 7
  else if (s.getF R.FLS_WP_WP).testBit (flsBank a) then 4
  else if v == 0xC0 && !otpIntegrator unit then 4
  else if v == 0xC0 && !s.bootOrPlaces then 0xB
  else if v == 0xC0 && mget false s.fls.otpDone unit then 9
  else if v == 0xA0 && flsPage a % 256 < mget 0 s.fls.pointer (flsBlock a) then 6
  else 0

/-- `s` with what UPD has verified in bank `b` forgotten (R522). -/
def State.updForget (s : State) (b : Nat) : State :=
  if b < 2 then
    (({ s with upd := { s.upd with passed := merase s.upd.passed b } }).lower (R.UPD_IMGS_HDROK b)).lower (R.UPD_IMGS_ALLOK b)
  else s

/-- `s` with the operation of an accepted step 3 started (R175, R178, R181, R522). -/
def State.flsStart (s : State) (a v : Nat) : State :=
  let kind := if v = 0xA0 then 1 else if v = 0x80 then 2 else 3
  let s := if kind = 3 then s else s.updForget (flsBank a)
  let o : FlsOp := ⟨kind, a, s.getF R.FLS_OTPOFF_UNIT, 0⟩
  let s := s.modFls fun f =>
    { f with steps := 0, op := some o, suspReq := false,
             pointer := if kind = 1 then mset f.pointer (flsBlock a) (flsPage a % 256 + 1) else f.pointer }
  ((s.raise R.FLS_STAT_BUSY).setF R.FLS_STAT_OP kind).setF R.FLS_STAT_OPBANK (flsBank a)

/-- An aligned 32-bit write of `v` at program-store address `a` by master `w`: one step of a command sequence (R174 to
R176, R179); the Bool says whether it was accepted. -/
def State.flsWrite (s : State) (w : Writer) (a v : Nat) : State × Bool :=
  if !w.isHouse then (s.flsForeign a, false)
  else if s.flsBankBusy a then (s.raise R.FLS_STAT_BUSYHIT, false)
  else
    let off := (a - flsBase) % 0x40000000
    let f := s.fls
    let late := f.steps = 3 ∨ (f.steps ≠ 0 ∧ f.seqClk + 256 < s.clk)
    let other := f.steps ≠ 0 ∧ (f.seqBy ≠ w.num ∨ f.seqBank ≠ flsBank a)
    if late ∨ other then (s.flsRefuse 1, false)
    else
      match f.steps with
      | 0 =>
        if v = 0xAA ∧ off = 0x5550 then
          (s.modFls fun f => { f with steps := 1, seqBank := flsBank a, seqBy := w.num, seqClk := s.clk }, true)
        else (s.flsRefuse 1, false)
      | 1 =>
        if v = 0x55 ∧ off = 0x2AA8 then (s.modFls fun f => { f with steps := 2, seqClk := s.clk }, true)
        else (s.flsRefuse 1, false)
      | _ =>
        let c := s.flsVerdict a v
        if c = 0 then (s.flsStart a v, true) else (s.flsRefuse c, false)

/-! ## Operations in the die (R182 to R186) -/

/-- The bytes of FLS_PGBUF (R177). -/
def State.pgbuf (s : State) : List Byte := (List.range 4096).flatMap fun i => bytesLE 4 (s.getReg (R.FLS_PGBUF i)).toNat

/-- `s` with every listed byte of [a, a + n) taken out of memory: the range reads as erased. -/
def State.eraseRange (s : State) (a n : Nat) : State :=
  { s with mem := s.mem.filter fun c => !(a ≤ c.1 && c.1 < a + n) }

/-- `s` with program-store pages `p` to `p + n - 1` defined or, with `bad`, undefined from now on (R186). -/
def State.setUndef (s : State) (bad : Bool) (p n : Nat) : State :=
  let e := s.freeCtr
  let s := if bad then { s with freeCtr := s.freeCtr + 1 } else s
  s.modFls fun f =>
    { f with undef := (List.range n).foldl (fun m i => if bad then mset m (p + i) e else merase m (p + i)) f.undef }

/-- `s` with a block erased, undefined with `err`, and its write pointer at page 0 (R178). -/
def State.eraseBlock (s : State) (a : Nat) (err : Bool) : State :=
  let s := ((s.eraseRange a 0x400000).freshEcc a 0x400000).setUndef err (flsPage a) 256
  s.modFls fun f => { f with pointer := mset f.pointer (flsBlock a) 0 }

/-- `s` with the effect of a completed operation; after a failed verify the target is undefined (R182). An erase of block 0
of an image bank also erases its activation block (R519). -/
def State.flsEffect (s : State) (o : FlsOp) (err : Bool) : State :=
  match o.kind with
  | 1 => ((s.freshEcc o.target 0x4000).wrBytes o.target s.pgbuf).setUndef err (flsPage o.target) 1
  | 2 =>
    let s := s.eraseBlock o.target err
    if o.target = flsBase ∨ o.target = flsBase + 0x40000000 then s.eraseBlock (o.target + 0x3FC00000) err else s
  | _ =>
    s.modFls fun f =>
      { f with otpDone := mset f.otpDone o.unit true,
               otp := (s.pgbuf.take 8).zipIdx.foldl (fun m b => mset m (8 * o.unit + b.2) b.1) f.otp }

/-- `s` with the running operation completed (R182, R183). -/
def State.flsComplete (s : State) (err : Bool) : State :=
  match s.fls.op with
  | none => s
  | some o =>
    let s := (s.flsEffect o err).modFls fun f => { f with op := none, suspReq := false }
    let s := (s.lower R.FLS_STAT_BUSY).raise R.FLS_STAT_DONE
    if err then s.raise R.FLS_STAT_ERR else s

/-- The lower page that pairs with upper page `p` of a block, if `p` is an upper page (R185). -/
def pairedLower (p : Nat) : Option Nat :=
  if p = 2 then some 0 else if p = 255 then some 253 else if p % 2 = 0 ∧ 4 ≤ p then some (p - 3) else none

/-- `s` with a running or suspended operation cut short by the loss of power (R186). -/
def State.flsCut (s : State) : State :=
  let cut (s : State) (o : FlsOp) : State :=
    match o.kind with
    | 1 =>
      let s := s.setUndef true (flsPage o.target) 1
      match pairedLower (flsPage o.target % 256) with
      | none => s
      | some l => s.setUndef true (flsPage o.target - flsPage o.target % 256 + l) 1
    | 2 => s.setUndef true (flsPage o.target) 256
    | _ => s
  let s := match s.fls.op with | none => s | some o => cut s o
  let s := match s.fls.susp with | none => s | some o => cut s o
  s.modFls fun f => { f with op := none, susp := none, suspReq := false, steps := 0 }

/-- A SUSPEND write (R183). -/
def State.flsSuspend (s : State) : State :=
  match s.fls.op with
  | some o =>
    if o.kind = 2 ∧ o.suspends < 64 then s.modFls fun f => { f with suspReq := true }
    else (s.raise R.FLS_STAT_CMDREF).setF R.FLS_STAT_CAUSE 0xA
  | none => (s.raise R.FLS_STAT_CMDREF).setF R.FLS_STAT_CAUSE 0xA

/-- The erase pauses (R183). -/
def State.flsPause (s : State) : State :=
  match s.fls.op with
  | some o =>
    if s.fls.suspReq then
      let s := s.modFls fun f => { f with op := none, susp := some { o with suspends := o.suspends + 1 }, suspReq := false }
      (s.lower R.FLS_STAT_BUSY).raise R.FLS_STAT_SUSP
    else s
  | none => s

/-- A suspended erase continues (R183, R188). -/
def State.flsContinue (s : State) : State :=
  match s.fls.susp with
  | some o => ((s.modFls fun f => { f with op := some o, susp := none }).raise R.FLS_STAT_BUSY).lower R.FLS_STAT_SUSP
  | none => (s.raise R.FLS_STAT_CMDREF).setF R.FLS_STAT_CAUSE 0xA

/-- A register write to FLS (R177, R183, R192); the Bool says whether the bus accepted it. -/
def State.flsRegWrite (s : State) (d : RegDesc) (a : Nat) (v : Word) : State × Bool :=
  match d.id with
  | .FLS_PGBUF => if s.flsBusy then (s.flsRefuse 2, false) else (s.setReg a v, true)
  | .FLS_CTRL =>
    let s := s.writeTyped d a false v
    let s := if v.getLsbD 2 then s.flsSuspend else s
    (if v.getLsbD 3 then s.flsContinue else s, true)
  | .FLS_WP => (s.writeTyped d a (s.flag R.FLS_WP_LOCK) v, true)
  | _ => (s.writeTyped d a false v, true)

end Sys2Proof.Machine
end

