-- ==== Sys2Proof/Machine/Window.lean ====
section
/-!
DEFINITION. What a node of the Byrov fabric sends (R502, R503, R505, R506, R511): addresses and routing, blocks, packets, and
accesses through the remote windows.
What the spec leaves open here: log entries 14 and 47.
-/

namespace Sys2Proof.Machine

/-- `s` with the fabric changed. -/
def State.modByr (s : State) (f : Byr → Byr) : State := { s with byr := f s.byr }

/-- Port `q`. -/
def State.byrPort (s : State) (q : Nat) : ByrPort := mget {} s.byr.ports q

/-- `s` with port `q` changed. -/
def State.modBport (s : State) (q : Nat) (f : ByrPort → ByrPort) : State :=
  s.modByr fun b => { b with ports := mmod {} b.ports q f }

/-! ## Addresses and routing (R502, R503) -/

/-- The digits a, b, c of a node address. -/
def byrA (n : Nat) : Nat := n / 4096 % 64
def byrB (n : Nat) : Nat := n / 64 % 64
def byrC (n : Nat) : Nat := n % 64

/-- Whether an address names a node: (a, 0, c) with c not 0 names none (R502). -/
def byrNode (n : Nat) : Bool := !(byrB n == 0 && byrC n != 0)

/-- Whether a port is UP. -/
def State.byrUp (s : State) (q : Nat) : Bool := s.getF (R.BYR_PORT_LINK q) == 3

/-- The own address. -/
def State.byrSelf (s : State) : Nat := s.getF R.BYR_ADDR_ADDR

/-- East towards a higher position, west otherwise; the shorter way in a closed root ring (R503). -/
def State.towards (s : State) (root : Bool) (p q : Nat) : Nat :=
  if root && Config.byrClosed then
    let way := if (q + 64 - p) % 64 ≤ (p + 64 - q) % 64 then 0 else 1
    if s.byrUp way then way else 1 - way
  else if p < q then 0 else 1

/-- The port by which a packet for `dst` leaves, if it is not for this node (R503). -/
def State.byrRoute (s : State) (dst : Nat) : Option Nat :=
  let n := s.byrSelf
  if dst = n then none
  else
    let (a, b, c) := (byrA n, byrB n, byrC n)
    if b = 0 then some (if byrA dst = a then 2 else s.towards true a (byrA dst))
    else if c = 0 then
      some (if byrA dst = a ∧ byrB dst = b then 2
        else if byrA dst = a ∧ byrB dst ≠ 0 then s.towards false b (byrB dst) else 1)
    else some (if byrA dst = a ∧ byrB dst = b ∧ byrC dst ≠ 0 then s.towards false c (byrC dst) else 1)

/-- Whether port `q` is the upstream port (R507). -/
def State.byrUpstream (s : State) (q : Nat) : Bool := s.byrRoute 0 == some q

/-! ## Blocks (R504, R505) -/

/-- A control block of a type and its content. -/
def ctlBlk (typ content : Nat) : Blk := ⟨true, BitVec.ofNat 64 (content * 256 + typ)⟩

/-- One bit through the scrambler x^58 + x^39 + 1 (R273): the state with the scrambled bit, lowest, shifted in. -/
def scrambleBit (scr : Nat) (bit : Bool) : Nat :=
  (scr % 2 ^ 57 * 2) + ((bit != scr.testBit 38) != scr.testBit 57).toNat

/-- A 64-bit payload through the scrambler, the lowest bit first: the state after it, and the bits sent. -/
def scrambled (scr : Nat) (v : BitVec 64) : Nat × Nat :=
  (List.range 64).foldl (fun p i =>
    let t := scrambleBit p.1 (v.getLsbD i)
    (t, p.2 + t % 2 * 2 ^ i)) (scr, 0)

/-- The 66 bits of block `b` on a lane: the sync header, 0b01 for data and 0b10 for control, not scrambled, and the scrambled payload
(R273); with the scrambler's state after it. -/
def blkBits (scr : Nat) (b : Blk) : Nat × Nat :=
  let p := scrambled scr b.payload
  (p.1, (if b.ctl then 2 else 1) + 4 * p.2)

/-- Bytes packed into data blocks, byte 0 first, the last block padded with zeros. -/
def dataBlks (l : List Byte) : List Blk :=
  (List.range ((l.length + 7) / 8)).map fun i => ⟨false, BitVec.ofNat 64 (leAt l (8 * i) 8)⟩

/-- The blocks of a packet (R505): header, data, CRC-32C of the content and the data. -/
def pktBlks (dst src kind tag : Nat) (data : List Byte) : List Blk :=
  let d := dataBlks data
  let content := dst * 2 ^ 38 + src * 2 ^ 20 + kind * 2 ^ 16 + d.length % 256 * 256 + tag % 256
  let crc := crc32cFull (bytesLE 7 content ++ d.flatMap fun b => bytesLE 8 b.payload.toNat)
  ctlBlk 0x4B content :: d ++ [⟨false, BitVec.ofNat 64 crc⟩]

/-- `s` with blocks waiting on port `q`, if its link lets them through. -/
def State.byrQueue (s : State) (q : Nat) (l : List Blk) : State :=
  if s.byrUp q || s.getF (R.BYR_PORT_LINK q) == 2 then s.modBport q fun p => { p with out := p.out ++ l } else s

/-- `s` with blocks sent towards node `dst`. -/
def State.byrSend (s : State) (dst : Nat) (l : List Blk) : State :=
  match s.byrRoute dst with
  | some q => s.byrQueue q l
  | none => s

/-- `s` with a packet sent (R506). -/
def State.byrPkt (s : State) (dst kind tag : Nat) (data : List Byte) : State :=
  s.byrSend dst (pktBlks dst s.byrSelf kind tag data)

/-! ## Remote accesses at the sender (R511) -/

/-- The node and its address that a window address reaches, if the window is open. -/
def State.byrWindow (s : State) (a : Nat) : Option (Nat × Nat) :=
  let w := (a - 0x8000000000) / 0x80000000
  if s.flag (R.BYR_WINL_OPEN w) then
    some (s.getF (R.BYR_WINL_NODE w), s.getF (R.BYR_WINH_BASE w) * 2 ^ 31 + (a - 0x8000000000) % 2 ^ 31)
  else none

/-- The lowest tag that no access without an answer has. -/
def State.byrTag (s : State) : Nat :=
  ((List.range 256).find? fun t => !s.byr.remote.any fun r => r.tag == t).getD 0

/-- An access through a window leaves as WR (with bytes) or RD; `none`: the window is closed. -/
def State.byrAccess (s : State) (who : RemoteBy) (a : Nat) (n : Nat) (data : Option (List Byte)) : Option State :=
  match s.byrWindow a with
  | none => none
  | some (node, ra) =>
    let tag := s.byrTag
    let s := s.modByr fun b => { b with remote := b.remote ++ [⟨tag, who, data.isSome, BitVec.ofNat 40 a, n⟩] }
    let block0 := bytesLE 8 (ra % 2 ^ 40 + (n - 1) % 256 * 2 ^ 40)
    some (s.byrPkt node (if data.isSome then 1 else 2) tag (block0 ++ data.getD []))

end Sys2Proof.Machine
end

