-- ==== Sys2Proof/Machine/Exception.lean ====
section
/-!
DEFINITION. Taking an exception, a machine check or an interrupt, and returning from them (R107 to R123).
What the spec leaves open here: log entry 28.
-/

namespace Sys2Proof.Machine

/-- What an exception entry records (R111, R124): vector, cause, INFO, the access marks, the fault addresses that the
exception sets, the instruction word for a synchronous exception, the return address and the new CPL. -/
structure Exc where
  vec : Nat
  cause : Nat
  info : Nat := 0
  wr : Bool := false
  partialSt : Bool := false
  eaddr : Option Addr := none
  eaddr2 : Option Addr := none
  sync : Bool := true
  word : Word := 0
  ret : Addr := 0
  ds : Bool := false
  cpl : Nat := 15
  deriving DecidableEq, Repr

/-- The value of ESTAT that an entry writes. -/
def Exc.estat (e : Exc) (tm : Bool) : Word :=
  BitVec.ofNat 32 (e.info % 256 * 2 ^ 24 + e.cause * 2 ^ 16 + e.partialSt.toNat * 2 ^ 15 + e.ds.toNat * 2 ^ 14
    + e.wr.toNat * 2 ^ 13 + tm.toNat * 2 ^ 12 + e.vec)

/-- The frame's second word (R111). -/
def frameWord1 (c : Core) (e : Exc) : Nat :=
  c.cpl.toNat * 2 ^ 12 + c.ie.toNat * 2 ^ 10 + e.ds.toNat * 2 ^ 9 + c.tm.toNat * 2 ^ 8 + e.ret.toNat / 2 ^ 32

/-- The frame's 16 bytes (R111). -/
def frameBytes (c : Core) (e : Exc) : List Byte :=
  bytesLE 4 (e.ret.toNat % 2 ^ 32) ++ bytesLE 4 (frameWord1 c e) ++ bytesLE 4 c.flags.toWord.toNat
    ++ bytesLE 4 c.estat.toNat

/-- The regions that the data cache holds (R94). -/
def cachedRegion (a : Nat) : Bool :=
  match regionOf a with
  | .program | .working | .dram => true
  | _ => false

/-- `l` with `v` in place from position `o`. -/
def overlay (l : List Byte) (o : Nat) (v : List Byte) : List Byte := l.take o ++ v ++ l.drop (o + v.length)

/-- A store of the core writes through: a line that the data cache holds takes the bytes too (R94). -/
def Core.dcStore (c : Core) (a : Nat) (v : List Byte) : Core :=
  match mfind c.dcache (a / 64) with
  | some l => { c with dcache := mset c.dcache (a / 64) (overlay l (a % 64) v) }
  | none => c

/-- A fault of a posted store leaves for hart `h` (R117). -/
def State.flightFault (s : State) (h : Hart) (p : PostedFault) : State :=
  { s with postedFlight := s.postedFlight ++ [(coreOf h, p)] }

/-- What a write to memory by a core's port ends in. -/
inductive PortWrite where
  | done
  | fault
  | mismatch
  deriving DecidableEq, Repr

/-- Whether a read-modify-write of `n` bytes at `a` in the own local store of a pair that compares its copies meets an error that
cannot be corrected in one copy only (R133, R149). -/
def State.oneCopyBad (s : State) (h : Hart) (a n : Nat) : Bool :=
  decide (h.val < 4) && !s.isSplit h.val && regionOf a == .localStore (coreOf h) &&
    (s.partialBad a n != s.partialBad (a + 0x40000) n)

/-- Bytes written to memory by hart `h`, peripheral space and the program store apart: the stores to LPDDR5X and to the Byrov
windows are posted, so that their faults come later (R94, R117). -/
def State.memStore (s : State) (h : Hart) (a : Addr) (l : List Byte) : State × PortWrite :=
  let p := ownAlias (coreOf h) a.toNat
  if regionOf p = .remote then
    match s.byrAccess (.hart h.val) p l.length (some l) with
    | none => (s.flightFault h ⟨a, l.length, true⟩, .done)
    | some s => (s, .done)
  else
    let differ := s.oneCopyBad h p l.length
    match s.memWrite (.core h 0) p l with
    | (s, true) => (if cachedRegion p then s.modHart h fun c => c.dcStore p l else s, .done)
    | (s, false) =>
      if regionOf p = .dram then (s.flightFault h ⟨a, l.length, false⟩, .done)
      else (s, if differ then .mismatch else .fault)

/-- A part of the frame of an entry, or all of it: the program store and peripheral space refuse it (R9, R174). -/
def State.frameWrite (s : State) (h : Hart) : List (Addr × List Byte) → State × PortWrite
  | [] => (s, .done)
  | (a, l) :: t =>
    match regionOf a.toNat with
    | .program => (s.flsForeign a.toNat, .fault)
    | .peripheral => (s, .fault)
    | _ =>
      match s.memStore h a l with
      | (s, .done) => s.frameWrite h t
      | r => r

/-- The core state after an entry whose frame is written (R111 steps 1 to 4). -/
def Core.entered (c : Core) (e : Exc) : Core :=
  { c with spMachine := c.spMachine - 16,
           estat := e.estat c.tm, epc := e.ret,
           eaddr := e.eaddr.getD c.eaddr, eaddr2 := e.eaddr2.getD c.eaddr2,
           einstr := if e.sync then e.word else 0,
           tm := false, cpl := BitVec.ofNat 4 e.cpl, holdCnt := c.holdOf e.vec,
           pc := c.vbase + BitVec.ofNat 40 (16 * e.vec), delay := none, wait := .none }

/-- Entry to a vector other than MCHK (R111); a frame write that faults is the machine check FRAME, A15 unchanged (R112). In a
posted region the write's fault is a posted one and the entry goes on (R117, DEDUCED, log entry 28). -/
def State.enter (s : State) (h : Hart) (e : Exc) : State :=
  let c := s.hart h
  match s.frameWrite h (giveParts (partsOf (c.spMachine - 16) 16) (frameBytes c e)) with
  | (s, .done) => s.setHart h ((s.hart h).entered e)
  | (s, .fault) => s.machineCheck h 0x02
  | (s, .mismatch) => s.mismatch h.val 7 5

/-- A synchronous exception of the instruction at the hart's pc: the return address is that instruction, or the branch
when it stands in a delay slot (R111, R118). -/
def State.raiseExc (s : State) (h : Hart) (e : Exc) : State :=
  let c := s.hart h
  match c.delay with
  | some d => s.enter h { e with ret := d.branch, ds := true }
  | none => s.enter h { e with ret := c.pc, ds := false }

/-- RSVD (R86). -/
def State.rsvd (s : State) (h : Hart) (word : Word) : State := s.raiseExc h { vec := 1, cause := 0x01, word := word }

/-- ILLDS (R74). -/
def State.illds (s : State) (h : Hart) (word : Word) : State := s.raiseExc h { vec := 2, cause := 0x02, word := word }

/-- ILLOOP (R78). -/
def State.illoop (s : State) (h : Hart) (word : Word) : State := s.raiseExc h { vec := 2, cause := 0x03, word := word }

/-- PRIV (R106). -/
def State.priv (s : State) (h : Hart) (word : Word) : State := s.raiseExc h { vec := 3, cause := 0x05, word := word }

/-- IFETCH (R93): cause IBUS or IREGION at fetch address `a`; no word was fetched, and EINSTR is 0 (DESIGN CHOICE, log entry
28). -/
def State.ifetch (s : State) (h : Hart) (cause : Nat) (a : Addr) : State :=
  s.raiseExc h { vec := 4, cause := cause, eaddr := some a }

/-- DBUS (R125): cause DBUS, DPERM or DALIGN at data address `a`. -/
def State.dbus (s : State) (h : Hart) (word : Word) (cause : Nat) (wr : Bool) (a : Addr) : State :=
  s.raiseExc h { vec := 5, cause := cause, wr := wr, eaddr := some a, word := word }

/-- DBUS for the second half of a split store: the first half stays written (R116). -/
def State.dbusPartial (s : State) (h : Hart) (word : Word) (cause : Nat) (a a2 : Addr) : State :=
  s.raiseExc h
    { vec := 5, cause := cause, wr := true, partialSt := true, eaddr := some a, eaddr2 := some a2, word := word }

/-- A bus access by `w` that ended in a bus error, or that TACC refuses, as `cause` says: a core takes DBUS (R23, R106, R125);
other masters see the error as their own chapter states. -/
def State.accessFault (s : State) (w : Writer) (cause : Nat) (wr : Bool) (a : Addr) : State :=
  match w with
  | .core h word => s.dbus h word cause wr a
  | _ => s

/-! ## Interrupts (R109 to R111, R117) -/

/-- The priority of interrupt line `l` (R124). -/
def Core.prio (c : Core) (l : Nat) : Nat := (mget 0 c.iprio (l / 8)).toNat / 2 ^ (4 * (l % 8)) % 16

/-- Whether line `l` is takeable (R110). -/
def Core.takeable (c : Core) (l : Nat) : Bool :=
  c.ipend.getLsbD l && c.ien.getLsbD l && c.ie && decide (c.cpl.toNat < c.prio l) && c.holdCnt == 0

/-- Whether POSTED_FAULT is takeable (R110). -/
def Core.postedTakeable (c : Core) : Bool := !c.pf.isEmpty && c.holdCnt == 0 && decide (c.cpl.toNat < 15)

/-- The takeable line of highest priority, the lowest number among equals (R110). -/
def Core.bestLine (c : Core) : Option Nat :=
  (List.range 48).foldl (fun b l =>
    if c.takeable l then
      match b with
      | none => some l
      | some k => if c.prio k < c.prio l then some l else some k
    else b) none

/-- Whether an enabled interrupt is pending, as WFE sees it (R79): a line or POSTED_FAULT that is takeable. -/
def Core.intPending (c : Core) : Bool := c.postedTakeable || c.bestLine.isSome

/-- `s` with the interrupt or POSTED_FAULT that R110 puts first taken at hart `h`, whose next instruction stands at its
pc. -/
def State.takeInterrupt (s : State) (h : Hart) : State :=
  let c := s.hart h
  if c.postedTakeable then s.enter h { vec := 6, cause := 0x18, sync := false, ret := c.pc }
  else
    match c.bestLine with
    | some l => s.enter h { vec := 16 + l, cause := 0x40, info := l, sync := false, ret := c.pc, cpl := c.prio l }
    | none => s

/-- `s` with a posted fault arriving at hart `h`: queued, or discarded with OVF when four are queued (R117). -/
def State.postFault (s : State) (h : Hart) (p : PostedFault) : State :=
  s.modHart h fun c => if c.pf.length < 4 then { c with pf := c.pf ++ [p] } else { c with pfOvf := true }

/-- RFE with aux 1 (R122). -/
def Core.mcReturn (c : Core) : Core :=
  { c with pc := c.mcepc, flags := flagsOfWord c.mcflags, tm := c.mcstat.getLsbD 8, mca := false, holdCnt := 0,
           delay := none }

/-- RFE with aux 0 from the frame's four words (R113). -/
def Core.rfeReturn (c : Core) (w0 w1 w2 w3 : Nat) : Core :=
  { c with pc := BitVec.ofNat 40 (w0 + w1 % 256 * 2 ^ 32), flags := flagsOfWord (BitVec.ofNat 32 w2),
           tm := w1.testBit 8, ie := w1.testBit 10, cpl := BitVec.ofNat 4 (w1 / 2 ^ 12), estat := BitVec.ofNat 32 w3 &&& 0xFFFFF03F#32,
           spMachine := c.spMachine + 16, holdCnt := 0, delay := none }

end Sys2Proof.Machine
end

