-- ==== Sys2Proof/Machine/Jrnl.lean ====
section
/-!
DEFINITION. The work journal (R468 to R488): order and swath records in PMEM, the capture table and the commit vector,
accept tokens, defect reports, seals, the scan of BOOT.
What the spec leaves open here: log entry 45.
-/

namespace Sys2Proof.Machine

/-- `s` with the journal structure changed. -/
def State.modJrnl (s : State) (f : Jrnl → Jrnl) : State := { s with jrnl := f s.jrnl }

/-! ## Layout in PMEM (R476 to R478) -/

/-- PMEM offsets of the header, the commit vector, the swath ring, the order ring and the seal ring. -/
def jrnlBase : Nat := 0x100000
def jrnlCv : Nat := jrnlBase + 0x1000
def jrnlSwaths : Nat := jrnlBase + 0x9000
def jrnlOrders : Nat := jrnlBase + 0xD000
def jrnlSeals : Nat := jrnlBase + 0x20000

/-- PMEM offsets of the 8-byte units of the header (R476): next ASN, next JSN, last accepted and last retired order. -/
def hdrAsn : Nat := jrnlBase + 0x10
def hdrJsn : Nat := jrnlBase + 0x18
def hdrAcc : Nat := jrnlBase + 0x20
def hdrRet : Nat := jrnlBase + 0x28

/-- PMEM offset of the record of swath JSN `j`, and of the record of order `q`. -/
def swathRec (j : Nat) : Nat := jrnlSwaths + j % 256 * 64
def orderRec (q : Nat) : Nat := jrnlOrders + q % 1024 * 64

/-- `n` bytes at PMEM offset `o`, as a number. -/
def State.pmRd (s : State) (o n : Nat) : Nat := s.rdNat (pmemBase + o) n

/-- `s` with an 8-byte header unit stored. -/
def State.hdrSet (s : State) (o v : Nat) : State := s.pmemStore o (bytesLE 8 v)

/-- The state nibble of the record at offset `o`; 0, free, where its CRC fails (R478, R480). -/
def State.recState (s : State) (o : Nat) : Nat :=
  let st := s.pmRd o 4 / 2 ^ 28
  if st = 0 then 0
  else if crc32cFull (s.rdBytes (pmemBase + o + 4) 56) = s.pmRd (o + 0x3C) 4 then st else 0

/-- `s` with a record stored: body and CRC first, the state word last (R478). -/
def State.recStore (s : State) (o state : Nat) (body : List Byte) : State :=
  (s.pmemStore (o + 4) (body ++ bytesLE 4 (crc32cFull body))).pmemStore o (bytesLE 4 state)

/-- The body of the record at offset `o`. -/
def State.recBody (s : State) (o : Nat) : List Byte := s.rdBytes (pmemBase + o + 4) 56

/-- `l` with the bytes from offset `i` replaced. -/
def patchAt (l : List Byte) (i : Nat) (v : List Byte) : List Byte := l.take i ++ v ++ l.drop (i + v.length)

/-- Offsets, within the `n` records from PMEM offset `base`, of those whose last byte of the first word is listed: all that
are not free, since an unlisted byte of PMEM reads 0. -/
def State.recsAt (s : State) (base n : Nat) : List Nat :=
  (s.mem.filter fun c => decide (pmemBase + base ≤ c.1 ∧ c.1 < pmemBase + base + 64 * n) && (c.1 - (pmemBase + base)) % 64 == 3).map
    fun c => c.1 - 3 - pmemBase

/-- A number put into a rising list. -/
def insertNat (v : Nat) : List Nat → List Nat
  | [] => [v]
  | a :: t => if v < a then v :: a :: t else a :: insertNat v t

/-- The orders that have not retired, ACCEPTED or PRINTING, in rising number. -/
def State.jrnlOrderList (s : State) : List Nat :=
  (((s.recsAt jrnlOrders 1024).filter fun o => s.recState o == 1 || s.recState o == 2).map fun o => s.pmRd (o + 4) 4).foldr
    insertNat []

/-- Whether order `q` stands in its slot and has not retired. -/
def State.orderHeld (s : State) (q : Nat) : Bool :=
  (s.recState (orderRec q) == 1 || s.recState (orderRec q) == 2) && s.pmRd (orderRec q + 4) 4 == q

/-- Whether the slot of order `q` holds an order that has not retired. -/
def State.slotTaken (s : State) (q : Nat) : Bool := s.recState (orderRec q) == 1 || s.recState (orderRec q) == 2

/-! ## Orders (R469, R470, R486) -/

/-- The result of an ACCEPT (R469). -/
def State.acceptResult (s : State) (q count dig : Nat) : Nat :=
  let acc := s.getF R.JRNL_LASTACC_SEQ
  let ok := match s.sys.dev with | .places => true | .run _ => true | _ => false
  if !ok then 7
  else if s.orderHeld q then
    if s.pmRd (orderRec q + 0x10) 4 = dig ∧ s.pmRd (orderRec q + 0xC) 2 = count then 2 else 5
  else if q ≤ s.getF R.JRNL_LASTRET_SEQ then 3
  else if acc ≠ 0 ∧ q ≠ acc + 1 then 4
  else if s.slotTaken q then 6
  else 1

/-- `s` with a token shown. -/
def State.showToken (s : State) (q asn : Nat) : State := (s.setF R.JRNL_TOKL_SEQ q).setF R.JRNL_TOKH_ASN asn

/-- An ACCEPT completes (R469, R470). -/
def State.acceptDone (s : State) : State :=
  match s.jrnl.acc with
  | none => s
  | some (q, count, dig) =>
    let r := s.acceptResult q count dig
    let s := ((s.modJrnl fun j => { j with acc := none }).lower R.JRNL_STAT_ABUSY).setF R.JRNL_STAT_ARES r
    if r = 1 then
      let asn := s.pmRd hdrAsn 8
      let body := bytesLE 4 q ++ bytesLE 4 asn ++ bytesLE 2 count ++ bytesLE 2 0 ++ bytesLE 4 dig ++ bytesLE 4 0
        ++ bytesLE 8 s.cue.count.toNat ++ bytesLE 8 0 ++ bytesLE 20 0
      let s := s.recStore (orderRec q) (2 ^ 28) body
      let s := (s.hdrSet hdrAsn (asn + 1)).hdrSet hdrAcc q
      (s.setF R.JRNL_LASTACC_SEQ q).showToken q asn
    else if r = 2 then s.showToken q (s.pmRd (orderRec q + 8) 4)
    else s

/-- A write of ACCEPT (R469). -/
def State.jrnlAccept (s : State) : State :=
  if s.flag R.JRNL_STAT_ABUSY then s.raise R.JRNL_STAT_CFGREF
  else
    (s.raise R.JRNL_STAT_ABUSY).modJrnl fun j =>
      { j with acc := some (s.getF R.JRNL_ASEQ_SEQ, s.getF R.JRNL_ANSW_COUNT, s.getF R.JRNL_ADIG_DIG) }

/-- JRNL_LASTRET advances to order `q`. -/
def State.lastRet (s : State) (q : Nat) : State :=
  if s.getF R.JRNL_LASTRET_SEQ < q then (s.setF R.JRNL_LASTRET_SEQ q).hdrSet hdrRet q else s

/-- SYS_STATE.RESUMEP is cleared once no swath is pending (DEDUCED, log entry 45). -/
def State.resumeClear (s : State) : State :=
  if s.jrnl.opens.any fun p => p.2 then s else s.modSys fun y => { y with resumeP := false }

/-- Whether ABANDON may act: PLACES, RUN/IDLE or RUN/PAUSED, and JRNL_ASEQ names the oldest order that has not retired. -/
def State.mayAbandon (s : State) : Bool :=
  (match s.sys.dev with | .places => true | .run .idle => true | .run .paused => true | _ => false)
    && s.jrnlOrderList.head? == some (s.getF R.JRNL_ASEQ_SEQ)

/-- The journal's part of an ABANDON of order `q` (R486). -/
def State.jrnlAbandon (s : State) (q : Nat) : State :=
  let mine (j : Nat) : Bool := s.pmRd (swathRec j + 4) 4 == q
  let l := s.jrnl.opens.filter fun p => mine p.1
  let s := l.foldl (fun s p =>
    s.pmemStore (swathRec p.1) (bytesLE 4 (s.pmRd (swathRec p.1) 4 % 2 ^ 28 + 3 * 2 ^ 28))) s
  let s := s.pmemStore (orderRec q) (bytesLE 4 (s.pmRd (orderRec q) 4 % 2 ^ 28 + 4 * 2 ^ 28))
  let s := s.modJrnl fun j =>
    { j with opens := j.opens.filter fun p => !(l.contains p), ended := j.ended.filter fun e => e.1 != q }
  (s.lastRet q).modSys fun y => { y with resumeP := false }

/-! ## Captures (R474, R475, R477) -/

/-- Whether JSN `a` comes after JSN `b`, 24-bit counts that wrap (R472). -/
def jsnAfter (a b : Nat) : Bool := a != b && decide ((a + 2 ^ 24 - b) % 2 ^ 24 < 2 ^ 23)

/-- A capture of NEXT for context `k` under JSN `j`: the larger NEXT stays, and a newer swath's entry stays (R474). -/
def State.capture1 (s : State) (k j next : Nat) : State :=
  let keep := match mfind s.jrnl.cap k with
    | none => false
    | some (j', n') => jsnAfter j' j || (j' == j && decide (next ≤ n'))
  if keep then s
  else
    s.modJrnl fun x =>
      { x with cap := mset x.cap k (j, next), dirty := if x.dirty.contains (k / 8) then x.dirty else (k / 8) :: x.dirty }

/-- JRNL_STAT.DRAIN: a capture is not yet durable. -/
def State.draining (s : State) : Bool := !s.jrnl.dirty.isEmpty

/-- The commit-vector entry of context `k` (R477). -/
def State.cvEntry (s : State) (k : Nat) : Nat := let e := mget (0, 0) s.jrnl.cap k; e.1 * 2 ^ 40 + e.2

/-- The write slot of commit-vector line `l` (R475). -/
def State.cvLine (s : State) (l : Nat) : State :=
  if s.jrnl.dirty.contains l then
    (s.pmemStore (jrnlCv + 64 * l) ((List.range 8).flatMap fun i => bytesLE 8 (s.cvEntry (8 * l + i)))).modJrnl fun j =>
      { j with dirty := j.dirty.filter fun x => x != l }
  else s

/-! ## Swath records (R472, R473, R478) -/

/-- How many swaths of order `q` have been handed over: those ended and those open. -/
def State.handedOver (s : State) (q : Nat) : Nat :=
  s.pmRd (orderRec q + 0xE) 2 + (s.jrnl.opens.filter fun p => s.pmRd (swathRec p.1 + 4) 4 == q).length

/-- The swath that interrupted printing left pending, by its JSN. -/
def State.pendingJsn (s : State) : Option Nat := (s.jrnl.opens.find? fun p => p.2).map fun p => p.1

/-- The swath expected at the next handover (R473): order, index, and whether an accepted order still has it. -/
def State.expected (s : State) : Nat × Nat × Bool :=
  match s.pendingJsn with
  | some j => (s.pmRd (swathRec j + 4) 4, s.pmRd (swathRec j + 8) 2, true)
  | none =>
    match s.jrnlOrderList.find? fun q => decide (s.handedOver q < s.pmRd (orderRec q + 0xC) 2) with
    | some q => (q, s.handedOver q, true)
    | none => ((s.getF R.JRNL_LASTACC_SEQ + 1) % 2 ^ 32, 0, false)

/-- Whether a resume agrees with the pending swath's record (R473). -/
def State.resumeFits (s : State) (j : Nat) (d : SwathDesc) : Bool :=
  let o := swathRec j
  s.pmRd (o + 4) 4 == d.order && s.pmRd (o + 8) 2 == d.swath && s.pmRd (o + 0xA) 1 == d.b0a && s.pmRd (o + 0xC) 4 == d.f
    && s.pmRd (o + 0x10) 4 == d.n && s.pmRd (o + 0x14) 4 == d.mcrc

/-- Whether the record of swath JSN `j` still stands in its slot, OPEN, ENDED or ABANDONED. -/
def State.swathHeld (s : State) (j : Nat) : Bool := s.recState (swathRec j) != 0 && s.pmRd (swathRec j) 4 % 2 ^ 24 == j

/-- The record of order `q` marked defective, where it still stands. -/
def State.orderDefect (s : State) (q : Nat) : State :=
  let o := orderRec q
  let st := s.pmRd o 4
  if s.recState o = 0 ∨ s.pmRd (o + 4) 4 ≠ q ∨ st.testBit 24 then s else s.pmemStore o (bytesLE 4 (st + 2 ^ 24))

/-- `s` with a defect cause reported for the swath of JSN `j` (R478), whose record may have ended since; the order of an ended one is
marked with it. -/
def State.defect (s : State) (j cause : Nat) : State :=
  if !s.swathHeld j then s
  else
    let o := swathRec j
    let st := s.pmRd o 4
    let old := s.pmRd (o + 0x30) 4
    let q := s.pmRd (o + 4) 4
    let s := s.recStore o (if st.testBit 24 then st else st + 2 ^ 24)
      (patchAt (s.recBody o) 0x2C (bytesLE 4 (old ||| 2 ^ cause)))
    let s := if st / 2 ^ 28 = 1 then s else s.orderDefect q
    let s := if st.testBit 24 then s else s.count R.JRNL_DEFCNT_CNT 1
    s.raise R.JRNL_STAT_DEFECT

/-- The handover of a swath at a boundary (R472, R473): its JSN and the state with the record written. -/
def State.jrnlHandover (s : State) (d : SwathDesc) : Nat × State :=
  let pend := s.pendingJsn
  let (eo, es, _) := s.expected
  let res := d.resume && pend.isSome
  let ok := match pend with
    | some j => d.resume && s.resumeFits j d
    | none => eo == d.order && es == d.swath
  let j := match pend with | some j => if res then j else s.pmRd hdrJsn 8 % 2 ^ 24 | none => s.pmRd hdrJsn 8 % 2 ^ 24
  let o := swathRec j
  let causes := if res then s.pmRd (o + 0x30) 4 else 0
  let body := bytesLE 4 d.order ++ bytesLE 2 d.swath ++ bytesLE 1 d.b0a ++ bytesLE 1 0 ++ bytesLE 4 d.f ++ bytesLE 4 d.n
    ++ bytesLE 4 d.mcrc ++ bytesLE 8 d.addr ++ bytesLE 8 s.cue.count.toNat ++ bytesLE 8 0 ++ bytesLE 4 causes ++ bytesLE 8 0
  let s := s.recStore o (2 ^ 28 + res.toNat * 2 ^ 25 + (if causes = 0 then 0 else 2 ^ 24) + j) body
  let s := if res then
      (s.modJrnl fun x => { x with opens := x.opens.map fun p => if p.1 = j then (j, false) else p }).resumeClear
    else
      let s := (s.hdrSet hdrJsn ((j + 1) % 2 ^ 24)).modJrnl fun x => { x with opens := x.opens ++ [(j, false)] }
      d.ctxs.foldl (fun s k => s.capture1 k j 0) s
  let s := if d.swath = 0 ∧ s.orderHeld d.order ∧ s.recState (orderRec d.order) = 1 then
      s.pmemStore (orderRec d.order) (bytesLE 4 (s.pmRd (orderRec d.order) 4 % 2 ^ 28 + 2 * 2 ^ 28))
    else s
  (j, if ok then s else (s.raise R.JRNL_STAT_ORDERR).defect j 6)

/-- The swath of JSN `j` has ended (R242, R478); the order of its last swath may retire once its captures are durable. -/
def State.jrnlSwathEnd (s : State) (j : Nat) : State :=
  if !(s.jrnl.opens.any fun p => p.1 == j) then s
  else
    let o := swathRec j
    let st := s.pmRd o 4
    let q := s.pmRd (o + 4) 4
    let s := s.recStore o (st % 2 ^ 28 + 2 * 2 ^ 28) (patchAt (s.recBody o) 0x24 (bytesLE 8 s.cue.count.toNat))
    let s := s.modJrnl fun x => { x with opens := x.opens.filter fun p => p.1 != j }
    if !s.orderHeld q then s
    else
      let oo := orderRec q
      let ost := s.pmRd oo 4
      let s := s.recStore oo (if st.testBit 24 && !ost.testBit 24 then ost + 2 ^ 24 else ost)
        (patchAt (s.recBody oo) 0xA (bytesLE 2 (s.pmRd (oo + 0xE) 2 + 1)))
      if s.pmRd (o + 8) 2 + 1 = s.pmRd (oo + 0xC) 2 then s.modJrnl fun x => { x with ended := x.ended ++ [(q, j)] } else s

/-- Whether a capture under JSN `j` is not durable yet. -/
def State.jsnDirty (s : State) (j : Nat) : Bool :=
  s.jrnl.dirty.any fun l => (List.range 8).any fun i => (mget (0, 0) s.jrnl.cap (8 * l + i)).1 == j

/-- An order whose last swath has ended and whose captures are durable retires (R471). -/
def State.jrnlRetire (s : State) : State :=
  match s.jrnl.ended.find? fun e => !s.jsnDirty e.2 with
  | none => s
  | some e =>
    let o := orderRec e.1
    let s := s.recStore o (s.pmRd o 4 % 2 ^ 28 + 3 * 2 ^ 28) (patchAt (s.recBody o) 0x1C (bytesLE 8 s.cue.count.toNat))
    let s := s.modJrnl fun x => { x with ended := x.ended.filter fun p => p != e }
    (s.lastRet e.1).raise R.JRNL_STAT_RETIRED

/-- A curtain: swaths that were firing are interrupted. -/
def State.jrnlCurtain (s : State) : State :=
  s.modJrnl fun j => { j with opens := j.opens.map fun p => (p.1, true) }

/-! ## Seals (R479) -/

/-- The smallest NEXT captured under JSN `j`. -/
def State.minNext (s : State) (j : Nat) : Nat :=
  ((s.jrnl.cap.filter fun e => e.2.1 == j).map fun e => e.2.2).min?.getD 0

/-- A seal record for the present cue count is written. -/
def State.sealWrite (s : State) (final : Bool) : State :=
  let c := s.cue.count.toNat
  let (w, n) := match s.jrnl.opens.head? with
    | some p => (2 ^ 31 + p.1, s.minNext p.1)
    | none => (0, 0)
  let body := bytesLE 8 0x4A534C01 ++ bytesLE 8 c ++ bytesLE 8 s.cue.last.toNat ++ bytesLE 4 w ++ bytesLE 4 n
    ++ bytesLE 4 (s.getF R.JRNL_LASTACC_SEQ) ++ bytesLE 4 (s.getF R.JRNL_LASTRET_SEQ) ++ bytesLE 4 final.toNat ++ bytesLE 16 0
  (s.pmemStore (jrnlSeals + c % 63488 * 64) (body ++ bytesLE 4 (crc32cFull body))).setF R.JRNL_SEALCNT_CUE c

/-- The FINAL seal of step 5 of R34, once DRAIN is 0. -/
def State.finalSeal (s : State) : State :=
  let s := s.sealWrite true
  if s.jrnl.opens.isEmpty then s else s.modSys fun y => { y with resumeP := true }

/-! ## The scan of BOOT (R480, R209) and initialisation (R486) -/

/-- The journal's partition emptied and its header written (R476, R486); ASNs and JSNs count from 1. -/
def State.jrnlInit (s : State) : State :=
  let s := { s with mem := s.mem.filter fun c =>
    !(decide (pmemBase + jrnlBase ≤ c.1 ∧ c.1 < pmemBase + jrnlBase + 0x400000)) }
  ([(0, 0x4A524E01), (8, 1), (0x10, 1), (0x18, 1)].foldl (fun s p => s.hdrSet (jrnlBase + p.1) p.2) s).modJrnl fun _ => {}

/-- Units with an ECC mark from PMEM offset `o` on, `n` bytes. -/
def State.markedUnits (s : State) (o n : Nat) : List Nat :=
  (s.ecc.filter fun e => decide (pmemBase + o ≤ 8 * e.1 ∧ 8 * e.1 < pmemBase + o + n)).map fun e => 8 * e.1

/-- The valid seal at offset `o`: (cue count, time). -/
def State.sealAt (s : State) (o : Nat) : Option (Nat × Nat) :=
  if s.pmRd o 4 = 0x4A534C01 ∧ crc32cFull (s.rdBytes (pmemBase + o) 60) = s.pmRd (o + 0x3C) 4 then
    some (s.pmRd (o + 8) 8, s.pmRd (o + 0x10) 8)
  else none

/-- The seal of the highest cue count. -/
def State.lastSeal (s : State) : Option (Nat × Nat) :=
  (s.recsAt jrnlSeals 63488).foldl (fun b o =>
    match s.sealAt o, b with
    | some x, some y => if y.1 < x.1 then some x else some y
    | some x, none => some x
    | none, b => b) none

/-- The scan: the journal's registers and capture table loaded; false when the journal cannot be read. -/
def State.jrnlScan (s : State) : State × Bool :=
  let s := if s.pmRd jrnlBase 0x30 = 0 then s.jrnlInit else s
  let (s, ok) := (s.markedUnits jrnlBase 0x9000).foldl State.pmemCheck (s, true)
  let (s, bad) := (s.markedUnits (jrnlBase + 0x9000) 0x3F7000).foldl (fun (p : State × Bool) u =>
    let o := (u - pmemBase) / 64 * 64
    let q := State.pmemCheck (p.1, true) u
    (q.1, p.2 || (!q.2 && decide (p.1.pmRd o 4 ≠ 0)))) (s, false)
  if !ok || bad || s.pmRd jrnlBase 8 != 0x4A524E01 || s.pmRd (jrnlBase + 8) 8 != 1 then (s, false)
  else
    let s := (s.setF R.JRNL_LASTACC_SEQ (s.pmRd hdrAcc 8)).setF R.JRNL_LASTRET_SEQ (s.pmRd hdrRet 8)
    let cap : SMap (Nat × Nat) := (List.range 4096).foldr (fun k m =>
      let e := s.pmRd (jrnlCv + 8 * k) 8
      if e = 0 then m else (k, (e / 2 ^ 40, e % 2 ^ 21)) :: m) []
    let opens := ((s.recsAt jrnlSwaths 256).filter fun o => s.recState o == 1).map fun o => (s.pmRd o 4 % 2 ^ 24, true)
    let s := s.modJrnl fun _ => { cap := cap, opens := opens }
    let s := s.modSys fun y => { y with resumeP := !opens.isEmpty }
    (match s.lastSeal with | some x => s.setF R.JRNL_SEALCNT_CUE x.1 | none => s, true)

/-! ## Registers (R488) -/

/-- What the registers of JRNL read that show the journal. -/
def State.jrnlRegRead (s : State) (id : RegId) (k : Nat) (stored : Word) : Word :=
  let rec1 (f : Nat → Nat) : Word := match s.jrnl.opens.head? with
    | some p => BitVec.ofNat 32 (f p.1)
    | none => 0
  match id with
  | .JRNL_STAT =>
    stored ||| BitVec.ofNat 32 ((s.slotTaken (s.getF R.JRNL_LASTACC_SEQ + 1)).toNat * 8 + s.draining.toNat * 4
      + s.pendingJsn.isSome.toNat * 2)
  | .JRNL_PENDJSN => rec1 fun j => 2 ^ 31 + j
  | .JRNL_PENDORD => rec1 fun j => s.pmRd (swathRec j + 4) 4
  | .JRNL_PENDSW => rec1 fun j => s.pmRd (swathRec j + 8) 2
  | .JRNL_PENDDSCL => rec1 fun j => s.pmRd (swathRec j + 0x18) 4
  | .JRNL_PENDDSCH => rec1 fun j => s.pmRd (swathRec j + 0x1C) 4
  | .JRNL_NEXTORD => BitVec.ofNat 32 s.expected.1
  | .JRNL_NEXTSW => let (_, w, v) := s.expected; BitVec.ofNat 32 (v.toNat * 2 ^ 31 + w)
  | .JRNL_CV => BitVec.ofNat 32 (s.cvEntry k)
  | .JRNL_CVH => BitVec.ofNat 32 (s.cvEntry k / 2 ^ 32)
  | _ => stored

/-! ## Commands -/

/-- ACCEPT_COMPLETE (R469). -/
def execAcceptComplete (s : State) : Host.Outcome State Fault Refusal := .next s.acceptDone.settle

/-- ORDER_RETIRE (R471). -/
def execOrderRetire (s : State) : Host.Outcome State Fault Refusal := .next s.jrnlRetire.settle

end Sys2Proof.Machine
end

