-- ==== Sys2Proof/Machine/Bbx.lean ====
section
/-!
DEFINITION. The black box, the lifetime records and the calendar (R532 to R538, R540). The nozzle counts of R536 stand in
Drop.lean.
What the spec leaves open here: log entry 49.
-/

namespace Sys2Proof.Machine

/-- `s` with the BBX structure changed. -/
def State.modBbx (s : State) (f : Bbx → Bbx) : State := { s with bbx := f s.bbx }

/-- PMEM offsets of black-box record `n` and of lifetime record `x` (R532, R537). -/
def bbxRec (n : Nat) : Nat := 0x500000 + 64 * n
def lifeRec (x : Nat) : Nat := 0xB00000 + x

/-! ## Records (R532 to R535) -/

/-- The block code of an event's source (R203, R533). -/
def bbxBlock (code : Nat) : Nat :=
  match code with
  | 4 | 5 => 0xD0
  | 7 => 0xC2
  | 8 => 0x30
  | 0xA | 0xB => 0xF1
  | _ => if 0x8000 ≤ code then 0xFE else 0xE0

/-- The calendar seconds that a record carries: 0 when the calendar is not valid. -/
def State.calNow (s : State) : Nat := if s.bbx.calValid then s.bbx.cal.toNat else 0

/-- The first 60 bytes of the record of event `r` (R533). -/
def State.bbxBytes (s : State) (r : BbxRec) : List Byte :=
  bytesLE 8 s.bbx.serial ++ bytesLE 8 r.cue.toNat ++ bytesLE 8 r.time.toNat ++ bytesLE 4 s.calNow ++ bytesLE 2 s.bbx.boots ++
    bytesLE 1 (bbxBlock r.code) ++ bytesLE 1 s.bbx.area ++ bytesLE 2 r.code ++ bytesLE 2 (min s.bbx.lost 0xFFFF) ++
    ((r.data.flatMap fun w => bytesLE 4 w.toNat) ++ List.replicate 24 0#8).take 24

/-- The oldest queued record is written: into the pin area while it has room, else into the wrap area (R532, R535). -/
def State.bbxWrite (s : State) : State :=
  match s.bbxQueue with
  | [] => s
  | r :: t =>
    let slot := if s.bbx.pin < 1024 then 1024 * s.bbx.area + s.bbx.pin else s.bbx.wrap
    let body := s.bbxBytes r
    let s := ({ s with bbxQueue := t }).pmemStore (bbxRec slot) (body ++ bytesLE 4 (crc32cFull body))
    s.modBbx fun b =>
      { b with serial := b.serial + 1, lost := 0, pin := if b.pin < 1024 then b.pin + 1 else b.pin,
               wrap := if b.pin < 1024 then b.wrap else if b.wrap = 65535 then 2048 else b.wrap + 1 }

/-- The numbers of the black-box records that are not blank; the block code is never 0, and an unlisted byte reads 0. -/
def State.bbxRecs (s : State) : List Nat :=
  ((s.mem.filter fun c => decide (pmemBase + bbxRec 0 ≤ c.1 ∧ c.1 < pmemBase + bbxRec 65536) && c.1 % 64 == 0x1E).map
    fun c => (c.1 - (pmemBase + bbxRec 0)) / 64).filter fun n =>
      crc32cFull (s.rdBytes (pmemBase + bbxRec n) 60) == s.pmRd (bbxRec n + 0x3C) 4

/-- The serial number of record `n`. -/
def State.bbxSerial (s : State) (n : Nat) : Nat := s.pmRd (bbxRec n) 8

/-- The record of `l` with the highest serial number. -/
def State.bbxNewest (s : State) (l : List Nat) : Option Nat :=
  l.foldl (fun b n =>
    match b with
    | some m => if s.bbxSerial m < s.bbxSerial n then some n else b
    | none => some n) none

/-- A fresh boot (R532): the pin area with the older record 0 is chosen, a blank one first, and writing goes on behind the
highest serial number. -/
def State.bbxFresh (s : State) : State :=
  let l := s.bbxRecs
  let first := fun n => if l.contains n then s.bbxSerial n else 0
  let wrap := match s.bbxNewest (l.filter fun n => decide (2048 ≤ n)) with
    | some n => if n = 65535 then 2048 else n + 1
    | none => 2048
  let serial := match s.bbxNewest l with | some n => s.bbxSerial n + 1 | none => 1
  let boots := if s.pmRd (lifeRec 0) 4 = 0x4546494C then s.pmRd (lifeRec 4) 4 else 0
  s.modBbx fun b =>
    { b with serial := serial, boots := (boots + 1) % 2 ^ 32, area := if first 1024 < first 0 then 1 else 0, pin := 0,
             wrap := wrap, lost := 0, halves := 0, warns := 0 }

/-! ## Lifetime records and the calendar (R537, R538) -/

/-- `s` with `n` added to lifetime record `x`. -/
def State.lifeAdd (s : State) (x n : Nat) : State :=
  s.pmemStore (lifeRec x) (bytesLE 8 ((s.pmRd (lifeRec x) 8 + n) % 2 ^ 64))

/-- The lifetime records rewritten, `secs` seconds after the last time (R537). -/
def State.lifeRewrite (s : State) (secs : Nat) : State :=
  let s := s.pmemStore (lifeRec 0) (bytesLE 4 0x4546494C ++ bytesLE 4 s.bbx.boots)
  let s := s.pmemStore (lifeRec 8) (bytesLE 8 s.calNow)
  let s := (List.range 8).foldl (fun s i => s.lifeAdd (0x1000 + 8 * i) (mget {} s.enc.units i).travel) s
  let s := { s with enc := { s.enc with units := s.enc.units.map fun (e : Nat × EncUnit) => (e.1, { e.2 with travel := 0 }) } }
  let s := (List.range 31).foldl (fun s k =>
    s.lifeAdd (0x1040 + 8 * k) (if s.flag (R.PBS_GNT_G (k + 1)) then secs else 0)) s
  let s := ((s.lifeAdd 0x1200 secs).lifeAdd 0x1208 s.bbx.halves).lifeAdd 0x1210 s.bbx.warns
  s.modBbx fun b => { b with halves := 0, warns := 0 }

/-- One second on the calendar clock, which a load in the same cycle outdoes (R538); outside DARK the lifetime records are
rewritten. -/
def State.calendarSecond (s : State) : State :=
  let s := s.modBbx fun b => { b with cal := if b.calClk = some s.clk then b.cal else b.cal + 1 }
  if s.sys.dev = .dark then s else s.lifeRewrite 1

/-! ## Registers (R540) -/

/-- A write to BBX_CTRL: WR queues a firmware record (R535), CALSET loads the calendar (R538). -/
def State.bbxCtrlWrite (s : State) (d : RegDesc) (a : Nat) (v : Word) : State :=
  if fieldOf v 15 0 < 0x8000 then s.raise R.BBX_STAT_CFGREF
  else
    let s := s.writeTyped d a false v
    let s := if v.getLsbD 31 then s.bbxEvent (fieldOf v 15 0) ((List.range 6).map fun i => s.getReg (R.BBX_WDATA i)) else s
    if v.getLsbD 30 then
      s.modBbx fun b =>
        { b with cal := BitVec.ofNat 40 (s.getF R.BBX_CALSETH_SEC * 2 ^ 32 + s.getF R.BBX_CALSETL_SEC), calValid := true,
                 calClk := some s.clk }
    else s

/-- A register write to BBX. -/
def State.bbxRegWrite (s : State) (d : RegDesc) (a : Nat) (v : Word) : State :=
  match d.id with
  | .BBX_CTRL => s.bbxCtrlWrite d a v
  | _ => s.writeTyped d a false v

/-- What the read-only BBX registers read as. -/
def State.bbxRegRead (s : State) (id : RegId) (stored : Word) : Word :=
  match id with
  | .BBX_STAT =>
    putField (putField stored 2 2 (if s.nozzles.flush.isSome then 1 else 0)) 1 1 (if s.bbx.pin < 1024 then 1 else 0)
  | .BBX_SERL => BitVec.ofNat 32 s.bbx.serial
  | .BBX_SERH => BitVec.ofNat 32 (s.bbx.serial / 2 ^ 32)
  | .BBX_CALL => BitVec.ofNat 32 s.bbx.cal.toNat
  | .BBX_CALH => BitVec.ofNat 32 (s.bbx.cal.toNat / 2 ^ 32 + if s.bbx.calValid then 2 ^ 31 else 0)
  | .BBX_BOOTS => BitVec.ofNat 32 s.bbx.boots
  | _ => stored

/-! ## Commands -/

/-- BBX_RECORD_WRITE (R535). -/
def execBbxRecordWrite (s : State) : Host.Outcome State Fault Refusal := .next s.bbxWrite.settle

/-- CALENDAR_SECOND (R537, R538). -/
def execCalendarSecond (s : State) : Host.Outcome State Fault Refusal := .next s.calendarSecond.settle

end Sys2Proof.Machine
end

