-- ==== Sys2Proof/Machine/Cue.lean ====
section
/-!
DEFINITION. The cue and the time bases (R40 to R57): CUE_DONE, the overrun escalation, the cue registers, follower lock and
holdover.
What the spec leaves open here: log entry 27.
-/

namespace Sys2Proof.Machine

/-! ## CUE_DONE and overruns (R47 to R52) -/

/-- A CUE_DONE write of pair `n` (R47, R49); it resets the pair's count of misses (R50). Where the cue does not run the write has no
effect (DESIGN CHOICE, log entry 27). -/
def State.cueDone (s : State) (n : Nat) : State :=
  if !s.cueRuns then s
  else if s.cue.done.getLsbD n then
    (s.raise R.CUE_STAT_DUPDONE).modCue fun c => { c with again := mset c.again n (s.clk, s.flag R.CUE_STAT_DUPDONE) }
  else
    s.modCue fun c =>
      { c with done := c.done ||| BitVec.ofNat 4 (2 ^ n), doneClk := mset c.doneClk n (s.clk, mget 0 c.k n), k := mset c.k n 0 }

/-- Whether the write that `done` records for pair `n` came in the present cycle, and whether a second write did. -/
def State.doneNow (s : State) (n : Nat) : Bool := s.cue.done.getLsbD n && (mfind s.cue.doneClk n).any fun e => e.1 == s.clk
def State.againNow (s : State) (n : Nat) : Bool := (mfind s.cue.again n).any fun e => e.1 == s.clk

/-- The pairs with a CUE_DONE write in the boundary's own cycle: it counts for the cue that the boundary begins (R47). -/
def State.cueLate (s : State) : BitVec 4 :=
  (List.range 4).foldl (fun b n => if s.doneNow n || s.againNow n then b ||| BitVec.ofNat 4 (2 ^ n) else b) 0

/-- `s` without what the CUE_DONE writes of the boundary's own cycle did to the cue just ended. -/
def State.cueUnlate (s : State) : State :=
  let s1 := (List.range 4).foldl (fun t n =>
    match mfind s.cue.doneClk n with
    | some e => if s.doneNow n then
        t.modCue fun c => { c with done := c.done &&& ~~~ BitVec.ofNat 4 (2 ^ n), k := mset c.k n e.2 } else t
    | none => t) s
  if (List.range 4).any s.againNow then
    s1.setF R.CUE_STAT_DUPDONE ((List.range 4).all fun n => !s.againNow n || (mfind s.cue.again n).any (·.2)).toNat
  else s1

/-- `s` with the writes of pairs `late` recorded for the cue that begins. -/
def State.cueCarry (s : State) (late : BitVec 4) : State :=
  s.modCue fun c =>
    { c with done := late, again := [],
             k := (List.range 4).foldl (fun m n => if late.getLsbD n then mset m n 0 else m) c.k }

/-- Whether the boundary counts pair `n` as missed: enabled, no CUE_DONE for the cue just ended, not restarting (R50, R52); a
pair held in reset for good is not restarting (R564). What is not counted leaves k as it was (DESIGN CHOICE, log entry 27). -/
def State.cueMissed (s : State) (n : Nat) : Bool :=
  s.cue.pairen.getLsbD n && !s.cue.done.getLsbD n &&
    (!(s.getF R.USTD_STAT_RESTART).testBit n || (s.core (2 * n)).run == .inReset)

/-- The counter field of pair `n` in CUE_OVR. -/
def cueOvrFld (n : Nat) : Fld := ⟨R.CUE_OVR, 8 * n + 7, 8 * n⟩

/-- A miss of pair `n` (R50); `run` says that the cue just ended was in RUN. -/
def State.cueMiss (s : State) (n : Nat) (run : Bool) : State :=
  let k := mget 0 s.cue.k n + 1
  let s := s.modCue fun c => { c with k := mset c.k n k }
  let s := (((s.count (cueOvrFld n) 1).raise R.CUE_STAT_OVR).publish Src.cueOverrun)
  let s := if run && s.inRun && decide (2 ≤ k) then s.raiseBit R.CUE_STAT_HOLD n else s
  if run && decide (3 ≤ k) then s.trigger R.SYS_CURTAIN_OVERRUN else s

/-- The checks of R47 and R50 at a boundary, for the cue just ended; a pair that did not miss holds no longer (R51). So the hold of
a pair that PAIREN disables or that restarts ends here, and one that RUN leaves for WINGS stays until the pair writes (DESIGN
CHOICE, log entry 27). -/
def State.cueOverruns (s : State) (run : Bool) : State :=
  (List.range 4).foldl (fun s n =>
    if s.cueMissed n then s.cueMiss n run else s.lowerBit R.CUE_STAT_HOLD n) s

/-- A new cue: no pair has written yet, and a change of PAIREN and a new period come into force (R42, R53). -/
def State.cueTurn (s : State) : State :=
  let s := match s.cue.nextPeriod with
    | some p => s.setReg R.CUE_PERIOD p
    | none => s
  s.modCue fun c => { c with done := 0, phase := 0, nextPeriod := none, pairen := (s.getReg R.CUE_CTRL).setWidth 4 }

/-- Entry to PLACES from BOOT: the values that BOOT wrote come into force (CUE_CTRL.DISC, R53). -/
def State.cueEnter (s : State) : State :=
  s.modCue fun c =>
    { c with done := 0, again := [], phase := 0, k := [], phasing := false, pairen := (s.getReg R.CUE_CTRL).setWidth 4,
             disc := BitVec.ofNat 2 (s.getF R.CUE_CTRL_DISC) }

/-- The curtain takes over the slots: the holds of R50 end. -/
def State.cueCurtain (s : State) : State := s.lower R.CUE_STAT_HOLD

/-! ## Register writes (R42, R53) -/

/-- A write to CUE_PERIOD (R42). -/
def State.cuePeriodWrite (s : State) (v : Word) : State :=
  let p := fieldOf v 15 0
  let w := BitVec.ofNat 32 p
  if p < 4000 ∨ 50000 < p then s.raise R.CUE_STAT_CFGREF
  else
    match s.sys.dev with
    | .boot => s.setReg R.CUE_PERIOD w
    | .places =>
      if s.loopSchedule p (s.getF R.LOOP_CTRL_SUB) then s.modCue fun c => { c with nextPeriod := some w }
      else s.raise R.CUE_STAT_CFGREF
    | _ => s.raise R.CUE_STAT_CFGREF

/-- A write to CUE_CTRL (R53). PERMIS and HOLDOVER stay until a lock clears them, also when DISC leaves follower (DESIGN CHOICE, log
entry 27). -/
def State.cueCtrlWrite (s : State) (d : RegDesc) (a : Nat) (v : Word) : State :=
  match s.sys.dev with
  | .boot => s.writeTyped d a false v
  | .places =>
    let s := s.writeTyped d a false v
    let s := s.modCue fun c => { c with disc := BitVec.ofNat 2 (fieldOf v 7 6) }
    if fieldOf v 7 6 = 2 then s else s.lower R.CUE_STAT_LOCK
  | _ =>
    if fieldOf v 7 6 = s.cue.disc.toNat then s.writeTyped d a false v
    else ((s.writeTyped d a false v).setF R.CUE_CTRL_DISC s.cue.disc.toNat).raise R.CUE_STAT_CFGREF

/-- A register write to CUE by master `w`. -/
def State.cueRegWrite (s : State) (w : Writer) (d : RegDesc) (a : Nat) (v : Word) : State :=
  match d.id with
  | .CUE_CTRL => s.cueCtrlWrite d a v
  | .CUE_PERIOD => s.cuePeriodWrite v
  | .CUE_PRE =>
    if fieldOf v 15 0 < s.getF R.CUE_PERIOD_PERIOD then s.writeTyped d a false v else s.raise R.CUE_STAT_CFGREF
  | .CUE_DONE =>
    match w with
    | .core h _ => if h.val < 4 then s.cueDone h.val else s
    | _ => s
  | _ => s.writeTyped d a false v

/-- What the counters of CUE hold at a read: (value, whether the read fills or uses the master's shadow is R45's). -/
def State.cueRegRead (s : State) (id : RegId) (stored : Word) : Word :=
  match id with
  | .CUE_PHASE => BitVec.ofNat 32 (min s.cue.phase 0xFFFF)
  | .CUE_CNTL => s.cue.count.setWidth 32
  | .CUE_CNTH => (s.cue.count >>> 32).setWidth 32
  | .CUE_TIMEL => s.cue.time.setWidth 32
  | .CUE_TIMEH => (s.cue.time >>> 32).setWidth 32
  | .CUE_LASTL => s.cue.last.setWidth 32
  | .CUE_LASTH => (s.cue.last >>> 32).setWidth 32
  | .CUE_TOFSL => s.cue.tofs.setWidth 32
  | .CUE_TOFSH => (s.cue.tofs >>> 32).setWidth 32
  | _ => stored

/-! ## Follower (R53 to R56) -/

/-- CUE_DISC.CNTOFF: root count minus own, signed and saturating. -/
def cntOff (root own : BitVec 64) : Nat := wrap 16 (clampS 16 ((root.toNat : Int) - own.toNat))

/-- A follower locks to a root whose counters, period and phase are given (R53, R54, R55). -/
def State.followerLock (s : State) (rootCount rootTime : BitVec 64) (rootPeriod : Word) (phase : Nat) (phErr : BitVec 16) :
    State :=
  if !s.cueRuns || s.cue.disc != 2 then s
  else if rootPeriod != s.getReg R.CUE_PERIOD then (s.raise R.CUE_STAT_PERMIS).lower R.CUE_STAT_LOCK
  else
    let s := ((s.lower R.CUE_STAT_PERMIS).lower R.CUE_STAT_HOLDOVER).raise R.CUE_STAT_LOCK
    let s := s.setF R.CUE_DISC_PHERR phErr.toNat
    let s := if s.sys.dev = .places then
        s.modCue fun c =>
          { c with phase := phase,
                   count := if c.count.toNat < rootCount.toNat then rootCount else c.count,
                   time := if c.time.toNat < rootTime.toNat then rootTime else c.time, phasing := false }
      else s.modCue fun c => { c with phasing := true }
    (s.setF R.CUE_DISC_CNTOFF (cntOff rootCount s.cue.count)).modCue fun c => { c with tofs := rootTime - c.time }

/-- The phase error that R57 allows a follower's boundary, in steps of 62.5 ps: 1.5 ns in one ring, 4 ns at depth 3; for depth 2
the spec gives no figure, and the model takes that of one ring (DESIGN CHOICE, log entry 27). -/
def State.phaseLimit (s : State) : Nat := if s.getF R.BYR_ADDR_ADDR % 64 = 0 then 24 else 64

/-- A follower that locked in RUN makes one cue longer or shorter by one event-clock cycle (2.5 ns, 40 steps) until its phase error
is within the limit (R55); the boundaries themselves come as commands. -/
def State.cuePhaseStep (s : State) : State :=
  let e := s.getS R.CUE_DISC_PHERR
  if !s.cue.phasing then s
  else if e.natAbs ≤ s.phaseLimit then s.modCue fun c => { c with phasing := false }
  else s.setF R.CUE_DISC_PHERR (wrap 16 (if 0 < e then e - 40 else e + 40))

/-- CUE_OUT rises 12 ns, 5 event-clock cycles, after a boundary with CUEOE and pulses for 20 ns, 8 cycles (R53, R57). -/
def State.cuePulse (s : State) : State := if s.flag R.CUE_CTRL_CUEOE then s.modCue fun c => { c with outLeft := 13 } else s

/-- A follower has lost its upstream clock (R56). -/
def State.holdover (s : State) : State :=
  if s.cue.disc = 2 then ((s.raise R.CUE_STAT_HOLDOVER).lower R.CUE_STAT_LOCK).modCue fun c => { c with phasing := false } else s

/-! ## Commands -/

/-- CUE_PRE (R57). -/
def execCuePre (s : State) : Host.Outcome State Fault Refusal :=
  .next (State.settle <| if s.cueRuns && s.flag R.CUE_PRE_OFFSET then s.publish Src.cuePre else s)

/-- The hart of cue pair `n`. -/
def hartOfPair (n : Fin 4) : Hart := ⟨n.val, by omega⟩

/-- CUE_DONE (R47 to R49): the pair's write, made by its lead; a pair that cannot issue it writes none (R128, R138, R564). -/
def execCueDone (pair : Fin 4) (s : State) : Host.Outcome State Fault Refusal :=
  .next (State.settle <| if s.canIssue (hartOfPair pair) then s.cueDone pair else s)

/-- CUE_HOLDOVER (R56). -/
def execCueHoldover (s : State) : Host.Outcome State Fault Refusal := .next s.holdover.settle

end Sys2Proof.Machine
end

