-- ==== Sys2Proof/Machine/Gpio.lean ====
section
/-!
DEFINITION. Pins, multiplexing and GPIO (R429 to R447, R558): functions, owners, locks, masked writes, levels, serial engines.
What the spec leaves open here: log entries 13 and 43.
-/

namespace Sys2Proof.Machine

/-- `s` with the GPIO structure changed. -/
def State.modGpio (s : State) (f : Gpio → Gpio) : State := { s with gpio := f s.gpio }

/-! ## Functions (R431, R558) -/

/-- Whether the land map lists an instance of code `fsel` on pin `y` of port `x` (R558). -/
def pinHas (x y fsel : Nat) : Bool :=
  match fsel with
  | 0 => true
  | 1 => decide (1 ≤ x ∧ x ≤ 3)
  | 2 => x == 4 && decide (y < 24)
  | 3 => x == 5 && decide (y < 24)
  | 4 => x == 5 && decide (y < 16)
  | 5 => x == 6 || (x == 4 && y == 24)
  | 6 => (x == 0 && decide (1 ≤ y)) || (x == 7 && decide (y < 16)) || (x == 4 && y == 25)
  | 7 => (x == 7 && decide (y < 16)) || (x == 0 && decide (16 ≤ y))
  | 8 => x == 0 && decide (1 ≤ y ∧ y < 17)
  | 9 => x == 4 && decide (24 ≤ y)
  | 10 => x == 5 && decide (24 ≤ y ∧ y < 28)
  | 15 => x == 0 && y == 0
  | _ => false

/-- Whether a value for GPIO_PCFG(x, y) holds no refused value (R431, R447). -/
def pcfgOk (x y : Nat) (v : Word) : Bool := fieldOf v 27 26 != 3 && pinHas x y (fieldOf v 3 0)

/-- `s` with a function leaving pin `y` of port `x`: its input sees the inactive level (R432), a quadrature input starts anew
when it returns (R386). -/
def State.pinLeave (s : State) (x y : Nat) : State :=
  match s.getF (R.GPIO_PCFG_FSEL x y) with
  | 2 => s.tripLand y false
  | 3 => s.modEnc (y / 3) fun u => { u with newRef := true }
  | _ => s

/-- `s` with the set-up of pin `y` of port `x` changed in this cycle. -/
def State.pinChange (s : State) (x y : Nat) : State :=
  s.modGpio fun g => { g with pinClk := mset g.pinClk (32 * x + y) s.clk }

/-! ## Owners and locks (R435 to R438) -/

/-- The owner code of pin `y` of port `x`. -/
def State.pinOwner (s : State) (x y : Nat) : Nat := fieldOf (s.getReg (R.GPIO_PxOWN x (y / 8))) (4 * (y % 8) + 3) (4 * (y % 8))

/-- Whether a pin is locked. -/
def State.pinLocked (s : State) (x y : Nat) : Bool := s.flag (R.GPIO_PCFG_LOCKED x y)

/-- The ownership test of R435. -/
def State.ownPass (s : State) (w : Writer) (x y : Nat) : Bool :=
  let o := s.pinOwner x y
  let core := match w with
    | .core _ _ => true
    | .rom => true
    | _ => false
  if o = 1 then core && s.sys.dev == .boot
  else if w.isHouse && s.bootOrPlaces then true
  else
    match o with
    | 2 => w.isHouse
    | 3 => w.isCrew || (match w with | .dma _ => true | _ => false)
    | 4 | 5 | 6 | 7 => (match w with | .core h _ => h.val == o - 4 | _ => false)
    | _ => false

/-- A write to GPIO_PCFG(x, y) (R433, R435, R438, R447). -/
def State.pcfgWrite (s : State) (w : Writer) (d : RegDesc) (x y a : Nat) (v : Word) : State :=
  if !s.ownPass w x y then s.raise R.GPIO_STAT_OWNREF
  else if s.pinLocked x y then s.raise R.GPIO_STAT_LCKREF
  else if !pcfgOk x y v then s.raise R.GPIO_STAT_CFGREF
  else if fieldOf v 3 0 = s.getF (R.GPIO_PCFG_FSEL x y) then (s.writeTyped d a false v).pinChange x y
  else
    (((s.pinLeave x y).writeTyped d a false v).pinChange x y).modGpio fun g =>
      { g with parked := (32 * x + y) :: g.parked.filter (· ≠ 32 * x + y) }

/-- The park of a function switch ends and the new function takes the pin (R433). -/
def State.pinSwitch (s : State) (x y : Nat) : State :=
  if s.gpio.parked.contains (32 * x + y) then
    (s.pinChange x y).modGpio fun g => { g with parked := g.parked.filter (· ≠ 32 * x + y) }
  else s

/-- One owner field of a write to GPIO_PxOWNk (R436); a locked pin refuses its own code too (R438). -/
def State.ownerField (s : State) (x k : Nat) (v : Word) (i : Nat) : State :=
  let code := fieldOf v (4 * i + 3) (4 * i)
  let y := 8 * k + i
  let old := s.pinOwner x y
  if s.pinLocked x y then s.raise R.GPIO_STAT_LCKREF
  else if code = old then s
  else if 8 ≤ code ∨ ((code = 1 ∨ old = 1) ∧ s.sys.dev ≠ .boot) then s.raise R.GPIO_STAT_CFGREF
  else s.setF ⟨R.GPIO_PxOWN x k, 4 * i + 3, 4 * i⟩ code

/-- A write to GPIO_PxOWNk (R436). -/
def State.ownerWrite (s : State) (x k : Nat) (v : Word) : State :=
  (List.range 8).foldl (fun s i => s.ownerField x k v i) s

/-- A broken lock sequence (R437). -/
def State.lockBroken (s : State) : State := (s.modGpio fun g => { g with lkStep := 0 }).raise R.GPIO_STAT_LKSEQ

/-- A write to GPIO_PxLCKM: step 1 of R437; it breaks another core's sequence. -/
def State.lockMask (s : State) (w : Writer) (x : Nat) (v : Word) : State :=
  let s := if s.gpio.lkStep ≠ 0 ∧ s.gpio.lkBy ≠ w.num then s.lockBroken else s
  (s.setReg (R.GPIO_PxLCKM x) v).modGpio fun g => { g with lkStep := 1, lkPort := x, lkBy := w.num, lkClk := s.clk }

/-- Step 3 of R437: the pins of the mask that pass the ownership test are locked. -/
def State.lockPins (s : State) (w : Writer) (x : Nat) : State :=
  let m := s.getReg (R.GPIO_PxLCKM x)
  let s := (List.range 32).foldl (fun s y =>
    if !m.getLsbD y then s
    else if s.ownPass w x y then s.raise (R.GPIO_PCFG_LOCKED x y)
    else s.raise R.GPIO_STAT_OWNREF) s
  (s.setReg (R.GPIO_PxLCKM x) 0).modGpio fun g => { g with lkStep := 0 }

/-- A write to GPIO_LKEY: steps 2 and 3 of R437. -/
def State.lockKey (s : State) (w : Writer) (v : Word) : State :=
  let g := s.gpio
  if g.lkStep = 0 ∨ g.lkBy ≠ w.num ∨ g.lkPort ≠ fieldOf v 18 16 ∨ g.lkClk + 64 < s.clk then s.lockBroken
  else if g.lkStep = 1 ∧ fieldOf v 15 0 = 0xC35A then s.modGpio fun g => { g with lkStep := 2, lkClk := s.clk }
  else if g.lkStep = 2 ∧ fieldOf v 15 0 = 0x3CA5 then s.lockPins w g.lkPort
  else s.lockBroken

/-! ## Levels (R439, R440) -/

/-- A write to GPIO_PxMWL or GPIO_PxMWH: `y0` is the first pin, `a` the register (R435, R439). -/
def State.maskedWrite (s : State) (w : Writer) (x y0 a : Nat) (v : Word) : State :=
  let s := (List.range 16).foldl (fun s i =>
    if !v.getLsbD (16 + i) then s
    else if s.ownPass w x (y0 + i) then s.setF ⟨a, i, i⟩ (v.getLsbD i).toNat
    else s.raise R.GPIO_STAT_OWNREF) s
  s.modGpio fun g => { g with outClk := mset g.outClk x s.clk }

/-- The output bit of pin `y` of port `x`. -/
def State.outBit (s : State) (x y : Nat) : Bool :=
  if y < 16 then (s.getReg (R.GPIO_PxMWL x)).getLsbD y else (s.getReg (R.GPIO_PxMWH x)).getLsbD (y - 16)

/-- The level of a pulse of `len` - 5 cycles with `left` of them and of the five after it to come, where no edge lies within five
cycles. -/
def pulseLevel (len left : Nat) : Option Bool :=
  if left = 0 then some false else if 5 < left ∧ left + 5 ≤ len then some true else none

/-- The level of the function that pin `y` of port `x` carries, if the state tells it: an output bit, a PWM output, CMPOUTc,
EVOUTn, CUE_OUT, FSYNC0 and FSYNC1 (R57, R293, R347, R439, R558). -/
def State.landFunction (s : State) (x y : Nat) : Option Bool :=
  match s.getF (R.GPIO_PCFG_FSEL x y) with
  | 0 =>
    if s.flag (R.GPIO_PCFG_OE x y) && decide (mget 0 s.gpio.outClk x + 5 ≤ s.clk) then some (s.outBit x y) else none
  | 1 => s.pwmLand (16 * (x - 1) + y / 2) (y % 2 == 1)
  | 10 =>
    if y = 24 then pulseLevel 13 s.cue.outLeft else if y = 25 ∨ y = 26 then pulseLevel 45 s.mtrk.fsyncLeft else none
  | 6 => some (s.cmpOut (if x = 0 then y - 1 else if x = 7 then y + 31 else 47))
  | 7 =>
    if x = 0 ∧ ¬ s.call.evout.getLsbD (y - 16) ∧ ((mfind s.call.evoutClk (y - 16)).all fun c => c + 15 ≤ s.clk) then some false
    else none
  | _ => none

/-- The level that the module drives on a land whose set-up has not changed in the last five cycles, if it drives one that the
state tells: the park level (R433) or the function's, which an open-drain land drives only when low (R440, R441). -/
def State.landDriven (s : State) (x y : Nat) : Option Bool :=
  if decide (s.clk < mget 0 s.gpio.pinClk (32 * x + y) + 5) || s.sys.dev == .dark then none
  else if s.gpio.parked.contains (32 * x + y) then
    match s.getF (R.GPIO_PCFG_PARK x y) with
    | 0 => some false
    | 1 => some true
    | _ => none
  else if s.flag (R.GPIO_PCFG_OD x y) then (s.landFunction x y).filter (! ·)
  else s.landFunction x y

/-- GPIO_PxIN (R440): what the outside drives, or what only a finer time base would tell, is free. -/
def State.portIn (s : State) (x : Nat) : Nat × State :=
  (List.range 32).foldl (fun (p : Nat × State) y =>
    match p.2.landDriven x y with
    | some b => (p.1 + b.toNat * 2 ^ y, p.2)
    | none =>
      let (r, s) := p.2.fresh
      (p.1 + r % 2 * 2 ^ y, s)) (0, s)

/-! ## Serial engines (R444, R445) -/

/-- `s` with the levels of engine `n` shown. -/
def State.serShow (s : State) (n : Nat) : State :=
  let t := (mget [] s.gpio.tx n).length
  let s := (s.setF (R.GPIO_SERSTAT_TXLVL n) t).setF (R.GPIO_SERSTAT_RXLVL n) (mget [] s.gpio.rx n).length
  s.setF (R.GPIO_SERSTAT_BUSY n) (s.flag (R.GPIO_SERCFG_EN n) && decide (0 < t)).toNat

/-- Whether a write to a register of engine `n` passes (R445): the test of the land that carries S0, else house only. -/
def State.serPass (s : State) (w : Writer) (n : Nat) : Bool :=
  if s.carries 0 (1 + 4 * n) 8 then s.ownPass w 0 (1 + 4 * n) else w.isHouse

/-- Whether a value for GPIO_SERCFG is in range (R444, R447). -/
def sercfgOk (v : Word) : Bool :=
  let mode := fieldOf v 30 29
  mode != 3 && fieldOf v 21 20 != 3 && decide (3 ≤ fieldOf v 26 22) && (mode != 1 || decide (3 ≤ fieldOf v 15 0))
    && (mode != 2 || decide (fieldOf v 15 0 ≤ 41665))

/-- A write to GPIO_SERCFG(n). -/
def State.sercfgWrite (s : State) (w : Writer) (d : RegDesc) (n a : Nat) (v : Word) : State :=
  if !s.serPass w n then s.raise R.GPIO_STAT_OWNREF
  else if s.flag (R.GPIO_SERCFG_EN n) then (s.setF (R.GPIO_SERCFG_EN n) (v.getLsbD 31).toNat).serShow n
  else if !sercfgOk v then s.raise R.GPIO_STAT_CFGREF
  else (s.writeTyped d a false v).serShow n

/-- A push to engine `n` (R445). -/
def State.serPush (s : State) (w : Writer) (n : Nat) (v : Word) : State :=
  if !s.serPass w n then s.raise R.GPIO_STAT_OWNREF
  else if 16 ≤ (mget [] s.gpio.tx n).length then s.raise (R.GPIO_SERSTAT_TXOVF n)
  else (s.modGpio fun g => { g with tx := mmod [] g.tx n (· ++ [v]) }).serShow n

/-- A pop from engine `n` (R445): the value read. -/
def State.serPop (s : State) (n : Nat) : Word × State :=
  match mget [] s.gpio.rx n with
  | [] => (0, s.raise (R.GPIO_SERSTAT_UNDF n))
  | v :: _ => (v, (s.modGpio fun g => { g with rx := mmod [] g.rx n List.tail }).serShow n)

/-- One received entry (R445). -/
def State.serReceive (s : State) (n : Nat) (v : Word) : State :=
  if 16 ≤ (mget [] s.gpio.rx n).length then s.raise (R.GPIO_SERSTAT_RXOVF n)
  else (s.modGpio fun g => { g with rx := mmod [] g.rx n (· ++ [v]) }).serShow n

/-- The transfer of the oldest TX entry of engine `n` ends; `rx` is what the lines gave: the byte or word, NACK in bit 8 in
I²C mode (R445). -/
def State.serDone (s : State) (n : Nat) (rx : Word) : State :=
  match mget [] s.gpio.tx n with
  | [] => s
  | v :: _ =>
    if !s.flag (R.GPIO_SERCFG_EN n) then s
    else
      let s := (s.modGpio fun g => { g with tx := mmod [] g.tx n List.tail }).serShow n
      match s.getF (R.GPIO_SERCFG_MODE n) with
      | 0 =>
        let nack := rx.getLsbD 8 && s.carries 0 (2 + 4 * n) 8
        let s := if nack then s.raise (R.GPIO_SERSTAT_NACK n) else s
        if v.getLsbD 8 then
          s.serReceive n (if s.carries 0 (2 + 4 * n) 8 then rx &&& 0x1FF else 0)
        else
          let (r, s) := s.fresh
          s.serReceive n (BitVec.ofNat 32 (r % 256 + nack.toNat * 256))
      | 1 =>
        let bits := s.getF (R.GPIO_SERCFG_BITS n) + 1
        s.serReceive n (if s.carries 0 (3 + 4 * n) 8 then BitVec.ofNat 32 (rx.toNat % 2 ^ bits) else 0)
      | _ => s

/-- A received byte of a UART with its parity and framing errors in bits 8 and 9 (R445). -/
def State.uartReceive (s : State) (n : Nat) (rx : Word) : State :=
  if s.flag (R.GPIO_SERCFG_EN n) && s.getF (R.GPIO_SERCFG_MODE n) == 2 && s.carries 0 (2 + 4 * n) 8 then
    s.serReceive n (rx &&& 0x3FF)
  else s

/-- A clock stretch of more than 10 ms ends the transfer with STOP (R445). -/
def State.serStretch (s : State) (n : Nat) : State :=
  if s.flag (R.GPIO_SERSTAT_BUSY n) && s.getF (R.GPIO_SERCFG_MODE n) == 0 then
    ((s.modGpio fun g => { g with tx := mmod [] g.tx n List.tail }).raise (R.GPIO_SERSTAT_STRETCH n)).serShow n
  else s

/-! ## Register writes (R447) -/

/-- Whether a register of the GPIO block accepts a write by `w`: block-wide registers house cores, per-pin and engine
registers every core and DMA as a crew core, owner registers house cores in BOOT and PLACES (R436, R447). -/
def State.gpioAccepts (s : State) (w : Writer) (id : RegId) : Bool :=
  let any := match w with
    | .core _ _ => true
    | .dma _ => true
    | .rom => true
    | _ => false
  match id with
  | .GPIO_LKEY | .GPIO_PxLCKM | .GPIO_SERCFG | .GPIO_SERDAT | .GPIO_SERSTAT | .GPIO_PCFG | .GPIO_PxMWL | .GPIO_PxMWH => any
  | .GPIO_PxOWN => w.isHouse && s.bootOrPlaces
  | _ => w.isHouse

/-- A register write to GPIO; `i` and `j` are the register's indices. -/
def State.gpioRegWrite (s : State) (w : Writer) (d : RegDesc) (i j a : Nat) (v : Word) : State :=
  match d.id with
  | .GPIO_PCFG => s.pcfgWrite w d i j a v
  | .GPIO_PxOWN => s.ownerWrite i j v
  | .GPIO_PxMWL => s.maskedWrite w i 0 a v
  | .GPIO_PxMWH => s.maskedWrite w i 16 a v
  | .GPIO_PxLCKM => s.lockMask w i v
  | .GPIO_LKEY => s.lockKey w v
  | .GPIO_SERCFG => s.sercfgWrite w d i a v
  | .GPIO_SERDAT => s.serPush w i v
  | .GPIO_SERSTAT => if s.serPass w i then s.writeTyped d a false v else s.raise R.GPIO_STAT_OWNREF
  | .GPIO_WAKECFG => if fieldOf v 7 0 = 0 then s.raise R.GPIO_STAT_CFGREF else s.writeTyped d a false v
  | _ => s.writeTyped d a false v

/-! ## Commands -/

/-- GPIO_FUNCTION_SWITCH (R433). -/
def execGpioFunctionSwitch (port : Fin 8) (pin : Fin 32) (s : State) : Host.Outcome State Fault Refusal :=
  .next (State.settle <| s.pinSwitch port pin)

/-- GPIO_LOCK_TIMEOUT (R437): more than 64 cycles have gone since the last step. -/
def execGpioLockTimeout (s : State) : Host.Outcome State Fault Refusal :=
  .next (State.settle <| if s.gpio.lkStep = 0 ∨ s.clk ≤ s.gpio.lkClk + 64 then s else s.lockBroken)

/-- SERIAL_TRANSFER_DONE (R445). -/
def execSerialTransferDone (n : Fin 4) (rx : Word) (s : State) : Host.Outcome State Fault Refusal := .next (State.settle <| s.serDone n rx)

/-- UART_RECEIVE (R445). -/
def execUartReceive (n : Fin 4) (rx : Word) (s : State) : Host.Outcome State Fault Refusal := .next (State.settle <| s.uartReceive n rx)

/-- I2C_STRETCH_TIMEOUT (R445). -/
def execI2cStretchTimeout (n : Fin 4) (s : State) : Host.Outcome State Fault Refusal := .next (State.settle <| s.serStretch n)

end Sys2Proof.Machine
end

