-- ==== Sys2Proof/Machine/Pbs.lean ====
section
/-!
DEFINITION. Power budget scheduler (R448 to R467): measurement, requests, grants, shedding, share groups.
What the spec leaves open here: log entries 8 and 44.
-/

namespace Sys2Proof.Machine

/-- `s` with the PBS structure changed. -/
def State.modPbs (s : State) (f : Pbs → Pbs) : State := { s with pbs := f s.pbs }

/-- `s` with phase `p` changed. -/
def State.modPhase (s : State) (p : Nat) (f : PbsPhase → PbsPhase) : State :=
  s.modPbs fun b => { b with phases := mmod {} b.phases p f }

/-- The enabled phases. -/
def State.pbsPhases (s : State) : List Nat := (List.range 3).filter fun p => s.flag (R.PBS_PH_EN p)

/-! ## Measuring (R448, R449) -/

/-- Output `r` of ΔΣ channel `d` enters the phases that name it; the two outputs of a pair together give v × i and i². -/
def State.pbsSample (s : State) (d : Nat) (r : Int) : State :=
  s.pbsPhases.foldl (fun s p =>
    let v := s.getF (R.PBS_PH_VCH p) == d
    let i := s.getF (R.PBS_PH_ICH p) == d
    s.modPhase p fun x =>
      let x := if v then { x with rv := r, vNew := true } else x
      let x := if i then { x with ri := r, iNew := true } else x
      if x.vNew && x.iNew then
        { x with vNew := false, iNew := false, sumVI := x.sumVI + x.rv * x.ri, sumI2 := x.sumI2 + (x.ri * x.ri).toNat, n := x.n + 1 }
      else x) s

/-- The mean of v × i of phase `p` over the window in mW × 2^30 over its number of pairs: numerator and pairs. -/
def State.phasePower (s : State) (p : Nat) : Int × Nat :=
  let x := mget {} s.pbs.phases p
  (x.sumVI * (s.getF (R.PBS_PHSC_VFS p) : Int) * (s.getF (R.PBS_PHSC_IFS p) : Int), x.n)

/-- P_meas in W at a latch (R449); free where an enabled phase had no pair in the window. -/
def State.pMeas (s : State) : Int × State :=
  let l := s.pbsPhases.map s.phasePower
  if l.any fun q => q.2 == 0 then
    let (r, s) := s.fresh
    ((r % 2 ^ 20 : Nat), s)
  else
    let den := l.foldl (fun d q => d * q.2) 1
    let num := l.foldl (fun a q => a + q.1 * ((den / q.2 : Nat) : Int)) 0
    s.roundFree num (den * 2 ^ 30 * 1000)

/-- IRMS of phase `p` in 0.01 A at a latch over the last WIN windows (R449). -/
def State.phaseIrms (s : State) (p : Nat) : Nat × State :=
  let x := mget {} s.pbs.phases p
  let l := ((x.sumI2, x.n) :: x.wins).take (s.getF R.PBS_ILIM_WIN)
  let n := l.foldl (fun a q => a + q.2) 0
  let num := l.foldl (fun a q => a + q.1) 0 * s.getF (R.PBS_PHSC_IFS p) ^ 2
  if n = 0 then
    let (r, s) := s.fresh
    (r % 2 ^ 16, s)
  else
    let den := n * 2 ^ 30
    let r := isqrt (num / den)
    if r * r * den = num then (min r 0xFFFF, s)
    else
      let (f, s) := s.fresh
      (min (r + f % 2) 0xFFFF, s)

/-- `s` with phase `p`'s window closed and IRMS shown. -/
def State.phaseLatch (s : State) (p : Nat) : State :=
  let (i, s) := s.phaseIrms p
  let win := s.getF R.PBS_ILIM_WIN
  (s.setF (R.PBS_IRMS_I p) i).modPhase p fun x =>
    { x with sumVI := 0, sumI2 := 0, n := 0, wins := ((x.sumI2, x.n) :: x.wins).take (win - 1) }

/-! ## Temperatures (R454, R455) -/

/-- A temperature that its 16 bits hold; the spec states none outside them (free). -/
def State.fitS (s : State) (n : Nat) (v : Int) : Option Int × State :=
  if clampS n v = v then (some v, s)
  else
    let (r, s) := s.fresh
    (some (sext n (r % 2 ^ n)), s)

/-- The value of temperature source `t` at a latch, in 0.1 °C, if it has one. -/
def State.tempValue (s : State) (t : Nat) : Option Int × State :=
  let ix := s.getF (R.PBS_TSRC_INDEX t)
  match s.getF (R.PBS_TSRC_KIND t) with
  | 1 =>
    let c := s.getF (R.AFE_ADCRES_CNT ix)
    if c = mget 0 s.pbs.seen t then (none, s)
    else
      let s := s.modPbs fun b => { b with seen := mset b.seen t c }
      let (v, s) := s.roundFree (s.getS (R.AFE_ADCRES_VAL ix) * s.getS (R.PBS_TSRC_SCALE t)) 10
      s.fitS 16 (s.getS (R.PBS_TOFS_OFS t) + v)
  | 2 => (if s.flag (R.JET_BSTAT_VALID ix) then some (10 * s.getS (R.JET_BSTAT_TEMP ix)) else none, s)
  | 3 => (some (s.getS R.SYS_TEMP_T), s)
  | _ => (none, s)

/-- `s` with temperature source `t` latched. -/
def State.tempLatch (s : State) (t : Nat) : State :=
  match s.tempValue t with
  | (some v, s) => (s.setF (R.PBS_TVAL_T t) (wrap 16 v)).lower (R.PBS_TVAL_STALE t)
  | (none, s) => s.raise (R.PBS_TVAL_STALE t)

/-- PE of class `k` (R455). -/
def State.classMax (s : State) (k : Nat) : Nat × State :=
  let pmax := s.getF (R.PBS_CLS_PMAX k)
  if !s.flag (R.PBS_CLS_TEN k) then (pmax, s)
  else
    let t := s.getF (R.PBS_CLS_TSEL k)
    let v := s.getS (R.PBS_TVAL_T t)
    let lo := s.getS (R.PBS_TLIM_TDER t)
    let hi := s.getS (R.PBS_TLIM_TMAX t)
    if v ≤ lo then (pmax, s)
    else if hi ≤ v then (0, s)
    else
      let (q, s) := s.roundFree (pmax * (hi - v)) (hi - lo).toNat
      (q.toNat, s)

/-! ## Requests and the grant (R451, R452, R456, R457) -/

/-- Whether slot `j` keeps an AUTO class at PMAX: a running AXIS or MEDIA slot with a profile in progress or outside
position (R452). -/
def State.slotActive (s : State) (j : Nat) : Bool :=
  let u := s.slot j
  s.slotMoves j && s.slotRuns j
    && (u.vc != 0 || u.ac != 0 || (s.slotMode j == 1 && u.pc != s.slotTarget j) || !s.flag (loopInposBit j))

/-- The request of class `k` in W (R452). -/
def State.classRequest (s : State) (k : Nat) : Nat :=
  if s.flag (R.PBS_CLS_AUTO k) then
    if (List.range 64).any fun j => s.getF (R.LOOP_SCFG_PBSCLS j) == k && s.slotActive j then s.getF (R.PBS_CLS_PMAX k)
    else s.getF (R.PBS_CMIN_PMIN k)
  else s.getF (R.PBS_REQ_REQ k)

/-- A class that takes part in a cue (R451), with what it may get and what it has got. -/
structure PbsClass where
  k : Nat
  want : Int
  floor : Int
  prio : Nat
  defer : Bool
  ahead : Bool
  defcnt : Nat
  g : Int := 0
  deriving DecidableEq, Repr

/-- The classes that take part, by number. -/
def State.pbsClasses (s : State) : List PbsClass × State :=
  (List.range 32).foldl (fun (p : List PbsClass × State) k =>
    let s := p.2
    let req := s.classRequest k
    if k = 0 ∨ ¬ s.flag (R.PBS_CLS_EN k) ∨ req = 0 then p
    else
      let (pe, s) := s.classMax k
      let c := s.getF (R.PBS_GNT_DEFCNT k)
      let m := s.getF (R.PBS_CMIN_MAXDEF k)
      let d := s.flag (R.PBS_CLS_DEFER k)
      (p.1 ++ [{ k := k, want := min req pe, floor := min (min req (s.getF (R.PBS_CMIN_PMIN k))) pe,
                 prio := s.getF (R.PBS_CLS_PRIO k), defer := d, ahead := d && decide (0 < m ∧ m ≤ c), defcnt := c }], s)) ([], s)

/-- Insert a class before the first with a smaller DEFCNT: descending order, equals in their order. -/
def insertDefer (c : PbsClass) : List PbsClass → List PbsClass
  | [] => [c]
  | x :: t => if x.defcnt < c.defcnt then c :: x :: t else x :: insertDefer c t

/-- The sum of what classes have got. -/
def grantSum (l : List PbsClass) : Int := l.foldl (fun a c => a + c.g) 0

/-- `l` with class `k` replaced by `f` of it. -/
def onClass (l : List PbsClass) (k : Nat) (f : PbsClass → PbsClass) : List PbsClass :=
  l.map fun c => if c.k = k then f c else c

/-- The minimums of R457, by PRIO then k; `left` beside the classes. -/
def grantMinimums (l : List PbsClass) (left : Int) : List PbsClass × Int :=
  (List.range 8).foldl (fun p pr =>
    (p.1.filter fun c => c.prio == pr && !c.defer).foldl (fun (p : List PbsClass × Int) c =>
      let g := min c.floor (max p.2 0)
      (onClass p.1 c.k fun c => { c with g := g }, p.2 - g)) p) (l, left)

/-- One level of R457: deferrable classes by DEFCNT, then the others, whole or in proportion. -/
def grantLevel (inLevel : PbsClass → Bool) (l : List PbsClass) (left : Int) : List PbsClass :=
  let dl := ((l.filter fun c => inLevel c && c.defer).foldl (fun acc c => insertDefer c acc) [])
  let (l, left) := dl.foldl (fun (p : List PbsClass × Int) c =>
    if c.want ≤ p.2 then (onClass p.1 c.k fun c => { c with g := c.want, defcnt := 0 }, p.2 - c.want)
    else (onClass p.1 c.k fun c => { c with g := 0, defcnt := min 65535 (c.defcnt + 1) }, p.2)) (l, left)
  let u := (l.filter fun c => inLevel c && !c.defer).foldl (fun a c => a + (c.want - c.g)) 0
  l.map fun c =>
    if inLevel c && !c.defer then { c with g := c.g + if u ≤ left then c.want - c.g else max left 0 * (c.want - c.g) / u } else c

/-- The grant of R457 over budget `b` with `head` reserved. -/
def grantAll (b head : Int) (l : List PbsClass) : List PbsClass :=
  let (l, left) := grantMinimums l (b - head)
  let l := grantLevel (fun c => c.ahead) l left
  (List.range 8).foldl (fun l p => grantLevel (fun c => c.prio == p && !c.ahead) l (b - head - grantSum l)) l

/-- Whether a swath reserves head power at budget `b` (R456). -/
def State.headReserved (s : State) (b : Int) : Bool :=
  if s.flag R.FIRE_STAT_SW then true
  else decide (0 < s.getF R.DROP_SWSTAT_DEPTH) && decide ((s.getF R.PBS_HEAD_PHEAD : Int) ≤ b)

/-- Whether the head temperature allows firing (R456). -/
def State.headCool (s : State) : Bool :=
  let t := s.getF R.PBS_HEAD_TSEL
  !s.flag R.PBS_HEAD_TEN || decide (s.getS (R.PBS_TVAL_T t) < s.getS (R.PBS_TLIM_TMAX t))

/-- Whether the module is in a share group (R463). -/
def State.inGroup (s : State) : Bool := s.flag R.PBS_SHARE_ROLE

/-- Whether it owns its group. -/
def State.groupOwner (s : State) : Bool := s.getF R.PBS_SHARE_ROLE == 1

/-- The share that a member uses (R465): the last received, or FALLBACK. -/
def State.shareNow (s : State) : Nat :=
  if s.flag R.PBS_STAT_FALLBACK then s.getF R.PBS_SHFB_FALLBACK else s.pbs.share.getD (s.getF R.PBS_SHFB_FALLBACK)

/-- LIMIT of R457. -/
def State.budgetLimit (s : State) : Nat := if s.inGroup then s.shareNow else s.getF R.PBS_FEED_LIMIT

/-- B of R457. -/
def State.budget (s : State) : Int := s.budgetLimit - s.getF R.PBS_BASE_BASE - s.getF R.PBS_UNACC_W - s.pbs.sh

/-- `s` with the grant of the coming boundary computed (R457) and the request total kept for the report (R463). -/
def State.grantCompute (s : State) : State :=
  let (l, s) := s.pbsClasses
  let b := s.budget
  let res := s.headReserved b
  let head := if res then s.getF R.PBS_HEAD_PHEAD else 0
  let total := l.foldl (fun a c => a + c.want.toNat) 0 + head
  let s := s.modPbs fun p => { p with total := total }
  if !s.inRun then s.modPbs fun p => { p with next := none }
  else
    let l := grantAll b head l
    let s := l.foldl (fun s c => s.setF (R.PBS_GNT_DEFCNT c.k) c.defcnt) s
    let g (c : PbsClass) : Nat := min ((c.g * 32768).toNat / max 1 (s.getF (R.PBS_CLS_PMAX c.k))) 0x8000
    s.modPbs fun p =>
      { p with next := some { g := l.map fun c => (c.k, g c), permit := res && s.headCool, headRes := res, b := b, head := head } }

/-- `s` with a grant in force (R458); outside RUN, and with EN 0, every G is 0x8000. -/
def State.grantShow (s : State) (q : PbsGrant) : State :=
  let s := (List.range 32).foldl (fun s k => if k = 0 then s else s.setF (R.PBS_GNT_G k) (mget 0 q.g k)) s
  let s := (s.setF R.PBS_STAT_PERMIT q.permit.toNat).setF R.PBS_STAT_HEADRES q.headRes.toNat
  (s.setF R.PBS_BUDGET_B (clampU 20 q.b.toNat)).modPbs fun p => { p with head := q.head }

/-- The grant that limits nothing. -/
def openGrant (permit : Bool) : PbsGrant := { g := (List.range 32).map fun k => (k, 0x8000), permit := permit }

/-- The grant and permit at a boundary, after the state transition (R458, PBS_CTRL.EN). -/
def State.pbsBoundary (s : State) : State :=
  let s' := s.modPbs fun p => { p with next := none }
  if !s.inRun then s'.grantShow (openGrant false)
  else if !s.flag R.PBS_CTRL_EN then s'.grantShow (openGrant true)
  else s'.grantShow (s.pbs.next.getD (openGrant false))

/-! ## Overdraw and shedding (R459 to R461) -/

/-- The LIMIT that P_meas is tested against: the feed's at the owner and without a group, the share at a member (R465). -/
def State.overdrawLimit (s : State) : Nat := if s.inGroup && !s.groupOwner then s.shareNow else s.getF R.PBS_FEED_LIMIT

/-- The excess of R460 at a latch with P_meas `p`, rounded by free values; `none`: no overdraw. -/
def State.overdraw (s : State) (p : Int) : Option Nat × State :=
  if s.inGroup && !s.groupOwner && s.pbsPhases.isEmpty then (none, s)
  else
    let lim : Int := s.overdrawLimit
    let ilim := s.getF R.PBS_ILIM_ILIM
    let excess := s.pbsPhases.filter fun q => decide (ilim < s.getF (R.PBS_IRMS_I q))
    let (e, s) := excess.foldl (fun (a : Int × State) q =>
      let (x, s) :=
        if ilim = 0 then
          let (r, s) := a.2.fresh
          (((r % 2 ^ 20 : Nat) : Int), s)
        else a.2.roundFree (lim * (s.getF (R.PBS_IRMS_I q) - ilim)) ilim
      (max a.1 x, s)) (max 0 (p - lim), s)
    (if lim < p ∨ ¬ excess.isEmpty then some e.toNat else none, s)

/-- The shedding state machine at a latch (R461). -/
def State.shed (s : State) (e : Option Nat) : State :=
  match e with
  | some x =>
    let s := s.raise R.PBS_STAT_OVRD
    if !s.flag R.PBS_STAT_SHED then (s.raise R.PBS_STAT_SHED).modPbs fun b => { b with sh := x, od := 1, clean := 0 }
    else
      let s := s.modPbs fun b => { b with sh := b.sh + x, od := b.od + 1, clean := 0 }
      if s.getF R.PBS_SHED_SHEDLIM ≤ s.pbs.od ∧ s.inRun then s.trigger R.SYS_CURTAIN_PBS else s
  | none =>
    if !s.flag R.PBS_STAT_SHED then s
    else if s.getF R.PBS_SHED_RECOVER ≤ s.pbs.clean + 1 then
      (s.lower R.PBS_STAT_SHED).modPbs fun b => { b with sh := 0, od := 0, clean := 0 }
    else s.modPbs fun b => { b with sh := b.sh - b.sh / 16, od := 0, clean := b.clean + 1 }

/-- UNACC at a latch with P_meas `p`, over the grants in force (R459); free where 20 bits do not hold it. -/
def State.unaccLatch (s : State) (p : Int) : State :=
  let sum := (List.range 32).foldl (fun a k =>
    if k ≠ 0 ∧ s.flag (R.PBS_CLS_EN k) then a + s.getF (R.PBS_GNT_G k) * s.getF (R.PBS_CLS_PMAX k) else a) 0
  let (g, s) := s.roundFree (sum : Nat) 32768
  let u : Int := s.getF R.PBS_UNACC_W
  let (d, s) := s.roundFree (max 0 (p - s.getF R.PBS_BASE_BASE - g - s.pbs.head) - u) 256
  if u + d < 2 ^ 20 then s.setF R.PBS_UNACC_W (u + d).toNat
  else
    let (r, s) := s.fresh
    s.setF R.PBS_UNACC_W (r % 2 ^ 20)

/-! ## Share groups (R463 to R465) -/

/-- A member's report as it reaches the owner (R463). -/
def State.reportArrive (s : State) (member request floor : Nat) : State :=
  if s.groupOwner then s.modPbs fun b => { b with reports := mset b.reports member ⟨request, floor, false⟩ } else s

/-- The shares of the owner's group at a latch: member, share (R463). -/
def State.sharesOf (s : State) : List (Nat × Nat) × State :=
  let r := s.pbs.reports
  let floors : Nat := r.foldl (fun a q => a + q.2.floor) 0
  let unmet (q : PbsReport) : Nat := if q.lost then 0 else q.request - q.floor
  let total : Nat := r.foldl (fun a q => a + unmet q.2) 0
  let pool : Int := s.getF R.PBS_FEED_LIMIT - s.getF R.PBS_BASE_BASE - s.pbs.sh - (floors : Nat)
  r.foldl (fun (p : List (Nat × Nat) × State) q =>
    if unmet q.2 = 0 then (p.1 ++ [(q.1, q.2.floor)], p.2)
    else
      let (x, s) := p.2.roundFree (pool * unmet q.2) (max 1 total)
      (p.1 ++ [(q.1, (max (q.2.floor : Int) (min q.2.request (q.2.floor + x))).toNat)], s)) ([], s)

/-- A share arrives at member `member` (R465). -/
def State.shareArrive (s : State) (member share : Nat) : State :=
  if s.inGroup && s.getF R.PBS_SHARE_MEMBER == member then
    (s.modPbs fun b => { b with share := some share }).lower R.PBS_STAT_FALLBACK
  else s

/-- The share that the latch uses is shown in PBS_SHLIM. -/
def State.shareShow (s : State) : State :=
  if !s.inGroup then s
  else (s.setF R.PBS_SHLIM_VALID s.pbs.share.isSome.toNat).setF R.PBS_SHLIM_S (clampU 20 s.shareNow)

/-- No share for 64 cues (R465). -/
def State.shareLoss (s : State) : State :=
  if s.inGroup then (s.raise R.PBS_STAT_FALLBACK).raise R.PBS_STAT_SHARELOSS else s

/-- No report of a member for 64 cues (R463). -/
def State.reportLoss (s : State) (member : Nat) : State :=
  s.modPbs fun b => { b with reports := b.reports.map fun q => if q.1 = member then (q.1, { q.2 with lost := true }) else q }

/-! ## The latch (R453) -/

/-- The latch with the registers as they stand, and the shares that the owner sends for the boundary after the next; the pause
of an activation keeps the last measurement (R527). -/
def State.latchNow (s : State) : List (Nat × Nat) × State :=
  let (p, s) := if s.paused then ((s.getF R.PBS_MEAS_P : Int), s) else s.pMeas
  let s := s.setF R.PBS_MEAS_P (clampU 20 p.toNat)
  let s := s.pbsPhases.foldl State.phaseLatch s
  let s := (List.range 8).foldl State.tempLatch s
  let s := s.shareShow
  let (e, s) := s.overdraw p
  let s := s.shed e
  let s := s.unaccLatch p
  let s := s.grantCompute
  if s.groupOwner then
    let (l, s) := s.sharesOf
    (l, l.foldl (fun s q => s.shareArrive q.1 q.2) s)
  else ([], s)

/-- The registers of PBS that software sets for the latch: requests and head power, and those of BOOT and PLACES. -/
def latchInputs : List Nat :=
  [R.PBS_HEAD, R.PBS_FEED, R.PBS_ILIM, R.PBS_SHED, R.PBS_BASE, R.PBS_SHARE, R.PBS_SHFB, R.PBS_SHFL]
    ++ (List.range 3).map R.PBS_PH ++ (List.range 3).map R.PBS_PHSC
    ++ (List.range 8).map R.PBS_TSRC ++ (List.range 8).map R.PBS_TOFS ++ (List.range 8).map R.PBS_TLIM
    ++ (List.range 31).map (fun k => R.PBS_CLS (k + 1)) ++ (List.range 31).map (fun k => R.PBS_CMIN (k + 1))
    ++ (List.range 31).map (fun k => R.PBS_REQ (k + 1))

/-- `s` with the registers of `l` as `v` gives them. -/
def State.withRegs (s : State) (l : List Nat) (v : Nat → Word) : State := l.foldl (fun s a => s.setReg a (v a)) s

/-- The latch, 800 cycles before a boundary (R453): a write that reached PBS in this cycle counts for the next one. -/
def State.pbsLatch (s : State) : List (Nat × Nat) × State :=
  if !s.cueRuns || !s.flag R.PBS_CTRL_EN then ([], s)
  else
    let late := latchInputs.filter fun a => s.getReg a != (mfind s.regs0 a).getD (regReset a)
    let (l, u) := (s.withRegs late fun a => (mfind s.regs0 a).getD (regReset a)).latchNow
    (l, u.withRegs late s.getReg)

/-- Entry to PLACES (R459, R461). -/
def State.pbsPlaces (s : State) : State :=
  ((s.lower R.PBS_STAT_SHED).setF R.PBS_UNACC_W 0).modPbs fun b => { b with sh := 0, od := 0, clean := 0, next := none }

/-- The check of R450. -/
def State.pbsSchedule (s : State) : Bool :=
  s.pbsPhases.all fun p =>
    let v := s.getF (R.PBS_PH_VCH p)
    let i := s.getF (R.PBS_PH_ICH p)
    s.flag (R.AFE_DSCFG_EN v) && s.flag (R.AFE_DSCFG_EN i)
      && s.getF (R.AFE_DSCFG_ORDER v) == s.getF (R.AFE_DSCFG_ORDER i) && s.getF (R.AFE_DSCFG_OSR v) == s.getF (R.AFE_DSCFG_OSR i)
      && s.getF (R.AFE_DSCFG_CLKSRC v) == s.getF (R.AFE_DSCFG_CLKSRC i)

/-! ## Register writes (R467) -/

/-- Whether a value is in range for a PBS register. -/
def State.pbsValueOk (s : State) (id : RegId) (k : Nat) (v : Word) : Bool :=
  match id with
  | .PBS_ILIM => fieldOf v 31 16 != 0
  | .PBS_SHED => fieldOf v 31 16 != 0 && fieldOf v 15 0 != 0
  | .PBS_SHARE => fieldOf v 31 30 != 3
  | .PBS_TSRC => decide (fieldOf v 31 28 < 4) && (fieldOf v 31 28 != 1 || decide (fieldOf v 20 16 < 24))
  | .PBS_TLIM => decide (sext 16 (fieldOf v 15 0) < sext 16 (fieldOf v 31 16))
  | .PBS_CLS => !v.getLsbD 31 || fieldOf v 19 0 != 0
  | .PBS_CMIN => s.flag (R.PBS_CLS_DEFER k) || decide (fieldOf v 19 0 ≤ s.getF (R.PBS_CLS_PMAX k))
  | _ => true

/-- Whether a PBS register accepts writes only in BOOT and PLACES. -/
def pbsFixed (id : RegId) : Bool :=
  match id with
  | .PBS_PH | .PBS_PHSC | .PBS_FEED | .PBS_ILIM | .PBS_SHED | .PBS_BASE | .PBS_SHARE | .PBS_SHFB | .PBS_SHFL | .PBS_TSRC
  | .PBS_TOFS | .PBS_TLIM | .PBS_CLS | .PBS_CMIN => true
  | _ => false

/-- Whether PBS accepts a write by `w` to register `id` (R467). -/
def pbsAccepts (w : Writer) (id : RegId) : Bool :=
  w.isHouse || (w.isCue && (id == .PBS_REQ || id == .PBS_HEAD))

/-- A register write to PBS. -/
def State.pbsRegWrite (s : State) (d : RegDesc) (k a : Nat) (v : Word) : State :=
  if (pbsFixed d.id && !s.bootOrPlaces) || !s.pbsValueOk d.id k v then s.raise R.PBS_STAT_CFGREF
  else
    let s := s.writeTyped d a false v
    if d.id = .PBS_CTRL ∧ ¬ v.getLsbD 0 then s.pbsBoundary else s

/-! ## Commands -/

/-- DELTA_SIGMA_OUTPUT (R371, R448). A DSDn that no pin carries reads 0, and without DSCn an external clock has no edges (R432). -/
def execDeltaSigmaOutput (ch : Fin 16) (bits : Nat) (s : State) : Host.Outcome State Fault Refusal :=
  let n := s.getF (R.AFE_DSRES_CNT ch)
  let clocked := !s.flag (R.AFE_DSCFG_CLKSRC ch) || s.carries 6 (2 * ch + 1) 5
  let s := if clocked then s.dsOutput ch (if s.carries 6 (2 * ch) 5 then bits else 0) else s
  .next (State.settle <| if s.getF (R.AFE_DSRES_CNT ch) = n ∨ ¬ s.flag R.PBS_CTRL_EN then s else s.pbsSample ch (s.getS (R.AFE_DSRES_VAL ch)))

/-- MEMBER_REPORT_TIMEOUT (R463). -/
def execMemberReportTimeout (member : Fin 16) (s : State) : Host.Outcome State Fault Refusal := .next (State.settle <| s.reportLoss member)

/-- SHARE_LOSS_TIMEOUT (R465). -/
def execShareLossTimeout (s : State) : Host.Outcome State Fault Refusal := .next s.shareLoss.settle

end Sys2Proof.Machine
end

