-- ==== Sys2Proof/Machine/Byr.lean ====
section
/-!
DEFINITION. The Byrov fabric (R502 to R513, R515): lanes, link states, remote events, messages, the answers to remote accesses,
and the power-budget packets.
What the spec leaves open here: log entries 14 and 47.
-/

namespace Sys2Proof.Machine

/-- The destination of a header block, if it is a packet or an event. -/
def blkDest (b : Blk) : Option Nat :=
  let t := b.payload.toNat % 256
  if b.ctl && (t == 0x4B || t == 0x55) then some (b.payload.toNat / 2 ^ 46) else none

/-- Whether what arrived is a JOIN packet that admits a node (R506). -/
def blkAdmits (l : List Blk) : Bool :=
  match l with
  | h :: b :: _ => h.ctl && h.payload.toNat % 256 == 0x4B && h.payload.toNat / 2 ^ 24 % 16 == 7 && b.payload.toNat % 256 == 2
  | _ => false

/-- Whether what arrived is a packet whose CRC fails (R505). -/
def pktBad (l : List Blk) : Bool :=
  match l with
  | h :: t =>
    h.ctl && h.payload.toNat % 256 == 0x4B &&
      crc32cFull (bytesLE 7 (h.payload.toNat / 256) ++ (t.take (h.payload.toNat / 2 ^ 16 % 256)).flatMap fun b => bytesLE 8 b.payload.toNat)
        != ((t.drop (h.payload.toNat / 2 ^ 16 % 256)).map fun b => b.payload.toNat % 2 ^ 32).headD 0
  | [] => false

/-- The types of the control blocks (R505). -/
def byrTypes : List Nat := [0x1E, 0x2D, 0x33, 0x4B, 0x55, 0x66, 0x78, 0x87]

/-- What arrives on port `q` is counted where a packet's CRC fails or a control block's type is none of R505 (R274, R515). -/
def State.byrArrive (s : State) (q : Nat) (l : List Blk) : State :=
  let bad := (l.filter fun b => b.ctl && !byrTypes.contains (b.payload.toNat % 256)).length
  let s := if bad = 0 then s else s.count (R.BYR_ERRCNT_SYNC q) bad
  if pktBad l then s.count (R.BYR_ERRCNT_CRC q) 1 else s

/-- `s` with what arrived on a port and is not for this node forwarded (R503); the port behind which a node is admitted goes from
JOIN to UP (R508). -/
def State.byrForward (s : State) (l : List Blk) : State :=
  match l with
  | [] => s
  | b :: _ =>
    match blkDest b with
    | some d =>
      let s := s.byrSend d l
      match s.byrRoute d with
      | some q => if blkAdmits l && s.getF (R.BYR_PORT_LINK q) == 2 then s.setF (R.BYR_PORT_LINK q) 3 else s
      | none => s
    | none => s

/-- The root time in ns as this node has it. -/
def State.byrTimeNs (s : State) : Nat := (s.cue.time + s.cue.tofs).toNat

/-- The 8 bytes of a payload enter the CRC of a lane. -/
def laneCrc (c : Nat) (b : Blk) : Nat := crc32c c (bytesLE 8 b.payload.toNat)

/-- Block `b` sent on the lane of a port (R273, R504). -/
def ByrPort.send (p : ByrPort) (b : Blk) : ByrPort :=
  let t := blkBits p.scr b
  { p with last := some b, scr := t.1, bits := t.2 }

/-- One block slot of port `q` (R504): MARK in slot 0, else the next waiting block, else IDLE; TIME is sent downstream once
in 64 superframes. -/
def State.byrSlot (s : State) (q : Nat) : State :=
  if s.getF (R.BYR_PORT_LINK q) = 0 ∨ s.getF (R.BYR_PORT_LINK q) = 4 then s
  else
    let p := s.byrPort q
    if p.slot = 0 then
      let sf := s.byrTimeNs / 6400
      let crc := p.crc ^^^ 0xFFFFFFFF
      let time := if sf % 64 = 0 ∧ s.getF (R.BYR_PORT_UPSTR q) = 0 then [ctlBlk 0x33 (sf % 2 ^ 56)] else []
      s.modBport q fun p =>
        { p with slot := 1, crc := 0xFFFFFFFF, prevCrc := crc, out := time ++ p.out } |>.send (ctlBlk 0x2D (sf % 2 ^ 24 * 2 ^ 32 + crc))
    else
      let b := p.out.headD (ctlBlk 0x1E 0)
      s.modBport q fun p =>
        { p with slot := (p.slot + 1) % 500, out := p.out.tail, crc := laneCrc p.crc b } |>.send b

/-! ## Link states (R508, R509) -/

/-- The interface level that this module declares (R516): the running image's. -/
def State.ifLevel (s : State) : Nat := s.getF (R.UPD_IMGS_LEVEL (s.getF R.UPD_STAT_ACTIVE))

/-- Whether two interface levels differ by at most one. -/
def levelNear (a b : Nat) : Bool := decide (a ≤ b + 1 ∧ b ≤ a + 1)

/-- Whether `src` lies in the ring of which this node is position 0 and which port `q` belongs to. -/
def State.byrRingHas (s : State) (q src : Nat) : Bool :=
  let n := s.byrSelf
  byrNode src && src != n &&
    (if q = 2 then
      if byrB n = 0 then byrA src == byrA n && byrB src != 0 && byrC src == 0
      else byrC n == 0 && byrA src == byrA n && byrB src == byrB n && byrC src != 0
    else n == 0 && byrB src == 0)

/-- The nodes that this node has admitted by port `q` leave with it, but for those that a closed root ring still reaches by the other
port (R503, R509). -/
def State.byrLeave (s : State) (q : Nat) : State :=
  if q ≠ 2 ∧ Config.byrClosed ∧ s.byrUp (1 - q) then s
  else s.modByr fun b => { b with members := b.members.filter fun m => !s.byrRingHas q m }

/-- Port `q` goes to FAULT with a cause; the loss of the upstream port is a holdover (R509, R56). -/
def State.byrFault (s : State) (q cause : Nat) : State :=
  let s := ((s.setF (R.BYR_PORT_LINK q) 4).setF (R.BYR_PORT_CAUSE q) cause).byrLeave q
  let s := s.modBport q fun p => { p with out := [] }
  if s.flag (R.BYR_PORT_UPSTR q) then s.holdover else s

/-- CAPS of this module (R505). -/
def State.byrCaps (s : State) : Blk :=
  ctlBlk 0x87 (s.byrSelf * 2 ^ 38 + s.ifLevel % 2 ^ 8 * 2 ^ 30 + Config.byrTurnaround.toNat * 2 ^ 14 + 2 ^ 13)

/-- A port enters TRAIN: its CAPS goes out, and the scrambler starts from a state that the spec leaves open (R273, R508). CAUSE, the
reason for the last entry to FAULT, stays. -/
def State.byrTrain (s : State) (q : Nat) : State :=
  let s := (s.setF (R.BYR_PORT_LINK q) 1).setF (R.BYR_PORT_UPSTR q) (s.byrUpstream q).toNat
  let (r, s) := s.fresh
  s.modBport q fun _ => { out := [s.byrCaps], scr := r % 2 ^ 58, skew := s.getS (R.BYR_SKEW_SKEW q) }

/-- TRAIN is left for JOIN once CAPS fits and 64 ECHOs are measured; the upstream port asks to join. -/
def State.byrTrained (s : State) (q : Nat) : State :=
  let p := s.byrPort q
  if s.getF (R.BYR_PORT_LINK q) = 1 ∧ p.caps ∧ 64 ≤ p.echos then
    let s := s.setF (R.BYR_PORT_LINK q) 2
    if s.flag (R.BYR_PORT_UPSTR q) then
      let ring := if byrC s.byrSelf ≠ 0 then s.byrSelf / 64 * 64 else if byrB s.byrSelf ≠ 0 then s.byrSelf / 4096 * 4096 else 0
      s.byrQueue q (pktBlks ring s.byrSelf 7 0 [1])
    else s
  else s

/-- A write to BYR_CTRL (R508). -/
def State.byrCtrlWrite (s : State) (d : RegDesc) (a : Nat) (v : Word) : State :=
  let old := s.getReg a
  let s := s.writeTyped d a false v
  (List.range 3).foldl (fun s q =>
    if v.getLsbD q && !old.getLsbD q then s.byrTrain q
    else if !v.getLsbD q && old.getLsbD q then
      let s := if s.flag (R.BYR_PORT_UPSTR q) && s.byrUp q then s.holdover else s
      ((s.setF (R.BYR_PORT_LINK q) 0).byrLeave q).modBport q fun _ => {}
    else s) s

/-- MARK arrives (R507): the downstream node echoes it and takes its time; four CRC failures in a row end UP (R508). -/
def State.byrMarkIn (s : State) (q sf : Nat) (crcOk : Bool) (dly : Nat) : State :=
  if s.getF (R.BYR_PORT_LINK q) = 0 ∨ s.getF (R.BYR_PORT_LINK q) = 4 then s
  else
    let s := if crcOk then s.modBport q fun p => { p with fails := 0 }
      else (s.count (R.BYR_ERRCNT_CRC q) 1).modBport q fun p => { p with fails := p.fails + 1 }
    if s.byrUp q ∧ 4 ≤ (s.byrPort q).fails then s.byrFault q 4
    else if !s.flag (R.BYR_PORT_UPSTR q) then s
    else
      let high := (s.byrPort q).sf / 2 ^ 24 * 2 ^ 24
      let n := if high + sf < (s.byrPort q).sf then high + 2 ^ 24 + sf else high + sf
      let s := s.modBport q fun p => { p with sf := n, echos := p.echos + 1, out := ctlBlk 0x66 (sf * 2 ^ 32) :: p.out }
      let s := s.setF (R.BYR_DLY_DLY q) dly
      (s.modByr fun b => { b with rootNs := n * 6400 + dly / 16 }).byrTrained q

/-- ECHO arrives at the upstream node (R507, R278): round trip in 62.5 ps steps. -/
def State.byrEchoIn (s : State) (q rtt : Nat) : State :=
  if s.getF (R.BYR_PORT_LINK q) ≠ 1 ∨ s.flag (R.BYR_PORT_UPSTR q) then s
  else
    let s := s.modBport q fun p => { p with echos := p.echos + 1, rtt := p.rtt + rtt }
    let p := s.byrPort q
    if p.echos = 64 then
      let (l, s) := s.roundFree ((p.rtt : Int) - 64 * p.tbrd + 64 * p.skew) 128
      (s.setF (R.BYR_DLY_DLY q) (wrap 16 l)).byrTrained q
    else s.byrTrained q

/-- CAPS arrives (R508). -/
def State.byrCapsIn (s : State) (q addr level tbrd : Nat) : State :=
  if s.getF (R.BYR_PORT_LINK q) ≠ 1 then s
  else
    let s := s.setF (R.BYR_PORT_PEER q) addr
    if levelNear level s.ifLevel then (s.modBport q fun p => { p with caps := true, level := level, tbrd := tbrd }).byrTrained q
    else s.byrFault q 1

/-- A JOIN packet (R506, R508): 1 request at position 0, 2 admit, 3 refuse. -/
def State.byrJoinIn (s : State) (q kind src : Nat) : State :=
  match kind with
  | 1 =>
    if s.byrRingHas q src && !s.byr.members.contains src then
      let s := s.modByr fun b => { b with members := b.members ++ [src] }
      let s := if s.getF (R.BYR_PORT_LINK q) = 2 then s.setF (R.BYR_PORT_LINK q) 3 else s
      s.byrQueue q (pktBlks src s.byrSelf 7 0 [2])
    else s.byrQueue q (pktBlks src s.byrSelf 7 0 [3])
  | 2 => if s.getF (R.BYR_PORT_LINK q) = 2 then s.setF (R.BYR_PORT_LINK q) 3 else s
  | 3 => if s.getF (R.BYR_PORT_LINK q) = 2 then (s.byrFault q 3).raise R.BYR_STAT_DUP else s
  | _ => s

/-- TIME arrives: the superframe number in full (R505). -/
def State.byrTimeIn (s : State) (q sf : Nat) : State :=
  if s.flag (R.BYR_PORT_UPSTR q) then
    (s.modBport q fun p => { p with sf := sf }).modByr fun b => { b with rootNs := sf * 6400 + s.getF (R.BYR_DLY_DLY q) / 16 }
  else s

/-- CUEINFO arrives (R507). -/
def State.byrCueIn (s : State) (q count cycles : Nat) : State :=
  if s.flag (R.BYR_PORT_UPSTR q) then s.modByr fun b => { b with rootCue := count, rootCyc := cycles } else s

/-- At a boundary, CUEINFO goes to every port downstream that is UP, in a domain that the module leads or follows. -/
def State.byrBoundary (s : State) : State :=
  if s.cue.disc != 1 && s.cue.disc != 2 then s
  else
    let off := s.getS R.CUE_DISC_CNTOFF
    let n := wrap 40 (s.cue.count.toNat + if s.cue.disc = 2 then off else 0)
    let cyc := s.byrTimeNs % 6400 * 2 / 5
    (List.range 3).foldl (fun s q =>
      if s.flag (R.BYR_PORT_UPSTR q) || !s.byrUp q then s else s.byrQueue q [ctlBlk 0x78 (n * 2 ^ 16 + cyc * 16)]) s

/-! ## Remote events (R510) -/

/-- An event at consumer BYR_EVOUT(r). -/
def State.byrEvout (s : State) (r : Nat) : State :=
  if s.flag (R.BYR_EVOUT_V r) then
    let dst := s.getF (R.BYR_EVOUT_DEST r)
    s.byrSend dst [ctlBlk 0x55 (dst * 2 ^ 38 + s.byrSelf * 2 ^ 20 + s.getF (R.BYR_EVOUT_REM r) * 2 ^ 15)]
  else s

/-- An EVT for this node. -/
def State.byrEvtIn (s : State) (src r : Nat) : State :=
  if s.flag (R.BYR_EVSRC_ANY r) || (s.flag (R.BYR_EVSRC_V r) && s.getF (R.BYR_EVSRC_SRC r) == src) then s.publish (Src.byrEvin r)
  else s.count R.BYR_STAT_EVREJ 1

/-! ## Remote accesses at the target (R511) -/

/-- Whether BYR_RACC lets a remote node reach `n` bytes at `a`. -/
def State.byrGranted (s : State) (a n : Nat) (wr : Bool) : Bool :=
  let last := a + n - 1
  match regionOf a with
  | .working => s.flag R.BYR_RACC_WM && regionOf last == .working && (!wr || (s.wmWritable .byr a && s.wmWritable .byr last))
  | .dram => s.flag R.BYR_RACC_DRAM && s.dramUsable a n
  | .pmem =>
    s.flag R.BYR_RACC_PMEM && decide (pmemBase + 0xB40000 ≤ a) && regionOf last == .pmem
      && (!wr || s.pmemWritable .byr (a - pmemBase))
  | _ => false

/-- A WR packet: written and answered. -/
def State.byrWrIn (s : State) (src tag a : Nat) (l : List Byte) : State :=
  if l.isEmpty || !s.byrGranted a l.length true then s.byrPkt src 4 tag [1]
  else
    let (s, ok) := s.memWrite .byr a l
    s.byrPkt src 4 tag [if ok then 0 else 2]

/-- An RD packet: read and answered. -/
def State.byrRdIn (s : State) (src tag a n : Nat) : State :=
  if n = 0 ∨ ¬ s.byrGranted a n false then s.byrPkt src 3 tag [1, 0, 0, 0, 0, 0, 0, 0]
  else
    match s.memRead a n with
    | (s, .ok l) => s.byrPkt src 3 tag ([0, 0, 0, 0, 0, 0, 0, 0] ++ l)
    | (s, _) => s.byrPkt src 3 tag [2, 0, 0, 0, 0, 0, 0, 0]

/-! ## Messages (R512) -/

/-- The address of slot `n` of the message ring, if the ring lies in working memory. -/
def State.msgSlot (s : State) (n : Nat) : Option Nat :=
  let a := s.getF R.BYR_MBASE_ADDR * 2 ^ 17 + 2048 * n
  if regionOf a = .working then some a else none

/-- A write of BYR_MTX.GO: slot SLOT, whose first 4 bytes hold the length, goes to DEST as MSG. -/
def State.msgSend (s : State) : State :=
  match s.msgSlot (s.getF R.BYR_MTX_SLOT) with
  | none => s
  | some a =>
    let (s, h) := s.blockRead .working a 4
    let (s, l) := s.blockRead .working (a + 4) (min (leAt h 0 4) 2040)
    s.byrPkt (s.getF R.BYR_MTX_DEST) 5 0 l

/-- A received message enters a slot of the ring that holds no message yet, which one is open; it is queued for BYR_MRX. -/
def State.msgIn (s : State) (src : Nat) (l : List Byte) : State :=
  let free := (List.range 64).filter fun n => !s.byr.rx.any fun r => r.1 == n
  let (r, s) := s.fresh
  match free[r % max 1 free.length]? with
  | none => s
  | some n =>
    let l := l.take 2040
    let s := match s.msgSlot n with
      | some a => (s.memWrite .byr a (bytesLE 4 l.length ++ l)).1
      | none => s
    s.modByr fun b => { b with rx := b.rx ++ [(n, src)] }

/-- BYR_MRX as it reads. -/
def State.mrxWord (s : State) : Word :=
  match s.byr.rx with
  | [] => 0
  | (n, src) :: _ => BitVec.ofNat 32 (2 ^ 31 + n * 2 ^ 24 + src)

/-! ## Power-budget packets (R463, R506) -/

/-- The report of a member at a boundary; the owner's address stands nowhere in the module, so the destination is open. -/
def State.reportSend (s : State) : State :=
  if !s.inGroup || !s.flag R.PBS_CTRL_EN then s
  else
    let m := s.getF R.PBS_SHARE_MEMBER
    let floor := s.getF R.PBS_SHFL_FLOOR
    if s.groupOwner then s.reportArrive m s.pbs.total floor
    else
      let (dst, s) := s.fresh
      let b0 := s.getF R.PBS_SHARE_GROUP * 2 ^ 56 + m * 2 ^ 52 + s.cue.count.toNat % 2 ^ 48
      let b1 := s.getF R.PBS_MEAS_P + clampU 20 s.pbs.total * 2 ^ 20 + floor * 2 ^ 40
      s.byrPkt (dst % 2 ^ 18) 6 0 (bytesLE 8 b0 ++ bytesLE 8 b1)

/-- The share of a member sent by the owner. -/
def State.shareSend (s : State) (member share : Nat) : State :=
  if member = s.getF R.PBS_SHARE_MEMBER then s
  else
    let (dst, s) := s.fresh
    let b0 := s.getF R.PBS_SHARE_GROUP * 2 ^ 56 + member * 2 ^ 52 + 2 ^ 51 + (s.cue.count.toNat + 2) % 2 ^ 48
    s.byrPkt (dst % 2 ^ 18) 6 0 (bytesLE 8 b0 ++ bytesLE 8 (clampU 20 share))

/-! ## Register writes (R515) -/

/-- A register write to BYR. -/
def State.byrRegWrite (s : State) (d : RegDesc) (a : Nat) (v : Word) : State :=
  match d.id with
  | .BYR_CTRL => s.byrCtrlWrite d a v
  | .BYR_ADDR | .BYR_RACC | .BYR_MBASE => if s.bootOrPlaces then s.writeTyped d a false v else s.raise R.BYR_STAT_CFGREF
  | .BYR_TMO => if fieldOf v 15 0 = 0 then s.raise R.BYR_STAT_CFGREF else s.writeTyped d a false v
  | .BYR_EVSRC =>
    if (List.range 3).any s.byrUp then s.raise R.BYR_STAT_CFGREF else s.writeTyped d a false v
  | .BYR_MTX =>
    if 64 ≤ fieldOf v 30 24 then s.raise R.BYR_STAT_CFGREF
    else
      let s := s.writeTyped d a false v
      if v.getLsbD 31 then s.msgSend else s
  | .BYR_MRX => if v.getLsbD 30 then s.modByr fun b => { b with rx := b.rx.tail } else s
  | _ => s.writeTyped d a false v

/-! ## Commands -/

/-- BYR_BLOCK_SLOT (R503, R504): what arrives for another node is forwarded, and the port sends its next block. -/
def execByrBlockSlot (port : Fin 3) (arrival : List Blk) (s : State) : Host.Outcome State Fault Refusal :=
  .next (State.settle <| ((s.byrArrive port arrival).byrForward arrival).byrSlot port)

/-- BYR_MARK (R507). -/
def execByrMark (port : Fin 3) (sf : BitVec 24) (crcOk : Bool) (dly : BitVec 16) (s : State) :
    Host.Outcome State Fault Refusal := .next (State.settle <| s.byrMarkIn port sf.toNat crcOk dly.toNat)

/-- BYR_ECHO (R507). -/
def execByrEcho (port : Fin 3) (rtt : BitVec 32) (s : State) : Host.Outcome State Fault Refusal :=
  .next (State.settle <| s.byrEchoIn port rtt.toNat)

/-- BYR_CAPS (R508). -/
def execByrCaps (port : Fin 3) (addr : BitVec 18) (level : BitVec 8) (tbrd : BitVec 16) (s : State) :
    Host.Outcome State Fault Refusal := .next (State.settle <| s.byrCapsIn port addr.toNat level.toNat tbrd.toNat)

/-- BYR_TIME (R505). -/
def execByrTime (port : Fin 3) (sf : BitVec 56) (s : State) : Host.Outcome State Fault Refusal :=
  .next (State.settle <| s.byrTimeIn port sf.toNat)

/-- BYR_CUEINFO (R507). -/
def execByrCueinfo (port : Fin 3) (count : BitVec 40) (cycles : BitVec 12) (s : State) : Host.Outcome State Fault Refusal :=
  .next (State.settle <| s.byrCueIn port count.toNat cycles.toNat)

/-- BYR_JOIN (R508). -/
def execByrJoin (port : Fin 3) (kind : BitVec 8) (src : BitVec 18) (s : State) : Host.Outcome State Fault Refusal :=
  .next (State.settle <| s.byrJoinIn port kind.toNat src.toNat)

/-- BYR_TRAIN_TIMEOUT (R508). -/
def execByrTrainTimeout (port : Fin 3) (s : State) : Host.Outcome State Fault Refusal :=
  .next (State.settle <| if s.getF (R.BYR_PORT_LINK port) = 1 then s.byrFault port 2 else s)

/-- BYR_LOCK_LOSS (R508): 12.8 µs are 1,000 block times, in none of which a valid block came, which BYR_ERRCNT.SYNC counts (R515,
DEDUCED, log entry 47). -/
def execByrLockLoss (port : Fin 3) (s : State) : Host.Outcome State Fault Refusal :=
  .next (State.settle <| if s.byrUp port then (s.count (R.BYR_ERRCNT_SYNC port) 1000).byrFault port 4 else s)

/-- BYR_WR (R511). -/
def execByrWr (src : BitVec 18) (tag : BitVec 8) (addr : Addr) (data : List Byte) (s : State) :
    Host.Outcome State Fault Refusal := .next (State.settle <| s.byrWrIn src.toNat tag.toNat addr.toNat data)

/-- BYR_RD (R511). -/
def execByrRd (src : BitVec 18) (tag : BitVec 8) (addr : Addr) (len : BitVec 9) (s : State) :
    Host.Outcome State Fault Refusal := .next (State.settle <| s.byrRdIn src.toNat tag.toNat addr.toNat len.toNat)

/-- BYR_MSG (R512). -/
def execByrMsg (src : BitVec 18) (data : List Byte) (s : State) : Host.Outcome State Fault Refusal :=
  .next (State.settle <| s.msgIn src.toNat data)

/-- BYR_PBS_REPORT (R463). -/
def execByrPbsReport (group : BitVec 8) (member : Fin 16) (request floor : BitVec 20) (s : State) :
    Host.Outcome State Fault Refusal :=
  .next (State.settle <| if s.getF R.PBS_SHARE_GROUP = group.toNat then s.reportArrive member request.toNat floor.toNat else s)

/-- BYR_PBS_SHARE (R465). -/
def execByrPbsShare (group : BitVec 8) (member : Fin 16) (share : BitVec 20) (s : State) :
    Host.Outcome State Fault Refusal :=
  .next (State.settle <| if s.getF R.PBS_SHARE_GROUP = group.toNat ∧ ¬ s.groupOwner then s.shareArrive member share.toNat else s)

/-- BYR_EVT (R510). -/
def execByrEvt (src : BitVec 18) (r : Fin 32) (s : State) : Host.Outcome State Fault Refusal :=
  .next (State.settle <| s.byrEvtIn src.toNat r)

/-- PBS_LATCH (R453): the latch, and the shares that an owner sends. -/
def execPbsLatch (s : State) : Host.Outcome State Fault Refusal :=
  let (l, s) := s.pbsLatch
  .next (State.settle <| l.foldl (fun s q => s.shareSend q.1 q.2) s)

end Sys2Proof.Machine
end

