-- ==== Sys2Proof/Machine/Dma.lean ====
section
/-!
DEFINITION. DMA engines (R409 to R428): channel states, requests, descriptors, check values, register writes. The beats stand
in DmaRun.lean.
What the spec leaves open here: log entry 42.
-/

namespace Sys2Proof.Machine

/-- Channel `c`. -/
def State.dch (s : State) (c : Nat) : DmaChan := mget {} s.dma.ch c

/-- `s` with channel `c` changed. -/
def State.modDch (s : State) (c : Nat) (f : DmaChan → DmaChan) : State :=
  { s with dma := { s.dma with ch := mmod {} s.dma.ch c f } }

/-- The STATE of channel `c` (R425): 0 IDLE, 1 RUN, 2 EMPTY, 3 HALT. -/
def State.dmaState (s : State) (c : Nat) : Nat := s.getF (R.DMA_STAT_STATE c)

/-- `s` with the STATE of channel `c` set. -/
def State.setDmaState (s : State) (c v : Nat) : State := s.setF (R.DMA_STAT_STATE c) v

/-- Whether channel `c` is in descriptor mode. -/
def State.dmaChain (s : State) (c : Nat) : Bool := s.flag (R.DMA_CTRL_MODE c)

/-- A write of channel `c` that is ignored (R428). -/
def State.dmaCfgref (s : State) (c : Nat) : State := (s.raise (R.DMA_STAT_CFGREF c)).raise R.DMA_GSTAT_CFGREF

/-! ## Addresses in the registers -/

/-- SRC, DST and DSC of channel `c`, 40 bits each. -/
def State.dmaSrc (s : State) (c : Nat) : Nat := s.getF (R.DMA_SRCL_ADDR c) + s.getF (R.DMA_HI_SRC c) * 2 ^ 32
def State.dmaDst (s : State) (c : Nat) : Nat := s.getF (R.DMA_DSTL_ADDR c) + s.getF (R.DMA_HI_DST c) * 2 ^ 32
def State.dmaDsc (s : State) (c : Nat) : Nat := s.getF (R.DMA_DSCL_ADDR c) * 64 + s.getF (R.DMA_HI_DSC c) * 2 ^ 32

/-- `s` with the progress registers of a register-mode transfer showing what is left. -/
def State.dmaShow (s : State) (c : Nat) : State :=
  let x := s.dch c
  let s := (s.setF (R.DMA_SRCL_ADDR c) x.src).setF (R.DMA_HI_SRC c) (x.src / 2 ^ 32)
  let s := (s.setF (R.DMA_DSTL_ADDR c) x.dst).setF (R.DMA_HI_DST c) (x.dst / 2 ^ 32)
  s.setF (R.DMA_LEN_LEN c) x.left

/-- `s` with DSC of channel `c` set. -/
def State.setDmaDsc (s : State) (c a : Nat) : State :=
  (s.setF (R.DMA_DSCL_ADDR c) (a / 64)).setF (R.DMA_HI_DSC c) (a / 2 ^ 32)

/-- Whether the source, or the destination, of channel `c` is held fixed. -/
def State.srcFixed (s : State) (c : Nat) : Bool :=
  match (s.dch c).dsc with
  | some (_, w, _) => w.getLsbD 26
  | none => s.flag (R.DMA_CTRL_SRCFIX c)
def State.dstFixed (s : State) (c : Nat) : Bool :=
  match (s.dch c).dsc with
  | some (_, w, _) => w.getLsbD 25
  | none => s.flag (R.DMA_CTRL_DSTFIX c)

/-- The rule of R410 for peripheral space. -/
def dmaAligned (src dst len : Nat) : Bool :=
  let ok (a : Nat) : Bool := regionOf a != .peripheral || (a % 4 == 0 && len % 4 == 0)
  ok src && ok dst

/-! ## Check values (R417, R418) -/

/-- The initial value of a check. -/
def chkInit (k : Nat) : Nat := match k with | 1 => 0xFFFFFFFF | 2 => 0xFFFF | _ => 0

/-- Bytes entering the accumulator and partial word of check `k`. -/
def chkBytes (k : Nat) (x : DmaChan) (l : List Byte) : DmaChan :=
  match k with
  | 1 => { x with acc := crc32c x.acc l }
  | 2 => { x with acc := crc16 x.acc l }
  | 3 => l.foldl (fun x b =>
      let p := x.part ++ [b]
      if p.length = 4 then { x with acc := (x.acc + natLE p) % 2 ^ 32, part := [] } else { x with part := p }) x
  | _ => x

/-- The partial word of a sum padded with zero bytes and added. -/
def chkClose (x : DmaChan) : DmaChan := { x with acc := (x.acc + natLE x.part) % 2 ^ 32, part := [] }

/-- The stored result of check `k`. -/
def chkResult (k acc : Nat) : Nat := match k with | 0 => 0 | 1 => acc ^^^ 0xFFFFFFFF | _ => acc

/-! ## Requests (R413) -/

/-- Requests waiting are served while less is released than one beat takes. -/
def State.dmaServe (s : State) (c : Nat) : State :=
  let x := s.dch c
  if x.credit < (if regionOf x.dst = .peripheral then 4 else 1) ∧ s.getF (R.DMA_CNT_PEND c) ≠ 0 ∧ s.dmaState c = 1 then
    (s.setF (R.DMA_CNT_PEND c) (s.getF (R.DMA_CNT_PEND c) - 1)).modDch c fun x =>
      { x with credit := x.credit + s.getF (R.DMA_PACE_BURST c) }
  else s

/-- A DMA_REQ event at channel `c`. -/
def State.dmaReq (s : State) (c : Nat) : State :=
  if s.dmaState c = 0 then s
  else if s.getF (R.DMA_CNT_PEND c) = 15 then s.raise (R.DMA_STAT_REQOVF c)
  else (s.setF (R.DMA_CNT_PEND c) (s.getF (R.DMA_CNT_PEND c) + 1)).dmaServe c

/-! ## Ends of transfers and descriptors (R420 to R425) -/

/-- What a channel keeps from one descriptor or transfer to the next: its accumulator (R418) and its share of the port (R414). -/
def DmaChan.kept (x : DmaChan) : DmaChan := { acc := x.acc, part := x.part, window := x.window }

/-- `s` with channel `c` idle: nothing outstanding. -/
def State.dmaIdle (s : State) (c : Nat) : State := (s.setDmaState c 0).modDch c DmaChan.kept

/-- `s` with channel `c` idle after an ABORT: PEND cleared (R425). -/
def State.dmaAborted (s : State) (c : Nat) : State := (s.setF (R.DMA_CNT_PEND c) 0).dmaIdle c

/-- `s` with channel `c` halted on a fault at `a` (R422, R424). -/
def State.dmaHalt (s : State) (c a : Nat) (wr dscf : Bool) : State :=
  let s := ((s.setDmaState c 3).raise (R.DMA_STAT_ERR c)).setF (R.DMA_STAT_DSCF c) dscf.toNat
  let s := (s.setF (R.DMA_STAT_DIR c) wr.toNat).setF (R.DMA_STAT_ERRH c) (a / 2 ^ 32)
  (s.setF (R.DMA_ERRL_ADDR c) a).modDch c fun x => { x with rd := [], queue := [], wr := [], wait := false, fetch := false }

/-- Whether a descriptor may stand at `a` (R419). -/
def dscRegion (a : Nat) : Bool :=
  match regionOf a with
  | .localStore _ => true
  | .working => true
  | .dram => true
  | _ => false

/-- `s` with bytes 0x20 to 0x33 of channel `c`'s descriptor written and its VALID cleared (R420): status code, check, fault. -/
def State.dscEnd (s : State) (c code chk : Nat) (fault : Option (Nat × Bool)) : State × Bool :=
  match (s.dch c).dsc with
  | none => (s, true)
  | some (a, w, _) =>
    let fa := match fault with | some (x, _) => x | none => 0
    let dir := match fault with | some (_, true) => 2 ^ 27 | _ => 0
    let l := bytesLE 4 (code * 2 ^ 28 + dir) ++ bytesLE 4 chk ++ bytesLE 8 fa ++ bytesLE 4 (s.dch c).done
    let wrt : Writer := .dma (Fin.ofNat 64 c)
    let (s, ok) := s.memWrite wrt (a + 0x20) l
    if !ok then (s, false) else s.memWrite wrt a (bytesLE 4 (w &&& ~~~ maskOf 31 31).toNat)

/-- The chain goes on after a descriptor, or stops in IDLE after the last (R420, R423). -/
def State.dscNext (s : State) (c : Nat) : State :=
  match (s.dch c).dsc with
  | none => s
  | some (_, w, next) =>
    if w.getLsbD 30 then s.dmaIdle c
    else (s.setDmaDsc c next).modDch c fun x => { x.kept with fetch := true }

/-- A descriptor with first word `w` has ended, DONE or BAD: its IRQ and EVT, and the chain goes on (R420, R423). -/
def State.dscEnded (s : State) (c : Nat) (w : Word) : State :=
  let s := if w.getLsbD 29 then s.raise (R.DMA_STAT_DONE c) else s
  (if w.getLsbD 28 then s.publish (Src.dmaDone c) else s).dscNext c

/-- The last byte of a transfer or descriptor is acknowledged (R418, R420, R425). -/
def State.dmaComplete (s : State) (c : Nat) : State :=
  let k := s.getF (R.DMA_CTRL_CHK c)
  let s := s.modDch c chkClose
  let res := chkResult k (s.dch c).acc
  match (s.dch c).dsc with
  | none =>
    let s := ((s.setF (R.DMA_CHKV_CHK c) res).raise (R.DMA_STAT_DONE c)).dmaIdle c
    if s.flag (R.DMA_CTRL_EVTEN c) then s.publish (Src.dmaDone c) else s
  | some (a, w, _) =>
    match s.dscEnd c 1 res none with
    | (s, false) => s.dmaHalt c a true true
    | (s, true) =>
      (s.setF (R.DMA_CHKV_CHK c) res).dscEnded c w

/-- A beat of channel `c` at `a` fails (R422, R423). -/
def State.dmaFail (s : State) (c a : Nat) (wr : Bool) : State :=
  match (s.dch c).dsc with
  | none => s.dmaHalt c a wr false
  | some (da, w, _) =>
    let s := (s.setF (R.DMA_STAT_DIR c) wr.toNat).setF (R.DMA_STAT_ERRH c) (a / 2 ^ 32)
    let s := ((s.setF (R.DMA_ERRL_ADDR c) a).raise (R.DMA_STAT_BAD c)).count (R.DMA_CNT_BADCNT c) 1
    match s.dscEnd c 2 0 (some (a, wr)) with
    | (s, false) => s.dmaHalt c da true true
    | (s, true) => s.dscEnded c w

/-- A transfer of `len` bytes begins on channel `c`. -/
def State.dmaBegin (s : State) (c src dst len : Nat) : State :=
  let s := s.modDch c fun x => { x with src := src, dst := dst, left := len, done := 0 }
  if len = 0 then s.dmaComplete c else s.dmaServe c

/-- The descriptor at DSC is fetched (R419, R421, R424, R425). -/
def State.dmaFetch (s : State) (c : Nat) : State :=
  if s.dmaState c ≠ 1 ∨ ¬ (s.dch c).fetch ∨ (s.dch c).abort then s
  else
    let a := s.dmaDsc c
    let s := s.modDch c fun x => { x with fetch := false }
    match if dscRegion a then s.memRead a 32 else (s, .busError) with
    | (s, .ok l) =>
      let w : Word := BitVec.ofNat 32 (leAt l 0 4)
      if !w.getLsbD 31 then s.setDmaState c 2
      else
        let (len, src, dst, next) := (leAt l 4 4, leAt l 8 8, leAt l 16 8, leAt l 24 8)
        let s := s.modDch c fun x => { x with dsc := some (a, w, next % 2 ^ 40), done := 0 }
        let ok := fieldOf w 24 0 == 0 && decide (src < 2 ^ 40) && decide (dst < 2 ^ 40) && (w.getLsbD 30 || next % 64 == 0)
          && dmaAligned src dst len
        if !ok then
          match s.dscEnd c 3 0 none with
          | (s, false) => s.dmaHalt c a true true
          | (s, true) => ((s.setDmaState c 3).raise (R.DMA_STAT_ERR c)).raise (R.DMA_STAT_DSCF c)
        else
          let s := if w.getLsbD 27 then s
            else s.modDch c fun x => { x with acc := chkInit (s.getF (R.DMA_CTRL_CHK c)), part := [] }
          s.dmaBegin c src dst len
    | (s, _) => s.dmaHalt c a false true

/-! ## GO and ABORT (R425, R426) -/

/-- Whether channels run in the present state (R426). -/
def State.dmaRuns (s : State) : Bool :=
  match s.sys.dev with
  | .places | .run _ | .curtain => true
  | _ => false

/-- GO on channel `c`. -/
def State.dmaGo (s : State) (c : Nat) : State :=
  if !s.dmaRuns then s.dmaCfgref c
  else
    match s.dmaState c with
    | 0 =>
      let fresh (s : State) : State := ((s.setDmaState c 1).setF (R.DMA_CNT_PEND c) 0).lower (R.DMA_STAT_DSCF c)
      if s.dmaChain c then (fresh s).modDch c fun x => { x.kept with fetch := true }
      else if !dmaAligned (s.dmaSrc c) (s.dmaDst c) (s.getF (R.DMA_LEN_LEN c)) then s.dmaCfgref c
      else
        ((fresh s).modDch c fun x => { acc := chkInit (s.getF (R.DMA_CTRL_CHK c)), window := x.window }).dmaBegin c (s.dmaSrc c) (s.dmaDst c)
          (s.getF (R.DMA_LEN_LEN c))
    | 1 => s.dmaCfgref c
    | 2 => (s.setDmaState c 1).modDch c fun x => { x with fetch := true, dsc := none }
    | _ =>
      let s := s.setDmaState c 1
      if s.dmaChain c then s.modDch c fun x => { x with fetch := true, dsc := none } else s.dmaServe c

/-- ABORT on channel `c`: IDLE after outstanding beats end. -/
def State.dmaAbort (s : State) (c : Nat) : State :=
  if s.dmaState c = 0 then s
  else
    let x := s.dch c
    if x.rd.isEmpty && x.wr.isEmpty then s.dmaAborted c
    else if x.abort then s
    else s.modDch c fun x => { x with abort := true, abortClk := s.clk }

/-- The outstanding beats of an aborted channel have ended. -/
def State.dmaAbortEnd (s : State) (c : Nat) : State :=
  let x := s.dch c
  if x.abort && x.rd.isEmpty && x.wr.isEmpty then s.dmaAborted c else s

/-- Entry to WINGS (R425): every channel goes to IDLE. -/
def State.dmaStop (s : State) : State := (List.range 64).foldl (fun s c => if s.dmaState c = 0 then s else s.dmaIdle c) s

/-! ## Interrupts and register accesses (R428) -/

/-- A word with bit `i` set where `p` holds. -/
def wordOf (p : Nat → Bool) : Word := (List.range 32).foldl (fun w i => if p i then w ||| BitVec.ofNat 32 (2 ^ i) else w) 0

/-- What the block-wide registers of DMA read. -/
def State.dmaRegRead (s : State) (id : RegId) (stored : Word) : Word :=
  match id with
  | .DMA_GSTAT =>
    stored ||| wordOf fun e => decide (e < 4) && (List.range 16).any fun i => s.dmaState (16 * e + i) != 0
  | .DMA_IRQL => wordOf fun i => s.dmaIrq i
  | .DMA_IRQH => wordOf fun i => s.dmaIrq (32 + i)
  | _ => stored

/-- Whether a value is in range for a DMA register. -/
def dmaValueOk (id : RegId) (v : Word) : Bool :=
  match id with
  | .DMA_PACE =>
    decide (1 ≤ fieldOf v 31 22 ∧ fieldOf v 31 22 ≤ 1000 ∧ 1 ≤ fieldOf v 21 17 ∧ fieldOf v 21 17 ≤ 16
      ∧ fieldOf v 16 13 < fieldOf v 21 17 ∧ 1 ≤ fieldOf v 12 0)
  | _ => true

/-- A register write to DMA; `c` is the channel. -/
def State.dmaRegWrite (s : State) (d : RegDesc) (c a : Nat) (v : Word) : State :=
  match d.id with
  | .DMA_CTRL =>
    let m := maskOf 21 16 ||| maskOf 14 11
    let s := if s.dmaState c = 0 then s.writeTyped d a false v
      else if v &&& m = s.getReg a &&& m then s else s.dmaCfgref c
    if v.getLsbD 30 then s.dmaAbort c else if v.getLsbD 31 then s.dmaGo c else s
  | .DMA_PACE | .DMA_SRCL | .DMA_DSTL | .DMA_HI | .DMA_LEN | .DMA_DSCL =>
    if s.dmaState c ≠ 0 ∨ ¬ dmaValueOk d.id v then s.dmaCfgref c else s.writeTyped d a false v
  | _ => s.writeTyped d a false v

/-! ## Commands -/

/-- DMA_DESCRIPTOR_FETCH (R419). -/
def execDmaDescriptorFetch (ch : Fin 64) (s : State) : Host.Outcome State Fault Refusal := .next (State.settle <| s.dmaFetch ch)

/-- DMA_ABORT_COMPLETE (R425). -/
def execDmaAbortComplete (ch : Fin 64) (s : State) : Host.Outcome State Fault Refusal := .next (State.settle <| s.dmaAbortEnd ch)

end Sys2Proof.Machine
end

