-- ==== Sys2Proof/Machine/Call.lean ====
section
/-!
DEFINITION. Call board event routing (R397 to R408). Publication stands in Ops.lean.
What the spec leaves open here: log entry 41.
-/

namespace Sys2Proof.Machine

/-- Whether R401 lists consumer code `c`; cores 1, 3, 5 and 7 have none (R398). -/
def callConsumer (c : Nat) : Bool :=
  if c < 0x100 then decide (8 ≤ c / 16 ∨ c / 16 % 2 = 0)
  else c < 0x106 || (decide (0x110 ≤ c) && decide (c < 0x120)) || (decide (0x140 ≤ c) && decide (c < 0x1A0))

/-- Whether R400 lists source `n`. -/
def callSource (n : Nat) : Bool :=
  [(0x000, 3), (0x008, 1), (0x010, 6), (0x018, 5), (0x020, 3), (0x028, 3), (0x030, 2), (0x038, 8), (0x040, 16), (0x080, 128),
    (0x100, 48), (0x140, 48), (0x180, 64), (0x1C0, 32)].any fun (p : Nat × Nat) => decide (p.1 ≤ n ∧ n < p.1 + p.2)

/-- The effect of one event at consumer `c` (R401, R402). -/
def State.callConsume (s : State) (c : Nat) : State :=
  if c < 0x100 then
    s.eachCopy (hartOfCore (c / 16)) fun k => { k with inputs := k.inputs ||| BitVec.ofNat 16 (2 ^ (c % 16)) }
  else if c < 0x110 then
    if s.flag (R.AFE_GCFG_ETRIG (c - 0x100)) then s.adcTrigger (c - 0x100) else s
  else if c < 0x140 then
    { s with call := { s.call with evout := s.call.evout ||| BitVec.ofNat 16 (2 ^ (c - 0x110)),
                                   evoutClk := mset s.call.evoutClk (c - 0x110) s.clk } }
  else if c < 0x180 then s.dmaReq (c - 0x140)
  else s.byrEvout (c - 0x180)

/-- The channel's bit in CALL_RUNAWAY. -/
def runawayFld (ch : Nat) : Fld := ⟨R.CALL_RUNAWAY (ch / 32), ch % 32, ch % 32⟩

/-- The channels that delivered in the present cycle, with whether the ceiling discarded their event. -/
def State.callOut (s : State) : List (Nat × Bool) := if s.call.outClk = s.clk then s.call.out else []

/-- One event leaves the resynchroniser of channel `ch` (R403, R405): discarded where it would exceed the ceiling, which
disables the channel. -/
def State.callDeliver (s : State) (ch : Nat) : State :=
  if !s.cueRuns || !s.delivers ch then s
  else
    let top := s.getF (R.CALL_CEIL_MAX ch)
    let beyond := decide (top ≠ 0 ∧ top < s.getF (R.CALL_CEIL_CNT ch) + 1)
    let s := { s with call := { s.call with outClk := s.clk, out := s.callOut ++ [(ch, beyond)] } }
    if beyond then s.raise (runawayFld ch) else (s.count (R.CALL_CEIL_CNT ch) 1).callConsume (s.getF (R.CALL_CH_SUB ch))

/-- The first event that can be delivered: published in an earlier cycle, on a channel that has delivered none in this one
(R403); and the others. -/
def State.callNext (s : State) : List CallEvent → Option (CallEvent × List CallEvent)
  | [] => none
  | e :: t =>
    if e.cycle < s.clk ∧ ¬ s.callOut.any (fun o => o.1 == e.ch) then some (e, t)
    else (s.callNext t).map fun r => (r.1, e :: r.2)

/-- The oldest event that can be delivered reaches its consumer. -/
def State.eventDelivery (s : State) : State :=
  match s.callNext s.call.inflight with
  | none => s
  | some (e, t) => ({ s with call := { s.call with inflight := t } }).callDeliver e.ch

/-- The counts of the cue that a boundary begins (R405): 0, but for events that arrived in the boundary's own cycle; one that the
ceiling of the cue before discarded in that cycle is delivered. -/
def State.callCounts (s : State) : State :=
  let now := s.callOut
  let s := (List.range 256).foldl (fun s ch =>
    if s.flag (R.CALL_CEIL_CNT ch) then s.lower (R.CALL_CEIL_CNT ch) else s) s
  now.foldl (fun s o =>
    let s := s.count (R.CALL_CEIL_CNT o.1) 1
    if o.2 then (s.lower (runawayFld o.1)).callConsume (s.getF (R.CALL_CH_SUB o.1)) else s) s

/-- A boundary (R400, R405, R406): counts begin anew, re-enabled channels deliver, CUE_TICK is published. -/
def State.callBoundary (s : State) : State :=
  let s := s.callCounts
  ({ s with call := { s.call with waiting := 0 } }).publish Src.cueTick

/-- SEV of physical core `core` on channel `ch` (R80, R399). -/
def State.sevEvent (s : State) (core ch : Nat) : State :=
  if (s.getF (R.CALL_CH_SEVMASK ch)).testBit core then s.enterChannel ch else s

/-! ## Registers (R398, R399, R406, R408) -/

/-- A refused write. -/
def State.callCfgref (s : State) : State := s.raise R.CALL_STAT_CFGREF

/-- Whether another channel than `ch` already names consumer `c`. -/
def State.callTaken (s : State) (ch c : Nat) : Bool :=
  (List.range 256).any fun o => o != ch && s.flag (R.CALL_CH_SUBV o) && s.getF (R.CALL_CH_SUB o) == c

/-- A write to CALL_CH(ch): its route is accepted in BOOT and PLACES, EN where the call board routes (R399). -/
def State.callChWrite (s : State) (d : RegDesc) (ch a : Nat) (v : Word) : State :=
  let sub := fieldOf v 25 16
  if !callConsumer sub || (v &&& 0xAA#32) != 0 || (v.getLsbD 30 && s.callTaken ch sub) then s.callCfgref
  else
    let route := if s.bootOrPlaces then maskOf 30 30 ||| maskOf 25 0 else 0
    let m := if s.cueRuns then route ||| maskOf 31 31 else route
    let old := s.getReg a
    let fields := maskOf 31 30 ||| maskOf 25 0
    let s1 := s.writeTyped d a false ((v &&& m) ||| (old &&& ~~~ m))
    if v &&& fields &&& ~~~ m = old &&& fields &&& ~~~ m then s1 else s1.callCfgref

/-- A register write to CALL; `n` is the channel, the source or the word. -/
def State.callRegWrite (s : State) (d : RegDesc) (n a : Nat) (v : Word) : State :=
  match d.id with
  | .CALL_CH => s.callChWrite d n a v
  | .CALL_PUB => if s.bootOrPlaces then s.writeTyped d a false v else s.callCfgref
  | .CALL_CEIL => if s.cueRuns || fieldOf v 15 0 == s.getF (R.CALL_CEIL_MAX n) then s.writeTyped d a false v else s.callCfgref
  | .CALL_RUNAWAY =>
    let was := s.getReg a
    let s := s.writeTyped d a false v
    let gone := was &&& ~~~ s.getReg a
    { s with call := { s.call with waiting := s.call.waiting ||| (gone.setWidth 256 <<< (32 * n)) } }
  | _ => s.writeTyped d a false v

/-- What the registers of CALL read. -/
def State.callRegRead (s : State) (id : RegId) (stored : Word) : Word :=
  match id with
  | .CALL_STAT => stored ||| BitVec.ofNat 32 s.callRaw.toNat
  | _ => stored

/-! ## Commands -/

/-- EVENT_DELIVERY (R403). -/
def execEventDelivery (s : State) : Host.Outcome State Fault Refusal := .next s.eventDelivery.settle

/-- EVIN_EDGE (R400): land function EVINn, function 7 of port 7's pin n. -/
def execEvinEdge (n : Fin 16) (s : State) : Host.Outcome State Fault Refusal :=
  .next (State.settle <| if s.carries 7 n 7 then s.publish (Src.evin n) else s)

/-- EVOUT_PULSE_END (R402): 10 ns, 4 cycles, after the last event. -/
def execEvoutPulseEnd (n : Fin 16) (s : State) : Host.Outcome State Fault Refusal :=
  .next (State.settle <| if s.clk < mget 0 s.call.evoutClk n + 4 then s
    else { s with call := { s.call with evout := s.call.evout &&& ~~~ BitVec.ofNat 16 (2 ^ n.val) } })

end Sys2Proof.Machine
end

