-- ==== Sys2Proof/Machine/Drop.lean ====
section
/-!
DEFINITION. The drop pipeline and stage memory (R217 to R244): posting and checking swaths, staging with its re-reads and
re-requests, emission with the emission CRC, and nozzle substitution; and the nozzle counts of R536.
What the spec leaves open here: log entry 33.
-/

namespace Sys2Proof.Machine

/-- `s` with the pipeline's structure changed. -/
def State.modDrop (s : State) (f : Drop → Drop) : State := { s with drop := f s.drop }

/-- The swath of number `u` in the queue. -/
def State.dropSw (s : State) (u : Nat) : Option DropSwath := s.drop.q.find? fun w => w.uid == u

/-- `s` with the swath of number `u` changed. -/
def State.modSw (s : State) (u : Nat) (f : DropSwath → DropSwath) : State :=
  s.modDrop fun d => { d with q := d.q.map fun w => if w.uid = u then f w else w }

/-- Tiles in the ring of context `k`. -/
def State.ringOf (s : State) (k : Nat) : List DropTile := mget [] s.drop.ring k

/-- The tile `t` of swath `u` in the ring of context `k`. -/
def State.dropTile (s : State) (u k t : Nat) : Option DropTile :=
  (s.ringOf k).find? fun x => x.uid == u && x.tile == t

/-- `s` with that tile changed. -/
def State.modTile (s : State) (u k t : Nat) (f : DropTile → DropTile) : State :=
  s.modDrop fun d =>
    { d with ring := mmod [] d.ring k fun l => l.map fun x => if x.uid = u ∧ x.tile = t then f x else x }

/-- T, the number of tiles of a context (R218). -/
def SwathDesc.tiles (d : SwathDesc) : Nat := (d.n + 255) / 256

/-- The first swath column that context `k` fires (R241, R482). -/
def DropSwath.startCol (w : DropSwath) (k : Nat) : Nat :=
  min (mget 0 w.start k) (match w.desc with | some d => d.n | none => 0)

/-- The next swath column of context `k` in swath `w`. -/
def DropSwath.at (w : DropSwath) (k : Nat) : Nat := mget (w.startCol k) w.pos k

/-- Whether the pipeline holds a swath that is queued, ready or firing. -/
def State.dropBusy (s : State) : Bool := !s.drop.q.isEmpty

/-! ## Neighbours (R234) -/

/-- A nozzle offset field: none for 0b10. -/
def nozzleOff (v : Nat) : Option Int := match v with | 0 => some 0 | 1 => some 1 | 3 => some (-1) | _ => none

/-- The UP neighbour of context `k` with its offset, and the DN neighbour. -/
def State.upOf (s : State) (k : Nat) : Option (Nat × Int) :=
  if s.flag (R.DROP_CTXA_UPV k) then (nozzleOff (s.getF (R.DROP_CTXA_UPOFF k))).map fun o => (s.getF (R.DROP_CTXA_UP k), o)
  else none
def State.dnOf (s : State) (k : Nat) : Option (Nat × Int) :=
  if s.flag (R.DROP_CTXA_DNV k) then (nozzleOff (s.getF (R.DROP_CTXA_DNOFF k))).map fun o => (s.getF (R.DROP_CTXA_DN k), o)
  else none

/-- The neighbours of context `k`. -/
def State.nbrs (s : State) (k : Nat) : List Nat := (s.upOf k).toList.map (·.1) ++ (s.dnOf k).toList.map (·.1)

/-- Whether the neighbour configuration of context `k` is symmetric. -/
def State.symmetric (s : State) (k : Nat) : Bool :=
  (match s.upOf k with | some (j, o) => s.dnOf j == some (k, -o) | none => true)
    && (match s.dnOf k with | some (j, o) => s.upOf j == some (k, -o) | none => true)

/-! ## Posting and checking (R221 to R223) -/

/-- A post of the descriptor at `a` (R221). -/
def State.dropPost (s : State) (a : Nat) (resume : Bool) : State :=
  if 4 ≤ s.drop.q.length then s.raise R.DROP_STAT_SWQFULL
  else s.modDrop fun d => { d with q := d.q ++ [{ uid := d.uid, addr := a, resume := resume }], uid := d.uid + 1 }

/-- The contexts that a mask selects, in ascending order. -/
def maskCtxs (mask : List Byte) : List Nat :=
  (mask.zipIdx.flatMap fun p => (List.range 8).filterMap fun b => if p.1.getLsbD b then some (8 * p.2 + b) else none)

/-- The reason for which the 576 bytes of a descriptor are refused, 0 if none (R222). -/
def State.descReason (s : State) (l : List Byte) (ctxs : List Nat) : Nat :=
  let n := leAt l 0x10 4
  let b := leAt l 0x18 8
  let t := (n + 255) / 256
  let last := b + (ctxs.length * t - 1) * 8256 + 8224
  if leAt l 0 4 ≠ 0x53570944 ∨ leAt l 0xA 1 / 8 ≠ 0 ∨ leAt l 0xB 1 ≠ 0 ∨ b / 2 ^ 40 ≠ 0 ∨ leAt l 0x20 24 ≠ 0
      ∨ crc32cFull (l.take 0x3C) ≠ leAt l 0x3C 4 then 1
  else if crc32cFull (l.drop 0x40) ≠ leAt l 0x38 4 ∨ ctxs.length ≠ leAt l 0x14 4 then 2
  else if n = 0 ∨ 1048576 < n then 3
  else if ctxs.any fun k => decide (s.getF R.DROP_CFG_NCTX ≤ k) then 4
  else if b % 64 ≠ 0 ∨ (ctxs ≠ [] ∧ ¬ s.dramUsable b (last - b)) then 5
  else if ctxs.any fun k => !s.symmetric k then 6
  else 0

/-- Whether a descriptor may stand at `a` (R217). -/
def State.descPlace (s : State) (a : Nat) : Bool :=
  match regionOf a with
  | .dram => s.dramUsable a 576
  | .working => regionOf (a + 575) == .working
  | _ => false

/-- Whether some entry with handle `h` is in the queue. -/
def queuedHandle (q : List DropRrq) (h : Nat) : Bool := q.any fun e => e.handle == h

/-- The handle of a tile that has passed or been released is given up: its entries read DONE, and it stays in use only while
one of them is queued (R227). -/
def State.unhandle (s : State) (u k t : Nat) : State :=
  match s.drop.handles.find? fun e => e.2 == some (u, k, t) with
  | none => s
  | some (h, _) =>
    s.modDrop fun d =>
      { d with rrq := d.rrq.map fun e => if e.handle = h then { e with done := true } else e,
               handles := if queuedHandle d.rrq h then mset d.handles h none else merase d.handles h }

/-- Release the tiles of a ring that `gone` names. -/
def State.release (s : State) (k : Nat) (gone : DropTile → Bool) : State :=
  let out := (s.ringOf k).filter gone
  if out.isEmpty then s
  else
    let s := out.foldl (fun s x => s.unhandle x.uid k x.tile) s
    s.modDrop fun d => { d with ring := mmod [] d.ring k fun l => l.filter fun x => !gone x }

/-- Release every tile of swath `u` (R225). -/
def State.releaseSwath (s : State) (u : Nat) : State :=
  s.drop.ring.foldl (fun s e => s.release e.1 fun x => x.uid == u) s

/-- The swath of number `u` leaves the queue. -/
def State.dropRemove (s : State) (u : Nat) : State :=
  (s.releaseSwath u).modDrop fun d => { d with q := d.q.filter fun w => w.uid != u }

/-- A refusal of swath `u` (R222). -/
def State.dropRefuse (s : State) (u reason : Nat) : State :=
  let s := (s.raise R.DROP_STAT_SDBAD).setF R.DROP_SWSTAT_REASON reason
  ((s.irqPulseIf R.DROP_CTRL_SDIRQ baseDROP).publish Src.dropSdBad).dropRemove u

/-- In CURTAIN the pipeline neither checks nor stages (R240). -/
def State.dropStopped (s : State) : Bool := s.sys.dev == .curtain

/-- The next posted swath is checked (R222). -/
def State.dropCheck (s : State) : State :=
  match if s.dropStopped then none else s.drop.q.find? fun w => w.desc.isNone with
  | none => s
  | some w =>
    if !s.descPlace w.addr then s.dropRefuse w.uid 7
    else
      match s.memRead w.addr 576 with
      | (s, .ok l) =>
        let ctxs := maskCtxs (l.drop 0x40)
        let r := s.descReason l ctxs
        if r ≠ 0 then s.dropRefuse w.uid r
        else
          s.modSw w.uid fun w =>
            { w with desc := some ⟨w.addr, leAt l 4 4, leAt l 8 2, leAt l 0xA 1, leAt l 0xC 4, leAt l 0x10 4, leAt l 0x18 8,
                leAt l 0x38 4, ctxs, w.resume⟩ }
      | (s, _) => s.dropRefuse w.uid 7

/-- A flush: swaths that are neither ready nor handed over are discarded (R223). -/
def State.dropFlush (s : State) : State :=
  (s.drop.q.filter fun w => !w.ready).foldl (fun s w => s.dropRemove w.uid) s

/-! ## Readiness (R228, R233, R241) -/

/-- Whether every tile of swath `w`'s first window has passed. -/
def State.windowPassed (s : State) (w : DropSwath) (d : SwathDesc) : Bool :=
  d.ctxs.all fun k =>
    let c := w.startCol k
    decide (d.n ≤ c) ||
      (let t0 := c / 256
       (List.range (min (s.getF R.DROP_CFG_WIN - 1) (d.tiles - t0))).all fun i =>
         match s.dropTile w.uid k (t0 + i) with | some x => x.st == .passed | none => false)

/-- The swath of number `u` becomes ready once its window has passed and its tables are latched (R228). -/
def State.dropReady (s : State) (u : Nat) : State :=
  match s.dropSw u with
  | none => s
  | some w =>
    match w.desc with
    | none => s
    | some d =>
      if w.ready || !w.latched || !s.windowPassed w d then s
      else
        let s := s.modSw u fun w => { w with ready := true, readyClk := s.clk }
        (s.irqPulseIf R.DROP_CTRL_READYIRQ baseDROP).publish Src.dropReady

/-- A table of `n` bytes at `a` in working memory. -/
def State.tableRead (s : State) (a n : Nat) : State × RdResult :=
  if regionOf a == .working && regionOf (a + n - 1) == .working then s.memRead a n else (s, .busError)

/-- The missing-nozzle table, and the start table of a resume, are latched for the next swath that has been checked; a
table that cannot be read refuses it with reason 0x7 (R222, R233, R241). -/
def State.dropLatch (s : State) : State :=
  match if s.dropStopped then none else s.drop.q.find? fun w => w.desc.isSome && !w.latched with
  | none => s
  | some w =>
    let ctxs := match w.desc with | some d => d.ctxs | none => []
    match s.tableRead (s.getF R.DROP_MISSBASE_ADDR * 64) 32768 with
    | (s, .ok l) =>
      let miss : SMap Nat := ctxs.map fun k => (k, leAt l (8 * k) 8)
      let done (s : State) (start : SMap Nat) : State :=
        (s.modSw w.uid fun w => { w with latched := true, miss := miss, start := start }).dropReady w.uid
      if !w.resume then done s []
      else
        match s.tableRead (s.getF R.DROP_SKIPBASE_ADDR * 64) 16384 with
        | (s, .ok l) =>
          done s (ctxs.filterMap fun k =>
            let e := leAt l (4 * k) 4
            if e.testBit 31 then some (k, e % 2 ^ 20) else none)
        | (s, _) => s.dropRefuse w.uid 7
    | (s, _) => s.dropRefuse w.uid 7

/-! ## Staging (R224 to R230) -/

/-- The address of slot `pos` of context `k`'s ring (R224). -/
def State.slotAddr (s : State) (k pos : Nat) : Nat := 0x20000000 + 8192 * (k * s.getF R.DROP_CFG_WIN + pos)

/-- The valid columns of tile `t` (R219). -/
def SwathDesc.valid (d : SwathDesc) (t : Nat) : Nat := if t + 1 = d.tiles then d.n - 256 * (d.tiles - 1) else 256

/-- The raster column of swath column `i`, modulo 2^32 (R217). -/
def SwathDesc.raster (d : SwathDesc) (i : Nat) : Nat :=
  if d.b0a % 2 = 0 then (d.f + i) % 2 ^ 32 else (d.f + 2 ^ 32 - i % 2 ^ 32) % 2 ^ 32

/-- Whether the header of a tile record holds what staging requires (R219). -/
def headerOk (d : SwathDesc) (k t : Nat) (l : List Byte) : Bool :=
  leAt l 0 2 == 0x71D6 && leAt l 2 1 == 1 && leAt l 3 1 == 0 && leAt l 4 4 == d.order && leAt l 8 2 == d.swath
    && leAt l 0xA 2 == k && leAt l 0xC 2 == t && leAt l 0xE 2 == d.valid t && leAt l 0x10 4 == d.raster (256 * t)
    && leAt l 0x14 4 == 0 && crc32cFull (l.take 0x1C) == leAt l 0x1C 4

/-- Read tile record (k, t) into its slot (R218, R226): the failure reason, 0 if it passes, and the header's payload CRC. -/
def State.stageRead (s : State) (d : SwathDesc) (k t pos : Nat) : Nat × Nat × State :=
  let rank := d.ctxs.idxOf k
  let a := d.base + (rank * d.tiles + t) * 8256
  if !s.dramUsable a 8224 || !s.dramAlive a 8224 then (4, 0, s)
  else
    match s.memRead a 8224 with
    | (s, .ok l) =>
      let pay := l.drop 32
      let (s, _) := s.sramWrite .stage (s.slotAddr k pos) pay
      let h := leAt l 0x18 4
      (if crc32cFull pay ≠ h then 1 else if headerOk d k t l then 0 else 2, h, s)
    | (s, _) => (3, 0, s)

/-- The smallest lead observed (R230): the columns still to come at context `k` before it needs tile `t` of swath `u`, counted
once the context has begun to emit. -/
def State.leadOf (s : State) (u k t : Nat) : Option Nat :=
  (s.drop.q.foldl (fun (st : Option Nat × Nat × Bool) w =>
    let (res, sum, on) := st
    match w.desc with
    | none => st
    | some d =>
      if !d.ctxs.contains k then st
      else
        let p := mget (w.startCol k) w.pos k
        let on := on || (w.jsn.isSome && decide (w.startCol k < p))
        if w.uid = u then (if on then some (sum + 256 * t - p) else none, sum, on)
        else (res, sum + d.n - p, on)) (none, 0, false)).1

/-- A tile passes (R226, R230). -/
def State.tilePass (s : State) (u k t h : Nat) : State :=
  let s := (s.modTile u k t fun x => { x with st := .passed, hcrc := h }).count R.DROP_TILES_CNT 1
  let s := s.unhandle u k t
  let s := match s.leadOf u k t with
    | some n => if n < s.getF R.DROP_MINLEAD_COLS then s.setF R.DROP_MINLEAD_COLS n else s
    | none => s
  s.dropReady u

/-- A tile fails for good: a re-request is entered under its handle, or under the lowest one not in use (R227). -/
def State.tileFail (s : State) (d : SwathDesc) (u k t reason : Nat) : State :=
  let s := s.modTile u k t fun x => { x with st := .failed }
  let own := (s.drop.handles.find? fun e => e.2 == some (u, k, t)).map (·.1)
  let h := match own with
    | some h => some h
    | none => (List.range 16).find? fun h => (mfind s.drop.handles h).isNone
  match h with
  | none => s.raise R.DROP_STAT_RRQOVF
  | some h =>
    let s := s.modDrop fun x =>
      { x with handles := mset x.handles h (some (u, k, t)),
               rrq := x.rrq ++ [⟨d.order, d.swath, k, t, reason, h, false⟩] }
    (s.count R.DROP_FAILS_RRQS 1).publish Src.dropReReq

/-- The first ring position after the one last taken that holds no tile. -/
def State.freePos (s : State) (k : Nat) : Option Nat :=
  let win := s.getF R.DROP_CFG_WIN
  let used := (s.ringOf k).map (·.slot)
  ((List.range win).map fun i => (mget (win - 1) s.drop.last k + 1 + i) % win).find? fun p => !used.contains p

/-- The next tile of context `k` in swath `w`. -/
def DropSwath.nextTile (w : DropSwath) (k : Nat) : Nat := mget (w.startCol k / 256) w.next k

/-- The tile that the stager owes context `k`, with its swath: the next of the first swath that has one left for it (R225). -/
def State.dueTile (s : State) (k : Nat) : Option (DropSwath × Nat) :=
  (s.drop.q.find? fun w => match w.desc with
    | some d => d.ctxs.contains k && decide (w.nextTile k < d.tiles ∧ w.startCol k < d.n)
    | none => false).map fun w => (w, w.nextTile k)

/-- Whether context `k` has a tile due, its start column being known, and a slot free for it. -/
def State.mayFill (s : State) (k : Nat) : Bool :=
  (s.dueTile k).any (fun p => p.1.latched || !p.1.resume) && (s.freePos k).isSome

/-- The context whose slot the stager fills next: the slots released while a tile was due, in release order; then the other free
slots, tile by tile across the contexts, the lower context first (R225). -/
def State.nextFill (s : State) : Option Nat :=
  match s.drop.freed.find? s.mayFill with
  | some k => some k
  | none =>
    let all := (s.drop.q.flatMap fun w => match w.desc with | some d => d.ctxs | none => [])
    ((all.filter s.mayFill).foldl (fun (b : Option (Nat × Nat)) k =>
      let r := match s.dueTile k with | some (w, t) => t - w.startCol k / 256 | none => 0
      match b with
      | some (r', k') => if r < r' ∨ (r = r' ∧ k < k') then some (r, k) else b
      | none => some (r, k)) none).map (·.2)

/-- Tiles of context `k` in swath `w` that the context and its neighbours have passed; a slot so released waits in release order
where a tile is due for it. -/
def State.releasePassed (s : State) (w : DropSwath) (d : SwathDesc) (k : Nat) : State :=
  let who := k :: (s.nbrs k).filter fun j => d.ctxs.contains j
  let gone := fun (x : DropTile) => x.uid == w.uid && who.all fun c => decide (min (256 * (x.tile + 1)) d.n ≤ w.at c)
  let n := ((s.ringOf k).filter gone).length
  let s := s.release k gone
  if (s.dueTile k).isSome then s.modDrop fun x => { x with freed := x.freed ++ List.replicate n k } else s

/-- The first reading of a tile ends (R226, R227). -/
def State.stageFirst (s : State) (d : SwathDesc) (u k t pos : Nat) : State :=
  let (r, h, s) := s.stageRead d k t pos
  if r = 0 then s.tilePass u k t h
  else if r = 4 then s.tileFail d u k t r
  else s.modTile u k t fun x => { x with st := .reread }

/-- A tile of context `k` in swath `u` has been read: it is released at once where its columns have been passed meanwhile (R225). -/
def State.tileEnd (s : State) (u k : Nat) : State :=
  match s.dropSw u with
  | none => s
  | some w => match w.desc with | some d => s.releasePassed w d k | none => s

/-- Whether the stager fills the next slot with tile (k, t) of swath `w` (R225). -/
def State.tileNext (s : State) (w : DropSwath) (k t : Nat) : Bool :=
  s.nextFill == some k && (s.dueTile k).any fun p => p.1.uid == w.uid && p.2 == t

/-- Staging of tile (k, t) of the swath at queue position `i` completes: of the tile that the stager takes next, into a free slot,
or of one that DROP_RETRY stages afresh. -/
def State.tileStaged (s : State) (i k t : Nat) : State :=
  match if s.dropStopped then none else s.drop.q[i]? with
  | none => s
  | some w =>
    match w.desc, s.dropTile w.uid k t with
    | some d, some x => if x.st = .staging then (s.stageFirst d w.uid k t x.slot).tileEnd w.uid k else s
    | some d, none =>
      match s.freePos k with
      | some pos =>
        if s.tileNext w k t then
          let s := s.modDrop fun x =>
            { x with ring := mmod [] x.ring k fun l => l ++ [{ uid := w.uid, tile := t, slot := pos }],
                     last := mset x.last k pos, freed := x.freed.erase k }
          ((s.modSw w.uid fun w => { w with next := mset w.next k (t + 1) }).stageFirst d w.uid k t pos).tileEnd w.uid k
        else s
      | none => s
    | none, _ => s

/-- The re-read of tile (k, t) of the swath at queue position `i` ends (R227). -/
def State.tileReread (s : State) (i k t : Nat) : State :=
  match if s.dropStopped then none else s.drop.q[i]? with
  | none => s
  | some w =>
    match w.desc, s.dropTile w.uid k t with
    | some d, some x =>
      if x.st = .reread then
        let s := s.count R.DROP_FAILS_REREADS 1
        let (r, h, s) := s.stageRead d k t x.slot
        (if r = 0 then s.tilePass w.uid k t h else s.tileFail d w.uid k t r).tileEnd w.uid k
      else s
    | _, _ => s

/-- DROP_RETRY: the tile of handle `h` is staged afresh if it is still failed. -/
def State.dropRetry (s : State) (h : Nat) : State :=
  match mfind s.drop.handles h with
  | some (some (u, k, t)) =>
    match s.dropTile u k t with
    | some x => if x.st = .failed then s.modTile u k t fun x => { x with st := .staging } else s
    | none => s
  | _ => s

/-- The head entry of the re-request queue is removed. -/
def State.rrqPop (s : State) : State :=
  match s.drop.rrq with
  | [] => s
  | e :: t =>
    s.modDrop fun d =>
      { d with rrq := t, handles := if mfind d.handles e.handle == some none && !queuedHandle t e.handle
          then merase d.handles e.handle else d.handles }

/-! ## Emission (R231, R235 to R239) -/

/-- The jet port that serves context `k` (R272). -/
def State.portOf (s : State) (k : Nat) : Option Nat :=
  (List.range 32).find? fun p =>
    decide (s.getF (R.JET_MAP_BASE p) ≤ k ∧ k < s.getF (R.JET_MAP_BASE p) + s.getF (R.JET_MAP_COUNT p))

/-- Whether the nozzles of context `k` all count as missing in a column requested at `now`: no port, or one out of service for at
least 10 ns (R236). -/
def State.portMissing (s : State) (now k : Nat) : Bool :=
  match s.portOf k with
  | none => true
  | some p => !s.flag (R.JET_STAT_INSVC p) && decide ((mget {} s.jet p).downNs + 10 ≤ now)

/-- The missing nozzles of context `k` in swath `w`, in a column requested at `now`. -/
def State.missMask (s : State) (now : Nat) (w : DropSwath) (k : Nat) : Nat :=
  if s.portMissing now k then 2 ^ 64 - 1 else mget 0 w.miss k

/-- The level of nozzle `n` in a 32-byte column (R220). -/
def levelOf (l : List Byte) (n : Nat) : Nat :=
  let b := (l.getD (n / 2) 0).toNat
  if n % 2 = 0 then b % 16 else b / 16

/-- The 32 bytes of 64 levels. -/
def packLevels (f : Nat → Nat) : List Byte := (List.range 32).map fun b => BitVec.ofNat 8 (f (2 * b) + 16 * f (2 * b + 1))

/-- 32 zero levels. -/
def noDrops : List Byte := List.replicate 32 0

/-- A fault found at emission (R238, R239): the status bits, the first fault, the event, the report. -/
def State.emitFault (s : State) (w : DropSwath) (d : SwathDesc) (k t : Nat) (ue : Bool) : State :=
  let s := s.raise R.DROP_STAT_EMITCRC
  let s := if ue then s.raise R.DROP_STAT_EMITUE else s
  let s := if s.flag R.DROP_EFLT2_VALID then s
    else
      let s := ((s.setF R.DROP_EFLT0_SEQ d.order).setF R.DROP_EFLT1_SWATH d.swath).setF R.DROP_EFLT1_TILE t
      ((s.raise R.DROP_EFLT2_VALID).setF R.DROP_EFLT2_KIND ue.toNat).setF R.DROP_EFLT2_CTX k
  let s := (s.irqPulseIf R.DROP_CTRL_EFLTIRQ baseDROP).publish Src.dropEmitFault
  (match w.jsn with | some j => s.defect j 5 | none => s).modSw w.uid fun w => { w with fault := true }

/-- Payload column `j` of a staged tile read for emission and tapped into its CRC; an unreadable column gives no bytes and is a
fault, each one that is met (R239). -/
def State.tapColumn (s : State) (w : DropSwath) (d : SwathDesc) (k t slot j : Nat) : Option (List Byte) × State :=
  match s.sramRead .stage (s.slotAddr k slot + 32 * j) 32 with
  | (s, .ok l) => (some l, s.modTile w.uid k t fun x => { x with crc := crc32c x.crc l, read := j + 1 })
  | (s, _) => (none, (s.modTile w.uid k t fun x => { x with ue := true, read := j + 1 }).emitFault w d k t true)

/-- Payload columns `a` to `a + n - 1` tapped into the CRC, none of them emitted. -/
def State.tapOnly (s : State) (w : DropSwath) (d : SwathDesc) (k t slot a : Nat) : Nat → State
  | 0 => s
  | n + 1 => (s.tapColumn w d k t slot a).2.tapOnly w d k t slot (a + 1) n

/-- Context `k` reads its own column `i` of swath `w` (R231, R237 to R239): a tile whose first requested column finds it not
passed starves. None where the whole column is emitted as level 0: its tile has starved or the read finds an error. -/
def State.ownColumn (s : State) (w : DropSwath) (d : SwathDesc) (k i : Nat) : Option (List Byte) × State :=
  let (u, t, j) := (w.uid, i / 256, i % 256)
  let first := decide (j = 0 ∨ i = w.startCol k)
  let tile := s.dropTile u k t
  let ok := match tile with | some x => x.st == .passed | none => false
  if w.lost.contains (k, t) then (none, s)
  else if !ok then
    if !first then (none, s)
    else
      let s := (s.modSw u fun w => { w with lost := (k, t) :: w.lost }).raise R.DROP_STAT_STARVE
      let s := ((s.count R.DROP_STARVES_CNT 1).irqPulseIf R.DROP_CTRL_STARVEIRQ baseDROP).publish Src.dropStarve
      (none, match w.jsn with | some n => s.defect n 0 | none => s)
  else
    match tile with
    | none => (none, s)
    | some x =>
      let s := s.tapOnly w d k t x.slot x.read (j - x.read)
      let (col, s) := s.tapColumn w d k t x.slot j
      let s := if i + 1 = d.n then s.tapOnly w d k t x.slot (j + 1) (255 - j) else s
      match s.dropTile u k t with
      | none => (none, s)
      | some y =>
        (col, if y.read = 256 && !y.ue && (y.crc ^^^ 0xFFFFFFFF) != y.hcrc then s.emitFault w d k t false else s)

/-- The column of a neighbour read for substitution: nothing from a tile that has not passed or has starved (R231). -/
def State.nbrColumn (s : State) (w : DropSwath) (k i : Nat) : List Byte × State :=
  match s.dropTile w.uid k (i / 256) with
  | some x =>
    if x.st = .passed ∧ ¬ w.lost.contains (k, i / 256) then
      match s.sramRead .stage (s.slotAddr k x.slot + 32 * (i % 256)) 32 with
      | (s, .ok l) => (l, s)
      | (s, _) => (noDrops, s)
    else (noDrops, s)
  | none => (noDrops, s)

/-- Whether nozzle `n + o` of neighbour `j` is a pair that takes drops: it exists, its context takes part, it is not missing. -/
def State.pairTakes (s : State) (now : Nat) (w : DropSwath) (d : SwathDesc) (nb : Option (Nat × Int)) (n : Nat) : Bool :=
  match nb with
  | none => false
  | some (j, o) =>
    let m := (n : Int) + o
    decide (0 ≤ m ∧ m ≤ 63) && d.ctxs.contains j && !(s.missMask now w j).testBit m.toNat

/-- The share of a missing nozzle's level that falls to its UP pair (`up`) or its DN pair, in raster column `c` (R235). -/
def shareOf (level c : Nat) (up both : Bool) : Nat :=
  if !both then level
  else if (c % 2 == 0) == up then (level + 1) / 2 else level / 2

/-- What nozzle `n` of context `k` takes over from neighbour (j, o), whose column is `l`; `up` says that `k` is the UP pair
of `j`. -/
def State.takeOver (s : State) (now : Nat) (w : DropSwath) (d : SwathDesc) (c : Nat) (nb : Option (Nat × Int)) (l : List Byte) (n : Nat)
    (up : Bool) : Nat :=
  match nb with
  | none => 0
  | some (j, o) =>
    let m := (n : Int) + o
    if m < 0 ∨ 63 < m ∨ ¬ d.ctxs.contains j ∨ ¬ (s.missMask now w j).testBit m.toNat then 0
    else shareOf (levelOf l m.toNat) c up (s.pairTakes now w d (if up then s.dnOf j else s.upOf j) m.toNat)

/-- The column of a neighbour that takes part and has missing nozzles. -/
def State.nbrRead (s : State) (now : Nat) (w : DropSwath) (d : SwathDesc) (nb : Option (Nat × Int)) (i : Nat) : List Byte × State :=
  match nb with
  | some (j, _) => if d.ctxs.contains j && s.missMask now w j != 0 then s.nbrColumn w j i else (noDrops, s)
  | none => (noDrops, s)

/-- Context `k` emits swath column `i` of swath `w`, requested at `now`: own column, CRC and substitution (R235, R237); a column of a
starved tile, or one that cannot be read, is level 0 on every nozzle (R231, R239). -/
def State.dropColumn (s : State) (now : Nat) (w : DropSwath) (d : SwathDesc) (k i : Nat) : List Byte × State :=
  match s.ownColumn w d k i with
  | (none, s) => (noDrops, s)
  | (some own, s) =>
    let c := d.raster i
    let (lu, s) := s.nbrRead now w d (s.upOf k) i
    let (ld, s) := s.nbrRead now w d (s.dnOf k) i
    let miss := s.missMask now w k
    let total (n : Nat) : Nat :=
      if miss.testBit n then 0
      else levelOf own n + s.takeOver now w d c (s.upOf k) lu n false + s.takeOver now w d c (s.dnOf k) ld n true
    let lost := (List.range 64).filter fun n =>
      miss.testBit n && decide (0 < levelOf own n) && !s.pairTakes now w d (s.upOf k) n && !s.pairTakes now w d (s.dnOf k) n
    let sat := (List.range 64).filter fun n => decide (15 < total n)
    (packLevels fun n => min 15 (total n), (s.count R.DROP_SUBST_LOST lost.length).count R.DROP_SUBST_SAT sat.length)

/-! ## Progress and release (R225, R242) -/

/-- Context `k` has emitted column `i` of swath `u`. -/
def State.dropPassed (s : State) (u k i : Nat) : State :=
  let s := s.modSw u fun w => { w with pos := mset w.pos k (i + 1) }
  match s.dropSw u with
  | none => s
  | some w =>
    match w.desc with
    | none => s
    | some d =>
      if (i + 1) % 256 = 0 ∨ i + 1 = d.n then
        (k :: (s.nbrs k).filter fun j => d.ctxs.contains j).foldl (fun s c => s.releasePassed w d c) s
      else s

/-- Whether every context of swath `w` has been requested to its last column. -/
def DropSwath.allRequested (w : DropSwath) : Bool :=
  match w.desc with
  | some d => d.ctxs.all fun k => decide (d.n ≤ w.at k)
  | none => false

/-- A swath that stands ready at the head of the queue since at least one cycle (R229). -/
def State.dropHead (s : State) : Option DropSwath :=
  match s.drop.q.find? fun w => w.jsn.isNone with
  | some w => if w.ready && decide (w.readyClk < s.clk) then some w else none
  | none => none

/-- A curtain: every swath is discarded and every slot emptied (R240). -/
def State.dropCurtain (s : State) : State :=
  let s := s.drop.q.foldl (fun s w => s.releaseSwath w.uid) s
  s.modDrop fun d => { d with q := [], ring := [], freed := [] }

/-! ## Nozzle counts (R536) -/

/-- A strobe of context `k` counted: every nozzle whose level is not 0. -/
def State.countNozzles (s : State) (k : Nat) (l : List Byte) : State :=
  { s with nozzles := { s.nozzles with
      bank := (List.range 64).foldl (fun m n => if levelOf l n = 0 then m else mmod 0 m (64 * k + n) (· + 1)) s.nozzles.bank } }

/-- The banks swap at DROP_SWEND, or the swap waits for the running flush. -/
def State.nozzleSwap (s : State) : State :=
  match s.nozzles.flush with
  | some _ => ({ s with nozzles := { s.nozzles with due := true } }).raise R.BBX_STAT_FLUSHLAG
  | none => { s with nozzles := { s.nozzles with bank := [], flush := some s.nozzles.bank } }

/-- PMEM offset of the count of nozzle `i` (64 × context + nozzle). -/
def nozzleOffset (i : Nat) : Nat := 0x900000 + 8 * i

/-- The flush of the idle bank completes; a swap that waited follows. -/
def State.nozzleFlush (s : State) : State :=
  match s.nozzles.flush with
  | none => s
  | some m =>
    let s := m.foldl (fun s e =>
      s.pmemStore (nozzleOffset e.1) (bytesLE 8 (min (2 ^ 40 - 1) (s.pmRd (nozzleOffset e.1) 8 + e.2)))) s
    let s := { s with nozzles := { s.nozzles with flush := none } }
    if s.nozzles.due then ({ s with nozzles := { s.nozzles with due := false } }).nozzleSwap else s

/-! ## The end of a swath (R242) -/

/-- Swath `u` has ended: DROP_SWEND, the journal, the nozzle counts, and the curtain trigger of R238. -/
def State.swathEnd (s : State) (u : Nat) : State :=
  match s.dropSw u with
  | none => s
  | some w =>
    let s := (s.dropRemove u).publish Src.dropSwEnd
    let s := (match w.jsn with | some j => s.jrnlSwathEnd j | none => s).nozzleSwap
    if w.fault then s.trigger R.SYS_CURTAIN_EMITCRC else s

/-! ## Registers (R244) -/

/-- What the registers of DROP read that show the queues. -/
def State.dropRegRead (s : State) (id : RegId) (stored : Word) : Word :=
  let fire := s.drop.q.find? fun w => w.jsn.isSome
  let head := s.drop.q.find? fun w => w.jsn.isNone
  let cur := ((fire.orElse fun _ => head).bind fun w => w.desc)
  let e := s.drop.rrq.head?
  match id with
  | .DROP_STAT =>
    stored ||| BitVec.ofNat 32 (e.isSome.toNat * 4 + (match head with | some w => w.ready | none => false).toNat * 2
      + fire.isSome.toNat)
  | .DROP_SWSTAT =>
    stored ||| BitVec.ofNat 32 (s.drop.q.length * 2 ^ 16 + match cur with | some d => d.swath | none => 0)
  | .DROP_SWORD => match cur with | some d => BitVec.ofNat 32 d.order | none => 0
  | .DROP_RRQ0 => match e with | some e => BitVec.ofNat 32 e.order | none => 0
  | .DROP_RRQ1 => match e with | some e => BitVec.ofNat 32 (e.swath * 2 ^ 16 + e.tile) | none => 0
  | .DROP_RRQ2 =>
    match e with
    | some e =>
      BitVec.ofNat 32 (2 ^ 31 + e.done.toNat * 2 ^ 24 + e.reason * 2 ^ 20 + e.handle * 2 ^ 16 + e.ctx)
    | none => 0
  | _ => stored

/-- A refused write. -/
def State.dropCfgref (s : State) : State := s.raise R.DROP_STAT_CFGREF

/-- Whether a value is in range for DROP_CFG (R224, R244). -/
def dropCfgOk (v : Word) : Bool :=
  let n := fieldOf v 28 16
  let w := fieldOf v 5 0
  decide (1 ≤ n ∧ n ≤ 4096 ∧ 3 ≤ w ∧ w ≤ 32 ∧ n * w ≤ 12288)

/-- A register write to DROP; `l` is the second index of DROP_DT. -/
def State.dropRegWrite (s : State) (d : RegDesc) (l a : Nat) (v : Word) : State :=
  match d.id with
  | .DROP_CFG => if s.bootOrPlaces && dropCfgOk v then s.writeTyped d a false v else s.dropCfgref
  | .DROP_CTRL =>
    let s := s.writeTyped d a false v
    if v.getLsbD 5 then s.dropFlush else s
  | .DROP_SWQH =>
    let s := s.writeTyped d a false v
    if v.getLsbD 31 then s.dropPost (s.getF R.DROP_SWQL_ADDR * 64 + fieldOf v 7 0 * 2 ^ 32) (v.getLsbD 8) else s
  | .DROP_DT => if s.dropBusy then s.dropCfgref else if l = 0 then s else s.writeTyped d a false v
  | .DROP_CTXA | .DROP_CTXB => if s.dropBusy then s.dropCfgref else s.writeTyped d a false v
  | .DROP_RRQ2 => if v.getLsbD 30 then s.rrqPop else s
  | .DROP_RETRY =>
    let s := s.writeTyped d a false v
    if v.getLsbD 31 then s.dropRetry (fieldOf v 3 0) else s
  | _ => s.writeTyped d a false v

/-! ## Commands -/

/-- SWATH_CHECK (R222). -/
def execSwathCheck (s : State) : Host.Outcome State Fault Refusal := .next s.dropCheck.settle

/-- SWATH_TABLE_LATCH (R233, R241). -/
def execSwathTableLatch (s : State) : Host.Outcome State Fault Refusal := .next s.dropLatch.settle

/-- TILE_STAGED (R226). -/
def execTileStaged (swath : Fin 4) (ctx : Fin 4096) (tile : Nat) (s : State) : Host.Outcome State Fault Refusal :=
  .next (State.settle <| s.tileStaged swath ctx tile)

/-- TILE_REREAD (R227). -/
def execTileReread (swath : Fin 4) (ctx : Fin 4096) (tile : Nat) (s : State) : Host.Outcome State Fault Refusal :=
  .next (State.settle <| s.tileReread swath ctx tile)

/-- NOZZLE_COUNT_FLUSH (R536). -/
def execNozzleCountFlush (s : State) : Host.Outcome State Fault Refusal := .next s.nozzleFlush.settle

end Sys2Proof.Machine
end

