-- ==== Sys2Proof/Machine/Jet.lean ====
section
/-!
DEFINITION. Jet ports (R272 to R289): blocks and superframes, FIRE frames and strobes, link states, service, board status.
What the spec leaves open here: log entry 35.
-/

namespace Sys2Proof.Machine

/-- Port `p`. -/
def State.jport (s : State) (p : Nat) : JetPort := mget {} s.jet p

/-- `s` with port `p` changed. -/
def State.modJet (s : State) (p : Nat) (f : JetPort → JetPort) : State := { s with jet := mmod {} s.jet p f }

/-- A lane of a port, and the port with a lane changed. -/
def JetPort.lane (x : JetPort) (l : Nat) : JetLane := if l = 0 then x.lane0 else x.lane1
def JetPort.setLane (x : JetPort) (l : Nat) (y : JetLane) : JetPort :=
  if l = 0 then { x with lane0 := y } else { x with lane1 := y }

/-- Link states (R286). -/
def linkOff : Nat := 0
def linkTrain : Nat := 1
def linkLoad : Nat := 2
def linkUp : Nat := 3
def linkFault : Nat := 4

/-- The link state of port `p`. -/
def State.jlink (s : State) (p : Nat) : Nat := s.getF (R.JET_STAT_LINK p)

/-- Whether port `p` is in service (R287). -/
def State.inService (s : State) (p : Nat) : Bool := s.flag (R.JET_STAT_INSVC p)

/-- A refused write of port `p`. -/
def State.jetCfgref (s : State) (p : Nat) : State := s.raise (R.JET_STAT_CFGREF p)

/-! ## Columns (R257, R265, R277, R287) -/

/-- Whether a column of swath `u` has still to leave a port. -/
def State.jetHolds (s : State) (u : Nat) : Bool :=
  s.jet.any fun e => (e.2.queue ++ e.2.lane0.cols ++ e.2.lane1.cols).any fun c => c.uid == u

/-- Swath `u` ends once every context has emitted column N − 1 (R242). -/
def State.swathEndCheck (s : State) (u : Nat) : State :=
  match s.dropSw u with
  | some w => if w.jsn.isSome && w.allRequested && !w.cut && !s.jetHolds u then s.swathEnd u else s
  | none => s

/-- Whether a frame of columns is on a lane of a port. -/
def State.lanesEmit (s : State) : Bool := s.jet.any fun e => !e.2.lane0.cols.isEmpty || !e.2.lane1.cols.isEmpty

/-- Step 1 of a curtain ends with the last column being emitted: the pipeline discards its swaths, and those that were firing are
interrupted (R34, R240). -/
def State.step1End (s : State) : State :=
  if s.sys.emitting && !s.lanesEmit then ((s.modSys fun y => { y with emitting := false }).dropCurtain).jrnlCurtain else s

/-- The columns of a frame strobe as its last block leaves: captured and counted (R277, R474, R536). -/
def State.jetStrobe (s : State) (l : List JetCol) : State :=
  let s := l.foldl (fun s c => (s.capture1 c.ctx c.jsn (c.col + 1)).countNozzles c.ctx c.data) s
  (l.foldl (fun s c => s.swathEndCheck c.uid) s).step1End

/-- A column passed to its context's port: queued, or committed at issue where no port in service serves it (R272, R287). -/
def State.jetIssue (s : State) (c : JetCol) : State :=
  match s.portOf c.ctx with
  | some p =>
    if s.inService p then s.modJet p fun x => { x with queue := x.queue ++ [c] }
    else (s.capture1 c.ctx c.jsn (c.col + 1)).swathEndCheck c.uid
  | none => (s.capture1 c.ctx c.jsn (c.col + 1)).swathEndCheck c.uid

/-- The columns that have not left port `p` are discarded, counted, reported and committed (R287). -/
def State.jetDiscard (s : State) (p : Nat) : State :=
  let x := s.jport p
  let l := x.lane0.cols ++ x.lane1.cols ++ x.queue
  let s := s.modJet p fun x => { x with queue := [], lane0 := { x.lane0 with cols := [], out := [] },
                                        lane1 := { x.lane1 with cols := [], out := [] } }
  if l.isEmpty then s
  else
    let s := (s.raise (R.JET_STAT_LOST p)).count (R.JET_ERRCNT_LOST p) l.length
    let s := l.foldl (fun s c => (s.defect c.jsn 4).capture1 c.ctx c.jsn (c.col + 1)) s
    (l.foldl (fun s c => s.swathEndCheck c.uid) s).step1End

/-- A curtain: the column being emitted completes, in the frames that the lanes have begun; the queued ones are discarded and not
committed, so that their swaths do not end (R34, R265). -/
def State.jetCurtain (s : State) : State :=
  let cut := fun (w : DropSwath) => !w.allRequested || s.jet.any fun e => e.2.queue.any fun c => c.uid == w.uid
  let s := s.modDrop fun d => { d with q := d.q.map fun w => { w with cut := cut w } }
  { s with jet := s.jet.map (fun (e : Nat × JetPort) => (e.1, { e.2 with queue := [] })), sys := { s.sys with emitting := true } }

/-! ## Service and link states (R278, R280, R286, R287) -/

/-- Port `p` joins service. -/
def State.jetJoin (s : State) (p : Nat) : State :=
  ((s.raise (R.JET_STAT_INSVC p)).lower (R.JET_STAT_JOINPEND p)).raiseBit R.JET_INSVC_INSVC p

/-- A handover: ports that wait join (R287). -/
def State.jetJoinAll (s : State) : State :=
  (List.range 32).foldl (fun s p => if s.flag (R.JET_STAT_JOINPEND p) then s.jetJoin p else s) s

/-- Port `p` leaves UP, if it is there. -/
def State.jetLeave (s : State) (p : Nat) : State :=
  if s.jlink p ≠ linkUp then s
  else
    let s := ((s.lower (R.JET_STAT_INSVC p)).lower (R.JET_STAT_JOINPEND p)).lowerBit R.JET_INSVC_INSVC p
    let s := (s.modJet p fun x => { x with downNs := s.cue.time.toNat }).setF (R.JET_STAT_LINK p) linkOff
    ((s.irqPulseIf (R.JET_CTRL_UPIRQ p) baseJET).publish (Src.jetDown p)).jetDiscard p

/-- Port `p` enters FAULT. -/
def State.jetFault (s : State) (p cause : Nat) : State :=
  let s := s.jetLeave p
  ((s.setF (R.JET_STAT_LINK p) linkFault).setF (R.JET_STAT_CAUSE p) cause).irqPulseIf (R.JET_CTRL_ERRIRQ p) baseJET

/-- Port `p` goes to OFF. -/
def State.jetOff (s : State) (p : Nat) : State :=
  let s := s.jetLeave p
  (s.setF (R.JET_STAT_LINK p) linkOff).modJet p fun x => { downNs := x.downNs }

/-- Port `p` enters TRAIN: its next superframe is the next that the time counter gives (R274); a change of WAVE takes effect only in
OFF (R289); the state of a lane's scrambler at the start is given nowhere and free (R273, DESIGN CHOICE, log entry 35). -/
def State.jetTrain (s : State) (p : Nat) : State :=
  let off := s.jlink p == linkOff
  let s := s.jetLeave p
  let s := (s.setF (R.JET_STAT_LINK p) linkTrain).lower (R.JET_BSTAT_VALID p)
  let sf := (s.cue.time.toNat + 6399) / 6400
  let (r0, s) := s.fresh
  let (r1, s) := s.fresh
  s.modJet p fun x =>
    { skew := s.getS (R.JET_SKEW_SKEW p), wave := if off then s.flag (R.JET_CTRL_WAVE p) else x.wave, downNs := x.downNs,
      lane0 := { sf := sf, scr := r0 % 2 ^ 58 }, lane1 := { sf := sf, scr := r1 % 2 ^ 58 } }

/-- The tables that the contexts of port `p` name, in rising number. -/
def State.jetTables (s : State) (p : Nat) : List Nat :=
  let b := s.getF (R.JET_MAP_BASE p)
  ((List.range (s.getF (R.JET_MAP_COUNT p))).flatMap fun i =>
    (List.range 4).map fun q => (s.getReg (R.DROP_CTXB (b + i))).toNat / 256 ^ q % 256).foldr
      (fun t l => if l.contains t then l else insertNat t l) []

/-- A 64-bit data block of two words, the lower first. -/
def pairBlk (lo hi : Word) : Blk := ⟨false, hi ++ lo⟩

/-- The frames of LOAD: TIME, CTXMAP for all contexts, TABLE for every table that they name (R274, R286). -/
def State.jetLoad (s : State) (p : Nat) : List (List Blk) :=
  let b := s.getF (R.JET_MAP_BASE p)
  let n := s.getF (R.JET_MAP_COUNT p)
  let maps := (List.range ((n + 15) / 16)).map fun g =>
    ctlBlk 0x78 (16 * g * 2 ^ 49) :: (List.range 8).map fun i =>
      pairBlk (s.getReg (R.DROP_CTXB (b + 16 * g + 2 * i))) (s.getReg (R.DROP_CTXB (b + 16 * g + 2 * i + 1)))
  let tabs := (s.jetTables p).map fun t =>
    ctlBlk 0x66 (t * 2 ^ 48) :: (List.range 8).map fun i =>
      pairBlk (s.getReg (R.DROP_DT t (2 * i))) (s.getReg (R.DROP_DT t (2 * i + 1)))
  [ctlBlk 0x33 0] :: (maps ++ tabs)

/-- Port `p` enters LOAD. -/
def State.jetEnterLoad (s : State) (p : Nat) : State :=
  let s := s.jetLeave p
  let l := s.jetLoad p
  (s.setF (R.JET_STAT_LINK p) linkLoad).modJet p fun x => { x with load := l }

/-- JET_LAT from the 64 measurements (R278). -/
def State.jetLatency (s : State) (p : Nat) : State :=
  let x := s.jport p
  let num : Int := (x.rtt : Int) - 64 * s.getF (R.JET_CAPS_TBRD p) + 64 * x.skew
  let (q, s) := s.roundFree num 128
  if 0 ≤ q ∧ q < 65536 then s.setF (R.JET_LAT_LAT p) q.toNat
  else
    let (r, s) := s.fresh
    s.setF (R.JET_LAT_LAT p) r

/-- TRAIN is left once CAPS fits and 64 ECHOs are measured. -/
def State.jetTrained (s : State) (p : Nat) : State :=
  let x := s.jport p
  if s.jlink p = linkTrain ∧ x.caps ∧ 64 ≤ x.echos then (s.jetLatency p).jetEnterLoad p else s

/-- Port `p` reaches UP. -/
def State.jetUp (s : State) (p : Nat) : State :=
  let s := ((s.setF (R.JET_STAT_LINK p) linkUp).irqPulseIf (R.JET_CTRL_UPIRQ p) baseJET).publish (Src.jetUp p)
  if s.flag R.FIRE_STAT_SW then s.raise (R.JET_STAT_JOINPEND p) else s.jetJoin p

/-- Whether links may start: PLACES or RUN (R286). -/
def State.jetMayTrain (s : State) : Bool := match s.sys.dev with | .places => true | .run _ => true | _ => false

/-- Entry to PLACES: ports whose EN is set already start training. -/
def State.jetPlaces (s : State) : State :=
  (List.range 32).foldl (fun s p =>
    if s.flag (R.JET_CTRL_EN p) && s.jlink p == linkOff then s.jetTrain p else s) s

/-- The time counter is stepped (R280). -/
def State.jetStep (s : State) : State :=
  (List.range 32).foldl (fun s p =>
    if s.jlink p = linkTrain ∨ s.jlink p = linkLoad ∨ s.jlink p = linkUp then s.jetTrain p else s) s

/-! ## What the board sends (R284, R285) -/

/-- CAPS from the board. -/
def State.jetCapsIn (s : State) (p : Nat) (c : Nat) : State :=
  if s.jlink p = linkOff ∨ s.jlink p = linkFault then s
  else
    let level := c / 2 ^ 48 % 256
    let s := ((s.setF (R.JET_CAPS_LEVEL p) level).setF (R.JET_CAPS_MAXCTX p) (c / 2 ^ 40)).setF (R.JET_CAPS_TBRD p) (c / 2 ^ 24)
    if s.jlink p ≠ linkTrain then s
    else if levelNear level s.ifLevel then (s.modJet p fun x => { x with caps := true }).jetTrained p
    else s.jetFault p 1

/-- ECHO of a MARK, with the round trip in 62.5 ps steps. -/
def State.jetEchoIn (s : State) (p rtt : Nat) : State :=
  if s.jlink p ≠ linkTrain ∨ 64 ≤ (s.jport p).echos then s
  else (s.modJet p fun x => { x with echos := x.echos + 1, rtt := x.rtt + rtt }).jetTrained p

/-- A CRCERR of the board on the lanes that are named (R285). The failed superframe is the one before that in which the report comes,
so that failed superframes are consecutive when such reports come in superframe after superframe (DEDUCED, log entry 35). -/
def State.jetCrcErr (s : State) (p : Nat) (e0 e1 : Bool) : State :=
  let x := s.jport p
  let s := (s.raise (R.JET_STAT_CRCERR p)).count (R.JET_ERRCNT_CRCERR p) 1
  let s := (s.irqPulseIf (R.JET_CTRL_ERRIRQ p) baseJET).publish (Src.jetLinkErr p)
  let bad := (if e0 then x.lane0.prevSf else []) ++ (if e1 then x.lane1.prevSf else [])
  let s := bad.foldl (fun s j => s.defect j 3) s
  let sf := x.lane0.sf
  let s := s.modJet p fun x =>
    { x with fails := if x.fails ≠ 0 ∧ x.failSf = sf then x.fails else if x.fails ≠ 0 ∧ x.failSf + 1 = sf then x.fails + 1 else 1,
             failSf := sf }
  if s.jlink p = linkUp ∧ 4 ≤ (s.jport p).fails then s.jetFault p 5 else s

/-- STAT from the board. -/
def State.jetStatIn (s : State) (p c : Nat) : State :=
  if s.jlink p = linkOff ∨ s.jlink p = linkFault then s
  else
    let s := (s.setF (R.JET_BSTAT_TEMP p) (c / 2 ^ 40)).setF (R.JET_BSTAT_FCODE p) (c / 2 ^ 32)
    let s := (s.setF (R.JET_BSTAT_LATEFIRE p) (c.testBit 51).toNat).setF (R.JET_BSTAT_FAULT p) (c.testBit 54).toNat
    let s := ((s.setF (R.JET_BSTAT_READY p) (c.testBit 55).toNat).raise (R.JET_BSTAT_VALID p)).setF (R.JET_FIRED_CNT p) c
    let s := if c.testBit 53 || c.testBit 52 then s.jetCrcErr p (c.testBit 53) (c.testBit 52) else s
    if s.jlink p = linkTrain ∨ s.jlink p = linkFault then s
    else if c.testBit 54 then (s.raise (R.JET_STAT_BFAULT p)).jetFault p 4
    else
      if s.jlink p = linkLoad ∧ c.testBit 55 ∧ (s.jport p).load.isEmpty ∧ (s.jport p).lane0.out.isEmpty
          ∧ (s.jport p).lane1.out.isEmpty then s.jetUp p
      else s

/-! ## Block slots (R273 to R277, R281, R283) -/

/-- The number of the wave slot at slot `n`, if it is one (R274). -/
def waveSlot (n : Nat) : Option Nat := (List.range 64).find? fun j => 249 * j / 64 + 1 == n

/-- Whether slot `n` is a general slot. -/
def generalSlot (wave : Bool) (n : Nat) : Bool := n != 0 && !(wave && (waveSlot n).isSome)

/-- Slots, from slot `n` on, that `m` general blocks take (the first argument bounds the search). -/
def slotsFor (wave : Bool) : Nat → Nat → Nat → Nat
  | 0, _, _ => 0
  | f + 1, n, m =>
    if m = 0 then 0 else 1 + slotsFor wave f ((n + 1) % 250) (if generalSlot wave n then m - 1 else m)

/-- The queued column with the earliest TS of swath `u`, ties going to the lower context (R276). -/
def earliest (u : Nat) (l : List JetCol) : Option JetCol :=
  l.foldl (fun b c =>
    if c.uid ≠ u then b
    else match b with
      | none => some c
      | some x => if c.ts < x.ts ∨ (c.ts = x.ts ∧ c.ctx < x.ctx) then some c else b) none

/-- An entry of a FIRE block (R275). -/
def fireEntry (base : Nat) (c : JetCol) : Nat := 2 ^ 27 + (c.ctx - base) % 128 * 2 ^ 20 + c.ts % 2 ^ 20

/-- The blocks of a FIRE frame of one or two columns. -/
def fireFrame (base : Nat) (c : JetCol) (d : Option JetCol) : List Blk :=
  match d with
  | none => ctlBlk 0x4B (fireEntry base c) :: dataBlks c.data
  | some d => ctlBlk 0x4B (fireEntry base d * 2 ^ 28 + fireEntry base c) :: (dataBlks c.data ++ dataBlks d.data)

/-- A frame of `n` blocks with columns `cols` starts on a lane: it is late when its last block cannot reach the board's land
100 ns before the TS of a column (R283). -/
def State.jetLate (s : State) (p l n : Nat) (cols : List JetCol) : State :=
  let x := s.jport p
  let y := x.lane l
  let last := y.sf * 250 + y.slot + slotsFor x.wave 64 y.slot n
  match cols.find? fun c => decide (c.ts * 10 < last * 4096 + 16000) with
  | some c =>
    let s := (s.raise (R.JET_STAT_LATE p)).count (R.JET_ERRCNT_LATE p) 1
    ((s.irqPulseIf (R.JET_CTRL_LATEIRQ p) baseJET).publish (Src.jetLate p)).defect c.jsn 2
  | none => s

/-- The SWATH block of a swath (R274). -/
def swathBlk (d : SwathDesc) : Blk := ctlBlk 0x55 (d.b0a / 2 % 4 * 2 ^ 54 + d.b0a % 2 * 2 ^ 53 + d.swath * 2 ^ 37)

/-- What a lane does at a general slot when no frame is in progress: a frame of LOAD, SWATH before the swath's first FIRE
frame, a FIRE frame, or nothing: SWATH goes out on both lanes before the swath's first FIRE frame on either (R276). -/
def State.jetStart (s : State) (p l : Nat) : State :=
  let x := s.jport p
  match x.load with
  | f :: t =>
    let f := f.map fun b => if b == ctlBlk 0x33 0 then ctlBlk 0x33 ((x.lane l).sf % 2 ^ 56) else b
    s.modJet p fun x => (x.setLane l { x.lane l with out := f }) |> fun x => { x with load := t }
  | [] =>
    match x.queue with
    | [] => s
    | h :: _ =>
      if (x.lane l).swath = some h.uid ∧ (x.lane (1 - l)).swath ≠ some h.uid then s
      else if (x.lane l).swath ≠ some h.uid then
        match (s.dropSw h.uid).bind fun w => w.desc with
        | some d => s.modJet p fun x => x.setLane l { x.lane l with out := [swathBlk d], swath := some h.uid }
        | none => s
      else
        match earliest h.uid x.queue with
        | none => s
        | some c =>
          let rest := x.queue.filter fun e => e != c
          let d := earliest h.uid rest
          let cols := c :: d.toList
          let fr := fireFrame (s.getF (R.JET_MAP_BASE p)) c d
          (s.jetLate p l fr.length cols).modJet p fun x =>
            let y := x.lane l
            { x with queue := rest.filter fun e => some e != d } |> fun x =>
              x.setLane l { y with out := fr, cols := cols,
                                   inSf := (cols.map (·.jsn) ++ y.inSf).eraseDups }

/-- The wave sample of wave slot `j` on a lane in superframe `sf` (R281). -/
def State.waveSample (s : State) (p l sf j : Nat) : BitVec 64 × State :=
  let len := s.getF (R.JET_WLEN_LEN p)
  if len = 0 ∨ s.jlink p = linkTrain then (0, s)
  else
    let e := ((sf + 2) * 128 + 2 * j + l) % len
    match s.memRead (s.getF (R.JET_WBASE_ADDR p) * 8 + 8 * e) 8 with
    | (s, .ok b) => (BitVec.ofNat 64 (natLE b), s)
    | (s, _) =>
      let (r, s) := s.fresh
      (BitVec.ofNat 64 r, s)

/-- Block `b` sent on a lane (R273). -/
def JetLane.send (y : JetLane) (b : Blk) : JetLane :=
  let p := blkBits y.scr b
  { y with last := some b, scr := p.1, bits := p.2 }

/-- A general block leaves a lane: it enters the lane's CRC; with the last block of a FIRE frame its columns strobe. -/
def State.jetGeneral (s : State) (p l : Nat) : State :=
  let s := if ((s.jport p).lane l).out.isEmpty then s.jetStart p l else s
  let y := (s.jport p).lane l
  let b := y.out.headD (ctlBlk 0x1E 0)
  let end_ := y.out.length ≤ 1
  let s := s.modJet p fun x =>
    x.setLane l { y.send b with slot := (y.slot + 1) % 250, out := y.out.tail, crc := laneCrc y.crc b,
                                cols := if end_ then [] else y.cols }
  if end_ then s.jetStrobe y.cols else s

/-- One block slot of lane `l` of port `p` (R274). -/
def State.jetSlot (s : State) (p l : Nat) : State :=
  if s.jlink p = linkOff ∨ s.jlink p = linkFault then s
  else
    let x := s.jport p
    let y := x.lane l
    if y.slot = 0 then
      let crc := y.crc ^^^ 0xFFFFFFFF
      let mark := ctlBlk 0x2D (y.sf % 2 ^ 24 * 2 ^ 32 + crc)
      s.modJet p fun x =>
        x.setLane l { y.send mark with slot := 1, crc := 0xFFFFFFFF, prevCrc := crc, prevSf := y.inSf,
                                       inSf := (y.cols.map (·.jsn)).eraseDups }
    else
      let s := match (if x.wave then waveSlot y.slot else none) with
        | some j =>
          let (v, s) := s.waveSample p l y.sf j
          s.modJet p fun x => x.setLane l { y.send ⟨false, v⟩ with slot := (y.slot + 1) % 250 }
        | none => s.jetGeneral p l
      if y.slot = 249 then s.modJet p fun x => x.setLane l { x.lane l with sf := y.sf + 1 } else s

/-! ## Registers (R289) -/

/-- Whether two context ranges overlap. -/
def rangesMeet (a n b m : Nat) : Bool := decide (0 < n ∧ 0 < m ∧ a < b + m ∧ b < a + n)

/-- A register write to JET; `p` is the port. -/
def State.jetRegWrite (s : State) (d : RegDesc) (p a : Nat) (v : Word) : State :=
  match d.id with
  | .JET_MAP =>
    let b := fieldOf v 27 16
    let n := fieldOf v 7 0
    let clash := (List.range 32).any fun q =>
      q != p && rangesMeet b n (s.getF (R.JET_MAP_BASE q)) (s.getF (R.JET_MAP_COUNT q))
    if s.bootOrPlaces && decide (n ≤ 128) && !clash then s.writeTyped d a false v else s.jetCfgref p
  | .JET_CTRL =>
    if v.getLsbD 5 && (s.jlink p != linkUp || s.dropBusy) then s.jetCfgref p
    else
      let was := s.flag (R.JET_CTRL_EN p)
      let s := s.writeTyped d a false v
      if was && !v.getLsbD 0 then s.jetOff p
      else if v.getLsbD 5 then s.jetEnterLoad p
      else if !was && v.getLsbD 0 && s.jlink p == linkOff && s.jetMayTrain then s.jetTrain p else s
  | _ => s.writeTyped d a false v

/-! ## Commands -/

/-- JET_BLOCK_SLOT (R274). -/
def execJetBlockSlot (port : Fin 32) (lane : Fin 2) (s : State) : Host.Outcome State Fault Refusal :=
  .next (State.settle <| s.jetSlot port lane)

/-- JET_CAPS_RECEIVED (R284, R286). -/
def execJetCapsReceived (port : Fin 32) (caps : BitVec 56) (s : State) : Host.Outcome State Fault Refusal :=
  .next (State.settle <| s.jetCapsIn port caps.toNat)

/-- JET_ECHO_RECEIVED (R278). -/
def execJetEchoReceived (port : Fin 32) (rtt : Nat) (s : State) : Host.Outcome State Fault Refusal :=
  .next (State.settle <| s.jetEchoIn port rtt)

/-- JET_STAT_RECEIVED (R285). -/
def execJetStatReceived (port : Fin 32) (stat : BitVec 56) (s : State) : Host.Outcome State Fault Refusal :=
  .next (State.settle <| s.jetStatIn port stat.toNat)

/-- JET_TRAIN_TIMEOUT (R286). -/
def execJetTrainTimeout (port : Fin 32) (s : State) : Host.Outcome State Fault Refusal :=
  .next (State.settle <| if s.jlink port = linkTrain then s.jetFault port 2 else s)

/-- JET_LOCK_LOSS (R286): 12.8 µs are 500 block times, in none of which a valid block came, which JET_ERRCNT.SYNC counts as far as it
goes (R288, R289, DEDUCED, log entry 35). -/
def execJetLockLoss (port : Fin 32) (s : State) : Host.Outcome State Fault Refusal :=
  .next (State.settle <| if s.jlink port = linkTrain ∨ s.jlink port = linkLoad ∨ s.jlink port = linkUp then
      ((s.raise (R.JET_STAT_LOCKLOSS port)).count (R.JET_ERRCNT_SYNC port) 500).jetFault port 3
    else s)

/-- CUE_FOLLOWER_LOCK (R53 to R55, R280): a step of the time counter sends the jet ports back to TRAIN. -/
def execCueFollowerLock (rootCount rootTime : BitVec 64) (rootPeriod : Word) (phase : Nat) (phErr : BitVec 16) (s : State) :
    Host.Outcome State Fault Refusal :=
  let t := s.followerLock rootCount rootTime rootPeriod phase phErr
  .next (State.settle <| if t.cue.time = s.cue.time then t else t.jetStep)

end Sys2Proof.Machine
end

