-- ==== Sys2Proof/Machine/Fire.lean ====
section
/-!
DEFINITION. Position-scheduled firing (R245 to R271): the carriage observer, the firing equation, scan rounds, the swath in
the scheduler.
What the spec leaves open here: log entries 8 and 34.
-/

namespace Sys2Proof.Machine

/-! ## Fractions -/

/-- A fraction with a positive denominator, not reduced. -/
structure Frac where
  num : Int
  den : Nat
  deriving DecidableEq, Repr

/-- Sum, difference, product and half of fractions. -/
def Frac.add (a b : Frac) : Frac := ⟨a.num * b.den + b.num * a.den, a.den * b.den⟩
def Frac.sub (a b : Frac) : Frac := ⟨a.num * b.den - b.num * a.den, a.den * b.den⟩
def Frac.mul (a b : Frac) : Frac := ⟨a.num * b.num, a.den * b.den⟩
def Frac.half (a : Frac) : Frac := ⟨a.num, 2 * a.den⟩

/-- A quotient; none where the divisor is 0. -/
def Frac.div (a b : Frac) : Option Frac :=
  if b.num = 0 then none
  else if 0 < b.num then some ⟨a.num * b.den, a.den * b.num.natAbs⟩
  else some ⟨-(a.num * b.den), a.den * b.num.natAbs⟩

/-- The nearest integer of `k` times a fraction, ties upward. -/
def Frac.nearest (a : Frac) (k : Nat) : Int := (2 * k * a.num + a.den) / (2 * a.den : Nat)

/-- A value that its format of `w` bits holds, else a free one of that format (DESIGN CHOICE, log entry 8). -/
def State.fitFree (s : State) (w : Nat) (v : Int) : Int × State :=
  if clampS w v = v then (v, s)
  else
    let (r, s) := s.fresh
    (sext w r, s)

/-! ## The observer (R248 to R251) -/

/-- `s` with the scheduler's structure changed. -/
def State.modFire (s : State) (f : Fire → Fire) : State := { s with fire := f s.fire }

/-- FIRE_STAT.SW. -/
def State.fireSw (s : State) : Nat := s.getF R.FIRE_STAT_SW
def swNone : Nat := 0
def swUnarmed : Nat := 1
def swIssuing : Nat := 2
def swHeld : Nat := 3

/-- FIRE_ENCSCALE, signed Q16.16. -/
def State.encScale (s : State) : Int := s.getS R.FIRE_ENCSCALE_SCALE

/-- The commanded acceleration of loop slot FIRE_CFG.CSLOT times FIRE_ENCSCALE, in Q10.22 m/s² (R248, R322). -/
def State.acmdNow (s : State) : Int × State :=
  let k := s.getF R.FIRE_CFG_CSLOT
  let ts := s.slotTs k
  if s.slotType k = 2 ∧ ts ≠ 0 then
    let (q, s) := s.roundFree ((s.slot k).ac * 10 ^ 20 * s.encScale * 2 ^ 22)
      (625 * ts * ts * 2 ^ 24 * 2 ^ 16 * 10 ^ 9)
    s.fitFree 32 q
  else (0, s)

/-- 2^24 × 200,000: the denominator, in nm, of an observer prediction. -/
def obsDen : Nat := 2 ^ 24 * 200000

/-- One update of the observer (R248): the new p, v, b and the innovation e over obsDen. -/
def State.obsUpdate (s : State) (i : Nat) : (Int × Int × Int) × Int × State :=
  let f := s.fire
  let y : Int := s.encScale * (s.encUnit i).out * (2 ^ 8 * 200000 : Nat)
  let ap := f.acmd + f.b
  let pp : Int := f.obs.p * (2 ^ 16 * 200000 : Nat) + f.obs.v * (100 * 200000 : Nat) + ap * 4
  let vp : Int := f.obs.v * (10 ^ 7 : Nat) + 4 * ap
  let e : Int := if (s.encUnit i).newOut then y - pp else 0
  let (l1, l2, l3) := (s.getF R.FIRE_OBSL1_GAIN, s.getF R.FIRE_OBSL2_GAIN, s.getF R.FIRE_OBSL3_GAIN)
  let (p, s) := s.roundFree ((pp * (2 ^ 16 : Nat) + l1 * e) * (2 ^ 8 : Nat)) (obsDen * 2 ^ 16)
  let (p, s) := s.fitFree 48 p
  let (v, s) := s.roundFree ((vp * (2 ^ 17 : Nat) + l2 * e) * (2 ^ 24 : Nat)) (obsDen * 100 * 2 ^ 16)
  let (v, s) := s.fitFree 32 v
  let (db, s) := s.roundFree (l3 * e * (10 ^ 5 * 2 ^ 22 : Nat)) (obsDen * 2 ^ 16)
  let (b, s) := s.fitFree 32 (f.b + db)
  ((p, v, b), e, s)

/-- An observer fault (R250). -/
def State.obsFault (s : State) : State :=
  ((s.raise R.FIRE_STAT_OBSFLT).irqPulseIf R.FIRE_CTRL_OBSIRQ baseFIRE).publish Src.fireObsFlt

/-- The observer's part of a tick (R248, R250). -/
def State.obsTick (s : State) : State :=
  if !s.flag R.FIRE_CTRL_OBSEN then s
  else
    let i := s.getF R.FIRE_CFG_ENC
    let now := s.cue.time.toNat
    let ((p, v, b), e, s) :=
      if s.fire.init then
        let (y, s) := s.roundFree (s.encScale * (s.encUnit i).out) (2 ^ 8)
        let (y, s) := s.fitFree 48 y
        ((y, 0, 0), 0, s)
      else s.obsUpdate i
    let (ac, s) := s.acmdNow
    let (a, s) := s.fitFree 32 (ac + b)
    let (e8, s) := s.roundFree (e * 2 ^ 8) obsDen
    let s := s.modFire fun f =>
      { f with prev := f.obs, obs := ⟨now, p, v, a⟩, b := b, acmd := ac, e := clampS 32 e8, init := false }
    let lim := s.getF R.FIRE_INNOVLIM_LIM
    if (lim ≠ 0 ∧ lim * obsDen < e.natAbs) ∨ (s.encUnit i).faultOut then s.obsFault else s

/-! ## The swath held -/

/-- The swath in the scheduler with its descriptor. -/
def State.fireSwath (s : State) : Option (DropSwath × SwathDesc) :=
  match s.fire.swath with
  | none => none
  | some u =>
    match s.dropSw u with
    | some w => w.desc.map fun d => (w, d)
    | none => none

/-- dir of R255. -/
def SwathDesc.dir (d : SwathDesc) : Int := if d.b0a % 2 = 0 then 1 else -1

/-- R, the length of a scan round in ns (R256). -/
def State.roundNs (s : State) : Nat := s.getF R.DROP_CFG_NCTX + 64

/-- Whether dir × v exceeds FIRE_MAXRATE × PITCH (R260). -/
def State.overspeed (s : State) (d : SwathDesc) : Bool :=
  decide (((s.getF R.FIRE_MAXRATE_RATE * s.getF R.FIRE_PITCH_PITCH * 2 ^ 10 : Nat) : Int)
    < d.dir * s.fire.obs.v * (10 ^ 9 : Nat))

/-- The velocity condition (R260). -/
def State.velocityOk (s : State) (d : SwathDesc) : Bool :=
  decide ((s.getF R.FIRE_VMIN_VMIN : Int) ≤ d.dir * s.fire.obs.v) && !s.overspeed d

/-- A stall (R261): no column is issued from 60 ns after the tick on. -/
def State.fireStall (s : State) (fast : Bool) : State :=
  let s := (s.setF R.FIRE_STAT_SW swHeld).raise R.FIRE_STAT_STALL
  let s := if fast then s.raise R.FIRE_STAT_OVERSPEED else s
  let s := (s.irqPulseIf R.FIRE_CTRL_STALLIRQ baseFIRE).publish Src.fireStall
  s.modFire fun f => { f with until_ := f.obs.tick + 60, blocked := false, arm := none }

/-- Whether an arming check may start now (R262). -/
def State.mayArm (s : State) : Bool :=
  !s.flag R.FIRE_STAT_OBSFLT && s.sys.dev == .run .printing && s.flag R.FIRE_STAT_GRANT

/-- The scheduler's part of a tick: a stall, or the start of an arming check (R261, R262). -/
def State.fireTick (s : State) : State :=
  match s.fireSwath with
  | none => s
  | some (_, d) =>
    let ok := s.velocityOk d
    if s.fireSw = swIssuing then
      if ok && !s.flag R.FIRE_STAT_OBSFLT then s else s.fireStall (s.overspeed d)
    else if !ok then s.modFire fun f => { f with blocked := false }
    else if s.fire.arm.isNone && !s.fire.blocked && s.mayArm then s.modFire fun f => { f with arm := some f.obs }
    else s

/-- OBSERVER_TICK: what follows the encoder tick of the same instant. -/
def State.observerTick (s : State) : State :=
  if s.flag R.FIRE_CTRL_OBSEN then s.obsTick.fireTick else s

/-! ## The firing equation (R252, R253) -/

/-- X(c) + TRIM + B − OFS in Q.8 nm for context `k` and swath column `i`. -/
def State.targetQ8 (s : State) (d : SwathDesc) (k i : Nat) : Int :=
  let xorg := sext 48 (s.getF R.FIRE_XORGL_XORG + s.getF R.FIRE_XORGH_XORG * 2 ^ 32)
  let x := (xorg * 64 + (d.raster i * s.getF R.FIRE_PITCH_PITCH : Nat) + 32) / 64
  let b : Int := if d.b0a % 2 = 0 then 0 else s.getS R.FIRE_BIDI_B
  x + s.getS (R.FIRE_CTXB_TRIM k) * 16 + b - s.getS (R.FIRE_CTXA_OFS k) * 256

/-- The ejection instant from observer state `o`, in 62.5 ps steps, and the predicted velocity times dir over VMIN's scale;
none where the equation has a zero divisor. -/
def ejection (o : Obs) (xr : Int) (g vel : Nat) : Option (Int × Frac) :=
  let tf : Frac := if vel = 0 then ⟨0, 1⟩ else ⟨100 * g, vel⟩
  let v : Frac := ⟨o.v, 2 ^ 24⟩
  let a : Frac := ⟨o.a, 2 ^ 22 * 10 ^ 9⟩
  let dd := (Frac.mk (xr - o.p) (2 ^ 8)).sub (v.mul tf)
  let w := v.add (a.mul tf)
  match dd.div w with
  | none => none
  | some t0 =>
    match ((a.half.mul t0).mul t0).div (w.add (a.mul t0)) with
    | none => none
    | some c0 =>
      let t1 := t0.sub c0
      match ((((a.half.mul t1).mul t1).add (w.mul t1)).sub dd).div (w.add (a.mul t1)) with
      | none => none
      | some c1 =>
        let t2 := t1.sub c1
        some (16 * (o.tick : Int) + t2.nearest 16, w.add (a.mul t2))

/-- TS of the next column of context `k` in 62.5 ps steps (R253); none where the column is not reachable (R255). -/
def State.fireTs (s : State) (o : Obs) (d : SwathDesc) (k i : Nat) : Option Int :=
  let (g, vel) := mget (0, 0) s.fire.flight k
  match ejection o (s.targetQ8 d k i) g vel with
  | none => none
  | some (t, v) =>
    if d.dir * v.num * (2 ^ 24 : Nat) < (s.getF R.FIRE_VMIN_VMIN : Int) * v.den then none
    else some (t - s.getF (R.FIRE_GRP_TADV (s.getF (R.FIRE_CTXB_GRP k))))

/-! ## Refresh and boundary (R252, R254, R267) -/

/-- Head gap and drop velocity of context `k` (R252): a clamped gap and a missing velocity are flagged. -/
def State.fireFlight (s : State) (k : Nat) : (Nat × Nat) × State :=
  let g : Int := s.getS R.FIRE_GAP_GAP + 100 * s.getS (R.FIRE_GRP_GOFS (s.getF (R.FIRE_CTXB_GRP k)))
  let s := if g < 0 ∨ 20000000 < g then s.raise R.FIRE_STAT_GAPCLAMP else s
  let lvl := s.getF (R.FIRE_CTXB_REFLVL k)
  let table := (s.getReg (R.DROP_CTXB k)).toNat / 256 ^ s.fire.setNo % 256
  let vel := if lvl = 0 then 0 else s.getF (R.DROP_DT_VEL table lvl)
  let s := if lvl ≠ 0 ∧ vel = 0 then s.raise R.FIRE_STAT_NOVEL else s
  (((max 0 (min 20000000 g)).toNat, vel), s)

/-- The refresh instant: new flight times take effect (R254). -/
def State.fireRefresh (s : State) : State :=
  let (l, s) := (List.range (s.getF R.DROP_CFG_NCTX)).foldl (fun (q : SMap (Nat × Nat) × State) k =>
    let (x, s) := q.2.fireFlight k
    ((k, x) :: q.1, s)) ([], s)
  s.modFire fun f => { f with flight := l.reverse }

/-- FIRE_GAP and the permit are latched at a boundary (R254, R267). -/
def State.fireLatch (s : State) : State :=
  let fb : Int := if s.flag R.FIRE_GAPSRC_MAN then 0 else (s.slot (s.getF R.FIRE_GAPSRC_SLOT)).fb
  let (q, s) := s.roundFree (fb * s.getS R.FIRE_GAPSCALE_SCALE) (2 ^ 16)
  let (g, s) := s.fitFree 32 (s.getS R.FIRE_GAPBASE_BASE + q)
  (s.setF R.FIRE_GAP_GAP (wrap 32 g)).setF R.FIRE_STAT_GRANT (s.getF R.PBS_STAT_PERMIT)

/-- The scheduler holds no swath any more. -/
def State.fireNone (s : State) : State :=
  (s.setF R.FIRE_STAT_SW swNone).modFire fun f => { f with swath := none, arm := none, blocked := false, until_ := 0 }

/-- Locked writes of the present cycle are ignored after all: a handover falls in the same cycle (R247). -/
def State.fireUnwrite (s : State) : State :=
  let l := s.fire.wrote.filter fun e => e.1 == s.clk
  let s := l.foldl (fun s e => s.setReg e.2.1 e.2.2) s
  let s := if l.isEmpty then s else s.raise R.FIRE_STAT_CFGREF
  s.modFire fun f => { f with wrote := [] }

/-- Handover at a boundary in RUN (R229, R260): the ready head of DROP's queue, while the scheduler is free and EN is 1. -/
def State.fireHandover (s : State) : State :=
  if !s.inRun || !s.flag R.FIRE_CTRL_EN || s.fireSw ≠ swNone then s
  else
    match s.dropHead with
    | none => s
    | some w =>
      match w.desc with
      | none => s
      | some d =>
        let (j, s) := s.fireUnwrite.jrnlHandover d
        let s := (s.modSw w.uid fun w => { w with jsn := some j }).setF R.FIRE_STAT_SW swUnarmed
        (s.modFire fun f =>
          { f with swath := some w.uid, setNo := d.b0a / 2 % 4, arm := none, blocked := false, until_ := 0 }).jetJoinAll

/-- RUN/PAUSED takes effect (R263, R264). -/
def State.firePause (s : State) : State :=
  let s := if s.fireSw = swIssuing then s.setF R.FIRE_STAT_SW swHeld else s
  s.modFire fun f => { f with arm := none, until_ := 0 }

/-- The first boundary of a curtain (R265). -/
def State.fireCurtain (s : State) : State := s.fireNone

/-! ## Arming and issuing (R256 to R258, R262, R263) -/

/-- Every participating context has issued column N − 1 (R263): the scheduler is free, and the swath ends if nothing is left
to leave; a swath whose last column was committed at issue has ended already. -/
def State.fireDone (s : State) : State :=
  match s.fire.swath with
  | some u =>
    let all : Bool := match s.dropSw u with | some w => w.allRequested | none => true
    if (s.fireSw = swIssuing ∨ s.fireSw = swHeld) ∧ all = true then s.fireNone.swathEndCheck u else s
  | none => s

/-- The arming check under way ends (R262). -/
def State.fireArmed (s : State) : State :=
  match s.fire.arm, s.fireSwath with
  | some o, some (w, d) =>
    let least : Int := 16 * ((o.tick + s.roundNs + 1200 : Nat) : Int)
    let ok := d.ctxs.all fun k =>
      decide (d.n ≤ w.at k) || (match s.fireTs o d k (w.at k) with | some t => decide (least ≤ t) | none => false)
    let s := s.modFire fun f => { f with arm := none, until_ := 0, blocked := !ok }
    if ok then
      (((s.setF R.FIRE_STAT_SW swIssuing).irqPulseIf R.FIRE_CTRL_ARMIRQ baseFIRE).publish Src.fireArmed).fireDone
    else ((s.raise R.FIRE_STAT_OVERSHOT).irqPulseIf R.FIRE_CTRL_OVSIRQ baseFIRE).publish Src.fireOvershot
  | _, _ => s

/-- A column issued with less than 1,200 ns margin (R258). -/
def State.fireLate (s : State) (w : DropSwath) : State :=
  let s := (s.raise R.FIRE_STAT_LATE).count R.FIRE_LATECNT_CNT 1
  let s := (s.irqPulseIf R.FIRE_CTRL_LATEIRQ baseFIRE).publish Src.fireLate
  match w.jsn with | some j => s.defect j 1 | none => s

/-- Context `k` issues column `i` at instant `at_` ns with timestamp `ts` (R257, R258). -/
def State.fireIssue (s : State) (w : DropSwath) (d : SwathDesc) (k i at_ : Nat) (ts : Int) : State :=
  let m := ts - 16 * (at_ : Int)
  let (ns, s) := s.roundFree m 16
  let ns := (max 0 (min 65535 ns)).toNat
  let s := if ns < s.getF R.FIRE_MINMARGIN_NS then s.setF R.FIRE_MINMARGIN_NS ns else s
  let late := decide (m < 16 * 1200)
  let s := if late then s.fireLate w else s
  let ts := if late then 16 * (at_ + 1200) else ts.toNat
  let (l, s) := s.dropColumn at_ w d k i
  let s := s.dropPassed w.uid k i
  s.jetIssue { ctx := k, col := i, ts := ts, data := l, uid := w.uid, jsn := w.jsn.getD 0 }

/-- The visit of context `k` at instant `at_` (R256, R257). -/
def State.fireVisit (s : State) (k at_ : Nat) : State :=
  match s.fireSwath with
  | none => s
  | some (w, d) =>
    if !(s.fireSw == swIssuing || decide (at_ < s.fire.until_)) || !d.ctxs.contains k || decide (d.n ≤ w.at k) then s
    else
      let o := if s.fire.obs.tick + 60 ≤ at_ then s.fire.obs else s.fire.prev
      match s.fireTs o d k (w.at k) with
      | none => s
      | some t =>
        if t - 16 * (at_ : Int) ≤ 16 * s.getF R.FIRE_CFG_HORIZON then s.fireIssue w d k (w.at k) at_ t else s

/-- The visits of the round in progress whose instants come up to `upto` ns (R256). -/
def State.scanVisits (s : State) (upto : Nat) : State :=
  match s.fire.round with
  | none => s
  | some (t0, k0) =>
    let n := s.getF R.DROP_CFG_NCTX
    let k1 := max k0 (min n (upto + 1 - t0))
    let s := (List.range (k1 - k0)).foldl (fun s i => s.fireVisit (k0 + i) (t0 + k0 + i)) s
    (s.modFire fun f => { f with round := if n ≤ k1 then none else some (t0, k1) }).fireDone

/-- A scan round starts now; what is left of the one before comes first (R256). Its visits follow as time reaches them. -/
def State.scanRound (s : State) : State :=
  let s := match s.fire.round with
    | some (t0, _) => s.scanVisits (t0 + s.getF R.DROP_CFG_NCTX)
    | none => s
  let now := s.cue.time.toNat
  (s.modFire fun f => { f with round := some (now, 0) }).scanVisits now

/-- The visits that time has reached. -/
def State.scanTick (s : State) : State := if s.fire.round.isSome then (s.scanVisits s.cue.time.toNat).settle else s

/-! ## Abandon (R486) -/

/-- ABANDON: the journal's part, and no column of the order that has not left is printed. -/
def State.abandon (s : State) : State :=
  if !s.mayAbandon then s.raise R.JRNL_STAT_CFGREF
  else
    let q := s.getF R.JRNL_ASEQ_SEQ
    let gone := (s.drop.q.filter fun w => match w.desc with | some d => d.order == q | none => false).map (·.uid)
    let s := if s.fire.swath.any fun u => gone.contains u then s.fireNone else s
    let keep (l : List JetCol) : List JetCol := l.filter fun c => !gone.contains c.uid
    let lane (y : JetLane) : JetLane := if y.cols == keep y.cols then y else { y with cols := [], out := [] }
    let s := { s with jet := s.jet.map fun e =>
      (e.1, { e.2 with queue := keep e.2.queue, lane0 := lane e.2.lane0, lane1 := lane e.2.lane1 }) }
    (gone.foldl State.dropRemove s).jrnlAbandon q

/-- A register write to JRNL (R469, R486, R488). -/
def State.jrnlRegWrite (s : State) (d : RegDesc) (a : Nat) (v : Word) : State :=
  match d.id with
  | .JRNL_CTRL =>
    let s := s.writeTyped d a false v
    let s := if v.getLsbD 31 then s.jrnlAccept else s
    if v.getLsbD 30 then s.abandon else s
  | _ => s.writeTyped d a false v

/-! ## Registers (R247, R271) -/

/-- What the registers of FIRE read that show the observer and the swath. -/
def State.fireRegRead (s : State) (id : RegId) (stored : Word) : Word :=
  let o := s.fire.obs
  match id with
  | .FIRE_OBSPOSL => BitVec.ofNat 32 (wrap 48 o.p)
  | .FIRE_OBSPOSH => BitVec.ofNat 32 (wrap 48 o.p / 2 ^ 32)
  | .FIRE_OBSVEL => BitVec.ofNat 32 (wrap 32 o.v)
  | .FIRE_OBSACC => BitVec.ofNat 32 (wrap 32 o.a)
  | .FIRE_OBSTICK => BitVec.ofNat 32 o.tick
  | .FIRE_INNOV => BitVec.ofNat 32 (wrap 32 s.fire.e)
  | .FIRE_SWSTAT =>
    match s.fireSwath with
    | some (w, d) =>
      BitVec.ofNat 32 (d.b0a % 2 * 2 ^ 31 + d.b0a / 2 % 4 * 2 ^ 29 + ((d.ctxs.map fun k => w.at k).min?.getD 0) % 2 ^ 20)
    | none => 0
  | _ => stored

/-- Whether a value is in range for a FIRE register. -/
def fireValueOk (id : RegId) (v : Word) : Bool :=
  match id with
  | .FIRE_CFG => decide (1200 ≤ fieldOf v 15 0 ∧ fieldOf v 15 0 ≤ 20000)
  | .FIRE_PITCH => v != 0
  | .FIRE_VMIN => v != 0
  | .FIRE_MAXRATE => fieldOf v 19 0 != 0
  | _ => true

/-- Registers that a swath in the scheduler locks (R247). -/
def fireLocked (id : RegId) : Bool :=
  match id with
  | .FIRE_CTXA | .FIRE_CTXB | .FIRE_GRP | .FIRE_XORGL | .FIRE_XORGH | .FIRE_PITCH | .FIRE_BIDI | .FIRE_ENCSCALE
  | .FIRE_VMIN => true
  | _ => false

/-- A register write to FIRE. -/
def State.fireRegWrite (s : State) (d : RegDesc) (a : Nat) (v : Word) : State :=
  let refuse := (fireLocked d.id && s.fireSw != swNone) || !fireValueOk d.id v
    || ((d.id == .FIRE_CFG || d.id == .FIRE_MAXRATE) && !s.bootOrPlaces)
  if refuse then s.raise R.FIRE_STAT_CFGREF
  else
    match d.id with
    | .FIRE_CTRL =>
      let was := s.flag R.FIRE_CTRL_OBSEN
      (s.writeTyped d a false v).modFire fun f => { f with init := (f.init || !was) && v.getLsbD 7 }
    | _ =>
      let old := s.getReg a
      let s := s.writeTyped d a false v
      if fireLocked d.id then s.modFire fun f => { f with wrote := (s.clk, a, old) :: f.wrote.filter fun e => e.1 == s.clk } else s

/-! ## Commands -/

/-- OBSERVER_TICK (R248). -/
def execObserverTick (s : State) : Host.Outcome State Fault Refusal := .next s.observerTick.settle

/-- ARMING_CHECK_COMPLETE (R262). -/
def execArmingCheckComplete (s : State) : Host.Outcome State Fault Refusal := .next s.fireArmed.settle

/-- FIRE_REFRESH (R254). -/
def execFireRefresh (s : State) : Host.Outcome State Fault Refusal := .next (State.settle <| if s.cueRuns then s.fireRefresh else s)

/-- SCAN_ROUND (R256). -/
def execScanRound (s : State) : Host.Outcome State Fault Refusal := .next s.scanRound.settle

end Sys2Proof.Machine
end

