-- ==== Sys2Proof/Machine/HostIf.lean ====
section
/-!
DEFINITION. The host interface's own part: frames, the session table, answers and notifications, the long operation, and the
HOST registers (R489 to R500, R514). What a command does stands in HostCmd.lean.
What the spec leaves open here: log entries 16 and 46.
-/

namespace Sys2Proof.Machine

/-- `s` with the host structure changed. -/
def State.modHost (s : State) (f : HostIf → HostIf) : State := { s with host := f s.host }

/-- The open session of index `i`. -/
def State.session (s : State) (i : Nat) : Option HostSess := mfind s.host.sess i

/-- `s` with session `i` changed, if it is open. -/
def State.modSess (s : State) (i : Nat) (f : HostSess → HostSess) : State :=
  match s.session i with
  | none => s
  | some x => s.modHost fun h => { h with sess := mset h.sess i (f x) }

/-! ## Status codes (R494) and opcodes (R493) -/

namespace St

def ok : Nat := 0x00
def longStarted : Nat := 0x01
def busy : Nat := 0x02
def stateRefused : Nat := 0x03
def notReady : Nat := 0x04
def roleRefused : Nat := 0x05
def badFrame : Nat := 0x06
def frameSeq : Nat := 0x07
def badAddr : Nat := 0x08
def noSession : Nat := 0x09
def tableFull : Nat := 0x0A

end St

namespace Op

def open_ : Nat := 0x01
def close : Nat := 0x02
def keepalive : Nat := 0x03
def status : Nat := 0x04
def readMem : Nat := 0x08
def writeMem : Nat := 0x09
def go : Nat := 0x10
def submit : Nat := 0x11
def pause : Nat := 0x12
def resume : Nat := 0x13
def callCurtain : Nat := 0x14
def clear : Nat := 0x15
def enterWings : Nat := 0x16
def wake : Nat := 0x17
def shutdown : Nat := 0x18
def activate : Nat := 0x19
def enterRecovery : Nat := 0x1A
def restart : Nat := 0x1B
def image : Nat := 0x20
def recovery : Nat := 0x21
def notify : Nat := 0x30
def fwCall : Nat := 0x3F

end Op

/-! ## Frames (R489) -/

/-- A frame with its CRC; `flags` bit 0 RESP, bit 1 NOTIFY. -/
def hostFrame (op flags sess seq status : Nat) (payload : List Byte) : List Byte :=
  let head := bytesLE 2 0x9416 ++ bytesLE 1 op ++ bytesLE 1 flags ++ bytesLE 2 sess ++ bytesLE 2 seq ++ bytesLE 2 status ++
    bytesLE 2 payload.length
  head ++ bytesLE 4 (crc32cFull (head ++ payload)) ++ payload

/-- Whether magic, length and CRC of a received frame are right (R491, check 1). -/
def frameOk (l : List Byte) : Bool :=
  leAt l 0 2 == 0x9416 && decide (leAt l 0xA 2 ≤ 8192) && l.length == 16 + leAt l 0xA 2 &&
    leAt l 0xC 4 == crc32cFull (l.take 12 ++ l.drop 16)

/-- `s` with a frame sent to session `i`, 64 standing for a sender without a session. -/
def State.hostSend (s : State) (i : Nat) (l : List Byte) : State := s.modHost fun h => { h with sent := mset h.sent i l }

/-- The address `off` bytes into the buffer of session `i`, if it lies in working memory (R496). -/
def State.hostBuf (s : State) (i off : Nat) : Option Nat :=
  let a := s.getF R.HOST_BUFBASE_ADDR * 2 ^ 21 + 0x8000 * (i % 64) + off
  if regionOf a = .working then some a else none

/-- `s` with bytes copied into the buffer of session `i`. -/
def State.hostCopy (s : State) (i off : Nat) (l : List Byte) : State :=
  match s.hostBuf i off with
  | some a => (s.memWrite .host a l).1
  | none => s

/-- A frame that HOST makes itself goes to session `i`; a PCIe partner finds it in its buffer, and MSI-X vector `i` is signalled
(R497, R498). -/
def State.hostReply (s : State) (i off : Nat) (l : List Byte) : State :=
  let s := s.hostSend i l
  match s.session i with
  | some x =>
    if x.iface = 0 then (s.hostCopy i off l).modHost fun h => { h with msix := mset h.msix i (mget 0 h.msix i + 1) } else s
  | none => s

/-! ## Answers and notifications (R491, R495, R496) -/

/-- Session `i` has been answered with frame `l` for sequence number `seq`; an answer of up to 64 bytes is stored. -/
def State.hostAnswered (s : State) (i seq : Nat) (l : List Byte) : State :=
  s.modSess i fun x => { x with last := seq, pend := none, stored := if l.length ≤ 64 then some l else none }

/-- HOST answers command `op` with sequence number `seq` of session `i`. -/
def State.hostAnswer (s : State) (i op seq status : Nat) (payload : List Byte) : State :=
  let l := hostFrame op 1 i seq status payload
  (s.hostReply i 0x2800 l).hostAnswered i seq l

/-- HOST refuses a frame: it answers and nothing else changes (R491). -/
def State.hostRefuse (s : State) (i op sess seq status : Nat) : State := s.hostReply i 0x2800 (hostFrame op 1 sess seq status [])

/-- A notification to session `i` (R495); its sequence number is given nowhere and is free (DESIGN CHOICE, log entry 16). -/
def State.hostNotify (s : State) (i status : Nat) (payload : List Byte) : State :=
  match s.session i with
  | none => s
  | some _ =>
    let (q, s) := s.fresh
    s.hostReply i 0x5000 (hostFrame Op.notify 2 i (q % 2 ^ 16) status payload)

/-- A long operation of session `i` starts; its number is given nowhere and is free (DESIGN CHOICE, log entry 16). -/
def State.longStart (s : State) (i op : Nat) : Nat × State :=
  let (q, s) := s.fresh
  (q % 2 ^ 16, s.modHost fun h => { h with long := some (i, op, q % 2 ^ 16) })

/-- The long operation ends: its final status goes to the starting session (R495). -/
def State.longEnd (s : State) (status : Nat) (payload : List Byte) : State :=
  match s.host.long with
  | none => s
  | some (i, _, _) => (s.modHost fun h => { h with long := none }).hostNotify i status payload

/-- LONG_STARTED with the operation number answers command `op` of session `i`, and the operation runs (R495). -/
def State.longAnswer (s : State) (i op seq : Nat) : State :=
  let (n, s) := s.longStart i op
  s.hostAnswer i op seq St.longStarted (bytesLE 2 n)

/-! ## Sessions (R490) -/

/-- `s` with session `i` closed. -/
def State.hostClose (s : State) (i : Nat) : State := s.modHost fun h => { h with sess := merase h.sess i }

/-- `s` with the sessions of an interface closed. -/
def State.hostCloseIf (s : State) (iface : Nat) : State :=
  s.modHost fun h => { h with sess := h.sess.filter fun e => e.2.iface != iface }

/-- Whether an interface (0 PCIe, 1 and 2 the MACs, 3 USB) is enabled. -/
def State.ifEnabled (s : State) (iface : Nat) : Bool := (s.getReg R.HOST_CTRL).getLsbD iface

/-! ## Sending for firmware (R496) -/

/-- The frame that firmware has left `off` bytes into the buffer of session `i`, with its CRC added. -/
def State.fwFrame (s : State) (i off : Nat) : State × Option (List Byte) :=
  match s.hostBuf i off with
  | none => (s, none)
  | some a =>
    let (s, head) := s.blockRead .working a 12
    let (s, payload) := s.blockRead .working (a + 16) (min (leAt head 0xA 2) 8192)
    (s, some (head ++ bytesLE 4 (crc32cFull (head ++ payload)) ++ payload))

/-- A write of HOST_RSP.GO: the answer of session SESS goes out and its command is answered. -/
def State.rspGo (s : State) : State :=
  let i := s.getF R.HOST_RSP_SESS
  match s.session i with
  | none => s
  | some x =>
    match x.pend with
    | none => s
    | some (_, q) =>
      match s.fwFrame i 0x2800 with
      | (s, some l) => (s.hostReply i 0x2800 l).hostAnswered i q l
      | (s, none) => s

/-- A write of HOST_RSP.NOTIFY: the notification of session SESS goes out. -/
def State.rspNotify (s : State) : State :=
  let i := s.getF R.HOST_RSP_SESS
  match s.session i with
  | none => s
  | some _ =>
    match s.fwFrame i 0x5000 with
    | (s, some l) => s.hostReply i 0x5000 l
    | (s, none) => s

/-! ## Registers (R514) -/

/-- A register write to HOST. -/
def State.hostRegWrite (s : State) (d : RegDesc) (a : Nat) (v : Word) : State :=
  match d.id with
  | .HOST_BUFBASE | .HOST_MACL | .HOST_MACH | .HOST_IP =>
    if s.bootOrPlaces then s.writeTyped d a false v else s.raise R.HOST_STAT_CFGREF
  | .HOST_CFG => if fieldOf v 15 0 = 0 then s.raise R.HOST_STAT_CFGREF else s.writeTyped d a false v
  | .HOST_CQ => if v.getLsbD 30 then s.modHost fun h => { h with cq := h.cq.tail } else s
  | .HOST_RSP =>
    let s := s.writeTyped d a false v
    if v.getLsbD 30 then s.rspNotify else if v.getLsbD 31 then s.rspGo else s
  | _ => s.writeTyped d a false v

/-- HOST_LONG as it reads. -/
def State.longWord (s : State) : Nat :=
  match s.host.long with
  | some (i, op, n) => 2 ^ 31 + i % 64 * 2 ^ 24 + op % 256 * 2 ^ 16 + n % 2 ^ 16
  | none => 0

/-- HOST_CQ, HOST_LONG and HOST_SESS(n) as they read. -/
def State.hostRegRead (s : State) (id : RegId) (n : Nat) (stored : Word) : Word :=
  match id with
  | .HOST_CQ => match s.host.cq with | [] => 0 | i :: _ => BitVec.ofNat 32 (2 ^ 31 + i % 64)
  | .HOST_LONG => BitVec.ofNat 32 s.longWord
  | .HOST_SESS =>
    match s.session n with
    | some x => BitVec.ofNat 32 (2 ^ 30 + x.role % 4 * 2 ^ 28 + x.iface % 4 * 2 ^ 26 + x.last % 2 ^ 16)
    | none => 0
  | _ => stored

/-- The three words of HOST_TS(n): the oldest timestamp. -/
def State.tsWords (s : State) (n : Nat) : Word × Word × Word :=
  match mget [] s.host.ts n with
  | [] => (0, 0, 0)
  | t :: _ =>
    (BitVec.ofNat 32 t.time.toNat, BitVec.ofNat 32 (t.time.toNat / 2 ^ 32),
      BitVec.ofNat 32 (2 ^ 31 + (if t.tx then 2 ^ 30 else 0) + t.fine % 16 * 2 ^ 16 + t.seqId % 2 ^ 16))

/-- The oldest timestamp of MAC `n` leaves its queue. -/
def State.tsPop (s : State) (n : Nat) : State := s.modHost fun h => { h with ts := mmod [] h.ts n List.tail }

end Sys2Proof.Machine
end

