-- ==== Sys2Proof/Machine/Crypto.lean ====
section
/-!
DEFINITION. SHA-384 and ECDSA P-384, which R196, R198, R199, R200, R518 and R531 name. Both are the published standards
(PRESUMED, log entry 15): the spec uses their names and gives no text of them.
What the spec leaves open here: log entry 15.
-/

namespace Sys2Proof.Machine

/-! ## SHA-384 -/

/-- One step of the digit-by-digit integer cube root. -/
def icbrtStep : Nat → Nat → Nat → Nat
  | 0, _, r => r
  | n + 1, v, r => let c := r + 2 ^ n; icbrtStep n v (if c * c * c ≤ v then c else r)

/-- Whether `n` has no divisor from 2 to `k` + 1. -/
def noDivisor (n : Nat) : Nat → Bool
  | 0 => true
  | k + 1 => n % (k + 2) != 0 && noDivisor n k

/-- The first `80` primes. -/
def primes80 : List Nat := (List.range 410).filter fun n => decide (2 ≤ n) && noDivisor n (n - 2)

/-- The round constants: the first 64 bits of the fractional parts of the cube roots of the first 80 primes. -/
def shaK : List (BitVec 64) := primes80.map fun p => BitVec.ofNat 64 (icbrtStep 67 (p * 2 ^ 192) 0)

/-- The initial value: the first 64 bits of the fractional parts of the square roots of the 9th to the 16th primes. -/
def sha384Init : List (BitVec 64) := ((primes80.drop 8).take 8).map fun p => BitVec.ofNat 64 (isqrtStep 68 (p * 2 ^ 128) 0)

/-- The functions of the standard. -/
def bigSigma0 (x : BitVec 64) : BitVec 64 := x.rotateRight 28 ^^^ x.rotateRight 34 ^^^ x.rotateRight 39
def bigSigma1 (x : BitVec 64) : BitVec 64 := x.rotateRight 14 ^^^ x.rotateRight 18 ^^^ x.rotateRight 41
def smallSigma0 (x : BitVec 64) : BitVec 64 := x.rotateRight 1 ^^^ x.rotateRight 8 ^^^ (x >>> 7)
def smallSigma1 (x : BitVec 64) : BitVec 64 := x.rotateRight 19 ^^^ x.rotateRight 61 ^^^ (x >>> 6)
def choose (x y z : BitVec 64) : BitVec 64 := (x &&& y) ^^^ (~~~x &&& z)
def majority (x y z : BitVec 64) : BitVec 64 := (x &&& y) ^^^ (x &&& z) ^^^ (y &&& z)

/-- The eight working variables. -/
structure ShaVars where
  a : BitVec 64
  b : BitVec 64
  c : BitVec 64
  d : BitVec 64
  e : BitVec 64
  f : BitVec 64
  g : BitVec 64
  h : BitVec 64
  deriving DecidableEq, Repr

/-- One round with constant `k` and schedule word `w`. -/
def shaRound (v : ShaVars) (k w : BitVec 64) : ShaVars :=
  let t1 := v.h + bigSigma1 v.e + choose v.e v.f v.g + k + w
  let t2 := bigSigma0 v.a + majority v.a v.b v.c
  ⟨t1 + t2, v.a, v.b, v.c, v.d + t1, v.e, v.f, v.g⟩

/-- The rounds: `win` holds the next 16 words of the message schedule. -/
def shaRounds : List (BitVec 64) → List (BitVec 64) → ShaVars → ShaVars
  | [], _, v => v
  | k :: ks, win, v =>
    let w := win.getD 0 0
    let next := smallSigma1 (win.getD 14 0) + win.getD 9 0 + smallSigma0 (win.getD 1 0) + w
    shaRounds ks (win.drop 1 ++ [next]) (shaRound v k w)

/-- One block of 128 bytes as sixteen 64-bit words, most significant byte first. -/
def shaWords (l : List Byte) : List (BitVec 64) :=
  (List.range 16).map fun i => BitVec.ofNat 64 (natBE ((l.drop (8 * i)).take 8))

/-- One block worked into the chaining value. -/
def shaBlock (h l : List (BitVec 64)) : List (BitVec 64) :=
  let g := fun i => h.getD i 0
  let v := shaRounds shaK l ⟨g 0, g 1, g 2, g 3, g 4, g 5, g 6, g 7⟩
  [g 0 + v.a, g 1 + v.b, g 2 + v.c, g 3 + v.d, g 4 + v.e, g 5 + v.f, g 6 + v.g, g 7 + v.h]

/-- `n` blocks of a padded message. -/
def shaBlocks : Nat → List Byte → List (BitVec 64) → List (BitVec 64)
  | 0, _, h => h
  | n + 1, l, h => shaBlocks n (l.drop 128) (shaBlock h (shaWords (l.take 128)))

/-- SHA-384 of a byte string, as its 48 bytes. -/
def sha384 (l : List Byte) : List Byte :=
  let n := l.length
  let blocks := (n + 17 + 127) / 128
  let padded := l ++ [0x80#8] ++ List.replicate (128 * blocks - n - 17) 0#8 ++ (bytesLE 16 (8 * n)).reverse
  ((shaBlocks blocks padded sha384Init).take 6).flatMap fun w => (bytesLE 8 w.toNat).reverse

/-! ## ECDSA P-384 -/

/-- The prime of the field, the coefficient b, the base point and its order. -/
def p384 : Nat := 2 ^ 384 - 2 ^ 128 - 2 ^ 96 + 2 ^ 32 - 1
def p384b : Nat := 0xb3312fa7e23ee7e4988e056be3f82d19181d9c6efe8141120314088f5013875ac656398d8a2ed19d2a85c8edd3ec2aef
def p384x : Nat := 0xaa87ca22be8b05378eb1c71ef320ad746e1d3b628ba79b9859f741e082542a385502f25dbf55296c3a545e3872760ab7
def p384y : Nat := 0x3617de4a96262c6f5d9e98bf9292dc29f8f41dbd289a147ce9da3113b5f0b8c00a60b1ce1d7e819d7a431d7c90ea0e5f
def p384n : Nat := 0xffffffffffffffffffffffffffffffffffffffffffffffffc7634d81f4372ddf581a0db248b0a77aecec196accc52973

/-- `b` to the power of the low `n` bits of `e`, modulo `m`, times `acc`. -/
def powModStep : Nat → Nat → Nat → Nat → Nat → Nat
  | 0, _, _, _, acc => acc
  | n + 1, b, e, m, acc => powModStep n (b * b % m) (e / 2) m (if e % 2 = 1 then acc * b % m else acc)

/-- The inverse of `v` modulo the prime `m`. -/
def invMod (v m : Nat) : Nat := powModStep 384 (v % m) (m - 2) m 1

/-- The sum of two points of the curve; none is the point at infinity. -/
def ecAdd (p q : Option (Nat × Nat)) : Option (Nat × Nat) :=
  match p, q with
  | none, q => q
  | p, none => p
  | some (x1, y1), some (x2, y2) =>
    if x1 = x2 ∧ (y1 + y2) % p384 = 0 then none
    else
      let l := if x1 = x2 then (3 * x1 * x1 + (p384 - 3)) * invMod (2 * y1) p384 % p384
        else (y2 + p384 - y1) * invMod (x2 + p384 - x1) p384 % p384
      let x3 := (l * l + 2 * p384 - x1 - x2) % p384
      some (x3, (l * (x1 + p384 - x3) + p384 - y1) % p384)

/-- The low `n` bits of `k` times a point, added to `acc`. -/
def ecMul : Nat → Nat → Option (Nat × Nat) → Option (Nat × Nat) → Option (Nat × Nat)
  | 0, _, _, acc => acc
  | n + 1, k, p, acc => ecMul n (k / 2) (ecAdd p p) (if k % 2 = 1 then ecAdd acc p else acc)

/-- Whether (x, y) is a point of the curve. -/
def onCurve (x y : Nat) : Bool :=
  decide (x < p384 ∧ y < p384) && y * y % p384 == (x * x * x + (p384 - 3) * x + p384b) % p384

/-- Whether the signature (r, s) of the digest `e` verifies with the public key (x, y). -/
def ecdsaVerify (e r s x y : Nat) : Bool :=
  if decide (1 ≤ r ∧ r < p384n ∧ 1 ≤ s ∧ s < p384n) && onCurve x y then
    let w := invMod s p384n
    match ecAdd (ecMul 384 (e * w % p384n) (some (p384x, p384y)) none) (ecMul 384 (r * w % p384n) (some (x, y)) none) with
    | none => false
    | some (u, _) => u % p384n == r
  else false

end Sys2Proof.Machine
end

