-- ==== Sys2Proof/Machine/Img.lean ====
section
/-!
DEFINITION. Firmware images in the program store (R516 to R520): checks, loading, activation records; the key rule of R200 and
the release of the cores (R205, R211).
What the spec leaves open here: log entries 18 and 48.
-/

namespace Sys2Proof.Machine

/-- The first address of bank `b`. -/
def bankBase (b : Nat) : Nat := flsBase + 0x40000000 * b

/-- One page more of a program-store read: what has been read so far, or `none` once a read has failed. -/
def State.progPage (p : State × Option (List Byte)) (a n : Nat) : State × Option (List Byte) :=
  match p.2 with
  | none => p
  | some l =>
    match p.1.flsRead a n with
    | (s, .ok b) => (s, some (l ++ b))
    | (s, _) => (s, none)

/-- `n` bytes of the program store from address `a`, a whole number of 512-byte pieces, read piece by piece; `none` where a
read is refused or cannot be corrected (R173, R179). -/
def State.progRead (s : State) (a n : Nat) : State × Option (List Byte) :=
  (List.range ((n + 511) / 512)).foldl (fun p i => State.progPage p (a + 512 * i) (min 512 (n - 512 * i))) (s, some [])

/-! ## Keys (R200) -/

/-- `n` bytes of the OTP row from offset `o`. -/
def State.otpBytes (s : State) (o n : Nat) : List Byte := (List.range n).map fun i => mget 0#8 s.fls.otp (o + i)

/-- Whether key slot `k` holds any byte that is not zero. -/
def State.keyProg (s : State) (k : Nat) : Bool := (s.otpBytes (0x40 + 48 * k) 48).any (· != 0#8)

/-- Whether key slot `k` is revoked. -/
def State.keyRevoked (s : State) (k : Nat) : Bool := (s.otpBytes (0x20 + 8 * k) 8).any (· != 0#8)

/-- Whether key slot `k` may be used at all: slot 0 only while none of the others is programmed. -/
def State.keyUsable (s : State) (k : Nat) : Bool :=
  decide (k < 4) && !s.keyRevoked k &&
    if k = 0 then !(s.keyProg 1 || s.keyProg 2 || s.keyProg 3) else s.keyProg k

/-- Whether the public key `pub` of slot `k` is accepted. -/
def State.keyAccepted (s : State) (k : Nat) (pub : List Byte) : Bool :=
  s.keyUsable k && sha384 pub == s.otpBytes (0x40 + 48 * k) 48

/-- Whether the signature in `l` (r, s and the public key at the offsets given) verifies over the digest. -/
def signatureOk (l digest : List Byte) (r pub : Nat) : Bool :=
  let at_ := fun o => natBE ((l.drop o).take 48)
  ecdsaVerify (natBE digest) (at_ r) (at_ (r + 48)) (at_ pub) (at_ (pub + 48))

/-- SEC_KEYSTAT as a reset loads it from the OTP row (R540). -/
def State.secLatch (s : State) : State :=
  let bits := fun (p : Nat → Bool) => (List.range 4).foldl (fun v k => if p k then v + 2 ^ k else v) 0
  s.setReg R.SEC_KEYSTAT (BitVec.ofNat 32
    ((if s.keyUsable 0 then 0x100 else 0) + 16 * bits s.keyRevoked + bits s.keyProg))

/-! ## The manifest (R516, R517) -/

/-- Level, version, body chunks, schema range and settings version of a manifest. -/
def imgLevel (h : List Byte) : Nat := leAt h 6 1
def imgVersion (h : List Byte) : Nat := leAt h 8 4
def imgChunks (h : List Byte) : Nat := leAt h 0x16 2
def imgSchemaLo (h : List Byte) : Nat := leAt h 0x18 2
def imgSchemaHi (h : List Byte) : Nat := leAt h 0x1A 2
def imgSettings (h : List Byte) : Nat := leAt h 0x1C 4

/-- A section of the image. -/
structure ImgSection where
  type : Nat
  level : Nat
  length : Nat
  load : Nat
  offset : Nat
  digest : List Byte
  deriving DecidableEq, Repr

/-- Section entry `i` of a manifest. -/
def imgSection (h : List Byte) (i : Nat) : ImgSection :=
  let o := 0x400 + 96 * i
  ⟨leAt h o 1, leAt h (o + 2) 1, leAt h (o + 4) 4, leAt h (o + 8) 5, leAt h (o + 0x10) 4, (h.drop (o + 0x20)).take 48⟩

/-- The sections of a manifest. -/
def imgSections (h : List Byte) : List ImgSection := (List.range (leAt h 0x15 1)).map (imgSection h)

/-- Whether a section's content lies in the body. -/
def sectionInside (h : List Byte) (x : ImgSection) : Bool :=
  x.type == 5 || decide (0x100000 ≤ x.offset ∧ x.offset + x.length ≤ 0x100000 * (1 + imgChunks h))

/-- Whether the limits of R516 hold: magic, header version, lengths, counts and section types. -/
def manifestForm (h : List Byte) : Bool :=
  leAt h 0 4 == 0x494D3934 && leAt h 4 2 == 1 && leAt h 0xC 4 % 0x4000 == 0 && decide (leAt h 0xC 4 ≤ 1020 * 0x100000) &&
    decide (1 ≤ leAt h 0x15 1 ∧ leAt h 0x15 1 ≤ 32 ∧ 1 ≤ imgChunks h ∧ imgChunks h ≤ 1019) &&
    (imgSections h).all fun x => decide (1 ≤ x.type ∧ x.type ≤ 5) && sectionInside h x

/-- The digest that a manifest must carry. -/
def manifestDigest (h : List Byte) : List Byte :=
  sha384 (h.take 0x40 ++ (h.drop 0x400).take 0xC00 ++ (h.drop 0x1000).take (48 * imgChunks h))

/-- Why a manifest fails, 0 when it passes (R518, reasons 0x1 to 0x4). -/
def State.manifestReason (s : State) (h : List Byte) : Nat :=
  if !manifestForm h then 1
  else if leAt h 0x10 4 ≠ 0x9416 then 2
  else if !s.keyAccepted (leAt h 0x14 1) ((h.drop 0xD0).take 96) then 3
  else if manifestDigest h != (h.drop 0x40).take 48 || !signatureOk h ((h.drop 0x40).take 48) 0x70 0xD0 then 4
  else 0

/-- The part of bank `b`'s manifest chunk that R516 fills. -/
def State.manifestRead (s : State) (b : Nat) : State × Option (List Byte) := s.progRead (bankBase b) 0x10000

/-- The manifest of bank `b` as the store holds it, for what follows its check. -/
def State.manifest (s : State) (b : Nat) : List Byte := (s.manifestRead b).2.getD []

/-- Body chunk `i` of bank `b` checked against the chunk table: 0, 0x5 or 0x6 (R518). -/
def State.chunkReason (s : State) (b : Nat) (h : List Byte) (i : Nat) : State × Nat :=
  if imgChunks h ≤ i then (s, 5)
  else
    match s.progRead (bankBase b + 0x100000 * (i + 1)) 0x100000 with
    | (s, none) => (s, 6)
    | (s, some l) => (s, if sha384 l = (h.drop (0x1000 + 48 * i)).take 48 then 0 else 5)

/-- A section's content checked against its entry: 0, 0x5 or 0x6 (R518). -/
def State.sectionReason (s : State) (b : Nat) (x : ImgSection) : State × Nat :=
  if x.type = 5 then (s, 0)
  else
    match s.progRead (bankBase b + x.offset) x.length with
    | (s, none) => (s, 6)
    | (s, some l) => (s, if sha384 l = x.digest then 0 else 5)

/-- The body chunks that hold a section's content. -/
def sectionChunks (x : ImgSection) : List Nat :=
  if x.type = 5 ∨ x.length = 0 then []
  else (List.range ((x.offset + x.length - 1) / 0x100000 - x.offset / 0x100000 + 1)).map fun i => x.offset / 0x100000 - 1 + i

/-! ## Activation records (R519, R520) -/

/-- The address of page `p` of bank `b`'s activation block. -/
def actPage (b p : Nat) : Nat := bankBase b + 0x3FC00000 + 0x4000 * p

/-- The count of the activation record in page `p` of bank `b`, if it is valid: read without an uncorrectable error (R173, R519). -/
def State.actRecord (s : State) (b p : Nat) : Option Nat :=
  let l := (List.range 16).map fun i => s.flsByte (actPage b p + i)
  if leAt l 0 4 = 0x54434131 ∧ crc32cFull (l.take 12) = leAt l 12 4 ∧ s.flsUncorrectable (actPage b p) 16 = false then some (leAt l 4 4) else none

/-- The lower pages of an activation block. -/
def actPages : List Nat := (List.range 127).map fun i => 2 * i + 1

/-- The highest count of bank `b`'s valid records. -/
def State.actCount (s : State) (b : Nat) : Option Nat := ((actPages.filterMap (s.actRecord b)).max?)

/-- The active image (R519); with equal counts bank 0 (DESIGN CHOICE, log entry 18). -/
def State.actBank (s : State) : Nat :=
  match s.actCount 0, s.actCount 1 with
  | none, some _ => 1
  | some a, some b => if a < b then 1 else 0
  | _, _ => 0

/-- The next free lower page of bank `b`'s activation block (R178, R520). -/
def State.actFree (s : State) (b : Nat) : Option Nat :=
  let p := mget 0 s.fls.pointer (flsBlock (actPage b 0))
  actPages.find? fun q => decide (p ≤ q)

/-- `s` with an activation record of bank `b` written (R520). -/
def State.actWrite (s : State) (b version : Nat) : State :=
  match s.actFree b with
  | none => s
  | some p =>
    let n := max ((s.actCount 0).getD 0) ((s.actCount 1).getD 0) + 1
    let body := bytesLE 4 0x54434131 ++ bytesLE 4 n ++ bytesLE 4 version
    let s := (s.setUndef false (flsPage (actPage b p)) 1).wrBytes (actPage b p) (body ++ bytesLE 4 (crc32cFull body))
    s.modFls fun f => { f with pointer := mset f.pointer (flsBlock (actPage b p)) (p + 1) }

/-! ## Loading (R196, R517) -/

/-- Bytes stored at a load address for the ROM: a local store, working memory or the LPDDR5X window. -/
def State.loadBytes (s : State) (a : Nat) (l : List Byte) : State × Bool :=
  if regionOf a != regionOf (a + l.length - 1) then (s, false)
  else
    match regionOf a with
    | .localStore k => s.localWrite .rom k a l
    | .working => s.sramWrite .working a l
    | .dram => s.dramWrite a l
    | _ => (s, false)

/-- One section loaded and then hashed as it was copied: 0, or the reason of R518 (0x1 where the load address takes no
content). -/
def State.loadSection (s : State) (b : Nat) (x : ImgSection) : State × Nat :=
  match x.type with
  | 5 =>
    let (s, ok) := s.loadBytes x.load (List.replicate x.length 0#8)
    (s, if ok then 0 else 1)
  | t =>
    match s.progRead (bankBase b + x.offset) x.length with
    | (s, none) => (s, 6)
    | (s, some l) =>
      let (s, ok) :=
        match t with
        | 1 => s.loadBytes x.load l
        | 4 => ((List.range (min 4096 (l.length / 4))).foldl (fun s i =>
            if i % 16 = 0 then s
            else s.setReg (R.DROP_DT 0 i) (BitVec.ofNat 32 (leAt l (4 * i) 4) &&& ~~~ maskOf 21 20)) s, true)
        | _ => (s, true)
      (s, if !ok then 1 else if sha384 l = x.digest then 0 else 5)

/-- Sections loaded in order until one fails. -/
def State.loadSections (s : State) (b : Nat) (l : List ImgSection) : State × Nat :=
  l.foldl (fun p x => if p.2 = 0 then p.1.loadSection b x else p) (s, 0)

/-- Whether a section goes into the LPDDR5X window. -/
def sectionInDram (x : ImgSection) : Bool := (x.type == 1 || x.type == 5) && regionOf x.load == .dram

/-! ## Release of the cores (R205, R211) -/

/-- The cores that have a start-up state of their own: leads, crew and house cores. -/
def leadCores : List Nat := [0, 2, 4, 6, 8, 9, 10, 11, 12, 13, 14, 15]

/-- Core `n` released at its entry address with the state of its CORE record, its understudy with it; without a record it is
held in reset (R205). Before a pair commits its first checkpoint, the state that it starts with stands for the committed one, the
spec naming none (R136, DESIGN CHOICE, log entry 31). -/
def State.releaseCore (s : State) (n : Nat) : State :=
  let c : Core := match mfind s.boot.cores n with
    | some c => { c with run := RunState.running }
    | none => { run := RunState.inReset }
  let s := s.setCore n c
  if n < 8 then
    let s := if s.isSplit (n / 2) then s else s.setCore (n + 1) c
    s.modPair (n / 2) fun p => { committed := c, dead := p.dead }
  else s

/-- Every core released (R211). -/
def State.releaseCores (s : State) : State := leadCores.foldl State.releaseCore s

/-- Every core but core 12 held in reset (R193, R526, R530). -/
def State.holdCores (s : State) : State :=
  (List.range 16).foldl (fun s n => if n = 12 then s else s.setCore n { s.core n with run := RunState.inReset }) s

end Sys2Proof.Machine
end

