-- ==== Sys2Proof/Machine/Upd.lean ====
section
/-!
DEFINITION. Updates (R521 to R529, R540): verification of chunks, forwarding along a Byrov chain, activation with its pause.
What the spec leaves open here: log entries 19, 20 and 48.
-/

namespace Sys2Proof.Machine

/-- `s` with the UPD structure changed. -/
def State.modUpd (s : State) (f : Upd → Upd) : State := { s with upd := f s.upd }

/-- The chunk number of the manifest. -/
def manifestChunk : Nat := 0x3FF

/-- The chunks of bank `b` that have passed (R522). -/
def State.updPassed (s : State) (b : Nat) : List Nat := mget [] s.upd.passed b

/-! ## The chain (R523, R524) -/

/-- The next chunk to forward: the manifest first, then the body chunks in ascending order. -/
def State.chainNext (s : State) : Option Nat :=
  (manifestChunk :: List.range (imgChunks (s.manifest s.upd.chainBank))).find? fun c => !s.upd.chainDone.contains c

/-- Chunk `c` of bank `b` sent to the next node as 1,024 IMGDATA messages. -/
def State.chainData (s : State) (b c : Nat) : State :=
  let base := bankBase b + 0x100000 * (if c = manifestChunk then 0 else c + 1)
  (List.range 1024).foldl (fun s p =>
    s.byrPkt (s.getF R.UPD_CHAIN_NODE) 5 0
      (bytesLE 8 (1 + c * 2 ^ 16 + p * 2 ^ 32) ++ (List.range 1024).map fun i => s.flsByte (base + 1024 * p + i))) s

/-- The next chunk goes to the next node, if it has passed here and the one before it has been acknowledged (R524). -/
def State.chainSend (s : State) : State :=
  if !s.flag R.UPD_CHAIN_V || s.upd.chainStop || s.upd.chainOut.isSome then s
  else
    match s.chainNext with
    | none => s
    | some c =>
      if (s.updPassed s.upd.chainBank).contains c then
        (s.chainData s.upd.chainBank c).modUpd fun u => { u with chainOut := some (c, 0) }
      else s

/-- A CHUNKACK of the next node (R524): the next chunk may go, or the same goes again at most three times; then forwarding
stops, and the session whose IMAGE operation runs is told. -/
def State.chainAck (s : State) (src c result : Nat) : State :=
  match s.upd.chainOut with
  | none => s
  | some (out, again) =>
    if out ≠ c ∨ s.getF R.UPD_CHAIN_NODE ≠ src then s
    else if result = 0 then
      (s.modUpd fun u => { u with chainOut := none, chainDone := c :: u.chainDone }).chainSend
    else if again < 3 then
      (s.chainData s.upd.chainBank c).modUpd fun u => { u with chainOut := some (c, again + 1) }
    else
      let s := s.modUpd fun u => { u with chainOut := none, chainStop := true }
      match s.host.long with
      | some (i, op, _) => if op = Op.image then s.hostNotify i St.badFrame (bytesLE 1 result) else s
      | none => s

/-- The CHUNKACK for a chunk that came along the chain. -/
def State.chainReply (s : State) (c reason : Nat) : State :=
  match s.upd.chainSrc with
  | some (src, d) =>
    if d = c then
      (s.byrPkt src 5 0 (bytesLE 8 (2 + c * 2 ^ 16 + reason * 2 ^ 32))).modUpd fun u => { u with chainSrc := none }
    else s
  | none => s

/-! ## Verification (R518, R522) -/

/-- The sections that lie wholly within the chunks `l`, checked in order. -/
def State.sectionsWithin (s : State) (b : Nat) (h : List Byte) (l : List Nat) : State × Nat :=
  (imgSections h).foldl (fun p x =>
    if p.2 = 0 ∧ (sectionChunks x).all (fun c => l.contains c) then p.1.sectionReason b x else p) (s, 0)

/-- The verdict on chunk `c` of bank `b`: 0, or the reason of R518 or R522. -/
def State.verdict (s : State) (b c : Nat) : State × Nat :=
  match s.manifestRead b with
  | (s, none) => (s, 6)
  | (s, some h) =>
    if c = manifestChunk then (s, s.manifestReason h)
    else if !(s.updPassed b).contains manifestChunk then (s, 7)
    else
      match s.chunkReason b h c with
      | (s, 0) => s.sectionsWithin b h (c :: s.updPassed b)
      | p => p

/-- The state that UPD shows of bank `b` after a verdict on chunk `c`. -/
def State.updShow (s : State) (b c reason : Nat) : State :=
  let h := s.manifest b
  let l := (s.updPassed b).filter (· != c)
  let l := if reason = 0 then c :: l else l
  let s := s.modUpd fun u => { u with passed := mset u.passed b l }
  let hdr := l.contains manifestChunk
  let s := s.setF (R.UPD_IMGS_HDROK b) hdr.toNat
  let s := if c = manifestChunk ∧ reason = 0 then
      (s.setF (R.UPD_IMGS_LEVEL b) (imgLevel h)).setF (R.UPD_IMGV_VER b) (imgVersion h)
    else s
  s.setF (R.UPD_IMGS_ALLOK b) (hdr && (List.range (imgChunks h)).all fun i => l.contains i).toNat

/-- A verification completes (R522). -/
def State.verifyDone (s : State) : State :=
  match s.upd.verify with
  | none => s
  | some (b, c) =>
    let (s, reason) := s.verdict b c
    let s := (s.updShow b c reason).modUpd fun u => { u with verify := none }
    let s := ((s.lower R.UPD_STAT_BUSY).raise R.UPD_STAT_DONE).setF R.UPD_STAT_PASS (if reason = 0 then 1 else 0)
    let s := (s.setF R.UPD_STAT_VCAUSE reason).chainReply c reason
    if reason ≠ 0 ∨ b = s.getF R.UPD_STAT_ACTIVE then s
    else
      let s := if c = manifestChunk then
          s.modUpd fun u => { u with chainBank := b, chainOut := none, chainDone := [], chainStop := false }
        else s
      s.chainSend

/-! ## Activation (R525 to R529) -/

/-- Whether the levels of R525, row 0x3, fit image `h`. -/
def State.levelsFit (s : State) (h : List Byte) : Bool :=
  let v := imgLevel h
  ((imgSections h).all fun x => !(x.type == 2 || x.type == 3) || levelNear x.level v) &&
    ((List.range 3).all fun q => !s.byrUp q || levelNear (s.byrPort q).level v) &&
    (List.range 32).all fun p => s.jlink p != linkUp || levelNear (s.getF (R.JET_CAPS_LEVEL p)) v

/-- The settings format version that the runtime-settings partition holds: its first word (DESIGN CHOICE, log entry 19). -/
def State.settingsVersion (s : State) : Nat := s.rdNat (pmemBase + 0x10000) 4

/-- The total length of the sections of the given types. -/
def sectionTotal (h : List Byte) (types : List Nat) : Nat :=
  ((imgSections h).filter fun x => types.contains x.type).foldl (fun n x => n + x.length) 0

/-- The first reason of R525 that refuses an activation of bank `b`, 0 when none does; `version` is what an ACTREQ asks for
(R529). -/
def State.actReason (s : State) (b : Nat) (hot : Bool) (version : Option Nat) : Nat :=
  let h := s.manifest b
  if s.sys.dev != .run .idle || !s.drop.q.isEmpty then 1
  else if !s.flag (R.UPD_IMGS_ALLOK b) || version.any (fun v => v != s.getF (R.UPD_IMGV_VER b)) then 2
  else if !s.levelsFit h then 3
  else if hot && (decide (s.boot.schema < imgSchemaLo h ∨ imgSchemaHi h < s.boot.schema) ||
      imgSettings h != s.settingsVersion) then 4
  else if hot && decide (48 * 0x100000 < sectionTotal h [1, 3, 4] ∨ 64 * 0x100000 < sectionTotal h [5]) then 5
  else if hot && (List.range 64).any fun k =>
      s.flag (R.LOOP_SCFG_EN k) && s.slotMoves k && !s.flag (R.LOOP_SSTAT_INPOS k) then 6
  else if (s.actFree b).isNone then 7
  else if s.flag R.UPD_STAT_BUSY || s.flsBusy then 8
  else 0

/-- The black-box record of an activation (R534). -/
def State.actEvent (s : State) (b : Nat) (hot : Bool) (result : Nat) : State :=
  s.bbxEvent 0xA [if hot then 0 else 1, s.getReg (R.UPD_IMGV (s.getF R.UPD_STAT_ACTIVE)), s.getReg (R.UPD_IMGV b),
    BitVec.ofNat 32 result]

/-- The answer to the node whose ACTREQ asked for an activation (R529). -/
def State.actDone (s : State) (origin : Option Nat) (b result : Nat) : State :=
  match origin with
  | none => s
  | some o => s.byrPkt o 5 0 (bytesLE 8 (4 + result * 2 ^ 8 + s.getF (R.UPD_IMGV_VER b) * 2 ^ 32) ++ bytesLE 8 s.byrSelf)

/-- An ACT write, or the ACTREQ of node `origin`: refused with ACAUSE, or accepted; the ACTIVATE of a host session then runs
as a long operation. Mode 1 writes the activation record and nothing else (R528). -/
def State.actStart (s : State) (b : Nat) (hot : Bool) (version origin : Option Nat) : State :=
  let r := s.actReason b hot version
  let sess := if origin.isSome then none else s.host.actSess
  let s := if origin.isSome then s else s.modHost fun h => { h with actSess := none }
  if r ≠ 0 then (s.setF R.UPD_STAT_ACAUSE r).actDone origin b r
  else
    let s := match sess with | some i => (s.longStart i Op.activate).2 | none => s
    if hot then (s.raise R.UPD_STAT_BUSY).modUpd fun u => { u with act := some { hot := true, bank := b, origin := origin } }
    else ((s.actWrite b (s.getF (R.UPD_IMGV_VER b))).actEvent b false 0).actDone origin b 0

/-- The DP94A reload leaves the comparator outputs undefined: the trip latch of a unit that selects one may be set
(R527). -/
def State.reloadTrips (s : State) : State :=
  (List.range 48).foldl (fun s n =>
    if (List.range 48).any fun c => s.tripSelected n (24 + c) then
      let (r, s) := s.fresh
      if r % 2 = 1 then s.pwmTripUnit n else s
    else s) s

/-- Boundary P of a hot activation (R526, steps 1 to 5): outputs parked, slots stopped, cores held, the record written, the
sections loaded; a section that fails calls for a warm reset (R527). -/
def State.actPause (s : State) : State :=
  match s.upd.act with
  | none => s
  | some a =>
    if a.paused || !s.inRun then s
    else
      let units := (List.range 48).filter fun n => s.flag (R.PWM_CTRL_EN n)
      let s := s.modUpd fun u => { u with act := some { a with paused := true, units := units } }
      let s := ((s.pwmDisableAll.loopStop).holdCores).actWrite a.bank (s.getF (R.UPD_IMGV_VER a.bank))
      let s := s.lower R.AFE_STAT_READY
      let l := imgSections (s.manifest a.bank)
      let pick := fun t => l.filter fun x => x.type == t
      let (s, r) := s.loadSections a.bank (pick 2)
      let s := if r = 0 then s.reloadTrips.raise R.AFE_STAT_READY else s
      let (s, r) := if r = 0 then s.loadSections a.bank (pick 3 ++ pick 4 ++ l.filter fun x => x.type == 1 || x.type == 5)
        else (s, r)
      if r = 0 then s else (s.actEvent a.bank true r).modSys fun y => { y with resetDue := true }

/-- Boundary E (R526, steps 6 and 7): cores released, slots initialised, units armed again, the NOTIFY, the next node. -/
def State.actFinish (s : State) : State :=
  match s.upd.act with
  | none => s
  | some a =>
    if !a.paused || s.sys.resetDue || !s.inRun then s
    else
      let s := (s.releaseCores.loopInit).modUpd fun u => { u with act := none }
      let s := (a.units.foldl (fun s n => (s.raise (R.PWM_CTRL_EN n)).raise (R.PWM_STAT_JOINPEND n)) s).pwmBoundary
      let s := (s.actEvent a.bank true 0).lower R.UPD_STAT_BUSY
      let s := (s.setF R.UPD_STAT_ACTIVE a.bank).actDone a.origin a.bank 0
      let s := match s.host.long with | some (_, op, _) => if op = Op.activate then s.longEnd St.ok [] else s | none => s
      if s.flag R.UPD_CHAIN_V then
        s.byrPkt (s.getF R.UPD_CHAIN_NODE) 5 0
          (bytesLE 8 (3 + s.getF (R.UPD_IMGV_VER a.bank) * 2 ^ 32) ++ bytesLE 8 (a.origin.getD s.byrSelf))
      else s

/-- An activation ends without its boundary E: the module has left RUN (R527). -/
def State.actAbandon (s : State) : State :=
  match s.upd.act with
  | none => s
  | some _ => (s.modUpd fun u => { u with act := none }).lower R.UPD_STAT_BUSY

/-! ## Registers (R540) -/

/-- A write to UPD_CTRL: VERIFY and ACT while BUSY are ignored with CFGREF; an ACT then also shows its reason (log entry
20). -/
def State.updCtrlWrite (s : State) (d : RegDesc) (a : Nat) (v : Word) : State :=
  let verify := v.getLsbD 31
  let act := v.getLsbD 30
  let chunk := fieldOf v 9 0
  if 1019 ≤ chunk ∧ chunk ≠ manifestChunk then s.raise R.UPD_STAT_CFGREF
  else if (verify || act) && s.flag R.UPD_STAT_BUSY then
    let s := s.raise R.UPD_STAT_CFGREF
    if act then s.setF R.UPD_STAT_ACAUSE (s.actReason (fieldOf v 24 24) (!v.getLsbD 29) none) else s
  else
    let s := s.writeTyped d a false v
    let s := if verify then
        (s.raise R.UPD_STAT_BUSY).modUpd fun u => { u with verify := some (fieldOf v 24 24, chunk) }
      else s
    if act then s.actStart (fieldOf v 24 24) (!v.getLsbD 29) none none else s

/-- A register write to UPD. -/
def State.updRegWrite (s : State) (d : RegDesc) (a : Nat) (v : Word) : State :=
  match d.id with
  | .UPD_CTRL => s.updCtrlWrite d a v
  | _ => s.writeTyped d a false v

/-- UPD_STAT and UPD_IMGS(b) as they read: STAGED and ACTCNT come from the activation records. -/
def State.updRegRead (s : State) (id : RegId) (n : Nat) (stored : Word) : Word :=
  match id with
  | .UPD_STAT => putField stored 1 1 (if s.actBank = s.getF R.UPD_STAT_ACTIVE then 0 else 1)
  | .UPD_IMGS => putField stored 15 0 ((s.actCount n).getD 0)
  | _ => stored

/-! ## Commands -/

/-- VERIFY_COMPLETE (R522). -/
def execVerifyComplete (s : State) : Host.Outcome State Fault Refusal := .next s.verifyDone.settle

/-- ACTIVATION_COMPLETE (R526). -/
def execActivationComplete (s : State) : Host.Outcome State Fault Refusal := .next s.actFinish.settle

/-- CHUNKACK (R524). -/
def execChunkack (src : BitVec 18) (chunk : BitVec 16) (result : BitVec 8) (s : State) :
    Host.Outcome State Fault Refusal := .next (State.settle <| s.chainAck src.toNat chunk.toNat result.toNat)

/-- ACTREQ (R529): an ACT of the same mode for the inactive bank. -/
def execActreq (src : BitVec 18) (mode : Bool) (version : Word) (origin : BitVec 18) (s : State) :
    Host.Outcome State Fault Refusal :=
  let _ := src
  .next (State.settle <| s.actStart (1 - s.getF R.UPD_STAT_ACTIVE) (!mode) (some version.toNat) (some origin.toNat))

/-- ACTDONE (R523): a message for firmware. -/
def execActdone (src : BitVec 18) (result : BitVec 4) (version : Word) (node : BitVec 18) (s : State) :
    Host.Outcome State Fault Refusal :=
  .next (State.settle <| s.msgIn src.toNat (bytesLE 8 (4 + result.toNat * 2 ^ 8 + version.toNat * 2 ^ 32) ++ bytesLE 8 node.toNat))

end Sys2Proof.Machine
end

