-- ==== Sys2Proof/Machine/Trans.lean ====
section
/-!
DEFINITION. Device states (R27 to R36): what each transition does, the curtain with its limit, watchdogs, the supply, and what
the resets keep.
What the spec leaves open here: log entry 26.
-/

namespace Sys2Proof.Machine

/-! ## Watchdogs (R27, R28) -/

/-- Whether the watchdog of plane `p` (0 control, 1 data, 2 management) runs. -/
def State.wdRuns (s : State) (p : Nat) : Bool :=
  !s.paused &&
    match s.sys.dev with
    | .places | .run _ | .curtain => true
    | .wings | .boot | .recovery => p == 2
    | .dark => false

/-- The period of plane `p`'s watchdog in µs: 2 s in BOOT and RECOVERY. -/
def State.wdPeriod (s : State) (p : Nat) : Nat :=
  match s.sys.dev with
  | .boot | .recovery => 2000000
  | _ => mget 0 s.sys.wdPeriodUs p

/-- `s` with the watchdog of plane `p` reloaded. -/
def State.wdReload (s : State) (p : Nat) : State :=
  s.modSys fun y => { y with wdRemainNs := mset y.wdRemainNs p (1000 * s.wdPeriod p) }

/-- A write of `v` to SYS_WDSVC by a core of plane `p` (R28). -/
def State.wdService (s : State) (p : Nat) (v : Word) : State :=
  if fieldOf v 15 0 = 0xA5C3 then s.wdReload p else s.raiseBit R.SYS_WDSTAT_BADKEY p

/-- SYS_WDREM(p). -/
def State.wdRemUs (s : State) (p : Nat) : Nat := if s.wdRuns p then mget 0 s.sys.wdRemainNs p / 1000 else 0

/-- The watchdog of plane `p` expires (R27, R28, R30): a curtain and then BOOT, or a warm reset from BOOT and RECOVERY; a curtain
keeps the follow-on that a command has asked for. -/
def State.wdExpire (s : State) (p : Nat) : State :=
  if !s.wdRuns p then s
  else
    let s := ((s.raiseBit R.SYS_WDSTAT_EXP p).raise R.SYS_CURTAIN_WDOG).bbxEvent 9 [BitVec.ofNat 32 p]
    match s.sys.dev with
    | .boot | .recovery => s.modSys fun y => { y with resetDue := true }
    | .curtain => s.modSys fun y => { y with follow := some (y.follow.getD .boot) }
    | _ => s.modSys fun y => { y with faultDue := true, follow := some .boot }

/-! ## Entering the states (R30) -/

/-- Entry to PLACES from any state but BOOT's own work (R28, R215, R459). -/
def State.enterPlaces (s : State) : State :=
  let s := s.modSys fun y =>
    { y with dev := .places, done := false, follow := none, faultDue := false, mainsDue := false, callDue := none,
             wakeDue := false, shown := none, elapsed := 0, mainsElapsed := none, limitReached := false,
             emitting := false }
  let s := ((s.wdReload 0).wdReload 1).wdReload 2
  let s := { (s.lower R.SYS_GOEN_EN) with loop := { s.loop with curtain := false } }
  s.loopStop.pbsPlaces.jetPlaces

/-- Entry to RUN at the boundary of an accepted GO (R215, R312). -/
def State.enterRun (s : State) : State :=
  let s := s.modSys fun y => { y with dev := .run (if y.resumeP then .paused else .idle) }
  (s.lower R.USTD_CTRL_TESTMODE).loopInit

/-- The first boundary of a curtain (R34): step 1 completes, the axes and stages come under curtain control, units that no slot
names park; what the command or trigger asks for afterwards is `follow`. -/
def State.enterCurtain (s : State) (follow : Option Follow) (mains : Bool) : State :=
  let s := s.modSys fun y =>
    { y with dev := .curtain, done := false, follow := follow, faultDue := false, mainsDue := false, wakeDue := false,
             shown := none, elapsed := 0, mainsElapsed := if mains then some 0 else none, limitReached := false }
  let s := (s.actAbandon.lower R.USTD_CTRL_TESTMODE).bbxEvent 2 [s.getReg R.SYS_CURTAIN]
  let s := s.lockstepCurtain.loopCurtain.cueCurtain
  let s := s.pwmCurtain false
  s.fireCurtain.jetCurtain.step1End

/-- Entry to WINGS (R30, R160): outputs parked, loops, DMA and the position inputs stop. -/
def State.enterWings (s : State) : State :=
  let s := s.modSys fun y => { y with shown := some y.dev, dev := .wings, faultDue := false, wakeDue := false }
  let s := (s.actAbandon.lower R.USTD_CTRL_TESTMODE).pwmDisableAll.loopStop
  s.adcLeave.encWings.mtrkWings.dmaStop

/-- The OR of the masks of `hi`:`lo` fields. -/
def keepMask (l : List Fld) : Word := l.foldl (fun m f => m ||| maskOf f.hi f.lo) 0

/-- `s0`'s value of the register at `a`, as far as mask `m` goes, put into `s`. -/
def State.keepReg (s0 s : State) (a : Nat) (m : Word) : State := s.setReg a ((s.getReg a &&& ~~~ m) ||| (s0.getReg a &&& m))

/-- Whole registers put over from `s0`. -/
def State.keepRegs (s0 s : State) (l : List Nat) : State := l.foldl (fun s a => s0.keepReg s a 0xFFFFFFFF#32) s

/-- What the always-on domain and the supply keep in every reset: wake settings (R443) and the levels of SYS_PWR. -/
def State.keepAlways (s0 s : State) : State :=
  let s := s0.keepRegs s ((List.range 16).map R.GPIO_WAKECFG)
  let s := s0.keepReg s R.GPIO_STAT (keepMask [R.GPIO_STAT_WAKESRC])
  s0.keepReg s R.SYS_PWR (keepMask [R.SYS_PWR_PFW, R.SYS_PWR_VBATLOW, R.SYS_PWR_OFF12, R.SYS_PWR_OFF5])

/-- Memory without the bytes that satisfy `p`. -/
def State.dropMem (s : State) (p : Nat → Bool) : State := { s with mem := s.mem.filter fun c => !p c.1 }

/-- The part of local store 12 that the ROM uses (R154). -/
def romStore (a : Nat) : Bool := decide (0x08300000 ≤ a ∧ a < 0x08310000)

/-- On-die SRAM and the LPDDR5X window: what DARK loses. -/
def volatileMem (a : Nat) : Bool := decide ((0x08000000 ≤ a ∧ a < 0x40000000) ∨ 0x1000000000 ≤ a)

/-- The parts that no reset and no loss of supply touches: the queue of commands, time base and free values, PMEM and the
program store, the dies' own state, the black box. -/
def State.kept (s : State) : State :=
  { pending := s.pending, clk := s.clk, freeCtr := s.freeCtr, dramEpoch := s.dramEpoch, romEpoch := s.romEpoch + 1,
    mem := s.mem, ecc := s.ecc, bbxQueue := s.bbxQueue, bbx := s.bbx, boot := { s.boot with step := 0 },
    fls := { s.fls with steps := 0 }, cores := State.reset.cores, pairs := s.pairs.map fun e => (e.1, { dead := e.2.dead }),
    pwm := { lands := s.pwm.lands } }

/-- DARK (R160, R443, R545): SRAM and LPDDR5X contents are lost, an operation of the flash die is cut short, records that wait
for BBX are lost; no core runs. -/
def State.enterDark (s : State) : State :=
  let s0 := s.flsCut
  let s := s0.kept.dropMem volatileMem
  let s := { s with dramEpoch := s.dramEpoch + 1, bbxQueue := [], ecc := s.ecc.filter fun e => !volatileMem (8 * e.1) }
  let s := s0.keepAlways s
  ((s.setCore 12 { run := RunState.inReset }).modSys fun y => { y with dev := .dark }).lower R.SYS_PWR_PFW

/-- The registers that keep their values across a warm reset as a whole. -/
def warmRegs : List Nat :=
  [R.SYS_CURTAIN, R.SYS_WDSTAT, R.SYS_ECCADDRL, R.SYS_ECCADDRH, R.USTD_TRES, R.FLS_UEADDRL, R.FLS_UEADDRH] ++
    (List.range 4).map R.USTD_MMINFO ++ (List.range 4096).map R.FLS_PGBUF

/-- HOST across a warm reset: sessions stay open and the long operation goes on (R490, R495), a command without its answer is
lost (DEDUCED, log entry 26). -/
def HostIf.warm (h : HostIf) : HostIf :=
  { sess := h.sess.map fun e => (e.1, { e.2 with pend := none }), sent := h.sent, long := h.long }

/-- A warm reset (R27, R43, R44, R154, R160, R188, R490): SRAM but the ROM's part, the counters and LPDDR5X keep their contents;
a running program-store operation goes on and a suspended erase is resumed. -/
def State.warmReset (s0 : State) : State :=
  let s := s0.kept.dropMem romStore
  let s := { s with cue := { count := s0.cue.count, time := s0.cue.time, halfNs := s0.cue.halfNs },
                    nozzles := s0.nozzles, host := s0.host.warm, afe := { halves := s0.afe.halves, good := s0.afe.good } }
  let s := s.modSys fun y => { y with recoveryReq := s0.sys.recoveryReq }
  let s := s0.keepAlways (s0.keepRegs s warmRegs)
  let s := s0.keepReg s R.FLS_STAT (keepMask (R.FLS_STAT_CAUSE ::
    if s0.fls.op.isSome || s0.fls.susp.isSome then [R.FLS_STAT_BUSY, R.FLS_STAT_OP, R.FLS_STAT_OPBANK] else []))
  let s := s0.keepReg s R.DRC_STAT (keepMask [R.DRC_STAT_PKGDEAD, R.DRC_STAT_HALF])
  let s := s0.keepReg s R.AFE_STAT (keepMask [R.AFE_STAT_PFW])
  let s := if s.fls.susp.isSome then s.flsContinue else s
  ({ s with drcWaking := true }).secLatch

/-- A power-on reset (R154, R160): every SRAM is cleared, the time counter is 0, LPDDR5X contents are undefined. -/
def State.powerOn (s0 : State) : State :=
  let s := s0.kept.dropMem volatileMem
  let s := { s with dramEpoch := s.dramEpoch + 1, ecc := s.ecc.filter fun e => !volatileMem (8 * e.1), drcWaking := true,
                    boot := { s.boot with countDue := true } }
  (s0.keepAlways s).secLatch.bbxFresh

/-! ## The curtain's end (R34, R35) -/

/-- Whether steps 1 to 4 of R34 are complete: nothing is being emitted, every slot has finished its curtain and no PWM unit is
enabled. -/
def State.curtainSteps (s : State) : Bool :=
  !s.sys.emitting && s.flag R.LOOP_STAT_CURTAX && s.flag R.LOOP_STAT_CURTCV && (List.range 48).all fun n => !s.flag (R.PWM_CTRL_EN n)

/-- Step 5 of R34, once DRAIN is 0: the FINAL seal, the lifetime records, CDONE. -/
def State.curtainEnd (s : State) : State :=
  if s.sys.dev != .curtain || s.sys.done || s.draining || !(s.curtainSteps || s.sys.limitReached) then s
  else
    let s := if s.sys.emitting then ((s.modSys fun y => { y with emitting := false }).dropCurtain).jrnlCurtain else s
    let s := (s.finalSeal.lifeRewrite 0).modSys fun y => { y with done := true }
    s.bbxEvent 3 [s.getReg R.SYS_CURTAIN, BitVec.ofNat 32 (s.sys.elapsed / 400)]

/-- The limit of a curtain in event-clock cycles since its first boundary (R35). -/
def State.curtainLimitCycles (s : State) : Nat :=
  let own := 400 * s.sys.curtainLimitUs
  match s.sys.mainsElapsed with
  | none => own
  | some m => min own (s.sys.elapsed - m + 10000000)

/-- The curtain limit is reached before step 5 (R35). The command that says so brings the time with it: at least the limit in force
has passed since the first boundary (DESIGN CHOICE, log entry 26). -/
def State.curtainForce (s : State) : State :=
  if s.sys.dev != .curtain || s.sys.done || s.sys.limitReached then s
  else
    let late := s.curtainLimitCycles - s.sys.elapsed
    (s.pwmDisableAll.raise R.SYS_CURTAIN_FORCED).modSys fun y =>
      { y with limitReached := true, elapsed := y.elapsed + late, mainsElapsed := y.mainsElapsed.map (· + late) }

/-! ## Events that wait for a boundary (R29 to R32) -/

/-- Whether R31 accepts a host command in the present state. -/
def State.cmdLegal (s : State) (c : StateCmd) : Bool :=
  match s.sys.dev, c with
  | .places, .go => true
  | .run .printing, .pause => true
  | .run .paused, .resume => true
  | .curtain, .clear => s.sys.done
  | .places, .enterWings | .run .idle, .enterWings => true
  | .wings, .wake => true
  | .places, .shutdown | .run .idle, .shutdown | .wings, .shutdown => true
  | .curtain, .shutdown => s.sys.done
  | .boot, .enterRecovery | .places, .enterRecovery | .run .idle, .enterRecovery => true
  | .curtain, .enterRecovery => s.sys.done
  | .boot, .restart | .places, .restart | .run .idle, .restart | .wings, .restart | .recovery, .restart => true
  | .curtain, .restart => s.sys.done
  | _, _ => false

/-- The opcode of a state command (R493). -/
def StateCmd.opcode : StateCmd → Nat
  | .go => Op.go
  | .pause => Op.pause
  | .resume => Op.resume
  | .clear => Op.clear
  | .enterWings => Op.enterWings
  | .wake => Op.wake
  | .shutdown => Op.shutdown
  | .enterRecovery => Op.enterRecovery
  | .restart => Op.restart

/-- A command that has become illegal is refused, unless firmware has answered it already (R32); a RESTART, which has been
answered, ends with its NOTIFY (R495). -/
def State.lateRefuse (s : State) (i op seq : Nat) : State :=
  if op = Op.restart then s.longEnd St.stateRefused []
  else
  match s.session i with
  | some x => if x.pend = some (op, seq) then s.hostAnswer i op seq St.stateRefused [] else s
  | none => s

/-- A wake from WINGS starts: LPDDR5X leaves self-refresh (R160). -/
def State.wakeStart (s : State) : State :=
  if s.sys.dev = .wings ∧ ¬ s.sys.wakeDue then
    { (s.lower R.DRC_STAT_SREF) with drcWaking := true, sys := { s.sys with wakeDue := true } }
  else s

/-- A warm reset falls due (R30); it takes effect once DRAIN is 0 (R475). -/
def State.resetFor (s : State) (recovery : Bool) : State :=
  s.modSys fun y => { y with resetDue := true, recoveryReq := y.recoveryReq || recovery }

/-- The effect of a legal state command at a boundary; SHUTDOWN waits while DRAIN is 1 (R475). -/
def State.cmdTake (s : State) (c : StateCmd) : State :=
  let idle := s.sys.dev == .run .idle
  match c with
  | .go => s.enterRun
  | .pause => (s.modSys fun y => { y with dev := .run .paused }).firePause
  | .resume => s.modSys fun y => { y with dev := .run .printing }
  | .clear => s.enterPlaces
  | .enterWings => s.enterWings
  | .wake => s.wakeStart
  | .shutdown => if idle then (s.raise R.SYS_CURTAIN_HOSTCMD).enterCurtain (some .dark) false else s.enterDark
  | .enterRecovery =>
    if idle then (s.raise R.SYS_CURTAIN_HOSTCMD).enterCurtain (some .recovery) false else s.resetFor true
  | .restart => if idle then (s.raise R.SYS_CURTAIN_HOSTCMD).enterCurtain (some .boot) false else s.resetFor false

/-- The waiting host commands at a boundary, oldest first: those that are illegal now are refused, the first legal one is taken,
the others wait for the next boundary (R32). -/
def State.cmdsTurn : List WaitingCmd → State → State
  | [], s => s
  | w :: t, s =>
    if s.cmdLegal w.cmd then
      if w.cmd = .shutdown ∧ s.sys.dev ≠ .run .idle ∧ s.draining then s
      else (s.modSys fun y => { y with cmds := t }).cmdTake w.cmd
    else ((s.modSys fun y => { y with cmds := t }).lateRefuse w.sess w.cmd.opcode w.seq.toNat).cmdsTurn t

/-- The follow-on of a complete curtain (R29, R30). -/
def State.followTurn (s : State) (f : Follow) : State :=
  match f with
  | .dark => if s.draining then s else s.enterDark
  | .boot => s.resetFor false
  | .recovery => s.resetFor true

/-- The state event of a boundary (R29, R32): the mains warning, then a fault trigger, then CALL_CURTAIN, then host commands;
a complete curtain's follow-on and a wake that finds LPDDR5X READY are taken before host commands. -/
def State.eventTurn (s : State) : State :=
  let y := s.sys
  if y.resetDue then s
  else
    match y.dev with
    | .run _ =>
      if y.mainsDue then s.enterCurtain y.follow true
      else if y.faultDue then s.enterCurtain y.follow false
      else if y.callDue.isSome then (s.modSys fun y => { y with callDue := none }).enterCurtain none false
      else s.cmdsTurn y.cmds
    | .places =>
      let s := s.modSys fun y => { y with mainsDue := false }
      if y.faultDue then s.enterCurtain y.follow false else s.cmdsTurn y.cmds
    | .wings =>
      if y.mainsDue then (if s.draining then s else s.enterDark)
      else if y.faultDue then s.enterCurtain y.follow false
      else if y.wakeDue && s.flag R.DRC_STAT_READY && decide (s.drcReadyClk < s.clk) then s.enterPlaces
      else s.cmdsTurn y.cmds
    | .curtain =>
      let s := if y.mainsDue then
          s.modSys fun y => { y with mainsDue := false, mainsElapsed := some (y.mainsElapsed.getD 0) }
        else s
      let s := s.modSys fun y => { y with faultDue := false }
      let s := match y.callDue with
        | some c => (s.modSys fun y => { y with callDue := none }).lateRefuse c.1 Op.callCurtain c.2.toNat
        | none => s
      match y.done, y.follow with
      | true, some f => s.followTurn f
      | _, _ => s.cmdsTurn y.cmds
    | _ => s

/-- RUN/PRINTING becomes RUN/IDLE when every accepted order has retired, the scheduler is free and DROP is empty (R30). -/
def State.printingEnds (s : State) : State :=
  if s.sys.dev = .run .printing ∧ s.jrnlOrderList.isEmpty ∧ s.fireSw = swNone ∧ s.drop.q.isEmpty then
    s.modSys fun y => { y with dev := .run .idle }
  else s

/-! ## Registers (R216, R563) -/

/-- SYS_STATE as it reads. -/
def State.stateWord (s : State) : Word :=
  let code := fun (d : Dev) => match d with
    | .boot => 1 | .places => 2 | .run _ => 3 | .curtain => 4 | .wings => 5 | .recovery => 6 | .dark => 0
  let sub := match s.sys.dev with | .run .printing => 1 | .run .paused => 2 | _ => 0
  BitVec.ofNat 32 (sub * 0x100 + s.sys.done.toNat * 0x80 + s.sys.resumeP.toNat * 0x40 + code (s.sys.shown.getD s.sys.dev))

/-- SYS_STATE and SYS_WDREM(p) as they read. -/
def State.sysRegRead (s : State) (id : RegId) (n : Nat) (stored : Word) : Word :=
  match id with
  | .SYS_STATE => s.stateWord
  | .SYS_WDREM => BitVec.ofNat 32 (s.wdRemUs n)
  | _ => stored

/-- A register write to SYS by master `w`. -/
def State.sysRegWrite (s : State) (w : Writer) (d : RegDesc) (a : Nat) (v : Word) : State :=
  match d.id with
  | .SYS_WDSVC => s.wdService w.plane.num v
  | _ => s.writeTyped d a false v

/-! ## Supply (R381, R545, R548, R553) -/

/-- The power-fail line is asserted (R33, R381): PFW_N low, the mains curtain trigger. -/
def State.powerFail (s : State) : State :=
  if s.sys.dev = .dark then s
  else
    let s := ((s.raise R.SYS_PWR_PFW).modBbx fun b => { b with warns := b.warns + 1 }).bbxEvent 8 [s.getReg R.AFE_MMEAS]
    match s.sys.dev with
    | .run _ | .curtain => (s.raise R.SYS_CURTAIN_MAINS).modSys fun y => { y with mainsDue := true }
    | .wings => s.modSys fun y => { y with mainsDue := true }
    | _ => s

/-- The hottest die reads `t` tenths of a degree (R553). -/
def State.dieTemp (s : State) (t : BitVec 16) : State :=
  if s.sys.dev = .dark then s
  else
    let s := s.setF R.SYS_TEMP_T t.toNat
    if 1150 ≤ t.toInt then s.trigger R.SYS_CURTAIN_THERMAL else s

/-! ## Commands -/

/-- WATCHDOG_EXPIRY (R27). -/
def execWatchdogExpiry (pl : Plane) (s : State) : Host.Outcome State Fault Refusal := .next (State.settle <| s.wdExpire pl.num)

/-- CURTAIN_LIMIT (R35). -/
def execCurtainLimit (s : State) : Host.Outcome State Fault Refusal := .next s.curtainForce.settle

/-- FINAL_SEAL (R34, R479). -/
def execFinalSeal (s : State) : Host.Outcome State Fault Refusal := .next s.curtainEnd.settle

/-- DIE_TEMPERATURE_UPDATE (R553). -/
def execDieTemperatureUpdate (t : BitVec 16) (s : State) : Host.Outcome State Fault Refusal := .next (State.settle <| s.dieTemp t)

/-- POWER_FAIL_WARNING (R381). -/
def execPowerFailWarning (s : State) : Host.Outcome State Fault Refusal := .next s.powerFail.settle

/-- DARK is entered for want of supply once DRAIN is 0 (R29, R475). -/
def State.railsTurn (s : State) : State := if s.sys.railsDue && !s.draining then s.enterDark else s

/-- RAILS_LOST (R545): at whatever instant it falls (R29), but not while DRAIN is 1: then when DRAIN falls (R475). -/
def execRailsLost (s : State) : Host.Outcome State Fault Refusal :=
  .next (State.settle <| if s.sys.dev = .dark then s else (s.modSys fun y => { y with railsDue := true }).railsTurn)

/-- CV_LINE_WRITE (R475); with the last capture durable, a loss of the rails that waited takes effect. -/
def execCvLineWrite (line : Fin 512) (s : State) : Host.Outcome State Fault Refusal :=
  .next (State.settle <| (s.cvLine line).railsTurn)

/-- WAKE_DETECT (R442) in WINGS and DARK, for a land whose detector is enabled; from DARK, POWER_ON_RESET follows. -/
def execWakeDetect (land : Fin 16) (s : State) : Host.Outcome State Fault Refusal :=
  .next (State.settle <| if (s.sys.dev = .wings ∨ s.sys.dev = .dark) ∧ s.flag (R.GPIO_WAKECFG_EN land) = true then
      (s.raiseBit R.GPIO_STAT_WAKESRC land).wakeStart
    else s)

/-- SELV_OVERLOAD (R548). -/
def execSelvOverload (rail12 : Bool) (s : State) : Host.Outcome State Fault Refusal :=
  .next (State.settle <| if s.sys.dev = .dark then s else s.raise (if rail12 then R.SYS_PWR_OL12 else R.SYS_PWR_OL5))

/-- SELV_THERMAL_OFF (R548). -/
def execSelvThermalOff (rail12 : Bool) (s : State) : Host.Outcome State Fault Refusal :=
  .next (State.settle <| if s.sys.dev = .dark then s else s.raise (if rail12 then R.SYS_PWR_OFF12 else R.SYS_PWR_OFF5))

/-- SELV_RESTART (R548). -/
def execSelvRestart (rail12 : Bool) (s : State) : Host.Outcome State Fault Refusal :=
  .next (State.settle <| s.lower (if rail12 then R.SYS_PWR_OFF12 else R.SYS_PWR_OFF5))

/-- ALWAYS_ON_RAIL_COLLAPSE (R443, R538, R549): with no mains and VBAT below 2.5 V; the calendar's count is then open. -/
def execAlwaysOnRailCollapse (s : State) : Host.Outcome State Fault Refusal :=
  .next (State.settle <| if s.sys.dev = .dark then
      let (r, s) := s.fresh
      let s := s.modBbx fun b => { b with calValid := false, cal := BitVec.ofNat 40 r }
      let s := (List.range 16).foldl (fun s n => s.setReg (R.GPIO_WAKECFG n) (regReset (R.GPIO_WAKECFG n))) s
      (s.lower R.GPIO_STAT_WAKESRC).raise R.SYS_PWR_VBATLOW
    else s)

end Sys2Proof.Machine
end

