-- ==== Sys2Proof/Machine/Bus.lean ====
section
/-!
DEFINITION. Accesses on the interconnect by address (R9, R10, R23, R24, R45, R145, R146, R416): register reads and writes with
the plane checks, and accesses to the memories and the program store.
What the spec leaves open here: log entry 25.
-/

namespace Sys2Proof.Machine

/-! ## Who may write a register (R22 to R24) -/

/-- Whether a data-plane block accepts writes by `w`: crew cores, and DMA where a crew core's write is accepted (R416). -/
def dataPlane (w : Writer) : Bool :=
  match w with
  | .dma _ => true
  | _ => w.isCrew

/-- Whether a write by `w` to register `id` of the block at `base` is accepted (R22 to R24 and the chapters of the shared
blocks). -/
def State.regAccepts (s : State) (w : Writer) (base : Nat) (id : RegId) : Bool :=
  let setup := w.isHouse && s.sys.dev.setup
  if base = baseLOOP ∨ base = basePWM ∨ base = baseAFE ∨ base = baseENC ∨ base = baseFIRE ∨ base = baseMTRK ∨ base = baseUSTD then
    w.isCue || setup
  else if base = baseDROP ∨ base = baseDMA ∨ base = baseDRC ∨ base = baseJET then dataPlane w || setup
  else if base = baseCUE then (if id = .CUE_DONE then w.isCue || setup else w.isHouse)
  else if base = basePBS then pbsAccepts w id
  else if base = baseJRNL then w.isHouse || dataPlane w
  else if base = baseSYS then
    if id = .SYS_WDSVC then (match w with | .core _ _ => true | .rom => true | .dma _ => true | _ => false) else w.isHouse
  else if base = baseGPIO then s.gpioAccepts w id || setup
  else if base = baseFLS ∧ id = .FLS_PGBUF then w.isHouse || (match w with | .dma _ => true | _ => false)
  else w.isHouse

/-- Whether a register of row `d` stands at element `i`: CALL_PUB has the sources of R400 only, and the class registers of
PBS begin at class 1. -/
def regPresent (d : RegDesc) (i : Nat) : Bool :=
  match d.id with
  | .CALL_PUB => callSource i
  | .PBS_CLS | .PBS_CMIN | .PBS_REQ | .PBS_GNT => decide (1 ≤ i)
  | _ => true

/-! ## Register writes -/

/-- SEC registers (R540): DBG.LOCK locks until reset. -/
def State.secRegWrite (s : State) (d : RegDesc) (a : Nat) (v : Word) : State := s.writeTyped d a false v

/-- PMC registers (R170): USERW is locked by LOCK. -/
def State.pmcRegWrite (s : State) (d : RegDesc) (a : Nat) (v : Word) : State := s.writeTyped d a (s.flag R.PMC_CTRL_LOCK) v

/-- The effect of an accepted write of `v` to the register of row `d`, element (i, j), at address `a` of the block at `base`;
the Bool says whether the bus takes it. -/
def State.regEffect (s : State) (w : Writer) (base : Nat) (d : RegDesc) (i j a : Nat) (v : Word) : State × Bool :=
  if base = baseFLS then s.flsRegWrite d a v
  else
    (if base = baseCUE then s.cueRegWrite w d a v
     else if base = baseCALL then s.callRegWrite d i a v
     else if base = baseDMA then s.dmaRegWrite d i a v
     else if base = baseGPIO then s.gpioRegWrite w d i j a v
     else if base = basePWM then s.pwmRegWrite d i a v
     else if base = baseLOOP then s.loopRegWrite w d i j a v
     else if base = baseAFE then s.afeRegWrite d i a v
     else if base = baseENC then s.encRegWrite d i a v
     else if base = baseDROP then s.dropRegWrite d j a v
     else if base = baseFIRE then s.fireRegWrite d a v
     else if base = baseJET then s.jetRegWrite d i a v
     else if base = baseMTRK then s.mtrkRegWrite d i a v
     else if base = basePBS then s.pbsRegWrite d i a v
     else if base = baseJRNL then s.jrnlRegWrite d a v
     else if base = baseHOST then s.hostRegWrite d a v
     else if base = baseBYR then s.byrRegWrite d a v
     else if base = basePMC then s.pmcRegWrite d a v
     else if base = baseUSTD then s.ustdRegWrite d a v
     else if base = baseSYS then s.sysRegWrite w d a v
     else if base = baseBBX then s.bbxRegWrite d a v
     else if base = baseUPD then s.updRegWrite d a v
     else if base = baseSEC then s.secRegWrite d a v
     else s.writeTyped d a false v, true)

/-- A 32-bit write of `v` at peripheral address `a` by master `w`; the Bool says whether the bus takes it (R10, R23, R24,
R146). -/
def State.regWrite (s : State) (w : Writer) (a : Nat) (v : Word) : State × Bool :=
  match blockOf a with
  | none => (s, false)
  | some b =>
    match regAt a with
    | none => (s, true)
    | some (d, i, j) =>
      if !regPresent d i then (s, true)
      else if !s.regAccepts w b.1 d.id then (s, false)
      else
        let r := s.regEffect w b.1 d i j a v
        (r.1.settle, r.2)

/-! ## Register reads -/

/-- The companions of a low word, which its read copies into the reader's shadow (R45, R271, R308, R341, R396, R482, R500,
R534, R538): their distances from the low word's address. -/
def shadowFill (id : RegId) : List Nat :=
  match id with
  | .CUE_CNTL | .CUE_TIMEL | .CUE_TOFSL | .ENC_POSL | .ENC_SPCNTL | .LOOP_SFBL | .JRNL_CV | .BBX_SERL | .BBX_CALL => [4]
  | .MTRK_POSL => [4, 8, 12]
  | .MTRK_PYL | .HOST_TS0 => [4, 8]
  | .FIRE_OBSPOSL => [4, 8, 12, 16, 20]
  | _ => []

/-- Whether a register is read from the reader's shadow. -/
def shadowed (id : RegId) : Bool :=
  match id with
  | .CUE_CNTH | .CUE_TIMEH | .CUE_TOFSH | .ENC_POSH | .ENC_SPCNTH | .LOOP_SFBH | .JRNL_CVH | .BBX_SERH | .BBX_CALH
  | .MTRK_POSH | .MTRK_SKEW | .MTRK_TEXP | .MTRK_PYH | .MTRK_PX | .HOST_TS1 | .HOST_TS2
  | .FIRE_OBSPOSH | .FIRE_OBSVEL | .FIRE_OBSACC | .FIRE_OBSTICK | .FIRE_INNOV => true
  | _ => false

/-- The key of master `w`'s shadow of the register at `a`. -/
def shadowKey (w : Writer) (a : Nat) : Nat := w.num * 2 ^ 40 + a

/-- What the register of row `d`, element `i`, at address `a` of the block at `base` holds now. -/
def State.regValue (s : State) (base : Nat) (d : RegDesc) (i a : Nat) : Word :=
  let st := s.getReg a
  if base = baseCUE then s.cueRegRead d.id st
  else if base = baseCALL then s.callRegRead d.id st
  else if base = baseDMA then s.dmaRegRead d.id st
  else if base = basePWM then s.pwmRegRead d i st
  else if base = baseDROP then s.dropRegRead d.id st
  else if base = baseFIRE then s.fireRegRead d.id st
  else if base = baseJRNL then s.jrnlRegRead d.id i st
  else if base = baseSYS then s.sysRegRead d.id i st
  else if base = baseBBX then s.bbxRegRead d.id st
  else if base = baseUPD then s.updRegRead d.id i st
  else
    match d.id with
    | .HOST_TS0 => (s.tsWords i).1
    | .HOST_TS1 => (s.tsWords i).2.1
    | .HOST_TS2 => (s.tsWords i).2.2
    | .HOST_CQ | .HOST_LONG | .HOST_SESS => s.hostRegRead d.id i st
    | .BYR_MRX => s.mrxWord
    | .GPIO_BANK => Config.gpioBank.setWidth 32
    | .FLS_OTP => BitVec.ofNat 32 (natLE (s.otpBytes (4 * i) 4))
    | _ => st

/-- The value at register address `a`, 0 where none stands. -/
def State.regLook (s : State) (a : Nat) : Word :=
  match blockOf a, regAt a with
  | some b, some (d, i, _) => if regPresent d i then s.regValue b.1 d i a else 0
  | _, _ => 0

/-- A 32-bit read at peripheral address `a` by master `w`: the value read, and what the read does (R10, R11, R45); `none`: a
bus error (R146). -/
def State.regRead (s : State) (w : Writer) (a : Nat) : Option (Word × State) :=
  match blockOf a with
  | none => none
  | some b =>
    match regAt a with
    | none => some (0, s)
    | some (d, i, _) =>
      if !regPresent d i then some (0, s)
      else if shadowed d.id then some (typedRead d (mget 0 s.shadow (shadowKey w a)), s)
      else
        match d.id with
        | .GPIO_PxIN => let (v, s) := s.portIn i; some (BitVec.ofNat 32 v, s)
        | .GPIO_SERDAT => some (s.serPop i)
        | _ =>
          let v := s.regValue b.1 d i a
          let s1 := { s with shadow := (shadowFill d.id).foldl (fun m o => mset m (shadowKey w (a + o)) (s.regLook (a + o))) s.shadow }
          let s2 := if d.id = .HOST_TS0 then s1.tsPop i else s1
          some (typedRead d v, (s2.setReg a (typedReadClear d (s2.getReg a))).settle)

/-! ## Accesses by address -/

/-- Read `n` bytes at physical address `a` for master `w`, remote windows apart (R9, R145, R146). -/
def State.busRead (s : State) (w : Writer) (a n : Nat) : State × RdResult :=
  match regionOf a with
  | .program => s.flsRead a n
  | .peripheral =>
    if n = 4 ∧ a % 4 = 0 then
      match s.regRead w a with
      | some (v, s) => (s, .ok (bytesLE 4 v.toNat))
      | none => (s, .busError)
    else (s, .busError)
  | _ => s.memRead a n

/-- Write bytes at physical address `a` for master `w`, remote windows apart (R9, R145, R146, R174); the Bool says whether the
bus takes the write. -/
def State.busWrite (s : State) (w : Writer) (a : Nat) (l : List Byte) : State × Bool :=
  match regionOf a with
  | .program =>
    if l.length = 4 ∧ a % 4 = 0 then
      let r := s.flsWrite w a (natLE l)
      (r.1.settle, r.2)
    else (s.flsForeign a, false)
  | .peripheral => if l.length = 4 ∧ a % 4 = 0 then s.regWrite w a (BitVec.ofNat 32 (natLE l)) else (s, false)
  | _ => s.memWrite w a l

/-- The address that master `w` reaches at `a` (R145: a core's own local store stands at two places). -/
def physOf (w : Writer) (a : Nat) : Nat :=
  match ownStoreOf w with
  | some k => ownAlias k a
  | none => a

/-- The register write that a command names: master `w` writes `v` at address `a`; a core that cannot issue an instruction makes
none, a write that TACC or the bus refuses is an error that the master sees (R23, R106). -/
def State.write32 (s : State) (w : Writer) (a : Nat) (v : Word) : State :=
  if !s.masterActs w then s
  else if s.deniedTo w (physOf w a) then s.accessFault w 0x11 true (BitVec.ofNat 40 a)
  else
    let r := s.busWrite w (physOf w a) (bytesLE 4 v.toNat)
    if r.2 then r.1 else r.1.accessFault w 0x10 true (BitVec.ofNat 40 a)

/-- The register read that a command names: its effects, and the error of a read that TACC or the bus refuses. -/
def State.read32 (s : State) (w : Writer) (a : Nat) : State :=
  if !s.masterActs w then s
  else if s.deniedTo w (physOf w a) then s.accessFault w 0x11 false (BitVec.ofNat 40 a)
  else
    match s.busRead w (physOf w a) 4 with
    | (s, .ok _) => s
    | (s, _) => s.accessFault w 0x10 false (BitVec.ofNat 40 a)

end Sys2Proof.Machine
end

