-- ==== Sys2Proof/Machine/DmaRun.lean ====
section
/-!
DEFINITION. The beats of the DMA engines (R409 to R416, R422): issue, return, acknowledgement and failure.
What the spec leaves open here: log entry 42.
-/

namespace Sys2Proof.Machine

/-- The fill level of a channel's queue (R412). -/
def DmaChan.fill (x : DmaChan) : Nat := x.queue.length + (x.rd.map (·.2)).sum

/-- The bytes of a channel's write beats without an acknowledgement. -/
def DmaChan.writing (x : DmaChan) : Nat := (x.wr.map (·.2.length)).sum

/-- The bytes read ahead of the last completed byte. -/
def DmaChan.ahead (x : DmaChan) : Nat := x.fill + x.writing

/-- The size of a beat at `a` of at most `n` bytes (R409, R410). -/
def beatSize (a n : Nat) : Nat := if regionOf a = .peripheral then min 4 n else min (64 - a % 64) n

/-- The next read beat of channel `c`: address and size. -/
def State.dmaNextRead (s : State) (c : Nat) : Nat × Nat :=
  let x := s.dch c
  let a := if s.srcFixed c then x.src else x.src + x.ahead
  (a, beatSize a (x.left - x.ahead))

/-- The next write beat of channel `c`: address and size, 0 while nothing may be written (R413). -/
def State.dmaNextWrite (s : State) (c : Nat) : Nat × Nat :=
  let x := s.dch c
  let a := if s.dstFixed c then x.dst else x.dst + x.writing
  let n := if s.flag (R.DMA_CTRL_REQ c) then min x.credit x.queue.length else x.queue.length
  (a, if regionOf a = .peripheral ∧ n < 4 then 0 else beatSize a n)

/-- The bytes that channel `c` has read in the preceding 1,000 cycles (R414). -/
def State.dmaWindow (s : State) (c : Nat) : List (Nat × Nat) :=
  (s.dch c).window.filter fun b => decide (s.clk < b.1 + 1000)

/-- Whether channel `c` is eligible on its engine's read port (R411, R412, R414). -/
def State.dmaReadable (s : State) (c : Nat) : Bool :=
  let x := s.dch c
  let n := (s.dmaNextRead c).2
  s.dmaState c == 1 && !x.fetch && !x.abort && !x.wait && decide (0 < n) && decide (x.fill + n ≤ 4096)
    && decide (((s.dmaWindow c).map (·.2)).sum + n ≤ s.getF (R.DMA_PACE_SHARE c) * 64)

/-- Whether channel `c` is eligible on its engine's write port (R411, R413). -/
def State.dmaWritable (s : State) (c : Nat) : Bool :=
  s.dmaState c == 1 && !(s.dch c).abort && decide (0 < (s.dmaNextWrite c).2)

/-- The channel of engine `e` that a port serves: of those in `ok` with the highest PRIO, the first after `last` (R411). -/
def State.dmaPick (s : State) (e last : Nat) (ok : Nat → Bool) : Option Nat :=
  let order := (List.range 16).map fun i => 16 * e + (last % 16 + 1 + i) % 16
  order.foldl (fun b c =>
    if ok c then
      match b with
      | none => some c
      | some k => if s.getF (R.DMA_CTRL_PRIO k) < s.getF (R.DMA_CTRL_PRIO c) then some c else some k
    else b) none

/-- The high and low watermarks (R412). -/
def State.dmaLevel (s : State) (c : Nat) : State :=
  let n := (s.dch c).fill
  if s.getF (R.DMA_PACE_HIWM c) * 256 ≤ n then s.modDch c fun x => { x with wait := true }
  else if n ≤ s.getF (R.DMA_PACE_LOWM c) * 256 then s.modDch c fun x => { x with wait := false }
  else s

/-- Beats of channel `c` fail at `a`; an aborted channel only waits for its end (R422, R425). -/
def State.dmaBeatFail (s : State) (c a : Nat) (wr : Bool) : State :=
  if (s.dch c).abort then
    s.modDch c fun x => if wr then { x with wr := x.wr.tail } else { x with rd := x.rd.tail }
  else s.dmaFail c a wr

/-- Read data returns into the queue of channel `c` (R412). -/
def State.dmaData (s : State) (c : Nat) (l : List Byte) : State :=
  (s.modDch c fun x => { x with rd := x.rd.tail, queue := x.queue ++ l }).dmaLevel c

/-- The oldest write beat of channel `c` is acknowledged (R415, R417, R425); an ABORT written in the cycle in which this completes the
transfer or a LAST descriptor has no effect (R426). -/
def State.dmaAcked (s : State) (c : Nat) : State :=
  match (s.dch c).wr with
  | [] => s
  | (_, l) :: t =>
    let n := l.length
    let sf := s.srcFixed c
    let df := s.dstFixed c
    let s := s.modDch c fun x =>
      chkBytes (s.getF (R.DMA_CTRL_CHK c))
        { x with wr := t, src := if sf then x.src else x.src + n, dst := if df then x.dst else x.dst + n,
                 left := x.left - n, done := x.done + n } l
    let s := if (s.dch c).dsc.isNone then s.dmaShow c else s
    let x := s.dch c
    let last := match x.dsc with | some (_, w, _) => w.getLsbD 30 | none => true
    if x.left = 0 ∧ (x.abort = false ∨ (x.abortClk = s.clk ∧ last = true)) then s.dmaComplete c else s.dmaServe c

/-- A read beat of engine `e`, at most one in a cycle (R409, R411). -/
def State.dmaReadBeat (s : State) (e : Nat) : State :=
  match if s.clk < mget 0 s.dma.rdNext e then none else s.dmaPick e (mget 15 s.dma.rdLast e) s.dmaReadable with
  | none => s
  | some c =>
    let (a, n) := s.dmaNextRead c
    let win := s.dmaWindow c
    let s := { s with dma := { s.dma with rdLast := mset s.dma.rdLast e (c % 16), rdNext := mset s.dma.rdNext e (s.clk + 1) } }
    let s := (s.modDch c fun x => { x with rd := x.rd ++ [(a, n)], window := win ++ [(s.clk, n)] }).dmaLevel c
    if regionOf a = .remote then
      match s.byrAccess (.dma c) a n none with
      | some s => s
      | none => s.dmaBeatFail c a false
    else s

/-- The oldest read beat of channel `c` returns; a remote one returns with its answer. -/
def State.dmaReadReturn (s : State) (c : Nat) : State :=
  match (s.dch c).rd with
  | [] => s
  | (a, n) :: _ =>
    if regionOf a = .remote then s
    else
      match s.busRead (.dma (Fin.ofNat 64 c)) a n with
      | (s, .ok l) => s.dmaData c l
      | (s, _) => s.dmaBeatFail c a false

/-- A write beat of engine `e`, at most one in a cycle (R409, R411, R413). -/
def State.dmaWriteBeat (s : State) (e : Nat) : State :=
  match if s.clk < mget 0 s.dma.wrNext e then none else s.dmaPick e (mget 15 s.dma.wrLast e) s.dmaWritable with
  | none => s
  | some c =>
    let (a, n) := s.dmaNextWrite c
    let l := (s.dch c).queue.take n
    let s := { s with dma := { s.dma with wrLast := mset s.dma.wrLast e (c % 16), wrNext := mset s.dma.wrNext e (s.clk + 1) } }
    let s := (s.modDch c fun x =>
      { x with queue := x.queue.drop n, wr := x.wr ++ [(a, l)], credit := x.credit - n }).dmaLevel c
    if regionOf a = .remote then
      match s.byrAccess (.dma c) a n (some l) with
      | some s => s
      | none => s.dmaBeatFail c a true
    else s

/-- The target answers the oldest write beat of channel `c` (R415); a remote one ends with its answer. -/
def State.dmaWriteAck (s : State) (c : Nat) : State :=
  match (s.dch c).wr with
  | [] => s
  | (a, l) :: _ =>
    if regionOf a = .remote then s
    else
      match s.busWrite (.dma (Fin.ofNat 64 c)) a l with
      | (s, true) => s.dmaAcked c
      | (s, false) => s.dmaBeatFail c a true

/-! ## Commands -/

/-- DMA_READ_BEAT (R411). -/
def execDmaReadBeat (engine : Fin 4) (s : State) : Host.Outcome State Fault Refusal := .next (s.dmaReadBeat engine).settle

/-- DMA_READ_RETURN (R412). -/
def execDmaReadReturn (ch : Fin 64) (s : State) : Host.Outcome State Fault Refusal := .next (s.dmaReadReturn ch).settle

/-- DMA_WRITE_BEAT (R411, R413). -/
def execDmaWriteBeat (engine : Fin 4) (s : State) : Host.Outcome State Fault Refusal := .next (s.dmaWriteBeat engine).settle

/-- DMA_WRITE_ACK (R415). -/
def execDmaWriteAck (ch : Fin 64) (s : State) : Host.Outcome State Fault Refusal := .next (s.dmaWriteAck ch).settle

end Sys2Proof.Machine
end

