-- ==== Sys2Proof/Machine/Lomer.lean ====
section
/-!
DEFINITION. The Lomer core around its instructions: issue, fetch and the checks before an instruction acts (R72 to R78, R86,
R93), what follows it (R76, R77, R121), data accesses with the data cache, posted stores and remote windows (R92 to R97, R106,
R116, R117), and the predictor's counters (R100 to R102).
What the spec leaves open here: log entries 22 and 28.
-/

namespace Sys2Proof.Machine

/-! ## After an instruction (R72, R76, R77, R121) -/

/-- The loop-end test at the instruction at `c.pc`: the core goes on at LS or behind it. -/
def Core.loopEnd (c : Core) : Core :=
  let p := c.pc
  if c.loop1.armed && p == c.loop1.last && decide (1 < c.loop1.count.toNat) then
    { c with pc := c.loop1.start, loop1 := { c.loop1 with count := c.loop1.count - 1 } }
  else
    let c := if c.loop1.armed && p == c.loop1.last && c.loop1.count == 1 then
        { c with loop1 := { c.loop1 with count := 0, armed := false } } else c
    if c.loop0.armed && p == c.loop0.last && decide (1 < c.loop0.count.toNat) then
      { c with pc := c.loop0.start, loop0 := { c.loop0 with count := c.loop0.count - 1 } }
    else
      let c := if c.loop0.armed && p == c.loop0.last && c.loop0.count == 1 then
          { c with loop0 := { c.loop0 with count := 0, armed := false } } else c
      { c with pc := p + 4 }

/-- A level that a jump to `t` leaves is disarmed (R77). -/
def HwLoop.leave (l : HwLoop) (t : Addr) : HwLoop :=
  if l.armed && !(l.start.toNat ≤ t.toNat && t.toNat ≤ l.last.toNat) then { l with armed := false } else l

/-- An instruction retires: a delay slot sends the core to the target of its taken branch, anything else meets the loop-end
test. -/
def Core.retire (c : Core) : Core :=
  match c.delay with
  | some ⟨_, some t, dis⟩ =>
    { c with delay := none, pc := t, loop0 := if dis then c.loop0.leave t else c.loop0,
             loop1 := if dis then c.loop1.leave t else c.loop1 }
  | _ => { c with delay := none }.loopEnd

/-- A branch at the pc: its delay slot comes next (R72). -/
def Core.toSlot (c : Core) (target : Option Addr) (disarms : Bool) : Core :=
  { c with delay := some ⟨c.pc, target, disarms⟩, pc := c.pc + 4 }

/-- Whether the instruction at the pc stands at LE of an armed level. -/
def Core.atLoopEnd (c : Core) : Bool :=
  (c.loop0.armed && c.pc == c.loop0.last) || (c.loop1.armed && c.pc == c.loop1.last)

/-! ## Reads of memory by a core -/

/-- What a read by a core's port ends in; `differ` gives the lead's bytes and the first bit in which the understudy's differ. -/
inductive PortRead where
  | ok (bytes : List Byte)
  | differ (bytes : List Byte) (bit : Nat)
  | miss
  | remote
  | fault (cause : Nat)
  | mchk
  | mismatch (group lane : Nat)
  deriving DecidableEq, Repr

/-- Whether `a` lies in the own local store of a pair that compares its copies (R131). -/
def State.pairStore (s : State) (h : Hart) (a : Nat) : Bool :=
  decide (h.val < 4) && !s.isSplit h.val && regionOf a == .localStore (coreOf h)

/-- The first bit in which two byte strings differ. -/
def firstDiff (x y : List Byte) : Option Nat := (List.range (8 * x.length)).find? fun i => (natLE x).testBit i != (natLE y).testBit i

/-- A read of `n` bytes at physical address `a` on the interconnect or the own local store by hart `h` (R93, R122, R133): each
copy of a pair reads its own store, and an uncorrectable error in one of them only is a mismatch of lane CTL.MCA. -/
def State.portRead (s : State) (h : Hart) (word : Word) (a n : Nat) : State × PortRead :=
  match s.busRead (.core h word) a n with
  | (s, .busError) => (s, .fault 0x10)
  | (s, r) =>
    if s.pairStore h a then
      let (s, ok) := (unitsOf (a + 0x40000) n).foldl (State.sramCheck (.localStore (coreOf h + 1))) (s, true)
      match r, ok with
      | .ok l, true =>
        (s, match firstDiff l (s.rdBytes (a + 0x40000) n) with
            | none => .ok l
            | some b => .differ l b)
      | .eccError, false => (s, .mchk)
      | _, _ => (s, .mismatch 7 5)
    else (s, match r with | .ok l => .ok l | _ => .mchk)

/-- `s` with what a read that did not end well does to hart `h`: DBUS, the machine check of R122, or the mismatch of R138. -/
def State.portFault (s : State) (h : Hart) (word : Word) (a : Addr) (r : PortRead) : State :=
  match r with
  | .fault cause => s.dbus h word cause false a
  | .mchk => s.machineCheck h 0x01
  | .mismatch g l => s.mismatch h.val g l
  | _ => s

/-! ## Fetch: the instruction cache and the line buffer (R93 to R95, R103, R104) -/

/-- Whether hart `h` may hold the line of `a` in a cache (R94, R179, R184). -/
def State.cacheable (s : State) (a : Nat) : Bool := cachedRegion a && !s.flsUncached a

/-- Whether the instruction cache or the line buffer holds line `x`. -/
def Core.icHolds (c : Core) (x : Nat) : Bool := c.icache.contains x || c.lineBuf.contains x

/-- A line of the instruction cache with a parity error is invalidated (R95). -/
def Core.icParity (c : Core) (x : Nat) : Core :=
  if c.icBad.contains x then { c with icache := c.icache.erase x, icBad := c.icBad.erase x } else c

/-- The instruction cache takes line `x`; in a full set of four, a line of the cache's choice makes room (R94). -/
def State.icFill (s : State) (h : Hart) (x : Nat) : State :=
  if (s.hart h).icache.contains x then s
  else
    let set := (s.hart h).icache.filter fun y => y % 128 == x % 128
    if set.length < 4 then s.modHart h fun c => { c with icache := c.icache ++ [x] }
    else
      let (r, s) := s.fresh
      s.modHart h fun c => { c with icache := c.icache.erase (set.getD (r % 4) 0) ++ [x] }

/-- Line `x` for the instruction port: held, or read as a whole. -/
def State.icRead (s : State) (h : Hart) (x : Nat) : State × PortRead :=
  let s := if (s.hart h).icBad.contains x then s.modHart h fun c => c.icParity x else s
  if (s.hart h).icHolds x then (s, .ok [])
  else
    match s.busRead (.core h 0) (64 * x) 64 with
    | (s, .ok _) => (s, .ok [])
    | (s, .busError) => (s, .fault 0x08)
    | (s, .eccError) => (s, .mchk)

/-- The next sequential line is prefetched into the line buffer; where it cannot be read it is not held (R94). -/
def State.prefetch (s : State) (h : Hart) (x : Nat) : State :=
  if (s.hart h).lineBuf.contains (x + 1) || !s.cacheable (64 * x + 64) then
    s.modHart h fun c => { c with lineBuf := x :: c.lineBuf.filter fun y => y == x + 1 }
  else
    match s.icRead h (x + 1) with
    | (s, .ok _) => s.modHart h fun c => { c with lineBuf := [x, x + 1] }
    | (s, _) => s.modHart h fun c => { c with lineBuf := [x] }

/-- A fetch of hart `h` at physical address `a`; with `fill`, a line that is read goes into the instruction cache and the line
buffer. -/
def State.fetchAt (s : State) (h : Hart) (a : Nat) (fill : Bool) : State × PortRead :=
  match regionOf a with
  | .rom => (s, .ok [])
  | .localStore k => if k = coreOf h then s.portRead h 0 a 4 else (s, .fault 0x09)
  | .working | .program | .dram =>
    if s.cacheable a then
      match s.icRead h (a / 64) with
      | (s, .ok _) => (if fill then (s.icFill h (a / 64)).prefetch h (a / 64) else s, .ok [])
      | r => r
    else
      match s.flsRead a 4 with
      | (s, .ok l) => (s, .ok l)
      | (s, _) => (s, .fault 0x08)
  | _ => (s, .fault 0x09)

/-- The fetch at the pc of hart `h` (R93, R179, R184). -/
def State.fetch (s : State) (h : Hart) : State × PortRead := s.fetchAt h (ownAlias (coreOf h) (s.hart h).pc.toNat) true

/-! ## Issue -/

/-- The word that a fetch gives in place of the instruction, if it gives one: a read of a block whose erase is suspended
(R184). -/
def foreignWord (s : State) (h : Hart) : Bool := s.flsSuspended (ownAlias (coreOf h) (s.hart h).pc.toNat)
  && regionOf (ownAlias (coreOf h) (s.hart h).pc.toNat) == .program

/-- Hart `h` issues the instruction `word`: the copies of a pair whose fetched words differ retire differently, in a lane that is
free (R133, DESIGN CHOICE, log entry 31); what stops it (R93), the checks in the order reserved encoding (R86), ILLDS (R74),
ILLOOP (R78), and then its own effect. -/
def State.issue (s : State) (h : Hart) (word : Word) (reserved inSlot atEnd : Bool) (body : State → State) : State :=
  if !s.canIssue h then s
  else
    match s.fetch h with
    | (s, .fault cause) => s.ifetch h cause (s.hart h).pc
    | (s, .mchk) => s.machineCheck h 0x01
    | (s, .mismatch g l) => s.mismatch h.val g l
    | (s, .differ _ _) =>
      let (r, s) := s.fresh
      s.mismatch h.val 3 (r % 120)
    | (s, _) =>
      if foreignWord s h then s.rsvd h 0xFFFFFFFF#32
      else if reserved then s.rsvd h word
      else if inSlot && (s.hart h).delay.isSome then s.illds h word
      else if atEnd && (s.hart h).atLoopEnd then s.illoop h word
      else body s

/-- An instruction that changes only its core's registers. -/
def State.simple (s : State) (h : Hart) (word : Word) (reserved : Bool) (f : Core → Core) : State :=
  s.issue h word reserved false false fun s => s.modHart h fun c => (f c).retire

/-! ## Data accesses -/

/-- `c` with line `x` of the data cache invalidated (R95, R96). -/
def Core.dcDrop (c : Core) (x : Nat) : Core := { c with dcache := merase c.dcache x, dcBad := c.dcBad.erase x }

/-- One part of a load of hart `h`; a line with a parity error is invalidated and fetched again (R95). -/
def State.loadPart (s : State) (h : Hart) (word : Word) (a : Addr) (n : Nat) : State × PortRead :=
  let p := ownAlias (coreOf h) a.toNat
  if s.denied h p then (s, .fault 0x11)
  else if regionOf p = .remote then
    match s.byrAccess (.hart h.val) p n none with
    | none => (s, .fault 0x10)
    | some s => (s, .remote)
  else if s.cacheable p then
    if (s.hart h).dcBad.contains (p / 64) then (s.modHart h fun c => c.dcDrop (p / 64), .miss)
    else
      match mfind (s.hart h).dcache (p / 64) with
      | some l => (s, .ok ((l.drop (p % 64)).take n))
      | none => (s, .miss)
  else s.portRead h word p n

/-- The data cache takes line `x` with bytes `l`; in a full set of four, a line of the cache's choice makes room (R94). -/
def State.dcFill (s : State) (h : Hart) (x : Nat) (l : List Byte) : State :=
  let set := (s.hart h).dcache.filter fun e => e.1 % 128 == x % 128
  if set.length < 4 then s.modHart h fun c => { c with dcache := mset c.dcache x l }
  else
    let (r, s) := s.fresh
    let out := (set.getD (r % 4) (0, [])).1
    s.modHart h fun c => { c with dcache := mset (merase c.dcache out) x l }

/-- The data of a load that missed: its line is read as a whole, so that an error anywhere in it is one of the load (DEDUCED, log
entry 28), and goes into the cache. -/
def State.missPart (s : State) (h : Hart) (word : Word) (a : Addr) (n : Nat) : State × PortRead :=
  let p := ownAlias (coreOf h) a.toNat
  if s.cacheable p then
    match s.busRead (.core h word) (p / 64 * 64) 64 with
    | (s, .ok l) => (s.dcFill h (p / 64) l, .ok ((l.drop (p % 64)).take n))
    | (s, .busError) => (s, .fault 0x10)
    | (s, .eccError) => (s, .mchk)
  else s.portRead h word p n

/-- How many bits of its bytes a destination takes. -/
def LoadDst.bits : LoadDst → Nat
  | .addr _ => 40
  | .acc _ => 72
  | _ => 128

/-- The lane of group RET in which the first difference at `bit` of a load's bytes shows (R133): a bit of the destination value;
what an element of a long instruction or the frame of RFE shows is free (DESIGN CHOICE, log entry 31). -/
def State.diffLane (s : State) (dst : LoadDst) (bit : Nat) : Nat × State :=
  match dst with
  | .elem | .frame =>
    let (r, s) := s.fresh
    (r % 120, s)
  | _ => (48 + bit, s)

/-- `s` with hart `h` waiting for the first of `parts`. -/
def State.waitLoad (s : State) (h : Hart) (r : LoadReq) (parts : List (Addr × Nat)) (got : List Byte) (remote : Bool) : State :=
  s.modHart h fun c => { c with wait := .load { r with parts := parts, got := got, remote := remote } }

/-- The parts of a load in order: all its bytes, or nothing when the load waits or has ended in an exception (R116). -/
def State.loadGo (s : State) (h : Hart) (r : LoadReq) : List (Addr × Nat) → List Byte → State × Option (List Byte)
  | [], got => (s, some got)
  | (a, n) :: t, got =>
    match s.loadPart h r.word a n with
    | (s, .ok l) => s.loadGo h r t (got ++ l)
    | (s, .differ l b) =>
      if 8 * got.length + b < r.dst.bits then
        let (k, s) := s.diffLane r.dst (8 * got.length + b)
        (s.mismatch h.val 3 k, none)
      else s.loadGo h r t (got ++ l)
    | (s, .miss) => (s.waitLoad h r ((a, n) :: t) got false, none)
    | (s, .remote) => (s.waitLoad h r ((a, n) :: t) got true, none)
    | (s, e) => (s.portFault h r.word a e, none)

/-- One part of a store of hart `h` (R97, R106, R116, R117): a write to the program store is a step of its command sequence, one to
peripheral space is a register's (R9, R174). -/
def State.storePart (s : State) (h : Hart) (word : Word) (a : Addr) (l : List Byte) : State × PortRead :=
  let p := ownAlias (coreOf h) a.toNat
  if s.denied h p then (s, .fault 0x11)
  else if regionOf p = .program ∨ regionOf p = .peripheral then
    match s.busWrite (.core h word) p l with
    | (s, true) => (if cachedRegion p then s.modHart h fun c => c.dcStore p l else s, .ok [])
    | (s, false) => (s, .fault 0x10)
  else
    match s.memStore h a l with
    | (s, .done) => (s, .ok [])
    | (s, .fault) => (s, .fault 0x10)
    | (s, .mismatch) => (s, .mismatch 7 5)

/-- The parts of a store in order; the Bool says that no exception was raised (R116). -/
def State.storeGo (s : State) (h : Hart) (word : Word) (first : Option Addr) : List (Addr × List Byte) → State × Bool
  | [] => (s, true)
  | (a, l) :: t =>
    match s.storePart h word a l with
    | (s, .fault cause) =>
      match first with
      | none => (s.dbus h word cause true a, false)
      | some a0 => (s.dbusPartial h word cause a0 a, false)
    | (s, .mismatch g k) => (s.mismatch h.val g k, false)
    | (s, _) => s.storeGo h word (some (first.getD a)) t

/-- A store of bytes `l` at `a`. -/
def State.coreStore (s : State) (h : Hart) (word : Word) (a : Addr) (l : List Byte) : State × Bool :=
  s.storeGo h word none (giveParts (partsOf a l.length) l)

/-! ## The predictor (R98 to R104) -/

/-- The branches that the predictor tells apart: Bcc, J, CALL, JR, CALLR, RET. -/
inductive BranchKind where
  | cond (backward : Bool)
  | jump
  | call
  | jumpReg
  | callReg
  | ret
  deriving DecidableEq, Repr

/-- Whether a branch pushes the return stack. -/
def BranchKind.isCall : BranchKind → Bool
  | .call | .callReg => true
  | _ => false

/-- The direction that the predictor gives a branch at `p`: by its counter, under STATIC backward taken (R101, R102). -/
def Core.bpTaken (c : Core) (p : Addr) : BranchKind → Bool
  | .cond b => if c.bpStatic then b else decide (2 ≤ mget 1 c.bpDir (p.toNat / 4 % 2048))
  | _ => true

/-- The target that the predictor gives a branch at `p`, if it gives one: none under STATIC (R102). -/
def Core.bpGuess (c : Core) (p : Addr) (k : BranchKind) : Option Addr :=
  if c.bpStatic then none
  else
    match k with
    | .ret => c.bpReturn.head?
    | _ => mfind c.bpTarget (p.toNat / 4 % 512)

/-- Whether the branch at `p` was mispredicted in direction or target (R100); a target that was not predicted was not
mispredicted (R98, DEDUCED, log entry 28). -/
def Core.bpMissed (c : Core) (p : Addr) (k : BranchKind) (taken : Bool) (target : Addr) : Bool :=
  c.bpTaken p k != taken || (taken && (c.bpGuess p k).any fun t => t != target)

/-- Where a fetch on the wrong path starts, if there is one: the target predicted or the one of the branch, the instruction after
the delay slot (R103). -/
def Core.bpWrong (c : Core) (p : Addr) (k : BranchKind) (taken : Bool) (target : Addr) : Option Addr :=
  match c.bpTaken p k, taken, c.bpGuess p k with
  | true, false, g => some (g.getD target)
  | false, true, _ => some (p + 8)
  | true, true, some t => if t = target then none else some t
  | true, true, none => some (p + 8)
  | false, false, _ => none

/-- `c` with the predictor's tables after a retired branch at `p` (R98). FREEZE keeps them all; under STATIC the direction table
still follows the branches, and only what R102 names is not used (DESIGN CHOICE, log entry 28). -/
def Core.predict (c : Core) (p : Addr) (k : BranchKind) (taken : Bool) (target : Addr) : Core :=
  if c.bpFreeze then c
  else
    let i := p.toNat / 4 % 2048
    let n := mget 1 c.bpDir i
    let c := match k with
      | .cond _ => { c with bpDir := mset c.bpDir i (if taken then min 3 (n + 1) else n - 1) }
      | _ => c
    if c.bpStatic then c
    else
      let c := if taken then { c with bpTarget := mset c.bpTarget (p.toNat / 4 % 512) target } else c
      if k.isCall then { c with bpReturn := ((p + 8) :: c.bpReturn).take 8 }
      else if k = .ret then { c with bpReturn := c.bpReturn.tail } else c

/-- What a word fetched at `a` on the wrong path makes of the predictor: nothing, or what a branch would, as the free values `x`
and `y` say; FREEZE and STATIC as in `Core.predict` (R103). -/
def Core.wrongUpdate (c : Core) (a : Addr) (x y : Nat) : Core :=
  let c := if x % 2 = 1 then { c with bplook := c.bplook + 1 } else c
  if c.bpFreeze || x % 2 = 0 then c
  else
    let c := if x / 2 % 2 = 1 then { c with bpDir := mset c.bpDir (a.toNat / 4 % 2048) (x / 4 % 4) } else c
    if c.bpStatic then c
    else
      let c := if x / 16 % 2 = 1 then { c with bpTarget := mset c.bpTarget (a.toNat / 4 % 512) (BitVec.ofNat 40 y) } else c
      match x / 32 % 4 with
      | 1 => { c with bpReturn := ((a + 8) :: c.bpReturn).take 8 }
      | 2 => { c with bpReturn := c.bpReturn.tail }
      | _ => c

/-- `n` fetches on the wrong path from `a` (R103, R104): real accesses, which set what a read sets and raise no exception; whether
the line is kept, and whether the target buffer turns the path, is free. -/
def State.wrongPath (h : Hart) : Nat → Addr → State → State
  | 0, _, s => s
  | n + 1, a, s =>
    let (x, s) := s.fresh
    let (y, s) := s.fresh
    let t := if x / 256 % 2 = 1 && !(s.hart h).bpStatic then (mfind (s.hart h).bpTarget (a.toNat / 4 % 512)).getD (a + 4) else a + 4
    let s := (s.fetchAt h (ownAlias (coreOf h) a.toNat) (x / 128 % 2 == 1)).1
    State.wrongPath h n t (s.modHart h fun c => c.wrongUpdate a x y)

/-- A branch at the pc retires: BPBR counts it, BPMIS a misprediction, BPLOOK its lookup; up to three wrong-path fetches, a number
that is free, come where it was mispredicted or not predicted (R100, R103). -/
def State.branchCount (s : State) (h : Hart) (k : BranchKind) (taken : Bool) (target : Addr) : State :=
  let c := s.hart h
  let p := c.pc
  let s := s.modHart h fun c =>
    { c with bpbr := c.bpbr + 1, bpmis := if c.bpMissed p k taken target then c.bpmis + 1 else c.bpmis, bplook := c.bplook + 1 }
  let s := match c.bpWrong p k taken target with
    | none => s
    | some a =>
      let (r, s) := s.fresh
      s.wrongPath h (r % 4) a
  s.modHart h fun c => c.predict p k taken target

end Sys2Proof.Machine
end

