-- ==== Sys2Proof/Machine/Alu.lean ====
section
/-!
DEFINITION. Integer instructions of the Lomer cores, majors 0x00 to 0x07 (R63, R64, R89).
What the spec leaves open here: log entries 8 and 28.
-/

namespace Sys2Proof.Machine

/-! ## Results with their flags -/

/-- Dd takes `v` and FLAGS `f`. -/
def Core.result (c : Core) (d : Nat) (v : Word) (f : Flags) : Core := { c.setD d v with flags := f }

/-- An add with carry in (R63). -/
def Core.addOp (c : Core) (d : Nat) (a b : Word) (cin : Bool) : Core :=
  let r := a + b + (if cin then 1 else 0)
  c.result d r (c.flags.nzcv r (addCarry a b cin) (addOverflow a b cin))

/-- A subtract with borrow in (R63). -/
def Core.subOp (c : Core) (d : Nat) (a b : Word) (bin : Bool) : Core :=
  let r := a - b - (if bin then 1 else 0)
  c.result d r (c.flags.nzcv r (subCarry a b bin) (subOverflow a b bin))

/-- A result that sets N and Z only (R63). -/
def Core.nzOp (c : Core) (d : Nat) (v : Word) : Core := c.result d v (c.flags.nz v)

/-- A result in the signed range, and whether it was clamped into it. -/
def satWord (v : Int) : Word × Bool :=
  if v < -2 ^ 31 then (0x80000000#32, true) else if 2 ^ 31 ≤ v then (0x7FFFFFFF#32, true) else (BitVec.ofInt 32 v, false)

/-- A saturating result with carry `cy` (R63). -/
def Core.satOp (c : Core) (d : Nat) (v : Int) (cy : Bool) : Core :=
  let r := satWord v
  c.result d r.1 (c.flags.sat r.1 cy r.2)

/-- Shifts left, right and arithmetic right by `n` below 32 (R63). -/
def Core.shlOp (c : Core) (d : Nat) (a : Word) (n : Nat) : Core :=
  c.result d (a <<< n) (c.flags.shift (a <<< n) n (a.getLsbD (32 - n)))
def Core.shrOp (c : Core) (d : Nat) (a : Word) (n : Nat) : Core :=
  c.result d (a >>> n) (c.flags.shift (a >>> n) n (a.getLsbD (n - 1)))
def Core.sarOp (c : Core) (d : Nat) (a : Word) (n : Nat) : Core :=
  c.result d (a.sshiftRight n) (c.flags.shift (a.sshiftRight n) n (a.getLsbD (n - 1)))

/-- Number of leading zeros, 0 to 32. -/
def clz32 (a : Word) : Nat := if a = 0 then 32 else 31 - a.toNat.log2

/-- ABS: 0x8000_0000 saturates; its carry is no add's or subtract's, so `cy` is free (DESIGN CHOICE, log entry 8). -/
def Core.absOp (c : Core) (d : Nat) (a : Word) (cy : Bool) : Core := c.satOp d a.toInt.natAbs cy

/-- NEG: 0 − a; of 0x8000_0000 the spec does not say whether it wraps or clamps, so `clamp` is free (DESIGN CHOICE, log entry 8). -/
def Core.negOp (c : Core) (d : Nat) (a : Word) (clamp : Bool) : Core :=
  if a = 0x80000000#32 ∧ ¬ clamp then c.subOp d 0 a false else c.satOp d (-a.toInt) (a == 0)

/-- The major of the Register format of integer instructions, as one instruction of minor `minor`. -/
def State.alu (s : State) (h : Hart) (minor : Nat) (d s1 s2 : BitVec 5) (aux : BitVec 6) (reserved : Bool) (f : Core → Core) :
    State := s.simple h (wordReg 0x00 minor d s1 s2 aux) reserved f

/-! ## Register format -/

/-- ADD (R89). -/
def execAdd (h : Hart) (d s1 s2 : BitVec 5) (aux : BitVec 6) (s : State) : Host.Outcome State Fault Refusal :=
  .next (s.alu h 0 d s1 s2 aux (aux != 0) fun c => c.addOp d.toNat (c.dr s1.toNat) (c.dr s2.toNat) false)

/-- ADDC (R89). -/
def execAddc (h : Hart) (d s1 s2 : BitVec 5) (aux : BitVec 6) (s : State) : Host.Outcome State Fault Refusal :=
  .next (s.alu h 1 d s1 s2 aux (aux != 0) fun c => c.addOp d.toNat (c.dr s1.toNat) (c.dr s2.toNat) c.flags.c)

/-- SUB (R89). -/
def execSub (h : Hart) (d s1 s2 : BitVec 5) (aux : BitVec 6) (s : State) : Host.Outcome State Fault Refusal :=
  .next (s.alu h 2 d s1 s2 aux (aux != 0) fun c => c.subOp d.toNat (c.dr s1.toNat) (c.dr s2.toNat) false)

/-- SUBC (R89). -/
def execSubc (h : Hart) (d s1 s2 : BitVec 5) (aux : BitVec 6) (s : State) : Host.Outcome State Fault Refusal :=
  .next (s.alu h 3 d s1 s2 aux (aux != 0) fun c => c.subOp d.toNat (c.dr s1.toNat) (c.dr s2.toNat) !c.flags.c)

/-- AND (R89). -/
def execAnd (h : Hart) (d s1 s2 : BitVec 5) (aux : BitVec 6) (s : State) : Host.Outcome State Fault Refusal :=
  .next (s.alu h 4 d s1 s2 aux (aux != 0) fun c => c.nzOp d.toNat ((c.dr s1.toNat) &&& (c.dr s2.toNat)))

/-- OR (R89). -/
def execOr (h : Hart) (d s1 s2 : BitVec 5) (aux : BitVec 6) (s : State) : Host.Outcome State Fault Refusal :=
  .next (s.alu h 5 d s1 s2 aux (aux != 0) fun c => c.nzOp d.toNat ((c.dr s1.toNat) ||| (c.dr s2.toNat)))

/-- XOR (R89). -/
def execXor (h : Hart) (d s1 s2 : BitVec 5) (aux : BitVec 6) (s : State) : Host.Outcome State Fault Refusal :=
  .next (s.alu h 6 d s1 s2 aux (aux != 0) fun c => c.nzOp d.toNat ((c.dr s1.toNat) ^^^ (c.dr s2.toNat)))

/-- ANDN (R89). -/
def execAndn (h : Hart) (d s1 s2 : BitVec 5) (aux : BitVec 6) (s : State) : Host.Outcome State Fault Refusal :=
  .next (s.alu h 7 d s1 s2 aux (aux != 0) fun c => c.nzOp d.toNat ((c.dr s1.toNat) &&& ~~~ (c.dr s2.toNat)))

/-- SHL (R89). -/
def execShl (h : Hart) (d s1 s2 : BitVec 5) (aux : BitVec 6) (s : State) : Host.Outcome State Fault Refusal :=
  .next (s.alu h 8 d s1 s2 aux (aux != 0) fun c => c.shlOp d.toNat (c.dr s1.toNat) ((c.dr s2.toNat).toNat % 32))

/-- SHR (R89). -/
def execShr (h : Hart) (d s1 s2 : BitVec 5) (aux : BitVec 6) (s : State) : Host.Outcome State Fault Refusal :=
  .next (s.alu h 9 d s1 s2 aux (aux != 0) fun c => c.shrOp d.toNat (c.dr s1.toNat) ((c.dr s2.toNat).toNat % 32))

/-- SAR (R89). -/
def execSar (h : Hart) (d s1 s2 : BitVec 5) (aux : BitVec 6) (s : State) : Host.Outcome State Fault Refusal :=
  .next (s.alu h 10 d s1 s2 aux (aux != 0) fun c => c.sarOp d.toNat (c.dr s1.toNat) ((c.dr s2.toNat).toNat % 32))

/-- SHLI (R89). -/
def execShli (h : Hart) (d s1 s2 : BitVec 5) (aux : BitVec 6) (s : State) : Host.Outcome State Fault Refusal :=
  .next (s.alu h 11 d s1 s2 aux (s2 != 0 || aux.getLsbD 5) fun c => c.shlOp d.toNat (c.dr s1.toNat) (aux.toNat % 32))

/-- SHRI (R89). -/
def execShri (h : Hart) (d s1 s2 : BitVec 5) (aux : BitVec 6) (s : State) : Host.Outcome State Fault Refusal :=
  .next (s.alu h 12 d s1 s2 aux (s2 != 0 || aux.getLsbD 5) fun c => c.shrOp d.toNat (c.dr s1.toNat) (aux.toNat % 32))

/-- SARI (R89). -/
def execSari (h : Hart) (d s1 s2 : BitVec 5) (aux : BitVec 6) (s : State) : Host.Outcome State Fault Refusal :=
  .next (s.alu h 13 d s1 s2 aux (s2 != 0 || aux.getLsbD 5) fun c => c.sarOp d.toNat (c.dr s1.toNat) (aux.toNat % 32))

/-- MUL (R89). -/
def execMul (h : Hart) (d s1 s2 : BitVec 5) (aux : BitVec 6) (s : State) : Host.Outcome State Fault Refusal :=
  .next (s.alu h 14 d s1 s2 aux (aux != 0) fun c => c.nzOp d.toNat ((c.dr s1.toNat) * (c.dr s2.toNat)))

/-- MULHS (R89). -/
def execMulhs (h : Hart) (d s1 s2 : BitVec 5) (aux : BitVec 6) (s : State) : Host.Outcome State Fault Refusal :=
  .next (s.alu h 15 d s1 s2 aux (aux != 0) fun c => c.nzOp d.toNat (BitVec.ofInt 32 ((c.dr s1.toNat).toInt * (c.dr s2.toNat).toInt / 2 ^ 32)))

/-- MULHU (R89). -/
def execMulhu (h : Hart) (d s1 s2 : BitVec 5) (aux : BitVec 6) (s : State) : Host.Outcome State Fault Refusal :=
  .next (s.alu h 16 d s1 s2 aux (aux != 0) fun c => c.nzOp d.toNat (BitVec.ofNat 32 ((c.dr s1.toNat).toNat * (c.dr s2.toNat).toNat / 2 ^ 32)))

/-- ADDS (R89). -/
def execAdds (h : Hart) (d s1 s2 : BitVec 5) (aux : BitVec 6) (s : State) : Host.Outcome State Fault Refusal :=
  .next (s.alu h 17 d s1 s2 aux (aux != 0) fun c => c.satOp d.toNat ((c.dr s1.toNat).toInt + (c.dr s2.toNat).toInt) (addCarry (c.dr s1.toNat) (c.dr s2.toNat) false))

/-- SUBS (R89). -/
def execSubs (h : Hart) (d s1 s2 : BitVec 5) (aux : BitVec 6) (s : State) : Host.Outcome State Fault Refusal :=
  .next (s.alu h 18 d s1 s2 aux (aux != 0) fun c => c.satOp d.toNat ((c.dr s1.toNat).toInt - (c.dr s2.toNat).toInt) (subCarry (c.dr s1.toNat) (c.dr s2.toNat) false))

/-- ABS (R89). -/
def execAbs (h : Hart) (d s1 s2 : BitVec 5) (aux : BitVec 6) (s : State) : Host.Outcome State Fault Refusal :=
  .next (s.issue h (wordReg 0x00 19 d s1 s2 aux) (aux != 0) false false fun s =>
    s.fresh.2.modHart h fun c => (c.absOp d.toNat (c.dr s1.toNat) (s.fresh.1 % 2 == 1)).retire)

/-- NEG (R89). -/
def execNeg (h : Hart) (d s1 s2 : BitVec 5) (aux : BitVec 6) (s : State) : Host.Outcome State Fault Refusal :=
  .next (s.issue h (wordReg 0x00 20 d s1 s2 aux) (aux != 0) false false fun s =>
    s.fresh.2.modHart h fun c => (c.negOp d.toNat (c.dr s1.toNat) (s.fresh.1 % 2 == 1)).retire)

/-- MIN (R89). -/
def execMin (h : Hart) (d s1 s2 : BitVec 5) (aux : BitVec 6) (s : State) : Host.Outcome State Fault Refusal :=
  .next (s.alu h 21 d s1 s2 aux (aux != 0) fun c => c.nzOp d.toNat (if (c.dr s1.toNat).toInt ≤ (c.dr s2.toNat).toInt then (c.dr s1.toNat) else (c.dr s2.toNat)))

/-- MAX (R89). -/
def execMax (h : Hart) (d s1 s2 : BitVec 5) (aux : BitVec 6) (s : State) : Host.Outcome State Fault Refusal :=
  .next (s.alu h 22 d s1 s2 aux (aux != 0) fun c => c.nzOp d.toNat (if (c.dr s2.toNat).toInt ≤ (c.dr s1.toNat).toInt then (c.dr s1.toNat) else (c.dr s2.toNat)))

/-- CLZ (R89). -/
def execClz (h : Hart) (d s1 s2 : BitVec 5) (aux : BitVec 6) (s : State) : Host.Outcome State Fault Refusal :=
  .next (s.alu h 23 d s1 s2 aux (aux != 0) fun c => c.nzOp d.toNat (BitVec.ofNat 32 (clz32 (c.dr s1.toNat))))

/-- MOV (R89). -/
def execMov (h : Hart) (d s1 s2 : BitVec 5) (aux : BitVec 6) (s : State) : Host.Outcome State Fault Refusal :=
  .next (s.alu h 24 d s1 s2 aux (aux != 0) fun c => c.setD d.toNat (c.dr s1.toNat))

/-- CMP (R89). -/
def execCmp (h : Hart) (d s1 s2 : BitVec 5) (aux : BitVec 6) (s : State) : Host.Outcome State Fault Refusal :=
  .next (s.alu h 25 d s1 s2 aux (d != 0 || aux != 0) fun c => { c with flags := (c.subOp d.toNat (c.dr s1.toNat) (c.dr s2.toNat) false).flags })

/-- TST (R89). -/
def execTst (h : Hart) (d s1 s2 : BitVec 5) (aux : BitVec 6) (s : State) : Host.Outcome State Fault Refusal :=
  .next (s.alu h 26 d s1 s2 aux (d != 0 || aux != 0) fun c => { c with flags := c.flags.nz ((c.dr s1.toNat) &&& (c.dr s2.toNat)) })

/-- SEL (R89). -/
def execSel (h : Hart) (d s1 s2 : BitVec 5) (aux : BitVec 6) (s : State) : Host.Outcome State Fault Refusal :=
  .next (s.alu h 27 d s1 s2 aux (aux.getLsbD 4 || aux.getLsbD 5) fun c => c.setD d.toNat (if c.flags.cond (aux.toNat % 16) then (c.dr s1.toNat) else (c.dr s2.toNat)))

/-! ## Immediate format -/

/-- ADDI (R89). -/
def execAddi (h : Hart) (d s1 : BitVec 5) (imm : BitVec 16) (s : State) : Host.Outcome State Fault Refusal :=
  .next (s.simple h (wordImm 0x01 d s1 imm) (false) fun c => c.addOp d.toNat (c.dr s1.toNat) (imm.signExtend 32) false)

/-- ANDI (R89). -/
def execAndi (h : Hart) (d s1 : BitVec 5) (imm : BitVec 16) (s : State) : Host.Outcome State Fault Refusal :=
  .next (s.simple h (wordImm 0x02 d s1 imm) (false) fun c => c.nzOp d.toNat ((c.dr s1.toNat) &&& imm.zeroExtend 32))

/-- ORI (R89). -/
def execOri (h : Hart) (d s1 : BitVec 5) (imm : BitVec 16) (s : State) : Host.Outcome State Fault Refusal :=
  .next (s.simple h (wordImm 0x03 d s1 imm) (false) fun c => c.nzOp d.toNat ((c.dr s1.toNat) ||| imm.zeroExtend 32))

/-- XORI (R89). -/
def execXori (h : Hart) (d s1 : BitVec 5) (imm : BitVec 16) (s : State) : Host.Outcome State Fault Refusal :=
  .next (s.simple h (wordImm 0x04 d s1 imm) (false) fun c => c.nzOp d.toNat ((c.dr s1.toNat) ^^^ imm.zeroExtend 32))

/-- CMPI (R89). -/
def execCmpi (h : Hart) (d s1 : BitVec 5) (imm : BitVec 16) (s : State) : Host.Outcome State Fault Refusal :=
  .next (s.simple h (wordImm 0x05 d s1 imm) (d != 0) fun c => { c with flags := (c.subOp 0 (c.dr s1.toNat) (imm.signExtend 32) false).flags })

/-- MOVI (R89). -/
def execMovi (h : Hart) (d s1 : BitVec 5) (imm : BitVec 16) (s : State) : Host.Outcome State Fault Refusal :=
  .next (s.simple h (wordImm 0x06 d s1 imm) (s1 != 0) fun c => c.setD d.toNat (imm.signExtend 32))

/-- MOVHI (R89). -/
def execMovhi (h : Hart) (d s1 : BitVec 5) (imm : BitVec 16) (s : State) : Host.Outcome State Fault Refusal :=
  .next (s.simple h (wordImm 0x07 d s1 imm) (s1 != 0) fun c => c.setD d.toNat (imm ++ (c.dr d.toNat).extractLsb' 0 16))

end Sys2Proof.Machine
end

