-- ==== Sys2Proof/Machine/LoadStore.lean ====
section
/-!
DEFINITION. Loads, stores and the resumable long instructions of the Lomer cores, majors 0x10 to 0x16 and 0x20 (R67 to R71, R83
to R85, R116), with the return of a load's data (R92).
What the spec leaves open here: log entry 28.
-/

namespace Sys2Proof.Machine

/-! ## Long instructions: one element (R83) -/

/-- The fields of a long instruction's word. -/
def longFields (w : Word) : Nat × Nat × Nat × Nat × Nat :=
  (fieldOf w 10 6, fieldOf w 25 21, fieldOf w 20 16, fieldOf w 15 11, fieldOf w 5 0)

/-- The data register that counts the elements of a long instruction. -/
def longCounter (w : Word) : Nat :=
  let (minor, _, _, s2, aux) := longFields w
  if 1 ≤ minor ∧ minor ≤ 4 then aux % 32 else s2

/-- The element size of VMAC in bytes. -/
def vmacBytes (minor : Nat) : Nat := if minor = 1 ∨ minor = 3 then 2 else 4

/-- The reads of the next element of a long instruction. -/
def longReads (c : Core) (w : Word) : List (Addr × Nat) :=
  let (minor, _, s1, s2, _) := longFields w
  if minor = 0 then [(c.ar (s1 / 2), 1)]
  else if minor ≤ 4 then
    partsOf (c.ar (s1 / 2)) (vmacBytes minor) ++ partsOf (c.ar (s2 / 2)) (vmacBytes minor)
  else [(c.ar (s1 / 2), 1)]

/-- The element of a long instruction with the bytes read for it; BMOV's store apart, it changes operand registers only. A
modifier that holds no buffer length leaves Aa at the free value `open_` (R69). -/
def Core.longElem (c : Core) (w : Word) (l : List Byte) (open_ : Addr) : Core :=
  let (minor, d, s1, s2, _) := longFields w
  let n := longCounter w
  let c1 := c.setD n (c.dr n - 1)
  match minor with
  | 0 => (c1.setA (d / 2) (c.ar (d / 2) + 1)).setA (s1 / 2) (c.ar (s1 / 2) + 1)
  | 5 =>
    let c := (c.setD d (BitVec.ofNat 32 (crc32c (c.dr d).toNat l))).setA (s1 / 2) (c.ar (s1 / 2) + 1)
    c.setD n (c.dr n - 1)
  | 6 =>
    let v := fieldOf (c.dr d) 31 16 * 2 ^ 16 + crc16 (fieldOf (c.dr d) 15 0) l
    let c := (c.setD d (BitVec.ofNat 32 v)).setA (s1 / 2) (c.ar (s1 / 2) + 1)
    c.setD n (c.dr n - 1)
  | _ =>
    let k := vmacBytes minor
    let x := sext (8 * k) (natLE (l.take k))
    let y := sext (8 * k) (natLE (l.drop k))
    let a := c.ar (s1 / 2)
    let step := if minor ≤ 2 then a + BitVec.ofNat 40 k
      else if lengthOk (c.mr (s1 / 2)) then moduloStep a (c.mr (s1 / 2)) k else open_
    ((c1.setAcc d (c.accr d + BitVec.ofInt 72 (x * y))).setA (s1 / 2) step).setA (s2 / 2) (c.ar (s2 / 2) + BitVec.ofNat 40 k)

/-- The element of a long instruction at hart `h`; the Bool says that it completed (R85). -/
def State.longApply (s : State) (h : Hart) (w : Word) (l : List Byte) : State × Bool :=
  let (r, s) := s.fresh
  let (minor, d, _, _, _) := longFields w
  let (s, ok) := if minor = 0 then s.coreStore h w ((s.hart h).ar (d / 2)) l else (s, true)
  if ok then (s.modHart h fun c => c.longElem w l (BitVec.ofNat 40 r), true) else (s, false)

/-- A long instruction whose count has reached 0 retires (R85). -/
def State.longEndTest (s : State) (h : Hart) (w : Word) : State :=
  if (s.hart h).dr (longCounter w) = 0 then s.modHart h Core.retire else s

/-! ## The end of a load (R68, R71) -/

/-- The registers that a load's bytes go to; the write-back comes first, so that the loaded value stands (R68). -/
def Core.loaded (c : Core) (r : LoadReq) (l : List Byte) : Core :=
  let c := match r.wb with | some (a, v) => c.setA a v | none => c
  match r.dst with
  | .data d sg => c.setD d (if sg then BitVec.ofInt 32 (sext (8 * l.length) (natLE l)) else BitVec.ofNat 32 (natLE l))
  | .dataPair d => (c.setD d (BitVec.ofNat 32 (natLE (l.take 4)))).setD (d + 1) (BitVec.ofNat 32 (natLE (l.drop 4)))
  | .addr a => c.setA a (BitVec.ofNat 40 (natLE (l.take 5)))
  | .acc n => c.setAcc n (BitVec.ofNat 72 (natLE (l.take 9)))
  | .elem => c
  | .frame => c.rfeReturn (leAt l 0 4) (leAt l 4 4) (leAt l 8 4) (leAt l 12 4)

/-- A load has all its bytes: its registers are written and it retires; an element of a long instruction completes; RFE goes to
its return address. -/
def State.loadDone (s : State) (h : Hart) (r : LoadReq) (l : List Byte) : State :=
  let s := s.modHart h fun c => { c with wait := .none }
  match r.dst with
  | .elem =>
    match s.longApply h r.word l with
    | (s, true) => s.longEndTest h r.word
    | (s, false) => s
  | .frame => s.modHart h fun c => c.loaded r l
  | _ => s.modHart h fun c => (c.loaded r l).retire

/-- A load from its first part on. -/
def State.load (s : State) (h : Hart) (r : LoadReq) : State :=
  match s.loadGo h r r.parts r.got with
  | (s, some l) => s.loadDone h r l
  | (s, none) => s

/-- A part of a waiting load ends with `res`; the load goes on with its next part. -/
def State.loadResume (s : State) (h : Hart) (r : LoadReq) (a : Addr) (rest : List (Addr × Nat)) (res : PortRead) : State :=
  let s := s.modHart h fun c => { c with wait := .none }
  match res with
  | .ok l => s.load h { r with parts := rest, got := r.got ++ l, remote := false }
  | .differ l b =>
    if 8 * r.got.length + b < r.dst.bits then
      let (k, s) := s.diffLane r.dst (8 * r.got.length + b)
      s.mismatch h.val 3 k
    else s.load h { r with parts := rest, got := r.got ++ l, remote := false }
  | e => s.portFault h r.word a e

/-- The data of a load that missed arrives (R92). -/
def State.missReturn (s : State) (h : Hart) : State :=
  match (s.hart h).wait with
  | .load r =>
    match r.parts with
    | (a, n) :: rest =>
      if r.remote then s
      else
        match s.missPart h r.word a n with
        | (s, res) => s.loadResume h r a rest res
    | [] => s
  | _ => s

/-! ## Loads and stores (R67, R71) -/

/-- What a Memory format instruction accesses: its address and the write-back. -/
def Core.access (c : Core) (a : BitVec 4) (mode : BitVec 3) (off : BitVec 12) (r : Nat) : Addr × Option (Nat × Addr) :=
  let p := addressing c a.toNat mode off (BitVec.ofNat 40 r)
  (p.1, p.2.map fun v => (a.toNat, v))

/-- A load of `n` bytes into `dst`; `align` asks for an address that is a multiple of 8 (R116). -/
def State.loadIns (s : State) (h : Hart) (word : Word) (reserved : Bool) (a : BitVec 4) (mode : BitVec 3) (off : BitVec 12)
    (n : Nat) (align : Bool) (dst : LoadDst) : State :=
  s.issue h word (reserved || memBad a mode off) false false fun s =>
    let (r, s) := s.fresh
    let p := (s.hart h).access a mode off r
    if align && p.1.toNat % 8 != 0 then s.dbus h word 0x13 false p.1
    else s.load h { word := word, dst := dst, parts := partsOf p.1 n, wb := p.2 }

/-- A store of the bytes that `src` takes from the core. -/
def State.storeIns (s : State) (h : Hart) (word : Word) (reserved : Bool) (a : BitVec 4) (mode : BitVec 3) (off : BitVec 12)
    (align : Bool) (src : Core → List Byte) : State :=
  s.issue h word (reserved || memBad a mode off) false false fun s =>
    let (r, s) := s.fresh
    let p := (s.hart h).access a mode off r
    if align && p.1.toNat % 8 != 0 then s.dbus h word 0x13 true p.1
    else
      match s.coreStore h word p.1 (src (s.hart h)) with
      | (s, true) => s.modHart h fun c => (match p.2 with | some (x, v) => c.setA x v | none => c).retire
      | (s, false) => s

/-- The destination of LDS and LDZ. -/
def dataDst (d : BitVec 5) (size : BitVec 2) (signed : Bool) : LoadDst :=
  if size = 3 then .dataPair d.toNat else .data d.toNat signed

/-- The bytes of ST (R71). -/
def Core.stBytes (c : Core) (d : Nat) (size : BitVec 2) : List Byte :=
  if size = 3 then bytesLE 4 (c.dr d).toNat ++ bytesLE 4 (c.dr (d + 1)).toNat else bytesLE (sizeBytes size) (c.dr d).toNat

/-- The bytes of STA (R71). -/
def Core.staBytes (c : Core) (a : Nat) : List Byte := bytesLE 8 (c.ar a).toNat

/-- The bytes of STACC (R71). -/
def Core.staccBytes (c : Core) (n : Nat) : List Byte :=
  bytesLE 9 (c.accr n).toNat ++ List.replicate 7 (if (c.accr n).msb then 0xFF#8 else 0x00#8)

/-- LDS (R71). -/
def execLds (h : Hart) (d : BitVec 5) (a : BitVec 4) (mode : BitVec 3) (size : BitVec 2) (off : BitVec 12) (s : State) :
    Host.Outcome State Fault Refusal :=
  .next (s.loadIns h (wordMem 0x10 d a mode size off) (size == 3 && d.getLsbD 0) a mode off (sizeBytes size) false
    (dataDst d size true))

/-- LDZ (R71). -/
def execLdz (h : Hart) (d : BitVec 5) (a : BitVec 4) (mode : BitVec 3) (size : BitVec 2) (off : BitVec 12) (s : State) :
    Host.Outcome State Fault Refusal :=
  .next (s.loadIns h (wordMem 0x11 d a mode size off) (size == 3 && d.getLsbD 0) a mode off (sizeBytes size) false
    (dataDst d size false))

/-- ST (R71). -/
def execSt (h : Hart) (d : BitVec 5) (a : BitVec 4) (mode : BitVec 3) (size : BitVec 2) (off : BitVec 12) (s : State) :
    Host.Outcome State Fault Refusal :=
  .next (s.storeIns h (wordMem 0x12 d a mode size off) (size == 3 && d.getLsbD 0) a mode off false
    fun c => c.stBytes d.toNat size)

/-- LDA (R71). -/
def execLda (h : Hart) (d : BitVec 5) (a : BitVec 4) (mode : BitVec 3) (size : BitVec 2) (off : BitVec 12) (s : State) :
    Host.Outcome State Fault Refusal :=
  .next (s.loadIns h (wordMem 0x13 d a mode size off) (size != 3 || aBad d) a mode off 8 false (.addr (aIdx d)))

/-- STA (R71). -/
def execSta (h : Hart) (d : BitVec 5) (a : BitVec 4) (mode : BitVec 3) (size : BitVec 2) (off : BitVec 12) (s : State) :
    Host.Outcome State Fault Refusal :=
  .next (s.storeIns h (wordMem 0x14 d a mode size off) (size != 3 || aBad d) a mode off false fun c => c.staBytes (aIdx d))

/-- LDACC (R71, R116). -/
def execLdacc (h : Hart) (d : BitVec 5) (a : BitVec 4) (mode : BitVec 3) (size : BitVec 2) (off : BitVec 12) (s : State) :
    Host.Outcome State Fault Refusal :=
  .next (s.loadIns h (wordMem 0x15 d a mode size off) (size != 3 || kBad d) a mode off 16 true (.acc d.toNat))

/-- STACC (R71, R116). -/
def execStacc (h : Hart) (d : BitVec 5) (a : BitVec 4) (mode : BitVec 3) (size : BitVec 2) (off : BitVec 12) (s : State) :
    Host.Outcome State Fault Refusal :=
  .next (s.storeIns h (wordMem 0x16 d a mode size off) (size != 3 || kBad d) a mode off true fun c => c.staccBytes d.toNat)

/-- LOAD_MISS_RETURN (R92). -/
def execLoadMissReturn (h : Hart) (s : State) : Host.Outcome State Fault Refusal := .next (s.missReturn h)

/-! ## Long instructions (R83 to R85) -/

/-- Elements of a long instruction, at most `fuel`, until its count is 0, a load waits or an exception is taken. -/
def State.longRun (h : Hart) (w : Word) : Nat → State → State
  | 0, s => s.longEndTest h w
  | fuel + 1, s =>
    if (s.hart h).dr (longCounter w) = 0 then s.modHart h Core.retire
    else
      match s.loadGo h { word := w, dst := .elem, parts := [] } (longReads (s.hart h) w) [] with
      | (s, none) => s
      | (s, some l) =>
        match s.longApply h w l with
        | (s, false) => s
        | (s, true) => State.longRun h w fuel s

/-- A long instruction issues; an interrupt stops it after `elems` elements if its count does not end it first (R85). -/
def State.longIns (s : State) (h : Hart) (minor : Nat) (d s1 s2 : BitVec 5) (aux : BitVec 6) (reserved : Bool) (elems : Nat) :
    State :=
  let w := wordReg 0x20 minor d s1 s2 aux
  s.issue h w reserved true false fun s =>
    State.longRun h w (min elems ((s.hart h).dr (longCounter w)).toNat) s

/-- BMOV (R83). -/
def execBmov (h : Hart) (d s1 s2 : BitVec 5) (aux : BitVec 6) (elems : Nat) (s : State) : Host.Outcome State Fault Refusal :=
  .next (s.longIns h 0 d s1 s2 aux (aBad d || aBad s1 || d == s1 || aux != 0) elems)

/-- Whether a VMAC encoding is reserved (R59, R61, R85). -/
def vmacBad (d s1 s2 : BitVec 5) (aux : BitVec 6) (modulo : Bool) : Bool :=
  kBad d || aBad s1 || aBad s2 || s1 == s2 || aux.getLsbD 5 || (modulo && decide (8 ≤ aIdx s1))

/-- VMAC16 (R83). -/
def execVmac16 (h : Hart) (d s1 s2 : BitVec 5) (aux : BitVec 6) (elems : Nat) (s : State) : Host.Outcome State Fault Refusal :=
  .next (s.longIns h 1 d s1 s2 aux (vmacBad d s1 s2 aux false) elems)

/-- VMAC32 (R83). -/
def execVmac32 (h : Hart) (d s1 s2 : BitVec 5) (aux : BitVec 6) (elems : Nat) (s : State) : Host.Outcome State Fault Refusal :=
  .next (s.longIns h 2 d s1 s2 aux (vmacBad d s1 s2 aux false) elems)

/-- VMAC16M (R83). -/
def execVmac16m (h : Hart) (d s1 s2 : BitVec 5) (aux : BitVec 6) (elems : Nat) (s : State) :
    Host.Outcome State Fault Refusal := .next (s.longIns h 3 d s1 s2 aux (vmacBad d s1 s2 aux true) elems)

/-- VMAC32M (R83). -/
def execVmac32m (h : Hart) (d s1 s2 : BitVec 5) (aux : BitVec 6) (elems : Nat) (s : State) :
    Host.Outcome State Fault Refusal := .next (s.longIns h 4 d s1 s2 aux (vmacBad d s1 s2 aux true) elems)

/-- CRCB32 (R83, R84). -/
def execCrcb32 (h : Hart) (d s1 s2 : BitVec 5) (aux : BitVec 6) (elems : Nat) (s : State) : Host.Outcome State Fault Refusal :=
  .next (s.longIns h 5 d s1 s2 aux (aBad s1 || aux != 0) elems)

/-- CRCB16 (R83, R84). -/
def execCrcb16 (h : Hart) (d s1 s2 : BitVec 5) (aux : BitVec 6) (elems : Nat) (s : State) : Host.Outcome State Fault Refusal :=
  .next (s.longIns h 6 d s1 s2 aux (aBad s1 || aux != 0) elems)

end Sys2Proof.Machine
end

