-- ==== Sys2Proof/Machine/Branch.lean ====
section
/-!
DEFINITION. Branches, hardware loops and the instructions that wait for events or the cue, majors 0x18 to 0x1F (R62, R72 to R82).
What the spec leaves open here: log entry 28.
-/

namespace Sys2Proof.Machine

/-! ## Branches (R62, R72, R73) -/

/-- The address `disp` words from `p`. -/
def wordTarget {n : Nat} (p : Addr) (disp : BitVec n) : Addr := p + disp.signExtend 40 * 4

/-- A branch of kind `k` at hart `h` retires, taken or not: counted, A14 written by a call, its delay slot next; a jump or a
taken Bcc may disarm loops (R77). -/
def State.branchTo (s : State) (h : Hart) (k : BranchKind) (taken : Bool) (target : Addr) : State :=
  (s.branchCount h k taken target).modHart h fun c =>
    (if k.isCall then c.setA 14 (c.pc + 8) else c).toSlot (if taken then some target else none) (!k.isCall && k != .ret)

/-- Bcc (R64, R72, R77): an annulled branch that is not taken passes its delay slot by. -/
def execBcc (h : Hart) (annul : Bool) (cond : BitVec 4) (disp : BitVec 21) (s : State) : Host.Outcome State Fault Refusal :=
  .next (s.issue h (wordBcc annul cond disp) false true true fun s =>
    let c := s.hart h
    let taken := c.flags.cond cond.toNat
    let target := wordTarget c.pc disp
    if !taken && annul then
      (s.branchCount h (.cond disp.msb) false target).modHart h fun c => { c with pc := c.pc + 4 }.loopEnd
    else s.branchTo h (.cond disp.msb) taken target)

/-- J (R72, R73). -/
def execJ (h : Hart) (annul : Bool) (disp : BitVec 25) (s : State) : Host.Outcome State Fault Refusal :=
  .next (s.issue h (wordJump 0x19 annul disp) annul true true fun s =>
    s.branchTo h .jump true (wordTarget (s.hart h).pc disp))

/-- CALL (R62, R73). -/
def execCall (h : Hart) (annul : Bool) (disp : BitVec 25) (s : State) : Host.Outcome State Fault Refusal :=
  .next (s.issue h (wordJump 0x1A annul disp) annul true true fun s =>
    s.branchTo h .call true (wordTarget (s.hart h).pc disp))

/-- The target in Aa with bits [1:0] ignored (R73). -/
def Core.jumpTarget (c : Core) (d : BitVec 5) : Addr := c.ar (aIdx d) &&& ~~~ 3#40

/-- JR; JR A14 is the return RET (R62, R73, R77). -/
def execJr (h : Hart) (d s1 s2 : BitVec 5) (aux : BitVec 6) (s : State) : Host.Outcome State Fault Refusal :=
  .next (s.issue h (wordReg 0x1B 0 d s1 s2 aux) (aBad d || s1 != 0 || s2 != 0 || aux != 0) true true fun s =>
    s.branchTo h (if aIdx d = 14 then .ret else .jumpReg) true ((s.hart h).jumpTarget d))

/-- CALLR (R62, R73). -/
def execCallr (h : Hart) (d s1 s2 : BitVec 5) (aux : BitVec 6) (s : State) : Host.Outcome State Fault Refusal :=
  .next (s.issue h (wordReg 0x1B 1 d s1 s2 aux) (aBad d || s1 != 0 || s2 != 0 || aux != 0) true true fun s =>
    s.branchTo h .callReg true ((s.hart h).jumpTarget d))

/-! ## Hardware loops (R75, R78) -/

/-- LOOP (R75, R78). -/
def execLoop (h : Hart) (level imm : Bool) (cnt len : BitVec 12) (s : State) : Host.Outcome State Fault Refusal :=
  let w := wordLoop level imm cnt len
  .next (s.issue h w (len == 0 || (!imm && cnt.extractLsb' 5 7 != 0)) true true fun s =>
    let c := s.hart h
    let last := c.pc + len.zeroExtend 40 * 4
    if (!level && c.loop1.armed) || (level && c.loop0.armed && decide (c.loop0.last.toNat ≤ last.toNat)) then s.illoop h w
    else
      let n : Word := if imm then cnt.zeroExtend 32 else c.dr (cnt.toNat % 32)
      let l : HwLoop := ⟨c.pc + 4, last, n, n != 0⟩
      s.modHart h fun c =>
        let c := if level then { c with loop1 := l } else { c with loop0 := l }
        if n = 0 then { c with pc := last + 4 } else { c with pc := c.pc + 4 })

/-! ## Events and the cue (R79 to R82) -/

/-- WFE completes: Dd takes the task inputs that have fired and whether an enabled interrupt is pending. -/
def Core.wfeDone (c : Core) (d : Nat) : Core :=
  let v := c.inputs.zeroExtend 32 ||| (if c.intPending then 0x10000#32 else 0#32)
  ({ c with inputs := 0, wait := .none }.setD d v).retire

/-- Whether a WFE ends (R79). -/
def Core.wfeReady (c : Core) : Bool := c.inputs != 0 || c.intPending

/-- WFE (R79). -/
def execWfe (h : Hart) (d s1 s2 : BitVec 5) (aux : BitVec 6) (s : State) : Host.Outcome State Fault Refusal :=
  .next (s.issue h (wordReg 0x1D 0 d s1 s2 aux) (s1 != 0 || s2 != 0 || aux != 0) true false fun s =>
    s.modHart h fun c => if c.wfeReady then c.wfeDone d.toNat else { c with wait := .wfe d.toNat })

/-- A waiting WFE of hart `h` ends (R79). -/
def State.wfeWake (s : State) (h : Hart) : State :=
  match (s.hart h).wait with
  | .wfe d => if (s.hart h).wfeReady then s.modHart h fun c => c.wfeDone d else s
  | _ => s

/-- WFE_WAKE (R79). -/
def execWfeWake (h : Hart) (s : State) : Host.Outcome State Fault Refusal := .next (s.wfeWake h)

/-- Whether the cue counter has reached target `t` (R81). -/
def State.cueReached (s : State) (t : Word) : Bool := decide (0 ≤ (s.cue.count.setWidth 32 - t).toInt)

/-- WAITT completes with its flags: N and V cleared (R81). -/
def Core.waittDone (c : Core) (z cy : Bool) : Core :=
  { c with wait := .none, flags := { c.flags with n := false, z := z, c := cy, v := false } }.retire

/-- Whether a WAITT with timeout register `dm` has a timeout (R81). -/
def Core.hasTimeout (c : Core) (dm : Nat) : Bool := dm != 0 && c.dr dm != 0xFFFFFFFF#32

/-- WAITT (R81). -/
def execWaitt (h : Hart) (d s1 s2 : BitVec 5) (aux : BitVec 6) (s : State) : Host.Outcome State Fault Refusal :=
  .next (s.issue h (wordReg 0x1E 0 d s1 s2 aux) (aux != 0) true false fun s =>
    let r := s.cueReached ((s.hart h).dr s1.toNat)
    s.modHart h fun c =>
      if r then c.waittDone true true
      else if c.hasTimeout d.toNat && c.dr d.toNat == 0 then c.waittDone false false
      else { c with wait := .waitt s1.toNat d.toNat })

/-- The target of a waiting WAITT is reached (R81). -/
def State.waittReached (s : State) (h : Hart) : State :=
  match (s.hart h).wait with
  | .waitt dt _ => if s.cueReached ((s.hart h).dr dt) then s.modHart h fun c => c.waittDone true false else s
  | _ => s

/-- WAITT_TARGET_REACHED (R81). -/
def execWaittTargetReached (h : Hart) (s : State) : Host.Outcome State Fault Refusal := .next (s.waittReached h)

/-- The timeout of a waiting WAITT has run out, Dm with it; a target reached in the same cycle counts (R81). -/
def State.waittTimeout (s : State) (h : Hart) : State :=
  match (s.hart h).wait with
  | .waitt dt dm =>
    if s.cueReached ((s.hart h).dr dt) then s.modHart h fun c => c.waittDone true false
    else if (s.hart h).hasTimeout dm then s.modHart h fun c => (c.setD dm 0).waittDone false false
    else s
  | _ => s

/-- WAITT_TIMEOUT (R81). -/
def execWaittTimeout (h : Hart) (s : State) : Host.Outcome State Fault Refusal := .next (s.waittTimeout h)

/-- SEV (R80). -/
def execSev (h : Hart) (d s1 : BitVec 5) (imm : BitVec 16) (s : State) : Host.Outcome State Fault Refusal :=
  .next (s.issue h (wordImm 0x1F d s1 imm) (d != 0 || s1 != 0 || imm.extractLsb' 8 8 != 0) false false fun s =>
    (s.sevEvent (coreOf h) (imm.toNat % 256)).modHart h Core.retire)

end Sys2Proof.Machine
end

