-- ==== Sys2Proof/Machine/SysIns.lean ====
section
/-!
DEFINITION. System instructions of the Lomer cores, major 0x22: system registers (R63, R87, R106, R108, R124), RFE, TRAP and the
barriers (R90, R101, R105, R113), with interrupt entry, posted faults and the vector hold (R110, R114, R117).
What the spec leaves open here: log entry 28.
-/

namespace Sys2Proof.Machine

/-! ## System registers (R87, R124) -/

/-- MODE as it reads. -/
def Core.modeWord (c : Core) : Word :=
  BitVec.ofNat 32 (c.cpl.toNat * 2 ^ 12 + (c.holdCnt != 0).toNat * 8 + c.mca.toNat * 4 + c.ie.toNat * 2 + c.tm.toNat)

/-- PFSTAT as it reads. -/
def Core.pfWord (c : Core) : Word :=
  let head := match c.pf with | [] => 0 | p :: _ => p.size % 16 * 2 ^ 24 + p.remote.toNat * 2 ^ 23
  BitVec.ofNat 32 (c.pfOvf.toNat * 2 ^ 31 + c.pf.length * 2 ^ 28 + head)

/-- The address of the head posted fault. -/
def Core.pfAddr (c : Core) : Addr := match c.pf with | [] => 0 | p :: _ => p.addr

/-- System register `n`; `none`: no register has the number, a reserved encoding (R87). -/
def Core.sysReg (c : Core) (n : Nat) : Option Word :=
  match n with
  | 0x000 => some c.flags.toWord
  | 0x001 => some 0x0204001F#32
  | 0x010 => some (addrLow c.loop0.start)
  | 0x011 => some (addrHigh c.loop0.start)
  | 0x012 => some (addrLow c.loop0.last)
  | 0x013 => some (addrHigh c.loop0.last)
  | 0x014 => some c.loop0.count
  | 0x018 => some (addrLow c.loop1.start)
  | 0x019 => some (addrHigh c.loop1.start)
  | 0x01A => some (addrLow c.loop1.last)
  | 0x01B => some (addrHigh c.loop1.last)
  | 0x01C => some c.loop1.count
  | 0x01F => some (BitVec.ofNat 32 (c.loop1.armed.toNat * 2 + c.loop0.armed.toNat))
  | 0x020 => some c.modeWord
  | 0x021 => some (addrLow c.vbase)
  | 0x022 => some (addrHigh c.vbase)
  | 0x023 => some (c.tacc.zeroExtend 32)
  | 0x024 => some (addrLow c.spTask)
  | 0x025 => some (addrHigh c.spTask)
  | 0x030 => some c.estat
  | 0x031 => some (addrLow c.epc)
  | 0x032 => some (addrHigh c.epc)
  | 0x033 => some (addrLow c.eaddr)
  | 0x034 => some (addrHigh c.eaddr)
  | 0x035 => some (addrLow c.eaddr2)
  | 0x036 => some (addrHigh c.eaddr2)
  | 0x037 => some c.einstr
  | 0x038 => some c.mcstat
  | 0x039 => some (addrLow c.mcepc)
  | 0x03A => some (addrHigh c.mcepc)
  | 0x03B => some c.mcflags
  | 0x040 => some (addrLow c.cmaddr)
  | 0x041 => some (addrHigh c.cmaddr)
  | 0x042 => some 0
  | 0x048 => some c.pfWord
  | 0x049 => some (addrLow c.pfAddr)
  | 0x04A => some (addrHigh c.pfAddr)
  | 0x050 => some (c.ien.setWidth 32)
  | 0x051 => some ((c.ien >>> 32).setWidth 32)
  | 0x052 => some (c.ipend.setWidth 32)
  | 0x053 => some ((c.ipend >>> 32).setWidth 32)
  | 0x05A => some (BitVec.ofNat 32 (c.holdCnt % 2048))
  | 0x060 => some (BitVec.ofNat 32 (c.bpStatic.toNat * 2 + c.bpFreeze.toNat))
  | 0x061 => some c.bpbr
  | 0x062 => some c.bpmis
  | 0x063 => some c.bplook
  | n =>
    if 0x054 ≤ n ∧ n ≤ 0x059 then some (mget 0 c.iprio (n - 0x054))
    else if 0x100 ≤ n ∧ n ≤ 0x13F then some (mget 0 c.vhold (n - 0x100))
    else none

/-- CMOP (R96). -/
def Core.cmop (c : Core) (v : Word) : Core :=
  let x := c.cmaddr.toNat / 64
  if v = 1 then c.dcDrop x
  else if v = 2 then { c with icache := c.icache.erase x, icBad := c.icBad.erase x }
  else if v = 3 then { c with dcache := [], dcBad := [] }
  else if v = 4 then { c with icache := [], lineBuf := [], icBad := [] }
  else c

/-- A write to PFSTAT: OVF cleared by 1, the head entry removed by POP (R117). -/
def Core.pfWrite (c : Core) (v : Word) : Core :=
  { c with pfOvf := c.pfOvf && !v.getLsbD 31, pf := if v.getLsbD 0 then c.pf.tail else c.pf }

/-- A word laid into the low or high word of a set of 48 lines. -/
def lowLines (l : BitVec 48) (v : Word) : BitVec 48 := l.extractLsb' 32 16 ++ v
def highLines (l : BitVec 48) (v : Word) : BitVec 48 := v.extractLsb' 0 16 ++ l.extractLsb' 0 32

/-- `c` with system register `n` written (R87, R124): read-only fields keep their value. -/
def Core.sysWrite (c : Core) (n : Nat) (v : Word) : Core :=
  match n with
  | 0x000 => { c with flags := flagsOfWord v }
  | 0x010 => { c with loop0 := { c.loop0 with start := putLow c.loop0.start v } }
  | 0x011 => { c with loop0 := { c.loop0 with start := putHigh c.loop0.start v } }
  | 0x012 => { c with loop0 := { c.loop0 with last := putLow c.loop0.last v } }
  | 0x013 => { c with loop0 := { c.loop0 with last := putHigh c.loop0.last v } }
  | 0x014 => { c with loop0 := { c.loop0 with count := v } }
  | 0x018 => { c with loop1 := { c.loop1 with start := putLow c.loop1.start v } }
  | 0x019 => { c with loop1 := { c.loop1 with start := putHigh c.loop1.start v } }
  | 0x01A => { c with loop1 := { c.loop1 with last := putLow c.loop1.last v } }
  | 0x01B => { c with loop1 := { c.loop1 with last := putHigh c.loop1.last v } }
  | 0x01C => { c with loop1 := { c.loop1 with count := v } }
  | 0x01F => { c with loop0 := { c.loop0 with armed := v.getLsbD 0 }, loop1 := { c.loop1 with armed := v.getLsbD 1 } }
  | 0x020 => { c with cpl := v.extractLsb' 12 4, ie := v.getLsbD 1, tm := v.getLsbD 0 }
  | 0x021 => { c with vbase := putLow c.vbase (v &&& 0xFFFFFC00#32) }
  | 0x022 => { c with vbase := putHigh c.vbase v }
  | 0x023 => { c with tacc := v.setWidth 6 }
  | 0x024 => { c with spTask := putLow c.spTask v }
  | 0x025 => { c with spTask := putHigh c.spTask v }
  | 0x030 => { c with estat := v &&& 0xFFFFF03F#32 }
  | 0x031 => { c with epc := putLow c.epc v }
  | 0x032 => { c with epc := putHigh c.epc v }
  | 0x033 => { c with eaddr := putLow c.eaddr v }
  | 0x034 => { c with eaddr := putHigh c.eaddr v }
  | 0x035 => { c with eaddr2 := putLow c.eaddr2 v }
  | 0x036 => { c with eaddr2 := putHigh c.eaddr2 v }
  | 0x037 => { c with einstr := v }
  | 0x039 => { c with mcepc := putLow c.mcepc v }
  | 0x03A => { c with mcepc := putHigh c.mcepc v }
  | 0x03B => { c with mcflags := v }
  | 0x040 => { c with cmaddr := putLow c.cmaddr v }
  | 0x041 => { c with cmaddr := putHigh c.cmaddr v }
  | 0x042 => c.cmop v
  | 0x048 => c.pfWrite v
  | 0x050 => { c with ien := lowLines c.ien v }
  | 0x051 => { c with ien := highLines c.ien v }
  | 0x052 => { c with ipend := c.ipend &&& ~~~ lowLines 0 v }
  | 0x053 => { c with ipend := c.ipend &&& ~~~ highLines 0 v }
  | 0x05A => if v = 0 then { c with holdCnt := 0 } else c
  | 0x060 => { c with bpStatic := v.getLsbD 1, bpFreeze := v.getLsbD 0 }
  | 0x061 => { c with bpbr := v }
  | 0x062 => { c with bpmis := v }
  | 0x063 => { c with bplook := v }
  | n =>
    if 0x054 ≤ n ∧ n ≤ 0x059 then { c with iprio := msetCanon (v == 0) c.iprio (n - 0x054) v }
    else if 0x100 ≤ n ∧ n ≤ 0x13F then
      { c with vhold := msetCanon (v &&& 0x7FF#32 == 0) c.vhold (n - 0x100) (v &&& 0x7FF#32) }
    else c

/-- The registers that task mode may access (R106). -/
def taskReg (n : Nat) : Bool := decide (n < 0x020)

/-- MFS and MTS at hart `h`: reserved numbers (R87), PRIV (R106), then the access. -/
def State.sysAccess (s : State) (h : Hart) (minor : Nat) (d : BitVec 5) (sysreg : BitVec 10) (aux : BitVec 6)
    (f : Core → Core) : State :=
  let w := wordSys minor d sysreg aux
  s.issue h w ((s.hart h).sysReg sysreg.toNat).isNone false false fun s =>
    if (s.hart h).tm && !taskReg sysreg.toNat then s.priv h w else (s.modHart h fun c => (f c).retire).settle

/-- MTS of system register `sysreg` from Dd. -/
def State.mts (s : State) (h : Hart) (d : BitVec 5) (sysreg : BitVec 10) (aux : BitVec 6) : State :=
  s.sysAccess h 2 d sysreg aux fun c => c.sysWrite sysreg.toNat (c.dr d.toNat)

/-- MFS (R87, R106, R124). -/
def execMfs (h : Hart) (d : BitVec 5) (sysreg : BitVec 10) (aux : BitVec 6) (s : State) : Host.Outcome State Fault Refusal :=
  .next (s.sysAccess h 1 d sysreg aux fun c => c.setD d.toNat ((c.sysReg sysreg.toNat).getD 0))

/-- MTS (R87, R106, R124). -/
def execMts (h : Hart) (d : BitVec 5) (sysreg : BitVec 10) (aux : BitVec 6) (s : State) : Host.Outcome State Fault Refusal :=
  .next (s.mts h d sysreg aux)

/-! ## Writes of one system register that the table lists on their own -/

/-- The MTS of `sysreg` from Dd, where the value in Dd is what the row names. -/
def State.mtsWhen (s : State) (h : Hart) (d : BitVec 5) (sysreg : BitVec 10) (p : Word → Bool) : State :=
  if p ((s.hart h).dr d.toNat) then s.mts h d sysreg 0 else s

/-- INVALIDATE_DCACHE_LINE (R96). -/
def execInvalidateDcacheLine (h : Hart) (d : BitVec 5) (s : State) : Host.Outcome State Fault Refusal :=
  .next (s.mtsWhen h d 0x042 fun v => v == 1)

/-- INVALIDATE_ICACHE_LINE (R96). -/
def execInvalidateIcacheLine (h : Hart) (d : BitVec 5) (s : State) : Host.Outcome State Fault Refusal :=
  .next (s.mtsWhen h d 0x042 fun v => v == 2)

/-- INVALIDATE_DCACHE (R96). -/
def execInvalidateDcache (h : Hart) (d : BitVec 5) (s : State) : Host.Outcome State Fault Refusal :=
  .next (s.mtsWhen h d 0x042 fun v => v == 3)

/-- INVALIDATE_ICACHE (R96). -/
def execInvalidateIcache (h : Hart) (d : BitVec 5) (s : State) : Host.Outcome State Fault Refusal :=
  .next (s.mtsWhen h d 0x042 fun v => v == 4)

/-- PFSTAT_POP (R117). -/
def execPfstatPop (h : Hart) (d : BitVec 5) (s : State) : Host.Outcome State Fault Refusal :=
  .next (s.mtsWhen h d 0x048 fun v => v.getLsbD 0)

/-- HOLDCNT_WRITE (R114). -/
def execHoldcntWrite (h : Hart) (d : BitVec 5) (s : State) : Host.Outcome State Fault Refusal := .next (s.mts h d 0x05A 0)

/-! ## RFE, TRAP, barriers, reserved words -/

/-- RFE (R74, R78, R106, R113, R122). -/
def execRfe (h : Hart) (d : BitVec 5) (sysreg : BitVec 10) (aux : BitVec 6) (s : State) : Host.Outcome State Fault Refusal :=
  let w := wordSys 3 d sysreg aux
  .next (s.issue h w (sysreg != 0 || decide (1 < aux.toNat)) true true fun s =>
    if (s.hart h).tm then s.priv h w
    else if aux = 1 then s.modHart h Core.mcReturn
    else s.load h { word := w, dst := .frame, parts := partsOf (s.hart h).spMachine 16 })

/-- TRAP (R109, R111): the return address is the instruction after it, or the branch of its delay slot. -/
def execTrap (h : Hart) (d : BitVec 5) (sysreg : BitVec 10) (aux : BitVec 6) (s : State) : Host.Outcome State Fault Refusal :=
  let w := wordSys 4 d sysreg aux
  .next (s.issue h w (sysreg != 0) false false fun s =>
    let c := s.hart h
    let e : Exc := { vec := 7, cause := 0x20, info := aux.toNat, word := w }
    match c.delay with
    | some b => s.enter h { e with ret := b.branch, ds := true }
    | none => s.enter h { e with ret := c.pc + 4 })

/-- IFENCE (R105): stores are at their targets, the line buffer is discarded, and every later instruction is fetched after
them. -/
def execIfence (h : Hart) (d : BitVec 5) (sysreg : BitVec 10) (aux : BitVec 6) (s : State) : Host.Outcome State Fault Refusal :=
  .next (s.simple h (wordSys 5 d sysreg aux) (sysreg != 0) fun c => { c with lineBuf := [] })

/-- The faults of posted stores of core `n` that are on their way arrive. -/
def State.deliverFaults (s : State) (n : Nat) : State :=
  let l := s.postedFlight.filter fun e => e.1 == n
  let s := { s with postedFlight := s.postedFlight.filter fun e => e.1 != n }
  l.foldl (fun s e => s.postFault (hartOfCore n) e.2) s

/-- Whether a remote store of hart `h` has no answer yet. -/
def State.remoteStores (s : State) (h : Hart) : Bool := s.byr.remote.any fun r => r.wr && r.by_ == .hart h.val

/-- Whether a store of hart `h` is not complete yet: a remote one, or one to PMEM that the PMC still shows (R90, R166). -/
def State.storesLeft (s : State) (h : Hart) : Bool := s.remoteStores h || s.pmcQueue.contains (coreOf h)

/-- The end of FENCE: every posted fault of an earlier store has been raised (R90). -/
def State.fenceDone (s : State) (h : Hart) : State :=
  (s.deliverFaults (coreOf h)).modHart h fun c => { c with wait := .none }.retire

/-- FENCE (R89, R90). -/
def execFence (h : Hart) (d : BitVec 5) (sysreg : BitVec 10) (aux : BitVec 6) (s : State) : Host.Outcome State Fault Refusal :=
  .next (s.issue h (wordSys 6 d sysreg aux) (sysreg != 0) false false fun s =>
    if s.storesLeft h then s.modHart h fun c => { c with wait := .fence } else s.fenceDone h)

/-- BPFLUSH (R101), also while BPCTL.FREEZE is 1 (DESIGN CHOICE, log entry 28). -/
def execBpFlush (h : Hart) (d : BitVec 5) (sysreg : BitVec 10) (aux : BitVec 6) (s : State) : Host.Outcome State Fault Refusal :=
  .next (s.simple h (wordSys 7 d sysreg aux) (sysreg != 0) Core.bpFlush)

/-- BPBAR (R101). -/
def execBpBar (h : Hart) (d : BitVec 5) (sysreg : BitVec 10) (aux : BitVec 6) (s : State) : Host.Outcome State Fault Refusal :=
  .next (s.simple h (wordSys 8 d sysreg aux) (sysreg != 0) id)

/-- NOP, as a whole word: a word that R89 does not list is a reserved encoding (R86); the word of another instruction is that
instruction's row. -/
def execNop (h : Hart) (word : Word) (s : State) : Host.Outcome State Fault Refusal :=
  .next (
    if !listedWord word then s.simple h word true id
    else if fieldOf word 31 26 = 0x22 ∧ fieldOf word 10 6 = 0 then s.simple h word (fieldOf word 20 11 != 0) id
    else s)

/-! ## Interrupts, posted faults and the hold (R110, R114, R117) -/

/-- INTERRUPT_ENTRY (R82, R85, R110, R111): at an instruction boundary; a waiting WFE completes first. -/
def execInterruptEntry (h : Hart) (s : State) : Host.Outcome State Fault Refusal :=
  .next (
    let s := s.wfeWake h
    let c := s.hart h
    let at_ := match c.wait with | .none => true | .waitt _ _ => true | _ => false
    if c.run == .running && at_ && c.delay.isNone && !(decide (h.val < 4) && (s.pair h.val).blocked) && !s.paused
    then s.takeInterrupt h else s)

/-- The oldest fault of a posted store of core `n` that is on its way. -/
def State.faultArrives (s : State) (n : Nat) : State :=
  match s.postedFlight.find? fun e => e.1 == n with
  | none => s
  | some e => { s with postedFlight := s.postedFlight.erase e }.postFault (hartOfCore n) e.2

/-- POSTED_FAULT_ARRIVAL (R117). -/
def execPostedFaultArrival (h : Hart) (s : State) : Host.Outcome State Fault Refusal := .next (s.faultArrives (coreOf h))

/-- VECTOR_HOLD_EXPIRY (R114). -/
def execVectorHoldExpiry (h : Hart) (s : State) : Host.Outcome State Fault Refusal :=
  .next (s.modHart h fun c => { c with holdCnt := 0 })

end Sys2Proof.Machine
end

