-- ==== Sys2Proof/Machine/Book.lean ====
section
/-!
DEFINITION. The prompt book (R198 to R208): the copy in force, its record stream, the parse pass, the application of the
records, and the schedule checks.
What the spec leaves open here: log entry 30.
-/

namespace Sys2Proof.Machine

/-! ## The copies (R172, R198, R199) -/

/-- The first address of prompt-book slot `i`, 0 A and 1 B (R172). -/
def slotBase (i : Nat) : Nat := bankBase (2 + i)

/-- Sequence number, schema level, body length and record count of a header. -/
def pbSeq (h : List Byte) : Nat := leAt h 8 4
def pbSchema (h : List Byte) : Nat := leAt h 6 2
def pbLength (h : List Byte) : Nat := leAt h 0xC 4
def pbCount (h : List Byte) : Nat := leAt h 0x10 4

/-- The reason of R199 for which header `h` fails, 0 when its own checks hold. -/
def pbHeaderReason (h : List Byte) : Nat :=
  let n := pbLength h
  if leAt h 0 4 ≠ 0x4B425053 ∨ leAt h 4 2 ≠ 1 ∨ crc32cFull (h.take 0x1FC) ≠ leAt h 0x1FC 4 then 1
  else if pbSeq h = 0 ∨ pbSeq h = 0xFFFFFFFF then 2
  else if leAt h 0x1C 4 ≠ 0x9416 then 3
  else if n % 8 ≠ 0 ∨ n < 8 ∨ 0x03FFFE00 < n then 0xA
  else 0

/-- The header of slot `i` and the reason for which it fails; an uncorrectable read gives 0x8. -/
def State.pbHeader (s : State) (i : Nat) : State × List Byte × Nat :=
  match s.progRead (slotBase i) 512 with
  | (s, none) => (s, [], 8)
  | (s, some h) => (s, h, pbHeaderReason h)

/-- The body checks of R199 for slot `i` with header `h` and the body read (0x4 to 0x8). -/
def State.pbBodyReason (s : State) (h : List Byte) (body : Option (List Byte)) : Nat :=
  match body with
  | none => 8
  | some b =>
    let digest := (h.drop 0x30).take 48
    if crc32cFull b ≠ leAt h 0x18 4 then 4
    else if sha384 (h.take 0x30 ++ b) ≠ digest then 5
    else if !s.keyAccepted (leAt h 0x14 1) ((h.drop 0xC0).take 96) then 6
    else if !signatureOk h digest 0x60 0xC0 then 7
    else 0

/-- The body of slot `i`. -/
def State.pbBody (s : State) (i : Nat) (h : List Byte) : State × Option (List Byte) := s.progRead (slotBase i + 0x200) (pbLength h)

/-- The reason that SYS_PBSEL shows for slot `i`. -/
def pbReasonFld (i : Nat) : Fld := if i = 0 then R.SYS_PBSEL_REASONA else R.SYS_PBSEL_REASONB

/-- The candidates in the order of R201: the higher sequence number first, A before B when equal. -/
def pbOrder (l : List (Nat × List Byte)) : List (Nat × List Byte) :=
  match l with
  | [a, b] => if pbSeq a.2 < pbSeq b.2 then [b, a] else [a, b]
  | l => l

/-- Candidates examined until one is valid, the others marked 0x9. -/
def State.pbTry (s : State) : List (Nat × List Byte) → State × Option Nat
  | [] => (s, none)
  | (i, h) :: t =>
    let (s, b) := s.pbBody i h
    let r := s.pbBodyReason h b
    let s := s.setF (pbReasonFld i) r
    if r = 0 then
      let s := t.foldl (fun s c => s.setF (pbReasonFld c.1) 9) s
      (((s.raise R.SYS_PBSEL_VALID).setF R.SYS_PBSEL_SLOT i), some i)
    else s.pbTry t

/-- The copy in force (R201). -/
def State.pbSelect (s : State) : State × Option Nat :=
  let (s, ha, ra) := s.pbHeader 0
  let (s, hb, rb) := s.pbHeader 1
  let s := (s.setF R.SYS_PBSEL_REASONA ra).setF R.SYS_PBSEL_REASONB rb
  let s := (s.setF R.SYS_PBSEQA_SEQ (if ra = 0 then pbSeq ha else 0)).setF R.SYS_PBSEQB_SEQ (if rb = 0 then pbSeq hb else 0)
  let s := if ra = 0 ∧ rb = 0 ∧ pbSeq ha = pbSeq hb then s.raise R.SYS_PBSEL_TIE else s
  s.pbTry (pbOrder ((if ra = 0 then [(0, ha)] else []) ++ if rb = 0 then [(1, hb)] else []))

/-! ## The record stream (R203 to R206) -/

/-- A record: kind, block code, byte offset of its header in the body, payload. -/
structure PbRecord where
  kind : Nat
  block : Nat
  offset : Nat
  payload : List Byte
  deriving DecidableEq, Repr

/-- A failing record: number, block code, offset. -/
abbrev PbFail := Nat × Nat × Nat

/-- The 32-bit words of a payload. -/
def wordsOf (l : List Byte) : List Nat := (List.range (l.length / 4)).map fun i => leAt l (4 * i) 4

/-- The records from byte offset `o` of a body, whose rest is `l`, in stream order with the first at number `n`, as far as
R203 holds; `fuel` bounds their number. -/
def pbRecords : Nat → Nat → Nat → List Byte → Except PbFail (List PbRecord)
  | 0, n, o, _ => .error (n, 0, o)
  | fuel + 1, n, o, l =>
    let kind := leAt l 0 1
    let block := leAt l 1 1
    let len := leAt l 4 4
    let whole := (len + 7) / 8 * 8
    if l.length < 8 ∨ leAt l 2 2 ≠ 0 ∨ len % 4 ≠ 0 ∨ 0x01000000 < len ∨ l.length < 8 + whole ∨
        ((l.drop (8 + len)).take (whole - len)).any (· != 0#8) then .error (n, block, o)
    else
      let r : PbRecord := ⟨kind, block, o, (l.drop 8).take len⟩
      if kind = 0 ∧ block = 0xFF then
        if len = 0 ∧ l.length = 8 then .ok [r] else .error (n, block, o)
      else
        match pbRecords fuel (n + 1) (o + 8 + whole) (l.drop (8 + whole)) with
        | .ok t => .ok (r :: t)
        | .error e => .error e

/-- The base of the block with code `b`, if there is one, and the size of its extent (R147). -/
def pbBlock (b : Nat) : Option (Nat × Nat) :=
  let base := 0x40000000 + b * 0x10000
  if blockTable.any fun x => x.1 == base then some (base, if base = basePWM then 0xC000 else 0x10000) else none

/-- The writes (offset, value) of a REGS or TABLE record, in order. -/
def pbWrites (r : PbRecord) : List (Nat × Nat) :=
  let w := wordsOf r.payload
  if r.kind = 1 then (List.range (w.length / 2)).map fun i => (w.getD (2 * i) 0, w.getD (2 * i + 1) 0)
  else w.tail.zipIdx.map fun x => (w.headD 0 + 4 * x.2, x.1)

/-- Whether a record is a REGS or TABLE record. -/
def pbIsWrites (r : PbRecord) : Bool := (r.kind == 1 || r.kind == 2) && decide (r.block < 0xFE)

/-- The checks of R204 to R206 on one record by itself. -/
def pbRecordOk (r : PbRecord) : Bool :=
  let w := wordsOf r.payload
  let at_ := fun i => w.getD i 0
  if pbIsWrites r then
    match pbBlock r.block with
    | none => false
    | some (_, ext) =>
      (if r.kind = 1 then w.length % 2 == 0 else w.length != 0) &&
        (pbWrites r).all fun x => x.1 % 4 == 0 && decide (x.1 + 4 ≤ ext)
  else
    match r.block, r.kind with
    | 0xFE, 1 => r.payload.length == 336 && leadCores.contains (at_ 0)
    | 0xFE, 2 => (List.range (r.payload.length / 4)).all fun i =>
        let e := (r.payload.drop (4 * i)).take 4
        (pbBlock (leAt e 0 1)).isSome && decide (leAt e 2 1 < 16 ∧ leAt e 3 1 < 48)
    | 0xFE, 3 => w.length == 4 && w.foldl (· + ·) 0 == 128
    | 0xFE, 4 => w.length == 5 && decide (1000 ≤ at_ 0 ∧ at_ 0 ≤ 30000) &&
        ([1, 2, 3].all fun i => decide (50 ≤ at_ i ∧ at_ i ≤ 2000000)) && decide (at_ 4 ≤ 2)
    | 0xFE, 5 => decide (4 ≤ r.payload.length ∧ r.payload.length ≤ 4 + 960 * 1024)
    | 0xFF, 0 => r.payload.isEmpty
    | 0xFF, 1 => true
    | _, _ => false

/-- The interrupt sources (block code, output) that a record names. -/
def pbSources (r : PbRecord) : List (Nat × Nat) :=
  if r.block = 0xFE ∧ r.kind = 2 then
    (List.range (r.payload.length / 4)).map fun i => (leAt r.payload (4 * i) 1, leAt r.payload (4 * i + 1) 1)
  else []

/-- Whether a set-up record of kind `k` stands in a stream how often. -/
def pbCountOf (l : List PbRecord) (k : Nat) : Nat := (l.filter fun r => r.block == 0xFE && r.kind == k).length

/-- Whether the cue pairs that a record enables have CORE records (R206). -/
def pbPairsOk (l : List PbRecord) (r : PbRecord) : Bool :=
  let cores := (l.filter fun r => r.block == 0xFE && r.kind == 1).map fun r => leAt r.payload 0 4
  !(pbIsWrites r && r.block == 0) ||
    (pbWrites r).all fun x => x.1 != R.CUE_CTRL - baseCUE || (List.range 4).all fun n => !x.2.testBit n || cores.contains (2 * n)

/-- The parse pass (R206): the records, or the first that fails. -/
def pbParse (count : Nat) (body : List Byte) : Except PbFail (List PbRecord) :=
  match pbRecords (body.length / 8 + 1) 0 0 body with
  | .error e => .error e
  | .ok l =>
    let src := fun n => (l.take n).flatMap pbSources
    let bad := (l.zipIdx.find? fun x =>
      let own := pbSources x.1
      !(pbRecordOk x.1) || !(pbPairsOk l x.1) || (own.any fun o => (src x.2).contains o) || own.eraseDups.length != own.length)
    match bad with
    | some (r, n) => .error (n, r.block, r.offset)
    | none =>
      if l.length ≠ count ∨ pbCountOf l 3 ≠ 1 ∨ pbCountOf l 4 ≠ 1 ∨ 1 < pbCountOf l 5 then
        .error (l.length - 1, 0xFF, body.length - 8)
      else .ok l

/-! ## Application (R204 to R207) -/

/-- The core state of a CORE record (R205). -/
def coreOfRecord (l : List Byte) : Core :=
  let w := fun o => BitVec.ofNat 32 (leAt l o 4)
  let c : Core := { pc := BitVec.ofNat 40 (leAt l 8 5), spMachine := BitVec.ofNat 40 (leAt l 0x10 5) }
  let c := [(0x020, 4), (0x024, 0x18), (0x025, 0x1C), (0x021, 0x20), (0x022, 0x24), (0x023, 0x28), (0x060, 0x2C), (0x050, 0x30),
    (0x051, 0x34)].foldl (fun (c : Core) x => c.sysWrite x.1 (w x.2)) c
  let c := (List.range 6).foldl (fun (c : Core) i => c.sysWrite (0x054 + i) (w (0x38 + 4 * i))) c
  (List.range 64).foldl (fun (c : Core) i => c.sysWrite (0x100 + i) (w (0x50 + 4 * i))) c

/-- The CFGREF fields of the block at `base` (R207). -/
def cfgrefs (base : Nat) : List Fld :=
  if base = baseCUE then [R.CUE_STAT_CFGREF]
  else if base = baseUSTD then [R.USTD_STAT_CFGREF]
  else if base = baseDROP then [R.DROP_STAT_CFGREF]
  else if base = baseFIRE then [R.FIRE_STAT_CFGREF]
  else if base = baseJET then (List.range 32).map R.JET_STAT_CFGREF
  else if base = baseMTRK then [R.MTRK_STAT_CFGREF]
  else if base = baseLOOP then [R.LOOP_STAT_CFGREF]
  else if base = basePWM then R.PWM_GSTAT_CFGREF :: (List.range 48).map R.PWM_STAT_CFGREF
  else if base = baseAFE then [R.AFE_STAT_CFGREF]
  else if base = baseENC then (List.range 8).map R.ENC_STAT_CFGREF
  else if base = baseCALL then [R.CALL_STAT_CFGREF]
  else if base = baseDMA then R.DMA_GSTAT_CFGREF :: (List.range 64).map R.DMA_STAT_CFGREF
  else if base = baseGPIO then [R.GPIO_STAT_CFGREF]
  else if base = basePBS then [R.PBS_STAT_CFGREF]
  else if base = baseJRNL then [R.JRNL_STAT_CFGREF]
  else if base = baseHOST then [R.HOST_STAT_CFGREF]
  else if base = baseBYR then [R.BYR_STAT_CFGREF]
  else if base = baseUPD then [R.UPD_STAT_CFGREF]
  else if base = baseBBX then [R.BBX_STAT_CFGREF]
  else []

/-- One write of the ROM to offset `off` of the block at `base`; the Bool says whether it went through: no bus error, and no
CFGREF field of the block newly set (R207). -/
def State.pbWrite (s : State) (base off v : Nat) : State × Bool :=
  let r := s.regWrite .rom (base + off) (BitVec.ofNat 32 v)
  (r.1, r.2 && (cfgrefs base).all fun f => s.flag f || !r.1.flag f)

/-- The writes of record number `n` until one fails. -/
def State.pbWriteAll (s : State) (n block base : Nat) (l : List (Nat × Nat)) : State × Option PbFail :=
  l.foldl (fun p x =>
    match p.2 with
    | some _ => p
    | none =>
      let r := p.1.pbWrite base x.1 x.2
      (r.1, if r.2 then none else some (n, block, x.1))) (s, none)

/-- A module set-up record applied (R204, R205). -/
def State.pbSetup (s : State) (r : PbRecord) : State :=
  let at_ := fun i => leAt r.payload (4 * i) 4
  match r.kind with
  | 1 => { s with boot := { s.boot with cores := mset s.boot.cores (at_ 0) (coreOfRecord r.payload) } }
  | 2 => { s with irqMap := s.irqMap ++ (List.range (r.payload.length / 4)).map fun i =>
      let e := fun j => leAt r.payload (4 * i + j) 1
      ⟨0x40000000 + e 0 * 0x10000, e 1, e 2, e 3⟩ }
  | 3 => { s with wmPart := [at_ 0, at_ 1, at_ 2, at_ 3] }
  | 4 => s.modSys fun y =>
      { y with curtainLimitUs := at_ 0, wdPeriodUs := [(0, at_ 1), (1, at_ 2), (2, at_ 3)], refSource := at_ 4 }
  | 5 => { s with boot := { s.boot with settings := some r.payload } }
  | _ => s

/-- Record number `n` applied, or held back when it writes CUE (R206). -/
def State.pbApplyOne (s : State) (r : PbRecord) (n : Nat) : State × Option PbFail :=
  if pbIsWrites r then
    if r.block = 0 then
      ({ s with boot := { s.boot with held := s.boot.held ++ (pbWrites r).map fun x => (n, x.1, BitVec.ofNat 32 x.2) } }, none)
    else
      match pbBlock r.block with
      | some (base, _) => s.pbWriteAll n r.block base (pbWrites r)
      | none => (s, none)
  else if r.block = 0xFE then (s.pbSetup r, none)
  else (s, none)

/-- The records applied in stream order until one fails (R206, R207). -/
def State.pbApply (s : State) (l : List PbRecord) : State × Option PbFail :=
  l.zipIdx.foldl (fun p x => match p.2 with
    | some _ => p
    | none => p.1.pbApplyOne x.1 x.2) (s, none)

/-- The held-back CUE writes of step 15 (R211). -/
def State.pbHeld (s : State) : State × Option PbFail :=
  s.boot.held.foldl (fun p x => match p.2 with
    | some _ => p
    | none =>
      let r := p.1.pbWrite baseCUE x.2.1 x.2.2.toNat
      (r.1, if r.2 then none else some (x.1, 0, x.2.1))) (s, none)

/-! ## Schedule checks (R208) -/

/-- CUE_PERIOD as the held-back records set it. -/
def State.pbPeriod (s : State) : Nat :=
  match s.boot.held.reverse.find? fun x => x.2.1 == R.CUE_PERIOD - baseCUE with
  | some x => fieldOf x.2.2 15 0
  | none => s.getF R.CUE_PERIOD_PERIOD

/-- FIRE's check for a cue of `p` event-clock cycles (R259). -/
def State.fireSchedule (s : State) (p : Nat) : Bool :=
  decide (4 * (s.getF R.DROP_CFG_NCTX + 256) ≤ 5 * p ∧ s.roundNs + 1200 ≤ s.getF R.FIRE_CFG_HORIZON ∧
    s.getF R.FIRE_MAXRATE_RATE * (s.roundNs + 100) ≤ 1000000000)

/-- MTRK's check (R294). -/
def State.mtrkSchedule (s : State) (p : Nat) : Bool :=
  decide (10000 ≤ p * s.getF R.MTRK_CFG_FDIV ∧ s.getF R.MTRK_FSYNC_FOFS < p) &&
    (s.getF R.MTRK_CFG_MODE != 2 || s.flag R.MTRK_CTRL_FSYNCEN)

/-- ENC's check (R388). -/
def State.encSchedule (s : State) : Bool :=
  let slots := (List.range 64).filter fun k => s.flag (R.LOOP_SCFG_EN k)
  (slots.all fun k => (s.slotGroups k).all fun g => !s.adcClaimed g) &&
    ((List.range 4).all fun j => !(s.flag (R.ENC_SPCFG_EN (4 + j)) && s.adcClaimed (s.getF (R.ENC_SPCFG_CH (4 + j)) / 4))) &&
    (List.range 8).all fun i =>
      let m := s.getF (R.ENC_CFG_MODE i)
      let bits := s.getF (R.ENC_SCFG_BITS i) + if m = 2 then 12 else 1
      !(m == 2 || m == 3 || m == 4) ||
        decide (bits * (s.getF (R.ENC_SCFG_CLKDIV i) + 1) * 5 + 1000 * s.getF (R.ENC_SCFG_RECOV i) ≤ 100 * s.getF (R.ENC_SCFG_FDIV i))

/-- The code of the first block whose schedule does not fit (R208). -/
def State.pbSchedules (s : State) : Option Nat :=
  let p := s.pbPeriod
  if !s.loopSchedule p (s.getF R.LOOP_CTRL_SUB) then some 0x20
  else if !s.fireSchedule p then some 0x50
  else if !s.mtrkSchedule p then some 0x70
  else if !s.encSchedule then some 0x34
  else if !s.pbsSchedule then some 0x80
  else none

end Sys2Proof.Machine
end

