-- ==== Sys2Proof/Machine/Boot.lean ====
section
/-!
DEFINITION. BOOT (R154, R193 to R212): the steps of R194 with their outcomes, the resets that start them, RECOVERY's entry.
What the spec leaves open here: log entries 17, 26 and 30.
-/

namespace Sys2Proof.Machine

/-- `s` with BOOT's own record changed. -/
def State.modBoot (s : State) (f : Boot → Boot) : State := { s with boot := f s.boot }

/-- A step done: the next one follows. -/
def State.bootNext (s : State) : State × Bool := (s.modBoot fun b => { b with step := b.step + 1 }, true)

/-- BOOT's record for the black box (R534). -/
def State.bootEvent (s : State) : State :=
  s.bbxEvent 1 [s.getReg R.SYS_BOOT, s.getReg R.SYS_PBSEL, s.getReg R.SYS_BOOTTIME]

/-- A RESTART ends with the BOOT that it made (R495, DEDUCED, log entry 26). -/
def State.restartEnd (s : State) (status : Nat) : State :=
  match s.host.long with
  | some (_, op, _) => if op = Op.restart then s.longEnd status [] else s
  | none => s

/-- A RESTART ends with a BOOT that did not reach PLACES; the status is given nowhere and is free (DESIGN CHOICE, log
entry 26). -/
def State.restartFail (s : State) : State :=
  let (q, s) := s.fresh
  s.restartEnd (q % 2 ^ 16)

/-- BOOT stops in BOOT with an outcome (R194). -/
def State.bootStop (s : State) (code : Nat) : State × Bool :=
  (((s.setF R.SYS_BOOT_CODE code).modBoot fun b => { b with step := 0 }).bootEvent.restartFail, false)

/-- RECOVERY is entered with an outcome (R30, R195, R530): the request is cleared, and the ROM joins Byrov with the recorded
address. -/
def State.enterRecovery (s : State) (code : Nat) : State :=
  let s := (s.setF R.SYS_BOOT_CODE code).modBoot fun b => { b with step := 0 }
  let s := s.modSys fun y => { y with dev := .recovery, recoveryReq := false, cmds := [] }
  let s := (s.wdReload 2).restartFail
  match s.boot.hdrAddr with
  | some a => ((s.setReg R.BYR_ADDR (BitVec.ofNat 32 a)).regWrite .rom R.BYR_CTRL 7).1
  | none => s

/-- A failing record shown in SYS_PBERR and SYS_PBERROFF (R207). -/
def State.pbErr (s : State) (parse : Bool) (e : PbFail) : State :=
  let s := (s.setF R.SYS_PBERR_PARSE parse.toNat).setF R.SYS_PBERR_BLOCK e.2.1
  (s.setF R.SYS_PBERR_RECORD (min e.1 65535)).setF R.SYS_PBERROFF_OFFSET e.2.2

/-! ## The steps -/

/-- Step 2 (R195). -/
def State.bootStep2 (s : State) : State × Bool :=
  if !s.boot.warm && s.boot.recover then (s.enterRecovery 0x21, false)
  else if s.boot.warm && s.sys.recoveryReq then (s.enterRecovery 0x22, false)
  else s.bootNext

/-- Step 3: the PMEM header; a blank one is initialised (its layout is the ROM's own, DESIGN CHOICE, log entry 17). -/
def State.bootStep3 (s : State) : State × Bool :=
  let (s, ok) := (s.markedUnits 0 0x10000).foldl State.pmemCheck (s, true)
  if !ok then s.bootStop 0x17
  else if s.boot.hdrInit then s.bootNext
  else
    let (r, s) := s.fresh
    ((s.pmemStore 0 (bytesLE 8 r)).modBoot fun b => { b with hdrInit := true }).bootNext

/-- The package rule of R162 where the controller starts to serve: with one package dead the interleave changes, and with it
the contents of the whole window. -/
def State.bootPackages (s : State) : State :=
  let dead := s.getF R.DRC_STAT_PKGDEAD
  if (dead = 1 ∨ dead = 2) ∧ !s.flag R.DRC_STAT_HALF then
    let s := (s.raise R.DRC_STAT_HALF).dropMem fun a => decide (0x1000000000 ≤ a)
    { s with dramEpoch := s.dramEpoch + 1, ecc := s.ecc.filter fun e => decide (8 * e.1 < 0x1000000000) }
  else s

/-- Both packages are marked dead: BOOT ends at step 12 (R162). -/
def State.packagesDead (s : State) : Bool := s.getF R.DRC_STAT_PKGDEAD == 3

/-- Image `b` verified and its sections loaded (R196, R518): `none` while a section for LPDDR5X waits for READY. With both
packages dead such sections stay unloaded, so that BOOT reaches the outcome of step 12 (R162, DEDUCED, log entry 30). -/
def State.bootImage (s : State) (b : Nat) : State × Option Bool :=
  match s.manifestRead b with
  | (s, none) => (s, some false)
  | (s, some h) =>
    let l := imgSections h
    if s.manifestReason h ≠ 0 then (s, some false)
    else if (l.any sectionInDram) && !(s.flag R.DRC_STAT_READY || s.packagesDead) then (s, none)
    else
      let l := if s.packagesDead then l.filter fun x => !sectionInDram x else l
      let s := if l.any sectionInDram then s.bootPackages else s
      let (s, r) := (List.range (imgChunks h)).foldl (fun p i =>
        if p.2 = 0 then p.1.chunkReason b h i else p) (s, 0)
      if r ≠ 0 then (s, some false)
      else
        let (s, r) := s.loadSections b l
        (s, some (r == 0))

/-- The image loaded from bank `b` becomes the one in force. -/
def State.bootLoaded (s : State) (b : Nat) (fallback : Bool) : State :=
  let h := s.manifest b
  let s := (s.setF R.SYS_BOOT_FWIMG b).setF R.SYS_BOOT_FWFALL fallback.toNat
  let s := ((s.setF R.UPD_STAT_ACTIVE b).setF (R.UPD_IMGS_LEVEL b) (imgLevel h)).setF (R.UPD_IMGV_VER b) (imgVersion h)
  s.modBoot fun x => { x with bank := b, loaded := true }

/-- Step 5 (R196): the active image, then the other. -/
def State.bootStep5 (s : State) : State × Bool :=
  let b := s.actBank
  match s.bootImage b with
  | (s, none) => (s, false)
  | (s, some true) => (s.bootLoaded b false).bootNext
  | (s, some false) =>
    match s.bootImage (1 - b) with
    | (s, none) => (s, false)
    | (s, some true) => (s.bootLoaded (1 - b) true).bootNext
    | (s, some false) => (s.enterRecovery 0x20, false)

/-- Step 6 (R197). -/
def State.bootStep6 (s : State) : State × Bool :=
  let h := s.manifest s.boot.bank
  if (imgSections h).all fun x => x.type != 2 || levelNear x.level (imgLevel h) then (s.raise R.AFE_STAT_READY).bootNext
  else s.bootStop 0x16

/-- Step 7 (R135). -/
def State.bootStep7 (s : State) : State × Bool :=
  let t := s.startupTest
  if s.firstDead.isSome then t.bootStop 0x14 else t.bootNext

/-- Step 8 (R201). -/
def State.bootStep8 (s : State) : State × Bool :=
  match s.pbSelect with
  | (s, some _) => s.bootNext
  | (s, none) => s.bootStop 0x10

/-- The header of the copy in force. -/
def State.pbHeaderNow (s : State) : List Byte := (s.pbHeader (s.getF R.SYS_PBSEL_SLOT)).2.1

/-- Step 9 (R202). -/
def State.bootStep9 (s : State) : State × Bool :=
  let level := pbSchema s.pbHeaderNow
  let h := s.manifest s.boot.bank
  if imgSchemaLo h ≤ level ∧ level ≤ imgSchemaHi h then (s.modBoot fun b => { b with schema := level }).bootNext
  else s.bootStop 0x11

/-- Step 10 (R206, R207). -/
def State.bootStep10 (s : State) : State × Bool :=
  let h := s.pbHeaderNow
  match pbParse (pbCount h) ((s.pbBody (s.getF R.SYS_PBSEL_SLOT) h).2.getD []) with
  | .error e => (s.pbErr true e).bootStop 0x12
  | .ok l =>
    match s.pbApply l with
    | (s, some e) => (s.pbErr false e).bootStop 0x12
    | (s, none) => s.bootNext

/-- Step 11 (R208). -/
def State.bootStep11 (s : State) : State × Bool :=
  match s.pbSchedules with
  | some b => (s.pbErr false (0, b, 0)).bootStop 0x13
  | none => s.bootNext

/-- Step 12 (R162): both packages dead end it, and READY is waited for. -/
def State.bootStep12 (s : State) : State × Bool :=
  if s.packagesDead then s.bootStop 0x15
  else if !s.flag R.DRC_STAT_READY then (s, false)
  else (s.bootPackages.modBoot fun b => { b with hdrDead := s.getF R.DRC_STAT_PKGDEAD }).bootNext

/-- Step 13 (R43, R209, R480). The count is loaded once after each power-on reset, in the first BOOT that comes this far, so that a
warm BOOT after one that did not reuses no count. -/
def State.bootStep13 (s : State) : State × Bool :=
  match s.jrnlScan with
  | (s, false) => s.bootStop 0x17
  | (s, true) =>
    if s.boot.countDue then
      let n := match s.lastSeal with | some x => x.1 + 1 | none => 0
      ((s.modCue fun c => { c with count := BitVec.ofNat 64 n }).modBoot fun b => { b with countDue := false }).bootNext
    else s.bootNext

/-- Whether the runtime-settings partition is blank. -/
def State.settingsBlank (s : State) : Bool :=
  s.mem.all fun c => !decide (pmemBase + 0x10000 ≤ c.1 ∧ c.1 < pmemBase + 0x100000)

/-- Step 14 (R210). -/
def State.bootStep14 (s : State) : State × Bool :=
  match s.boot.settings with
  | none => s.bootNext
  | some l =>
    let old := s.settingsVersion
    if old = leAt l 0 4 ∧ !s.settingsBlank then s.bootNext
    else
      let s := (s.pmemStore 0x10000 (l.drop 4)).raise R.SYS_BOOT_SETRST
      (s.bbxEvent 6 [BitVec.ofNat 32 old, BitVec.ofNat 32 (leAt l 0 4)]).bootNext

/-- Step 15 (R211): the held-back CUE records, the cores, PLACES. -/
def State.bootStep15 (s : State) : State × Bool :=
  match s.pbHeld with
  | (s, some e) => (s.pbErr false e).bootStop 0x12
  | (s, none) =>
    let s := s.releaseCores.modBoot fun b => { b with step := 0, hdrAddr := some s.byrSelf, held := [] }
    let s := s.enterPlaces.cueEnter.setF R.SYS_BOOT_CODE 1
    let us := (s.cue.time.toNat - s.boot.t0) / 1000
    ((s.setF R.SYS_BOOTTIME_US (us % 2 ^ 32)).bootEvent.restartEnd St.ok, false)

/-- The step that BOOT takes next; the Bool says whether BOOT goes on at once. The ROM services the management watchdog. -/
def State.bootStep (s : State) : State × Bool :=
  let s := if s.boot.step = 0 then s else s.wdReload 2
  match s.boot.step with
  | 2 => s.bootStep2
  | 3 => s.bootStep3
  | 4 => if s.flsBusy then (s, false) else s.bootNext
  | 5 => s.bootStep5
  | 6 => s.bootStep6
  | 7 => s.bootStep7
  | 8 => s.bootStep8
  | 9 => s.bootStep9
  | 10 => s.bootStep10
  | 11 => s.bootStep11
  | 12 => s.bootStep12
  | 13 => s.bootStep13
  | 14 => s.bootStep14
  | 15 => s.bootStep15
  | _ => (s, false)

/-- BOOT from its next step on, until it ends or waits. -/
def State.bootRun : Nat → State → State
  | 0, s => s
  | fuel + 1, s =>
    let r := s.bootStep
    if r.2 then State.bootRun fuel r.1 else r.1

/-- BOOT starts at the release of a reset (R193, R216). -/
def State.bootStart (s : State) (warm recover : Bool) : State :=
  let s := s.modBoot fun b =>
    { warm := warm, step := 2, recover := recover, t0 := s.cue.time.toNat, countDue := b.countDue, hdrInit := b.hdrInit, hdrDead := b.hdrDead,
      hdrAddr := b.hdrAddr }
  let s := (s.modSys fun y => { y with dev := .boot }).setF R.SYS_BOOT_WARM warm.toNat
  State.bootRun 16 s

/-! ## Commands -/

/-- POWER_ON_RESET (R30, R154): from DARK, mains applied or, with `wake`, a wake land asserted. -/
def execPowerOnReset (wake recoverLow : Bool) (s : State) : Host.Outcome State Fault Refusal :=
  let _ := wake
  .next (State.settle <| if s.sys.dev = .dark then s.powerOn.bootStart false recoverLow else s)

/-- WARM_RESET (R27): a reset that is due takes effect once DRAIN is 0. -/
def execWarmReset (s : State) : Host.Outcome State Fault Refusal :=
  .next (State.settle <| if s.sys.resetDue ∧ s.draining = false ∧ s.sys.dev ≠ .dark then s.warmReset.bootStart true false else s)

/-- BOOT_CONTINUE (R194): BOOT goes on with the step that waited. -/
def execBootContinue (s : State) : Host.Outcome State Fault Refusal :=
  .next (State.settle <| if s.sys.dev = .boot then State.bootRun 16 s else s)

end Sys2Proof.Machine
end

