-- ==== Sys2Proof/Machine/Boundary.lean ====
section
/-!
DEFINITION. The cue boundary (R26, R29, R41 to R50): what every block does at the tick, in one order.
What the spec leaves open here: log entry 26.
-/

namespace Sys2Proof.Machine

/-- The count, the instant of the boundary and the LPDDR5X lines of the cue just ended (R43, R46). -/
def State.boundaryCount (s : State) : State :=
  let s := s.modCue fun c => { c with count := c.count + 1, last := c.time }
  { s.setF R.DRC_LINES_LINES (s.drcLines % 2 ^ 32) with drcLines := 0 }

/-- The cue pairs' part: overruns of the cue just ended (`run`: it was in RUN), the ends of lockstep holds, the words that a
counting CUE_DONE commits, the next checkpoint (R48, R50, R136, R139). -/
def State.boundaryPairs (s : State) (run : Bool) (done : BitVec 4) : State :=
  let s := if s.paused then s else s.cueOverruns run
  let s := (List.range 4).foldl (fun s n =>
    let s := s.lockstepBoundary n (done.getLsbD n)
    if done.getLsbD n then s.loopCommit n else s) s
  let s := s.loopHeld
  (List.range 4).foldl (fun s n =>
    if s.isSplit n || (s.core (2 * n)).run != .running then s else s.modPair n fun p => { p with captureDue := true }) s

/-- The joins of the boundary, and the groups of a curtain as the finished slots make them (R334, R353). -/
def State.boundaryPwm (s : State) : State := s.pwmBoundary.curtainGroups

/-- The handover of a ready swath; RUN/IDLE becomes RUN/PRINTING with it (R30, R260). -/
def State.boundaryFire (s : State) (run : Bool) : State :=
  let s := s.fireLatch
  if !run || !s.inRun then s
  else
    let s1 := s.fireHandover
    let s2 := if s1.fireSw != s.fireSw && s1.sys.dev == .run .idle then
        s1.modSys fun y => { y with dev := .run .printing }
      else s1
    s2.printingEnds

/-- A cue boundary: the state transition first, then every block's part. A reset or the loss of power that the transition
brings about leaves nothing more to do. -/
def State.boundary (s : State) : State :=
  if !s.cueRuns then s
  else
    let run := s.inRun
    let late := s.cueLate
    let s := s.cueUnlate
    let done := s.cue.done
    let s := s.boundaryCount.cuePulse.cuePhaseStep.eventTurn
    if !s.cueRuns || s.sys.resetDue then s.cueTurn
    else
      let s := (s.boundaryPairs run done).boundaryPwm
      let s := (s.pbsBoundary.boundaryFire run).rhBoundary.sealWrite false
      let s := s.callBoundary.byrBoundary.reportSend.cueTurn
      (s.cueCarry late).actPause

/-- CUE_BOUNDARY (R26, R29). -/
def execCueBoundary (s : State) : Host.Outcome State Fault Refusal := .next s.boundary.settle

end Sys2Proof.Machine
end

