-- ==== Sys2Proof/Machine/BusCmds.lean ====
section
/-!
DEFINITION. The commands that are one register access: a write or a read on the interconnect by master `w` (R9 to R12, R23, R24),
whose effect the block's chapter gives.
What the spec leaves open here: log entry 25.
-/

namespace Sys2Proof.Machine

/-- The bits of a field. -/
def Fld.mask (f : Fld) : Word := maskOf f.hi f.lo

/-- The RW and RWL fields of the register at `a`, all other fields 0: what a write of one field of it gives the others. -/
def State.rwLook (s : State) (a : Nat) : Word :=
  match regAt a with
  | some (d, _, _) =>
    d.fields.foldl (fun r f => if f.ty = .rw ∨ f.ty = .rwl then r ||| (s.getReg a &&& maskOf f.hi f.lo) else r) 0#32
  | none => 0

/-- A write of 1 to field `f`: RW and RWL fields keep their values, the other bits are written 0. -/
def State.writeBit (s : State) (w : Writer) (f : Fld) : State := s.write32 w f.addr (s.rwLook f.addr ||| f.mask)

/-- A write of `v` with field `f` all ones. -/
def State.writeWith (s : State) (w : Writer) (f : Fld) (v : Word) : State := s.write32 w f.addr (v ||| f.mask)

/-- A write of a word that holds field `f` alone, all ones. -/
def State.writeOnly (s : State) (w : Writer) (f : Fld) : State := s.write32 w f.addr f.mask

/-- What an increment pattern leaves in the RC fields of a register that a read has just cleared (R12). -/
def rcIncrement (d : RegDesc) (inc : Nat) : Word :=
  d.fields.foldl (fun w f => if f.ty = .rc then w ||| (BitVec.ofNat 32 inc &&& maskOf f.hi f.lo) else w) 0#32

/-- A read of an RC register in the cycle in which hardware counts `inc` (a word laid out as the register): afterwards the
fields hold the increments of that cycle (R12). -/
def State.rcRead (s : State) (w : Writer) (a inc : Nat) : State :=
  let t := s.read32 w a
  match regAt a with
  | some (d, _, _) =>
    if s.masterActs w && !s.deniedTo w (physOf w a) then t.setReg a (t.getReg a ||| rcIncrement d inc) else t
  | none => t

/-! ## The cue, watchdogs and any register -/

/-- CUE_PERIOD_WRITE (R42). -/
def execCuePeriodWrite (w : Writer) (v : Word) (s : State) : Host.Outcome State Fault Refusal :=
  .next (s.write32 w R.CUE_PERIOD v)

/-- CUE_CTRL_WRITE (R53). -/
def execCueCtrlWrite (w : Writer) (v : Word) (s : State) : Host.Outcome State Fault Refusal :=
  .next (s.write32 w R.CUE_CTRL v)

/-- SHADOWED_PAIR_READ (R45). -/
def execShadowedPairRead (w : Writer) (addr : Addr) (s : State) : Host.Outcome State Fault Refusal :=
  .next (s.read32 w addr.toNat)

/-- RC_COUNTER_READ (R12). -/
def execRcCounterRead (w : Writer) (addr : Addr) (inc : Nat) (s : State) : Host.Outcome State Fault Refusal :=
  .next (s.rcRead w addr.toNat inc)

/-- REGISTER_WRITE (R11): an address outside peripheral space names no register, and nothing is written. -/
def execRegisterWrite (w : Writer) (addr : Addr) (v : Word) (s : State) : Host.Outcome State Fault Refusal :=
  .next (if regionOf addr.toNat = .peripheral then s.write32 w addr.toNat v else s)

/-- WATCHDOG_SERVICE (R28). -/
def execWatchdogService (w : Writer) (v : Word) (s : State) : Host.Outcome State Fault Refusal :=
  .next (s.write32 w R.SYS_WDSVC v)

/-! ## HOST -/

/-- HOST_TS_READ (R500). -/
def execHostTsRead (w : Writer) (mac : Fin 2) (s : State) : Host.Outcome State Fault Refusal :=
  .next (s.read32 w (R.HOST_TS0 mac))

/-- HOST_CQ_POP (R496). -/
def execHostCqPop (w : Writer) (s : State) : Host.Outcome State Fault Refusal := .next (s.writeOnly w R.HOST_CQ_POP)

/-- HOST_RSP_GO (R496). -/
def execHostRspGo (w : Writer) (v : Word) (s : State) : Host.Outcome State Fault Refusal :=
  .next (s.writeWith w R.HOST_RSP_GO v)

/-- HOST_RSP_NOTIFY (R496). -/
def execHostRspNotify (w : Writer) (v : Word) (s : State) : Host.Outcome State Fault Refusal :=
  .next (s.writeWith w R.HOST_RSP_NOTIFY v)

/-! ## USTD, PMC, the program store -/

/-- USTD_INJ (R134). -/
def execUstdInj (w : Writer) (v : Word) (s : State) : Host.Outcome State Fault Refusal :=
  .next (s.writeWith w R.USTD_INJ_GO v)

/-- PMC_LOCK (R170). -/
def execPmcLock (w : Writer) (s : State) : Host.Outcome State Fault Refusal := .next (s.writeBit w R.PMC_CTRL_LOCK)

/-- FLS_KEY_WRITE (R175): step 1 or 2 of a command sequence. -/
def execFlsKeyWrite (w : Writer) (addr : Addr) (v : Word) (s : State) : Host.Outcome State Fault Refusal :=
  .next (s.write32 w addr.toNat v)

/-- PROGRAM_PAGE (R175). -/
def execProgramPage (w : Writer) (addr : Addr) (s : State) : Host.Outcome State Fault Refusal :=
  .next (s.write32 w addr.toNat 0xA0#32)

/-- ERASE_BLOCK (R175). -/
def execEraseBlock (w : Writer) (addr : Addr) (s : State) : Host.Outcome State Fault Refusal :=
  .next (s.write32 w addr.toNat 0x80#32)

/-- PROGRAM_OTP (R190). -/
def execProgramOtp (w : Writer) (addr : Addr) (s : State) : Host.Outcome State Fault Refusal :=
  .next (s.write32 w addr.toNat 0xC0#32)

/-- FLS_SEQUENCE_TIMEOUT (R176): more than 256 cycles have gone since the last step; the next comes too late and is refused with
CAUSE 0x1. -/
def execFlsSequenceTimeout (s : State) : Host.Outcome State Fault Refusal :=
  .next (if s.fls.steps = 0 ∨ s.clk ≤ s.fls.seqClk + 256 then s else s.modFls fun f => { f with steps := 3 })

/-- FLS_SUSPEND (R183). -/
def execFlsSuspend (w : Writer) (s : State) : Host.Outcome State Fault Refusal := .next (s.writeBit w R.FLS_CTRL_SUSPEND)

/-- FLS_SUSPEND_DONE (R183). -/
def execFlsSuspendDone (s : State) : Host.Outcome State Fault Refusal := .next s.flsPause.settle

/-- FLS_RESUME (R183). -/
def execFlsResume (w : Writer) (s : State) : Host.Outcome State Fault Refusal := .next (s.writeBit w R.FLS_CTRL_RESUME)

/-- FLS_WP_LOCK (R192). -/
def execFlsWpLock (w : Writer) (s : State) : Host.Outcome State Fault Refusal := .next (s.writeBit w R.FLS_WP_LOCK)

/-! ## The print path -/

/-- SWATH_POST (R221). -/
def execSwathPost (w : Writer) (v : Word) (s : State) : Host.Outcome State Fault Refusal :=
  .next (s.writeWith w R.DROP_SWQH_POST v)

/-- DROP_FLUSH (R223). -/
def execDropFlush (w : Writer) (s : State) : Host.Outcome State Fault Refusal := .next (s.writeBit w R.DROP_CTRL_FLUSH)

/-- DROP_RETRY (R227). -/
def execDropRetry (w : Writer) (v : Word) (s : State) : Host.Outcome State Fault Refusal :=
  .next (s.write32 w R.DROP_RETRY v)

/-- DROP_RRQ_POP (R227). -/
def execDropRrqPop (w : Writer) (s : State) : Host.Outcome State Fault Refusal := .next (s.writeOnly w R.DROP_RRQ2_POP)

/-- FIRE_OBSEN_WRITE (R250). -/
def execFireObsenWrite (w : Writer) (v : Word) (s : State) : Host.Outcome State Fault Refusal :=
  .next (s.write32 w R.FIRE_CTRL v)

/-- JET_CTRL_EN (R286). -/
def execJetCtrlEn (w : Writer) (port : Fin 32) (v : Word) (s : State) : Host.Outcome State Fault Refusal :=
  .next (s.write32 w (R.JET_CTRL port) v)

/-- JET_TLOAD (R286). -/
def execJetTload (w : Writer) (port : Fin 32) (s : State) : Host.Outcome State Fault Refusal :=
  .next (s.writeBit w (R.JET_CTRL_TLOAD port))

/-! ## Media tracking, loops -/

/-- MTRK_PRESET (R303). -/
def execMtrkPreset (w : Writer) (s : State) : Host.Outcome State Fault Refusal := .next (s.writeBit w R.MTRK_CTRL_PRESET)

/-- MTRK_CAPTURE (R308). -/
def execMtrkCapture (w : Writer) (port : Fin 2) (v : Word) (s : State) : Host.Outcome State Fault Refusal :=
  .next (s.writeWith w (R.MTRK_CAP_GO port) v)

/-- LOOP_PARAM_WRITE (R326). -/
def execLoopParamWrite (w : Writer) (slot : Fin 64) (idx : Fin 37) (v : Word) (s : State) :
    Host.Outcome State Fault Refusal := .next (s.write32 w (R.LOOP_SP slot idx) v)

/-- REHEARSAL_GO (R336). -/
def execRehearsalGo (w : Writer) (v : Word) (s : State) : Host.Outcome State Fault Refusal :=
  .next (s.writeWith w R.LOOP_RHCTRL_GO v)

/-- REHEARSAL_STOP (R339). -/
def execRehearsalStop (w : Writer) (s : State) : Host.Outcome State Fault Refusal :=
  .next (s.writeBit w R.LOOP_RHCTRL_STOP)

/-! ## PWM and the analogue front end -/

/-- PWM_LDALL (R349): PWM_LDALLH with `high`. -/
def execPwmLdall (w : Writer) (high : Bool) (v : Word) (s : State) : Host.Outcome State Fault Refusal :=
  .next (s.write32 w (if high then R.PWM_LDALLH else R.PWM_LDALL) v)

/-- PWM_ENABLE (R353). -/
def execPwmEnable (w : Writer) (unit : Fin 48) (s : State) : Host.Outcome State Fault Refusal :=
  .next (s.writeBit w (R.PWM_CTRL_EN unit))

/-- PWM_DISABLE (R354): a write of 0 to EN, TRIPIRQ as it reads. -/
def execPwmDisable (w : Writer) (unit : Fin 48) (s : State) : Host.Outcome State Fault Refusal :=
  .next (s.write32 w (R.PWM_CTRL unit) (s.rwLook (R.PWM_CTRL unit) &&& ~~~ (R.PWM_CTRL_EN unit).mask))

/-- PWM_TRIP_CLEAR (R359). -/
def execPwmTripClear (w : Writer) (unit : Fin 48) (s : State) : Host.Outcome State Fault Refusal :=
  .next (s.writeOnly w (R.PWM_STAT_TRIPPED unit))

/-- PWM_LOCK (R361). -/
def execPwmLock (w : Writer) (s : State) : Host.Outcome State Fault Refusal := .next (s.writeBit w R.PWM_LOCK_LOCK)

/-- AFE_GTRIG (R369). -/
def execAfeGtrig (w : Writer) (v : Word) (s : State) : Host.Outcome State Fault Refusal := .next (s.write32 w R.AFE_GTRIG v)

/-- AFE_DAC_WRITE (R374). -/
def execAfeDacWrite (w : Writer) (cmp : Fin 48) (v : Word) (s : State) : Host.Outcome State Fault Refusal :=
  .next (s.write32 w (R.AFE_DAC cmp) v)

/-- AFE_CMPCFG_WRITE (R378). -/
def execAfeCmpcfgWrite (w : Writer) (cmp : Fin 48) (v : Word) (s : State) : Host.Outcome State Fault Refusal :=
  .next (s.write32 w (R.AFE_CMPCFG cmp) v)

/-- ENC_PRESET (R392). -/
def execEncPreset (w : Writer) (i : Fin 8) (s : State) : Host.Outcome State Fault Refusal :=
  .next (s.writeBit w (R.ENC_CFG_PRESET i))

/-! ## Call board, DMA, pins -/

/-- CALL_RUNAWAY_CLEAR (R406). -/
def execCallRunawayClear (w : Writer) (idx : Fin 8) (v : Word) (s : State) : Host.Outcome State Fault Refusal :=
  .next (s.write32 w (R.CALL_RUNAWAY idx) v)

/-- DMA_GO (R425). -/
def execDmaGo (w : Writer) (ch : Fin 64) (v : Word) (s : State) : Host.Outcome State Fault Refusal :=
  .next (s.writeWith w (R.DMA_CTRL_GO ch) v)

/-- DMA_ABORT (R426). -/
def execDmaAbort (w : Writer) (ch : Fin 64) (s : State) : Host.Outcome State Fault Refusal :=
  .next (s.writeBit w (R.DMA_CTRL_ABORT ch))

/-- GPIO_PCFG_WRITE (R433). -/
def execGpioPcfgWrite (w : Writer) (port : Fin 8) (pin : Fin 32) (v : Word) (s : State) :
    Host.Outcome State Fault Refusal := .next (s.write32 w (R.GPIO_PCFG port pin) v)

/-- GPIO_MASKED_WRITE (R439): GPIO_PxMWH with `high`. -/
def execGpioMaskedWrite (w : Writer) (port : Fin 8) (high : Bool) (v : Word) (s : State) :
    Host.Outcome State Fault Refusal := .next (s.write32 w (if high then R.GPIO_PxMWH port else R.GPIO_PxMWL port) v)

/-- GPIO_OWNER_WRITE (R436). -/
def execGpioOwnerWrite (w : Writer) (port : Fin 8) (k : Fin 4) (v : Word) (s : State) : Host.Outcome State Fault Refusal :=
  .next (s.write32 w (R.GPIO_PxOWN port k) v)

/-- GPIO_LOCK_MASK (R437). -/
def execGpioLockMask (w : Writer) (port : Fin 8) (v : Word) (s : State) : Host.Outcome State Fault Refusal :=
  .next (s.write32 w (R.GPIO_PxLCKM port) v)

/-- GPIO_LKEY (R437). -/
def execGpioLkey (w : Writer) (v : Word) (s : State) : Host.Outcome State Fault Refusal := .next (s.write32 w R.GPIO_LKEY v)

/-- SERDAT_WRITE (R445). -/
def execSerdatWrite (w : Writer) (n : Fin 4) (v : Word) (s : State) : Host.Outcome State Fault Refusal :=
  .next (s.write32 w (R.GPIO_SERDAT n) v)

/-- SERDAT_READ (R445). -/
def execSerdatRead (w : Writer) (n : Fin 4) (s : State) : Host.Outcome State Fault Refusal :=
  .next (s.read32 w (R.GPIO_SERDAT n))

/-! ## Journal, Byrov, updates, black box, security -/

/-- JRNL_ACCEPT (R469). -/
def execJrnlAccept (w : Writer) (s : State) : Host.Outcome State Fault Refusal := .next (s.writeBit w R.JRNL_CTRL_ACCEPT)

/-- JRNL_ABANDON (R486). -/
def execJrnlAbandon (w : Writer) (s : State) : Host.Outcome State Fault Refusal := .next (s.writeBit w R.JRNL_CTRL_ABANDON)

/-- BYR_CTRL_WRITE (R508). -/
def execByrCtrlWrite (w : Writer) (v : Word) (s : State) : Host.Outcome State Fault Refusal := .next (s.write32 w R.BYR_CTRL v)

/-- BYR_MTX_GO (R512). -/
def execByrMtxGo (w : Writer) (v : Word) (s : State) : Host.Outcome State Fault Refusal := .next (s.writeWith w R.BYR_MTX_GO v)

/-- BYR_MRX_POP (R512). -/
def execByrMrxPop (w : Writer) (s : State) : Host.Outcome State Fault Refusal := .next (s.writeOnly w R.BYR_MRX_POP)

/-- UPD_VERIFY (R522). -/
def execUpdVerify (w : Writer) (v : Word) (s : State) : Host.Outcome State Fault Refusal :=
  .next (s.writeWith w R.UPD_CTRL_VERIFY v)

/-- UPD_ACT (R525). -/
def execUpdAct (w : Writer) (v : Word) (s : State) : Host.Outcome State Fault Refusal := .next (s.writeWith w R.UPD_CTRL_ACT v)

/-- BBX_WR (R535). -/
def execBbxWr (w : Writer) (v : Word) (s : State) : Host.Outcome State Fault Refusal := .next (s.writeWith w R.BBX_CTRL_WR v)

/-- BBX_CALSET (R538). -/
def execBbxCalset (w : Writer) (v : Word) (s : State) : Host.Outcome State Fault Refusal :=
  .next (s.writeWith w R.BBX_CTRL_CALSET v)

/-- SEC_DBG_LOCK (R540). -/
def execSecDbgLock (w : Writer) (s : State) : Host.Outcome State Fault Refusal := .next (s.writeBit w R.SEC_DBG_LOCK)

end Sys2Proof.Machine
end

