-- ==== Sys2Proof/Machine/HostCmd.lean ====
section
/-!
DEFINITION. What the host's frames do (R489 to R501): the checks of R491, each command, the recovery download (R530, R531), the
PCIe windows, ARP, Ethernet and PTP, and the image data of the Byrov chain (R523).
What the spec leaves open here: log entries 21 and 46.
-/

namespace Sys2Proof.Machine

/-! ## The checks (R31, R491, R493, R495) -/

/-- Whether role `r` (0 RIP, 1 SERVICE, 2 MONITOR) may send command `op` (R493). -/
def roleAllows (r op : Nat) : Bool :=
  if op = Op.open_ ∨ op = Op.close ∨ op = Op.keepalive ∨ op = Op.status ∨ op = Op.readMem ∨ op = Op.callCurtain then true
  else if op = Op.submit then r == 0
  else if op = Op.activate ∨ op = Op.enterRecovery ∨ op = Op.image ∨ op = Op.recovery then r == 1
  else if op = Op.writeMem ∨ op = Op.go ∨ op = Op.pause ∨ op = Op.resume ∨ op = Op.clear ∨ op = Op.enterWings ∨ op = Op.wake ∨
      op = Op.shutdown ∨ op = Op.restart ∨ op = Op.fwCall then r == 0 || r == 1
  else false

/-- The command of R31 with opcode `op` that becomes due at a boundary. -/
def stateCmdOf (op : Nat) : Option StateCmd :=
  if op = Op.go then some .go
  else if op = Op.pause then some .pause
  else if op = Op.resume then some .resume
  else if op = Op.clear then some .clear
  else if op = Op.enterWings then some .enterWings
  else if op = Op.wake then some .wake
  else if op = Op.shutdown then some .shutdown
  else if op = Op.enterRecovery then some .enterRecovery
  else if op = Op.restart then some .restart
  else none

/-- PLACES or RUN. -/
def State.placesOrRun (s : State) : Bool := s.inRun || s.sys.dev == .places

/-- Whether command `op` is legal in the present state (R31, R493). -/
def State.opLegal (s : State) (op : Nat) (payload : List Byte) : Bool :=
  match stateCmdOf op with
  | some c => s.cmdLegal c
  | none =>
    if op = Op.submit ∨ op = Op.writeMem ∨ op = Op.image then s.placesOrRun
    else if op = Op.callCurtain then s.inRun
    else if op = Op.activate then s.sys.dev == .run .idle
    else if op = Op.recovery then s.sys.dev == .recovery
    else if op = Op.fwCall then s.cueRuns
    else if op = Op.readMem then regionOf (leAt payload 0 8) != .dram || s.placesOrRun
    else true

/-- The long operations (R495). -/
def longOp (op : Nat) : Bool := op == Op.activate || op == Op.restart || op == Op.image || op == Op.recovery

/-- Whether a chunk goes on with the recovery item that session `i` has under way. -/
def State.sameItem (s : State) (i op : Nat) (payload : List Byte) : Bool :=
  op == Op.recovery && s.upd.item.any (fun x => x.1 == leAt payload 0 1) && s.host.long.any (fun l => l.1 == i && l.2.1 == op)

/-- Whether a long operation, or the pause of an activation, holds what command `op` needs (R495, R527). -/
def State.opBusy (s : State) (i op : Nat) (payload : List Byte) : Bool :=
  if s.paused then op != Op.status
  else s.host.long.isSome && !s.sameItem i op payload &&
    (longOp op || op == Op.submit || ((stateCmdOf op).isSome && op != Op.callCurtain))

/-! ## Commands that HOST serves itself -/

/-- The payload of a STATUS answer (R493). -/
def State.statusPayload (s : State) : List Byte :=
  [s.regLook R.SYS_STATE, s.regLook R.SYS_CURTAIN, s.regLook R.SYS_BOOT, s.regLook R.JRNL_LASTACC, s.regLook R.JRNL_LASTRET,
    s.regLook R.HOST_LONG].flatMap fun w => bytesLE 4 w.toNat

/-- READMEM (R493): the contents of memory or of the program store, at most one payload. -/
def State.readMemAt (s : State) (a n : Nat) : State × Option (List Byte) :=
  let r := regionOf a
  let whole := n != 0 && r == regionOf (a + n - 1) && decide (n ≤ 8192)
  match r, whole with
  | .peripheral, _ | .remote, _ | .hole, _ | _, false => (s, none)
  | .program, true => s.progRead a n
  | _, true =>
    match s.memRead a n with
    | (s, .ok l) => (s, some l)
    | (s, _) => (s, none)

/-- WRITEMEM (R493): the usable LPDDR5X range only, as a management-plane write. -/
def State.writeMemAt (s : State) (a : Nat) (l : List Byte) : State × Bool :=
  if s.dramUsable a l.length then s.memWrite .host a l else (s, false)

/-- A request passed to firmware (R496): into the session's buffer and the command queue. -/
def State.hostPass (s : State) (i op seq : Nat) (payload : List Byte) : State :=
  let s := s.hostCopy i 0 (hostFrame op 0 i seq 0 payload)
  (s.modSess i fun x => { x with pend := some (op, seq) }).modHost fun h => { h with cq := h.cq ++ [i] }

/-- A command among those that wait: in order of arrival, of one cycle the lower session first (R32, R491). -/
def insertCmd (w : WaitingCmd) : List WaitingCmd → List WaitingCmd
  | [] => [w]
  | x :: t => if x.clk = w.clk ∧ w.sess < x.sess then w :: x :: t else x :: insertCmd w t

/-- A command of R31 that becomes due at the next boundary. -/
def State.hostDue (s : State) (i seq : Nat) (c : StateCmd) : State :=
  s.modSys fun y => { y with cmds := insertCmd ⟨c, Fin.ofNat 64 i, BitVec.ofNat 16 seq, s.clk⟩ y.cmds }

/-! ## Recovery download (R531) -/

/-- The bank that a recovered image goes to: not the active one, bank 1 when neither holds a record. -/
def State.recBank (s : State) : Nat :=
  if (s.actCount 0).isNone && (s.actCount 1).isNone then 1
  else 1 - if s.boot.loaded then s.getF R.UPD_STAT_ACTIVE else s.actBank

/-- The slot that a recovered prompt book goes to: not the one in force, A when neither copy is valid. -/
def State.recSlot (s : State) : Nat :=
  match s.pbSelect.2 with
  | some i => 1 - i
  | none => 0

/-- The base, the number of blocks and the size limit of what item `k` is written to. -/
def State.recArea (s : State) (k : Nat) : Nat × Nat × Nat :=
  if k = 1 then (bankBase s.upd.itemTo, 256, 0x3FC00000)
  else if k = 2 then (slotBase s.upd.itemTo, 16, 0x4000000)
  else (0, 0, 512)

/-- Bytes programmed at address `a` of an erased area by the ROM. -/
def State.recProgram (s : State) (a : Nat) (l : List Byte) : State :=
  let s := (s.freshEcc a l.length).wrBytes a l
  s.modFls fun f => { f with pointer := mset f.pointer (flsBlock a) (flsPage (a + l.length - 1) % 256 + 1) }

/-- The area of item `k` erased. -/
def State.recErase (s : State) (k : Nat) : State :=
  let (base, n, _) := s.recArea k
  (List.range n).foldl (fun s b => s.eraseBlock (base + 0x400000 * b) false) s

/-- The whole image of bank `b` checked (R518). -/
def State.imageReason (s : State) (b : Nat) : State × Nat :=
  match s.manifestRead b with
  | (s, none) => (s, 6)
  | (s, some h) =>
    if s.manifestReason h ≠ 0 then (s, s.manifestReason h)
    else
      let p := (List.range (imgChunks h)).foldl (fun p i => if p.2 = 0 then p.1.chunkReason b h i else p) (s, 0)
      (imgSections h).foldl (fun p x => if p.2 = 0 then p.1.sectionReason b x else p) p

/-- The copy of slot `i` checked (R199). -/
def State.copyReason (s : State) (i : Nat) : State × Nat :=
  match s.pbHeader i with
  | (s, h, 0) =>
    let (s, b) := s.pbBody i h
    (s, s.pbBodyReason h b)
  | (s, _, r) => (s, r)

/-- The journal item checked (R531): magic, module ID, digest, key, signature; its layout is that of R198 with the module ID
at 0x020 (DESIGN CHOICE, log entry 21). -/
def State.journalReason (s : State) (l : List Byte) : Nat :=
  let digest := (l.drop 0x30).take 48
  if l.length ≠ 512 ∨ leAt l 0 4 ≠ 0x4E524A49 then 1
  else if (l.drop 0x20).take 16 ≠ s.otpBytes 0 16 then 3
  else if sha384 (l.take 0x30) ≠ digest then 5
  else if !s.keyAccepted (leAt l 0x14 1) ((l.drop 0xC0).take 96) then 6
  else if !signatureOk l digest 0x60 0xC0 then 7
  else 0

/-- The check at LAST of item `k`, and what a passed item does. -/
def State.recCheck (s : State) (k : Nat) : State × Nat :=
  match k with
  | 1 =>
    let b := s.upd.itemTo
    match s.imageReason b with
    | (s, 0) => (s.actWrite b (imgVersion (s.manifest b)), 0)
    | p => p
  | 2 => s.copyReason s.upd.itemTo
  | _ =>
    match s.journalReason s.upd.itemData with
    | 0 => (s.jrnlInit, 0)
    | r => (s, r)

/-- An item ends with its check; the Nat is the reason. -/
def State.recEnd (s : State) (k : Nat) : State × Nat :=
  let (s, r) := s.recCheck k
  let s := s.modUpd fun u => { u with item := none, itemData := [] }
  (s.bbxEvent 0xB [BitVec.ofNat 32 k, BitVec.ofNat 32 r], r)

/-- Data of item `k` at offset `o` taken, at offset 0 after an erase; the Bool says whether offset and size are accepted. -/
def State.recTake (s : State) (k o : Nat) (l : List Byte) : State × Bool :=
  let next := match s.upd.item with
    | some (j, n) => if j = k then n else 0
    | none => 0
  let s := if o = 0 then s.modUpd fun u => { u with itemTo := if k = 1 then s.recBank else s.recSlot } else s
  let (base, _, lim) := s.recArea k
  if k < 1 ∨ 3 < k ∨ lim < o + l.length ∨ (o ≠ 0 ∧ o ≠ next) then (s, false)
  else
    let s := if o = 0 then (s.recErase k).modUpd fun u => { u with itemData := [] } else s
    let s := if k = 3 then s.modUpd fun u => { u with itemData := u.itemData ++ l }
      else if l.isEmpty then s else s.recProgram (base + o) l
    (s.modUpd fun u => { u with item := some (k, o + l.length) }, true)

/-- Recovery chunk `payload` of session `i` served: the first one of an item starts its long operation, the last one ends it. -/
def State.recChunk (s : State) (i seq : Nat) (payload : List Byte) : State :=
  let k := leAt payload 0 1
  let first := !s.sameItem i Op.recovery payload
  match s.recTake k (leAt payload 4 4) (payload.drop 8) with
  | (_, false) => s.hostAnswer i Op.recovery seq St.badAddr []
  | (s, true) =>
    let s := if first then s.longAnswer i Op.recovery seq
      else s.hostAnswer i Op.recovery seq St.longStarted (bytesLE 2 (s.longWord % 2 ^ 16))
    if leAt payload 1 1 % 2 = 1 then
      let (s, r) := s.recEnd k
      if r = 0 then s.longEnd St.ok [] else s.longEnd St.badFrame (bytesLE 1 r)
    else s

/-- `s` with a request of the download that waits until the program store is free: the ROM reads none of it before (R188). -/
def State.recHold (s : State) (w : RecWait) : State := s.modUpd fun u => { u with recWait := u.recWait ++ [w] }

/-- A recovery chunk of session `i` (R531); while an operation still runs in the program store it waits unanswered (R188). -/
def State.hostRecovery (s : State) (i seq : Nat) (payload : List Byte) : State :=
  if s.flsBusy then (s.modSess i fun x => { x with pend := some (Op.recovery, seq) }).recHold (.chunk i seq payload)
  else s.recChunk i seq payload

/-! ## Execution of a command that has passed the checks -/

/-- A state command: ENTER_RECOVERY in BOOT, and RESTART in BOOT and RECOVERY, act at once (R29, R195); GO needs SYS_GOEN (R215). -/
def State.hostState (s : State) (i seq : Nat) (payload : List Byte) (c : StateCmd) : State :=
  match c with
  | .go =>
    if s.flag R.SYS_GOEN_EN then (s.hostDue i seq .go).hostPass i Op.go seq payload else s.hostAnswer i Op.go seq St.notReady []
  | .enterRecovery =>
    if s.sys.dev = .boot then (s.hostAnswer i Op.enterRecovery seq St.ok []).enterRecovery 0x22
    else (s.hostDue i seq .enterRecovery).hostPass i Op.enterRecovery seq payload
  | .restart =>
    let s := s.longAnswer i Op.restart seq
    if s.sys.dev = .boot ∨ s.sys.dev = .recovery then s.resetFor false else s.hostDue i seq .restart
  | c => (s.hostDue i seq c).hostPass i c.opcode seq payload

/-- What command `op` of session `i` does (R493). -/
def State.hostRun (s : State) (i op seq : Nat) (payload : List Byte) : State :=
  match stateCmdOf op with
  | some c => s.hostState i seq payload c
  | none =>
    if op = Op.close then (s.hostAnswer i op seq St.ok []).hostClose i
    else if op = Op.keepalive then s.hostAnswer i op seq St.ok []
    else if op = Op.status then s.hostAnswer i op seq St.ok s.statusPayload
    else if op = Op.readMem then
      match s.readMemAt (leAt payload 0 8) (leAt payload 8 4) with
      | (s, some l) => s.hostAnswer i op seq St.ok l
      | (s, none) => s.hostAnswer i op seq St.badAddr []
    else if op = Op.writeMem then
      match s.writeMemAt (leAt payload 0 8) (payload.drop 8) with
      | (s, ok) => s.hostAnswer i op seq (if ok then St.ok else St.badAddr) []
    else if op = Op.callCurtain then
      let s := (s.raise R.SYS_CURTAIN_HOSTCMD).modSys fun y =>
        { y with callDue := some (y.callDue.getD (Fin.ofNat 64 i, BitVec.ofNat 16 seq)) }
      s.hostPass i op seq payload
    else if op = Op.activate then (s.modHost fun h => { h with actSess := some i }).hostPass i op seq payload
    else if op = Op.image then
      let s := s.longAnswer i op seq
      let s := s.hostCopy i 0 (hostFrame op 0 i seq 0 payload)
      s.modHost fun h => { h with cq := h.cq ++ [i] }
    else if op = Op.recovery then s.hostRecovery i seq payload
    else s.hostPass i op seq payload

/-- The checks 2 to 6 of R491 on command `op` of session `i`, whose partner is the one recorded, and its execution; a repeated
sequence number whose answer is not stored is executed again. -/
def State.hostRequest (s : State) (i op seq : Nat) (payload : List Byte) : State :=
  if s.sys.dev = .dark then s
  else
    match s.session i with
    | none => s.hostSend 64 (hostFrame op 1 i seq St.noSession [])
    | some x =>
      if x.pend.isSome && seq != x.last then s.count R.HOST_STAT_DISC 1
      else if seq = x.last ∧ x.stored.isSome then s.hostReply i 0x2800 (x.stored.getD [])
      else if seq ≠ x.last ∧ seq ≠ (x.last + 1) % 65536 then s.hostRefuse i op i seq St.frameSeq
      else if !roleAllows x.role op then s.hostRefuse i op i seq St.roleRefused
      else if !s.opLegal op payload then s.hostRefuse i op i seq St.stateRefused
      else if s.opBusy i op payload then s.hostRefuse i op i seq St.busy
      else s.hostRun i op seq payload

/-! ## OPEN and whole frames (R490, R491, R498) -/

/-- An answer to a sender without a session; a PCIe partner finds it in buffer `buf`. -/
def State.hostStray (s : State) (iface buf : Nat) (l : List Byte) : State :=
  let s := s.hostSend 64 l
  if iface = 0 then s.hostCopy buf 0x2800 l else s

/-- Whether HOST takes frames from an interface: enabled, a MAC with its address; the ROM serves PCIe and USB in RECOVERY. -/
def State.ifServed (s : State) (iface : Nat) : Bool :=
  s.sys.dev != .dark && s.ifEnabled iface &&
    (!(iface == 1 || iface == 2) || (s.getReg (R.HOST_IP (iface - 1)) != 0 && s.sys.dev != .recovery))

/-- OPEN (R490): a role, the lowest FREE index, on PCIe the index of the buffer. -/
def State.hostOpen (s : State) (iface partner buf seq role : Nat) : State :=
  let refuse := fun st => s.hostStray iface buf (hostFrame Op.open_ 1 0xFFFF seq st [])
  if s.paused then refuse St.busy
  else if 2 < role ∨ (s.sys.dev = .recovery ∧ role ≠ 1) then refuse St.roleRefused
  else
    let free := if iface = 0 then (if (s.session buf).isNone then some buf else none)
      else (List.range 64).find? fun i => (s.session i).isNone
    match free with
    | none => refuse St.tableFull
    | some i =>
      let s := s.modHost fun h => { h with sess := mset h.sess i { role := role, iface := iface, partner := partner, last := seq } }
      s.hostAnswer i Op.open_ seq St.ok []

/-- A frame that arrives on an interface from a partner (R491). -/
def State.hostFrameIn (s : State) (iface partner buf : Nat) (l : List Byte) : State :=
  if !s.ifServed iface then s
  else
    let op := leAt l 2 1
    let i := leAt l 4 2
    let seq := leAt l 6 2
    if !frameOk l then s.hostStray iface buf (hostFrame op 1 i seq St.badFrame [])
    else if op = Op.open_ then s.hostOpen iface partner buf seq (leAt l 16 1)
    else
      match s.session i with
      | some x =>
        if x.iface = iface ∧ x.partner = partner then s.hostRequest i op seq (l.drop 16)
        else s.hostStray iface buf (hostFrame op 1 i seq St.noSession [])
      | none => s.hostStray iface buf (hostFrame op 1 i seq St.noSession [])

/-- The doorbell write of `v` (R498): the frame in buffer `v`. -/
def State.doorbell (s : State) (v : Nat) : State :=
  match s.hostBuf v 0 with
  | some a =>
    if v < 64 then
      let (s, h) := s.blockRead .working a 16
      let (s, l) := s.blockRead .working (a + 16) (min (leAt h 0xA 2) 8192)
      s.hostFrameIn 0 0 v (h ++ l)
    else s
  | none => s

/-! ## The chain's image data (R523, R530) -/

/-- Where packet `p` of chunk `c` belongs in an image. -/
def imgDataOffset (c p : Nat) : Nat := (if c = manifestChunk then 0 else 0x100000 * (c + 1)) + 1024 * p

/-- The ROM takes a packet of an image item in RECOVERY: a whole chunk is checked and acknowledged, the last one ends the
item. -/
def State.romImgData (s : State) (src c p : Nat) (l : List Byte) : State :=
  match s.recTake 1 (imgDataOffset c p) (l.take 1024) with
  | (_, false) => s
  | (s, true) =>
    if p ≠ 1023 then s
    else
      let b := s.upd.itemTo
      let (s, r) := match s.manifestRead b with
        | (s, none) => (s, 6)
        | (s, some h) => if c = manifestChunk then (s, s.manifestReason h) else s.chunkReason b h c
      let s := s.byrPkt src 5 0 (bytesLE 8 (2 + c * 2 ^ 16 + r * 2 ^ 32))
      if c ≠ manifestChunk ∧ c + 1 = imgChunks (s.manifest b) then (s.recEnd 1).1 else s

/-- An IMGDATA message: in RECOVERY for the ROM, otherwise for firmware. -/
def State.imgData (s : State) (src c p : Nat) (l : List Byte) : State :=
  if s.sys.dev = .recovery then
    if s.flsBusy then s.recHold (.packet src c p l) else s.romImgData src c p l
  else
    let s := s.modUpd fun u => { u with chainSrc := some (src, c) }
    s.msgIn src (bytesLE 8 (1 + c * 2 ^ 16 + p * 2 ^ 32) ++ l.take 1024)

/-- A request that waited is served. -/
def State.recServe (s : State) : RecWait → State
  | .chunk i seq l => s.recChunk i seq l
  | .packet src c p l => s.romImgData src c p l

/-- The ROM serves what waited for the program store, in order (R188). -/
def State.recResume (s : State) : State :=
  if s.flsBusy then s else s.upd.recWait.foldl State.recServe (s.modUpd fun u => { u with recWait := [] })

/-- FLS_OPERATION_DONE (R175, R181): the operation ends, and a recovery download that waited for it goes on (R188). -/
def execFlsOperationDone (err : Bool) (s : State) : Host.Outcome State Fault Refusal :=
  .next (State.settle <| (s.flsComplete err).recResume)

/-! ## PCIe, Ethernet, PTP -/

/-- A host write of `l` at BAR2 offset `off` (R498). -/
def State.bar2Put (s : State) (off : Nat) (l : List Byte) : State :=
  if s.sys.dev = .dark then s
  else if off + l.length ≤ 0x800000000 ∧ s.dramUsable (0x1000000000 + off) l.length = true then
    (s.memWrite .host (0x1000000000 + off) l).1
  else s.raise R.HOST_STAT_BARERR

/-- A host read of `n` bytes at BAR2 offset `off`: the completion, `none` for Unsupported Request (R498). -/
def State.bar2Get (s : State) (off n : Nat) : State :=
  if s.sys.dev = .dark then s
  else if off + n ≤ 0x800000000 ∧ s.dramUsable (0x1000000000 + off) n = true then
    match s.dramRead (0x1000000000 + off) n with
    | (s, .ok l) => s.modHost fun h => { h with bar2 := some l }
    | (s, _) => s.modHost fun h => { h with bar2 := none }
  else (s.raise R.HOST_STAT_BARERR).modHost fun h => { h with bar2 := none }

/-! ## Commands -/

/-- GO (R31, R215). -/
def execGo (q : Req) (s : State) : Host.Outcome State Fault Refusal :=
  .next (State.settle <| s.hostRequest q.sess Op.go q.seq.toNat q.payload)

/-- SUBMIT (R493): passed to firmware, which answers it with the token. -/
def execSubmit (q : Req) (s : State) : Host.Outcome State Fault Refusal :=
  .next (State.settle <| s.hostRequest q.sess Op.submit q.seq.toNat q.payload)

/-- PAUSE (R31). -/
def execPause (q : Req) (s : State) : Host.Outcome State Fault Refusal :=
  .next (State.settle <| s.hostRequest q.sess Op.pause q.seq.toNat q.payload)

/-- RESUME (R31). -/
def execResume (q : Req) (s : State) : Host.Outcome State Fault Refusal :=
  .next (State.settle <| s.hostRequest q.sess Op.resume q.seq.toNat q.payload)

/-- CALL_CURTAIN (R31, R33). -/
def execCallCurtain (q : Req) (s : State) : Host.Outcome State Fault Refusal :=
  .next (State.settle <| s.hostRequest q.sess Op.callCurtain q.seq.toNat q.payload)

/-- CLEAR (R31). -/
def execClear (q : Req) (s : State) : Host.Outcome State Fault Refusal :=
  .next (State.settle <| s.hostRequest q.sess Op.clear q.seq.toNat q.payload)

/-- ENTER_WINGS (R31). -/
def execEnterWings (q : Req) (s : State) : Host.Outcome State Fault Refusal :=
  .next (State.settle <| s.hostRequest q.sess Op.enterWings q.seq.toNat q.payload)

/-- WAKE (R31, R160). -/
def execWake (q : Req) (s : State) : Host.Outcome State Fault Refusal :=
  .next (State.settle <| s.hostRequest q.sess Op.wake q.seq.toNat q.payload)

/-- SHUTDOWN (R31). -/
def execShutdown (q : Req) (s : State) : Host.Outcome State Fault Refusal :=
  .next (State.settle <| s.hostRequest q.sess Op.shutdown q.seq.toNat q.payload)

/-- ACTIVATE (R31, R525). -/
def execActivate (q : Req) (s : State) : Host.Outcome State Fault Refusal :=
  .next (State.settle <| s.hostRequest q.sess Op.activate q.seq.toNat q.payload)

/-- ENTER_RECOVERY (R31, R195). -/
def execEnterRecovery (q : Req) (s : State) : Host.Outcome State Fault Refusal :=
  .next (State.settle <| s.hostRequest q.sess Op.enterRecovery q.seq.toNat q.payload)

/-- RESTART (R31, R495). -/
def execRestart (q : Req) (s : State) : Host.Outcome State Fault Refusal :=
  .next (State.settle <| s.hostRequest q.sess Op.restart q.seq.toNat q.payload)

/-- RECOVERY_DOWNLOAD (R531). -/
def execRecoveryDownload (q : Req) (s : State) : Host.Outcome State Fault Refusal :=
  .next (State.settle <| s.hostRequest q.sess Op.recovery q.seq.toNat q.payload)

/-- OPEN (R490). -/
def execOpen (iface : Fin 4) (partner : Nat) (buf : Fin 64) (seq : BitVec 16) (role : BitVec 8) (s : State) :
    Host.Outcome State Fault Refusal :=
  .next (State.settle <| if s.ifServed iface then s.hostOpen iface partner buf seq.toNat role.toNat else s)

/-- CLOSE (R490). -/
def execClose (q : Req) (s : State) : Host.Outcome State Fault Refusal :=
  .next (State.settle <| s.hostRequest q.sess Op.close q.seq.toNat q.payload)

/-- KEEPALIVE (R490). -/
def execKeepalive (q : Req) (s : State) : Host.Outcome State Fault Refusal :=
  .next (State.settle <| s.hostRequest q.sess Op.keepalive q.seq.toNat q.payload)

/-- STATUS (R493): answered by HOST itself. -/
def execStatus (q : Req) (s : State) : Host.Outcome State Fault Refusal :=
  .next (State.settle <| s.hostRequest q.sess Op.status q.seq.toNat q.payload)

/-- READMEM (R493). -/
def execReadMem (q : Req) (s : State) : Host.Outcome State Fault Refusal :=
  .next (State.settle <| s.hostRequest q.sess Op.readMem q.seq.toNat q.payload)

/-- WRITEMEM (R493). -/
def execWriteMem (q : Req) (s : State) : Host.Outcome State Fault Refusal :=
  .next (State.settle <| s.hostRequest q.sess Op.writeMem q.seq.toNat q.payload)

/-- IMAGE (R495, R521): passed to firmware as a long operation. -/
def execImage (q : Req) (s : State) : Host.Outcome State Fault Refusal :=
  .next (State.settle <| s.hostRequest q.sess Op.image q.seq.toNat q.payload)

/-- FWCALL (R493). -/
def execFwCall (q : Req) (s : State) : Host.Outcome State Fault Refusal :=
  .next (State.settle <| s.hostRequest q.sess Op.fwCall q.seq.toNat q.payload)

/-- HOST_FRAME_RECEIVE (R491); on PCIe the frame stands in buffer `buf` (R498). -/
def execHostFrameReceive (iface : Fin 4) (partner : Nat) (buf : Fin 64) (frame : List Byte) (s : State) :
    Host.Outcome State Fault Refusal :=
  let t := if iface = 0 ∧ s.ifServed 0 = true then s.hostCopy buf 0 frame else s
  .next (State.settle <| t.hostFrameIn iface partner buf frame)

/-- LONG_OPERATION_COMPLETE (R495). -/
def execLongOperationComplete (status : Word) (payload : List Byte) (s : State) : Host.Outcome State Fault Refusal :=
  .next (State.settle <| s.longEnd (status.toNat % 2 ^ 16) payload)

/-- SESSION_IDLE_TIMEOUT (R490). -/
def execSessionIdleTimeout (sess : Fin 64) (s : State) : Host.Outcome State Fault Refusal :=
  .next (State.settle <| s.hostClose sess)

/-- FUNCTION_LEVEL_RESET (R490). -/
def execFunctionLevelReset (s : State) : Host.Outcome State Fault Refusal := .next (State.settle <| s.hostCloseIf 0)

/-- USB_DISCONNECT (R490). -/
def execUsbDisconnect (s : State) : Host.Outcome State Fault Refusal := .next (State.settle <| s.hostCloseIf 3)

/-- PCIE_DOORBELL (R498). -/
def execPcieDoorbell (v : Word) (s : State) : Host.Outcome State Fault Refusal := .next (State.settle <| s.doorbell v.toNat)

/-- BAR2_WRITE (R498). -/
def execBar2Write (off : Nat) (data : List Byte) (s : State) : Host.Outcome State Fault Refusal :=
  .next (State.settle <| if s.ifEnabled 0 then s.bar2Put off data else s)

/-- BAR2_READ (R498). -/
def execBar2Read (off len : Nat) (s : State) : Host.Outcome State Fault Refusal :=
  .next (State.settle <| if s.ifEnabled 0 then s.bar2Get off len else s)

/-- ARP_REQUEST (R499): HOST answers for HOST_IP(n). -/
def execArpRequest (mac : Fin 2) (ip : Word) (s : State) : Host.Outcome State Fault Refusal :=
  .next (State.settle <| if s.ifServed (1 + mac) && s.getReg (R.HOST_IP mac) == ip then
      s.modHost fun h => { h with arp := some (mac, ip) }
    else s)

/-- ETH_FRAME_TO_FIRMWARE (R499): frames of 64 to 9,218 bytes. -/
def execEthFrameToFirmware (mac : Fin 2) (data : List Byte) (s : State) : Host.Outcome State Fault Refusal :=
  .next (State.settle <| if s.sys.dev != .dark && s.ifEnabled (1 + mac) && decide (64 ≤ data.length ∧ data.length ≤ 9218) then
      s.modHost fun h => { h with ethRx := h.ethRx ++ [(mac.val, data)] }
    else s)

/-- PTP_EVENT_TIMESTAMP (R500): stamped with the time counter. -/
def execPtpEventTimestamp (mac : Fin 2) (tx : Bool) (fine : BitVec 4) (seqId : BitVec 16) (s : State) :
    Host.Outcome State Fault Refusal :=
  .next (State.settle <| if s.sys.dev != .dark && s.ifEnabled (1 + mac) then
      s.modHost fun h => { h with ts := mmod [] h.ts mac fun l => l ++ [⟨s.cue.time, tx, fine.toNat, seqId.toNat⟩] }
    else s)

/-- IMGDATA (R523). -/
def execImgdata (src : BitVec 18) (chunk : BitVec 16) (p : Fin 1024) (data : List Byte) (s : State) :
    Host.Outcome State Fault Refusal := .next (State.settle <| s.imgData src.toNat chunk.toNat p data)

end Sys2Proof.Machine
end

