-- ==== Sys2Proof/Machine/MacIns.lean ====
section
/-!
DEFINITION. Accumulator and address-class instructions of the Lomer cores, majors 0x08 to 0x0B (R59, R60, R65, R66, R89).
What the spec leaves open here: log entry 28.
-/

namespace Sys2Proof.Machine

/-! ## Accumulators -/

/-- The signed and the unsigned product of two data registers, extended to 72 bits (R65). -/
def smul72 (a b : Word) : Acc := BitVec.ofInt 72 (a.toInt * b.toInt)
def umul72 (a b : Word) : Acc := BitVec.ofNat 72 (a.toNat * b.toNat)

/-- EXT (R66): Dd, N, Z, V and SV from ACCn, a shift and the option bits RND and SAT. -/
def Core.ext (c : Core) (d n sh : Nat) (rnd sat : Bool) : Core :=
  let v : Int := (c.accr n).toInt + if rnd && decide (0 < sh) then (2 ^ (sh - 1) : Nat) else 0
  let v := v / (2 ^ sh : Nat)
  let r := satWord72 v sat
  { c.setD d r.1 with flags := { sv := c.flags.sv || r.2, n := r.1.msb, z := r.1 == 0, c := false, v := r.2 } }
where
  /-- The low word of `v`, or its clamp, and whether it was clamped. -/
  satWord72 (v : Int) (sat : Bool) : Word × Bool :=
    if sat && decide (2 ^ 31 ≤ v) then (0x7FFFFFFF#32, true)
    else if sat && decide (v < -2 ^ 31) then (0x80000000#32, true)
    else (BitVec.ofInt 32 v, false)

/-- An instruction of major 0x08. -/
def State.mac (s : State) (h : Hart) (minor : Nat) (d s1 s2 : BitVec 5) (aux : BitVec 6) (reserved : Bool) (f : Core → Core) :
    State := s.simple h (wordReg 0x08 minor d s1 s2 aux) reserved f

/-- An instruction of major 0x0A. -/
def State.amov (s : State) (h : Hart) (minor : Nat) (d s1 s2 : BitVec 5) (aux : BitVec 6) (reserved : Bool) (f : Core → Core) :
    State := s.simple h (wordReg 0x0A minor d s1 s2 aux) reserved f

/-- MULA (R65, R66, R89). -/
def execMula (h : Hart) (d s1 s2 : BitVec 5) (aux : BitVec 6) (s : State) : Host.Outcome State Fault Refusal :=
  .next (s.mac h 0 d s1 s2 aux (kBad d || aux != 0) fun c => c.setAcc d.toNat (smul72 (c.dr s1.toNat) (c.dr s2.toNat)))

/-- MAC (R65, R66, R89). -/
def execMac (h : Hart) (d s1 s2 : BitVec 5) (aux : BitVec 6) (s : State) : Host.Outcome State Fault Refusal :=
  .next (s.mac h 1 d s1 s2 aux (kBad d || aux != 0) fun c => c.setAcc d.toNat (c.accr d.toNat + smul72 (c.dr s1.toNat) (c.dr s2.toNat)))

/-- MSU (R65, R66, R89). -/
def execMsu (h : Hart) (d s1 s2 : BitVec 5) (aux : BitVec 6) (s : State) : Host.Outcome State Fault Refusal :=
  .next (s.mac h 2 d s1 s2 aux (kBad d || aux != 0) fun c => c.setAcc d.toNat (c.accr d.toNat - smul72 (c.dr s1.toNat) (c.dr s2.toNat)))

/-- MULU (R65, R66, R89). -/
def execMulu (h : Hart) (d s1 s2 : BitVec 5) (aux : BitVec 6) (s : State) : Host.Outcome State Fault Refusal :=
  .next (s.mac h 3 d s1 s2 aux (kBad d || aux != 0) fun c => c.setAcc d.toNat (umul72 (c.dr s1.toNat) (c.dr s2.toNat)))

/-- MACU (R65, R66, R89). -/
def execMacu (h : Hart) (d s1 s2 : BitVec 5) (aux : BitVec 6) (s : State) : Host.Outcome State Fault Refusal :=
  .next (s.mac h 4 d s1 s2 aux (kBad d || aux != 0) fun c => c.setAcc d.toNat (c.accr d.toNat + umul72 (c.dr s1.toNat) (c.dr s2.toNat)))

/-- CLRA (R65, R66, R89). -/
def execClra (h : Hart) (d s1 s2 : BitVec 5) (aux : BitVec 6) (s : State) : Host.Outcome State Fault Refusal :=
  .next (s.mac h 5 d s1 s2 aux (kBad d || aux != 0 || s1 != 0 || s2 != 0) fun c => c.setAcc d.toNat 0)

/-- EXT (R65, R66, R89). -/
def execExt (h : Hart) (d s1 s2 : BitVec 5) (aux : BitVec 6) (s : State) : Host.Outcome State Fault Refusal :=
  .next (s.mac h 6 d s1 s2 aux (kBad s1 || s2.extractLsb' 2 3 != 0) fun c => c.ext d.toNat s1.toNat aux.toNat (s2.getLsbD 0) (s2.getLsbD 1))

/-- ACCADD (R65, R66, R89). -/
def execAccadd (h : Hart) (d s1 s2 : BitVec 5) (aux : BitVec 6) (s : State) : Host.Outcome State Fault Refusal :=
  .next (s.mac h 7 d s1 s2 aux (kBad d || kBad s1 || s2 != 0 || aux != 0) fun c => c.setAcc d.toNat (c.accr d.toNat + c.accr s1.toNat))

/-- ACCSET (R65, R66, R89). -/
def execAccset (h : Hart) (d s1 s2 : BitVec 5) (aux : BitVec 6) (s : State) : Host.Outcome State Fault Refusal :=
  .next (s.mac h 8 d s1 s2 aux (kBad d || aux != 0) fun c => c.setAcc d.toNat (((c.dr s1.toNat) ++ (c.dr s2.toNat)).signExtend 72))

/-- GUARD (R65, R66, R89). -/
def execGuard (h : Hart) (d s1 s2 : BitVec 5) (aux : BitVec 6) (s : State) : Host.Outcome State Fault Refusal :=
  .next (s.mac h 9 d s1 s2 aux (kBad s1 || aux != 0) fun c => c.setD d.toNat (((c.accr s1.toNat).extractLsb' 64 8).signExtend 32))

/-! ## Addresses and modifiers -/

/-- ADDAI (R60, R89). -/
def execAddai (h : Hart) (d s1 : BitVec 5) (imm : BitVec 16) (s : State) : Host.Outcome State Fault Refusal :=
  .next (s.simple h (wordImm 0x09 d s1 imm) (aBad d || aBad s1) fun c => c.setA (aIdx d) (c.ar (aIdx s1) + imm.signExtend 40))

/-- MOVA (R65, R66, R89). -/
def execMova (h : Hart) (d s1 s2 : BitVec 5) (aux : BitVec 6) (s : State) : Host.Outcome State Fault Refusal :=
  .next (s.amov h 0 d s1 s2 aux (aBad d || aBad s1 || aux != 0) fun c => c.setA (aIdx d) (c.ar (aIdx s1)))

/-- ADDAD (R65, R66, R89). -/
def execAddad (h : Hart) (d s1 s2 : BitVec 5) (aux : BitVec 6) (s : State) : Host.Outcome State Fault Refusal :=
  .next (s.amov h 1 d s1 s2 aux (aBad d || aBad s1 || aux != 0) fun c => c.setA (aIdx d) (c.ar (aIdx s1) + asAddr (c.dr s2.toNat)))

/-- SUBAD (R65, R66, R89). -/
def execSubad (h : Hart) (d s1 s2 : BitVec 5) (aux : BitVec 6) (s : State) : Host.Outcome State Fault Refusal :=
  .next (s.amov h 2 d s1 s2 aux (aBad d || aBad s1 || aux != 0) fun c => c.setA (aIdx d) (c.ar (aIdx s1) - asAddr (c.dr s2.toNat)))

/-- MOVDA (R65, R66, R89). -/
def execMovda (h : Hart) (d s1 s2 : BitVec 5) (aux : BitVec 6) (s : State) : Host.Outcome State Fault Refusal :=
  .next (s.amov h 3 d s1 s2 aux (aBad d || aux != 0) fun c => c.setA (aIdx d) ((c.dr s1.toNat).zeroExtend 40))

/-- MOVAD (R65, R66, R89). -/
def execMovad (h : Hart) (d s1 s2 : BitVec 5) (aux : BitVec 6) (s : State) : Host.Outcome State Fault Refusal :=
  .next (s.amov h 4 d s1 s2 aux (aBad s1 || aux != 0) fun c => c.setD d.toNat (addrLow (c.ar (aIdx s1))))

/-- MOVAHD (R65, R66, R89). -/
def execMovahd (h : Hart) (d s1 s2 : BitVec 5) (aux : BitVec 6) (s : State) : Host.Outcome State Fault Refusal :=
  .next (s.amov h 5 d s1 s2 aux (aBad s1 || aux != 0) fun c => c.setD d.toNat (addrHigh (c.ar (aIdx s1))))

/-- MOVM (R65, R66, R89). -/
def execMovm (h : Hart) (d s1 s2 : BitVec 5) (aux : BitVec 6) (s : State) : Host.Outcome State Fault Refusal :=
  .next (s.amov h 6 d s1 s2 aux (kBad d || aux != 0) fun c => c.setM d.toNat (c.dr s1.toNat))

/-- MOVMD (R65, R66, R89). -/
def execMovmd (h : Hart) (d s1 s2 : BitVec 5) (aux : BitVec 6) (s : State) : Host.Outcome State Fault Refusal :=
  .next (s.amov h 7 d s1 s2 aux (kBad s1 || aux != 0) fun c => c.setD d.toNat (c.mr s1.toNat))

/-- SETAH (R60, R89). -/
def execSetah (h : Hart) (d s1 : BitVec 5) (imm : BitVec 16) (s : State) : Host.Outcome State Fault Refusal :=
  .next (s.simple h (wordImm 0x0B d s1 imm) (aBad d || s1 != 0 || imm.extractLsb' 8 8 != 0) fun c => c.setA (aIdx d) (putHigh (c.ar (aIdx d)) (imm.zeroExtend 32)))

end Sys2Proof.Machine
end

