-- ==== Sys2Proof/Machine/Remote.lean ====
section
/-!
DEFINITION. The answers to remote accesses at their sender (R509, R511): data, acknowledgements, refusals and timeouts.
What the spec leaves open here: log entries 42 and 47.
-/

namespace Sys2Proof.Machine

/-- A FENCE that waits for stores ends when none is left (R90, R166). -/
def State.fenceCheck (s : State) (h : Hart) : State :=
  if (s.hart h).wait == .fence && !s.storesLeft h then s.fenceDone h else s

/-- A remote store of hart `h` ends: refused, failed or unanswered, it is a posted fault (R117, R509, R511). -/
def State.hartStoreEnd (s : State) (h : Hart) (r : RemoteAcc) (ok : Bool) : State :=
  (if ok then s else s.postFault h ⟨r.addr, r.size, true⟩).fenceCheck h

/-- A remote load of hart `h` ends: with its bytes, or in a precise DBUS (R509, R511). -/
def State.hartLoadEnd (s : State) (h : Hart) (r : RemoteAcc) (data : Option (List Byte)) : State :=
  match (s.hart h).wait with
  | .load q =>
    match q.parts with
    | (a, n) :: rest =>
      if q.remote && a == r.addr then
        s.loadResume h q a rest (match data with | some l => .ok (l.take n) | none => .fault 0x10)
      else s
    | [] => s
  | _ => s

/-- A remote beat of DMA channel `c` ends (R415, R422). -/
def State.dmaRemoteEnd (s : State) (c : Nat) (r : RemoteAcc) (data : Option (List Byte)) : State :=
  if r.wr then
    match (s.dch c).wr, data with
    | (a, _) :: _, some _ => if a = r.addr.toNat then s.dmaAcked c else s
    | (a, _) :: _, none => if a = r.addr.toNat then s.dmaBeatFail c a true else s
    | [], _ => s
  else
    match (s.dch c).rd, data with
    | (a, n) :: _, some l => if a = r.addr.toNat then s.dmaData c (l.take n) else s
    | (a, _) :: _, none => if a = r.addr.toNat then s.dmaBeatFail c a false else s
    | [], _ => s

/-- The access with tag `tag` in direction `wr` ends with bytes, or fails; an answer to no access is passed over. -/
def State.remoteEnd (s : State) (tag : Nat) (wr : Bool) (data : Option (List Byte)) : State :=
  match s.byr.remote.find? fun r => r.tag == tag && r.wr == wr with
  | none => s
  | some r =>
    let s := s.modByr fun b => { b with remote := b.remote.erase r }
    match r.by_ with
    | .hart h => if wr then s.hartStoreEnd (Fin.ofNat 12 h) r data.isSome else s.hartLoadEnd (Fin.ofNat 12 h) r data
    | .dma c => s.dmaRemoteEnd c r data
    | .other => s

/-- The access with tag `tag` has had no answer within BYR_TMO (R509). -/
def State.remoteTimeout (s : State) (tag : Nat) : State :=
  match s.byr.remote.find? fun r => r.tag == tag with
  | none => s
  | some r => (s.raise R.BYR_STAT_TMO).remoteEnd tag r.wr none

/-! ## Commands -/

/-- BYR_RDR (R511): status 0 with data, or a refusal or an error. -/
def execByrRdr (tag : BitVec 8) (status : BitVec 8) (data : List Byte) (s : State) : Host.Outcome State Fault Refusal :=
  .next (s.remoteEnd tag.toNat false (if status = 0 then some data else none)).settle

/-- BYR_WRACK (R511). -/
def execByrWrack (tag : BitVec 8) (status : BitVec 8) (s : State) : Host.Outcome State Fault Refusal :=
  .next (s.remoteEnd tag.toNat true (if status = 0 then some [] else none)).settle

/-- REMOTE_ACCESS_TIMEOUT (R509). -/
def execRemoteAccessTimeout (tag : BitVec 8) (s : State) : Host.Outcome State Fault Refusal :=
  .next (s.remoteTimeout tag.toNat).settle

end Sys2Proof.Machine
end

