-- ==== Sys2Proof/Machine/Service.lean ====
section
/-!
DEFINITION. Commands of the memories' own agents (R151, R159 to R161, R166) and of the debug port and the timebase (R142, R362).
What the spec leaves open here: log entry 29.
-/

namespace Sys2Proof.Machine

/-! ## Scrubs, refresh, training, PMEM -/

/-- The patrol scrub reads the unit at `8 × unit`, in which `found` says what it meets: 0 what the unit already holds, 1 a
correctable error, 2 one that is not (R148, R151); in the LPDDR5X window the controller's own scrub reads (R157, R169). -/
def State.patrol (s : State) (unit found : Nat) : State :=
  let a := 8 * unit
  let s := if found ≤ s.eccAt a then s else s.setEcc a found
  match regionOf a with
  | .working => (State.sramCheck .working (s, true) a).1
  | .stage => (State.sramCheck .stage (s, true) a).1
  | .dram =>
    if s.flag R.DRC_STAT_READY && s.flag R.DRC_CTRL_SCRUBRATE then (State.dramCheck (s.dramTraffic 1, true) (a / 32 * 32)).1 else s
  | _ => s

/-- Whether a unit lies where a scrub reads. -/
def scrubbed (unit : Nat) : Bool :=
  match regionOf (8 * unit) with
  | .working | .stage | .dram => true
  | _ => false

/-- LPDDR5X serves accesses again after training or self-refresh (R160). -/
def State.drcReady (s : State) : State :=
  if s.drcWaking && s.sys.dev != .dark then 
    { ((s.raise R.DRC_STAT_READY).lower R.DRC_STAT_SREF) with drcWaking := false, drcReadyClk := s.clk }
  else s

/-- Every channel is in self-refresh after entry to WINGS, and the state is reported (R160). -/
def State.selfRefresh (s : State) : State :=
  if s.sys.dev = .wings ∧ ¬ s.drcWaking then
    ((s.raise R.DRC_STAT_SREF).lower R.DRC_STAT_READY).modSys fun y => { y with shown := none }
  else s

/-! ## Debug halt and clock stop -/

/-- A halt request for a core (R142, R540): refused while SEC_DBG.LOCK is 1; the halt of a cue core splits its pair and freezes
every PWM unit. -/
def State.debugHalt (s : State) (h : Hart) : State :=
  if s.sys.dev = .dark then s
  else if s.flag R.SEC_DBG_LOCK then s.raise R.SEC_DBG_REFUSED
  else if (s.hart h).run != .running then s
  else
    let s := if h.val < 4 then s.splitPair h.val else s
    let s := s.modHart h fun c => { c with run := .halted }
    if h.val < 4 then s.pwmFreeze else s

/-- The halts and a stop of the timebase end (R362); the understudy of a split pair stays stopped (R142). -/
def State.debugResume (s : State) : State :=
  let s := leadCores.foldl (fun s n =>
    if (s.core n).run = .halted then s.setCore n { s.core n with run := .running } else s) s
  ({ s with pwm := { s.pwm with clockStopped := false } }).pwmUnfreeze

/-! ## Commands -/

/-- PATROL_SCRUB (R151). -/
def execPatrolScrub (unit : Nat) (found : Fin 3) (s : State) : Host.Outcome State Fault Refusal :=
  .next (State.settle <| if scrubbed unit && s.sys.dev != .dark then s.patrol unit found else s)

/-- DRAM_REFRESH (R159): it changes no contents, and firmware has no part in it. -/
def execDramRefresh (channel : Fin 8) (bank : Nat) (s : State) : Host.Outcome State Fault Refusal :=
  let _ := (channel, bank)
  .next s

/-- DRC_READY (R160). -/
def execDrcReady (s : State) : Host.Outcome State Fault Refusal := .next s.drcReady.settle

/-- DRC_PACKAGE_FAILED (R161). -/
def execDrcPackageFailed (pkg : Fin 2) (s : State) : Host.Outcome State Fault Refusal :=
  .next (State.settle <| if (s.getF R.DRC_STAT_PKGDEAD).testBit pkg || s.sys.dev == .dark then s else s.drcFail pkg)

/-- PMEM_WRITE_COMPLETE (R166): the oldest accepted write is durable; a FENCE that waited for it goes on (R90). -/
def execPmemWriteComplete (s : State) : Host.Outcome State Fault Refusal :=
  .next (State.settle <| allHarts.foldl State.fenceCheck s.pmemDone)

/-- ALL_CHANNELS_IN_SELF_REFRESH (R160). -/
def execAllChannelsInSelfRefresh (s : State) : Host.Outcome State Fault Refusal := .next s.selfRefresh.settle

/-- DEBUG_HALT (R142). -/
def execDebugHalt (h : Hart) (s : State) : Host.Outcome State Fault Refusal := .next (State.settle <| s.debugHalt h)

/-- DEBUG_RESUME (R362). -/
def execDebugResume (s : State) : Host.Outcome State Fault Refusal := .next s.debugResume.settle

/-- CLOCK_STOP (R362). -/
def execClockStop (s : State) : Host.Outcome State Fault Refusal :=
  .next (State.settle <| if s.sys.dev = .dark then s else ({ s with pwm := { s.pwm with clockStopped := true } }).pwmFreeze)

end Sys2Proof.Machine
end

