-- ==== Sys2Proof/Machine/Dispatch.lean ====
section
/-!
DEFINITION. The dispatch of a command to its meaning: one arm per constructor of Instr.
-/

namespace Sys2Proof.Machine

def exec (i : Instr) (s : State) : Host.Outcome State Fault Refusal :=
  match i with
  | .powerOnReset wake recoverLow => Sys2Proof.Machine.execPowerOnReset wake recoverLow s
  | .warmReset => Sys2Proof.Machine.execWarmReset s
  | .bootContinue => Sys2Proof.Machine.execBootContinue s
  | .cueBoundary => Sys2Proof.Machine.execCueBoundary s
  | .cuePre => Sys2Proof.Machine.execCuePre s
  | .cueDone pair => Sys2Proof.Machine.execCueDone pair s
  | .cuePeriodWrite w v => Sys2Proof.Machine.execCuePeriodWrite w v s
  | .cueCtrlWrite w v => Sys2Proof.Machine.execCueCtrlWrite w v s
  | .cueFollowerLock rootCount rootTime rootPeriod phase phErr => Sys2Proof.Machine.execCueFollowerLock rootCount rootTime rootPeriod phase phErr s
  | .cueHoldover => Sys2Proof.Machine.execCueHoldover s
  | .shadowedPairRead w addr => Sys2Proof.Machine.execShadowedPairRead w addr s
  | .rcCounterRead w addr inc => Sys2Proof.Machine.execRcCounterRead w addr inc s
  | .registerWrite w addr v => Sys2Proof.Machine.execRegisterWrite w addr v s
  | .watchdogService w v => Sys2Proof.Machine.execWatchdogService w v s
  | .watchdogExpiry pl => Sys2Proof.Machine.execWatchdogExpiry pl s
  | .curtainLimit => Sys2Proof.Machine.execCurtainLimit s
  | .dieTemperatureUpdate t => Sys2Proof.Machine.execDieTemperatureUpdate t s
  | .debugHalt h => Sys2Proof.Machine.execDebugHalt h s
  | .debugResume => Sys2Proof.Machine.execDebugResume s
  | .go q => Sys2Proof.Machine.execGo q s
  | .submit q => Sys2Proof.Machine.execSubmit q s
  | .pause q => Sys2Proof.Machine.execPause q s
  | .resume q => Sys2Proof.Machine.execResume q s
  | .callCurtain q => Sys2Proof.Machine.execCallCurtain q s
  | .clear q => Sys2Proof.Machine.execClear q s
  | .enterWings q => Sys2Proof.Machine.execEnterWings q s
  | .wake q => Sys2Proof.Machine.execWake q s
  | .shutdown q => Sys2Proof.Machine.execShutdown q s
  | .activate q => Sys2Proof.Machine.execActivate q s
  | .enterRecovery q => Sys2Proof.Machine.execEnterRecovery q s
  | .restart q => Sys2Proof.Machine.execRestart q s
  | .recoveryDownload q => Sys2Proof.Machine.execRecoveryDownload q s
  | .open iface partner buf seq role => Sys2Proof.Machine.execOpen iface partner buf seq role s
  | .close q => Sys2Proof.Machine.execClose q s
  | .keepalive q => Sys2Proof.Machine.execKeepalive q s
  | .status q => Sys2Proof.Machine.execStatus q s
  | .readMem q => Sys2Proof.Machine.execReadMem q s
  | .writeMem q => Sys2Proof.Machine.execWriteMem q s
  | .image q => Sys2Proof.Machine.execImage q s
  | .fwCall q => Sys2Proof.Machine.execFwCall q s
  | .hostFrameReceive iface partner buf frame => Sys2Proof.Machine.execHostFrameReceive iface partner buf frame s
  | .longOperationComplete status payload => Sys2Proof.Machine.execLongOperationComplete status payload s
  | .sessionIdleTimeout sess => Sys2Proof.Machine.execSessionIdleTimeout sess s
  | .functionLevelReset => Sys2Proof.Machine.execFunctionLevelReset s
  | .usbDisconnect => Sys2Proof.Machine.execUsbDisconnect s
  | .pcieDoorbell v => Sys2Proof.Machine.execPcieDoorbell v s
  | .bar2Write off data => Sys2Proof.Machine.execBar2Write off data s
  | .bar2Read off len => Sys2Proof.Machine.execBar2Read off len s
  | .arpRequest mac ip => Sys2Proof.Machine.execArpRequest mac ip s
  | .ethFrameToFirmware mac data => Sys2Proof.Machine.execEthFrameToFirmware mac data s
  | .ptpEventTimestamp mac tx fine seqId => Sys2Proof.Machine.execPtpEventTimestamp mac tx fine seqId s
  | .hostTsRead w mac => Sys2Proof.Machine.execHostTsRead w mac s
  | .hostCqPop w => Sys2Proof.Machine.execHostCqPop w s
  | .hostRspGo w v => Sys2Proof.Machine.execHostRspGo w v s
  | .hostRspNotify w v => Sys2Proof.Machine.execHostRspNotify w v s
  | .add h d s1 s2 aux => Sys2Proof.Machine.execAdd h d s1 s2 aux s
  | .addc h d s1 s2 aux => Sys2Proof.Machine.execAddc h d s1 s2 aux s
  | .sub h d s1 s2 aux => Sys2Proof.Machine.execSub h d s1 s2 aux s
  | .subc h d s1 s2 aux => Sys2Proof.Machine.execSubc h d s1 s2 aux s
  | .and h d s1 s2 aux => Sys2Proof.Machine.execAnd h d s1 s2 aux s
  | .or h d s1 s2 aux => Sys2Proof.Machine.execOr h d s1 s2 aux s
  | .xor h d s1 s2 aux => Sys2Proof.Machine.execXor h d s1 s2 aux s
  | .andn h d s1 s2 aux => Sys2Proof.Machine.execAndn h d s1 s2 aux s
  | .shl h d s1 s2 aux => Sys2Proof.Machine.execShl h d s1 s2 aux s
  | .shr h d s1 s2 aux => Sys2Proof.Machine.execShr h d s1 s2 aux s
  | .sar h d s1 s2 aux => Sys2Proof.Machine.execSar h d s1 s2 aux s
  | .shli h d s1 s2 aux => Sys2Proof.Machine.execShli h d s1 s2 aux s
  | .shri h d s1 s2 aux => Sys2Proof.Machine.execShri h d s1 s2 aux s
  | .sari h d s1 s2 aux => Sys2Proof.Machine.execSari h d s1 s2 aux s
  | .mul h d s1 s2 aux => Sys2Proof.Machine.execMul h d s1 s2 aux s
  | .mulhs h d s1 s2 aux => Sys2Proof.Machine.execMulhs h d s1 s2 aux s
  | .mulhu h d s1 s2 aux => Sys2Proof.Machine.execMulhu h d s1 s2 aux s
  | .adds h d s1 s2 aux => Sys2Proof.Machine.execAdds h d s1 s2 aux s
  | .subs h d s1 s2 aux => Sys2Proof.Machine.execSubs h d s1 s2 aux s
  | .abs h d s1 s2 aux => Sys2Proof.Machine.execAbs h d s1 s2 aux s
  | .neg h d s1 s2 aux => Sys2Proof.Machine.execNeg h d s1 s2 aux s
  | .min h d s1 s2 aux => Sys2Proof.Machine.execMin h d s1 s2 aux s
  | .max h d s1 s2 aux => Sys2Proof.Machine.execMax h d s1 s2 aux s
  | .clz h d s1 s2 aux => Sys2Proof.Machine.execClz h d s1 s2 aux s
  | .mov h d s1 s2 aux => Sys2Proof.Machine.execMov h d s1 s2 aux s
  | .cmp h d s1 s2 aux => Sys2Proof.Machine.execCmp h d s1 s2 aux s
  | .tst h d s1 s2 aux => Sys2Proof.Machine.execTst h d s1 s2 aux s
  | .sel h d s1 s2 aux => Sys2Proof.Machine.execSel h d s1 s2 aux s
  | .addi h d s1 imm => Sys2Proof.Machine.execAddi h d s1 imm s
  | .andi h d s1 imm => Sys2Proof.Machine.execAndi h d s1 imm s
  | .ori h d s1 imm => Sys2Proof.Machine.execOri h d s1 imm s
  | .xori h d s1 imm => Sys2Proof.Machine.execXori h d s1 imm s
  | .cmpi h d s1 imm => Sys2Proof.Machine.execCmpi h d s1 imm s
  | .movi h d s1 imm => Sys2Proof.Machine.execMovi h d s1 imm s
  | .movhi h d s1 imm => Sys2Proof.Machine.execMovhi h d s1 imm s
  | .mula h d s1 s2 aux => Sys2Proof.Machine.execMula h d s1 s2 aux s
  | .mac h d s1 s2 aux => Sys2Proof.Machine.execMac h d s1 s2 aux s
  | .msu h d s1 s2 aux => Sys2Proof.Machine.execMsu h d s1 s2 aux s
  | .mulu h d s1 s2 aux => Sys2Proof.Machine.execMulu h d s1 s2 aux s
  | .macu h d s1 s2 aux => Sys2Proof.Machine.execMacu h d s1 s2 aux s
  | .clra h d s1 s2 aux => Sys2Proof.Machine.execClra h d s1 s2 aux s
  | .ext h d s1 s2 aux => Sys2Proof.Machine.execExt h d s1 s2 aux s
  | .accadd h d s1 s2 aux => Sys2Proof.Machine.execAccadd h d s1 s2 aux s
  | .accset h d s1 s2 aux => Sys2Proof.Machine.execAccset h d s1 s2 aux s
  | .guard h d s1 s2 aux => Sys2Proof.Machine.execGuard h d s1 s2 aux s
  | .addai h d s1 imm => Sys2Proof.Machine.execAddai h d s1 imm s
  | .mova h d s1 s2 aux => Sys2Proof.Machine.execMova h d s1 s2 aux s
  | .addad h d s1 s2 aux => Sys2Proof.Machine.execAddad h d s1 s2 aux s
  | .subad h d s1 s2 aux => Sys2Proof.Machine.execSubad h d s1 s2 aux s
  | .movda h d s1 s2 aux => Sys2Proof.Machine.execMovda h d s1 s2 aux s
  | .movad h d s1 s2 aux => Sys2Proof.Machine.execMovad h d s1 s2 aux s
  | .movahd h d s1 s2 aux => Sys2Proof.Machine.execMovahd h d s1 s2 aux s
  | .movm h d s1 s2 aux => Sys2Proof.Machine.execMovm h d s1 s2 aux s
  | .movmd h d s1 s2 aux => Sys2Proof.Machine.execMovmd h d s1 s2 aux s
  | .setah h d s1 imm => Sys2Proof.Machine.execSetah h d s1 imm s
  | .lds h d a mode size off => Sys2Proof.Machine.execLds h d a mode size off s
  | .ldz h d a mode size off => Sys2Proof.Machine.execLdz h d a mode size off s
  | .st h d a mode size off => Sys2Proof.Machine.execSt h d a mode size off s
  | .lda h d a mode size off => Sys2Proof.Machine.execLda h d a mode size off s
  | .sta h d a mode size off => Sys2Proof.Machine.execSta h d a mode size off s
  | .ldacc h d a mode size off => Sys2Proof.Machine.execLdacc h d a mode size off s
  | .stacc h d a mode size off => Sys2Proof.Machine.execStacc h d a mode size off s
  | .loadMissReturn h => Sys2Proof.Machine.execLoadMissReturn h s
  | .bcc h annul cond disp => Sys2Proof.Machine.execBcc h annul cond disp s
  | .j h annul disp => Sys2Proof.Machine.execJ h annul disp s
  | .call h annul disp => Sys2Proof.Machine.execCall h annul disp s
  | .jr h d s1 s2 aux => Sys2Proof.Machine.execJr h d s1 s2 aux s
  | .callr h d s1 s2 aux => Sys2Proof.Machine.execCallr h d s1 s2 aux s
  | .loop h level imm cnt len => Sys2Proof.Machine.execLoop h level imm cnt len s
  | .wfe h d s1 s2 aux => Sys2Proof.Machine.execWfe h d s1 s2 aux s
  | .wfeWake h => Sys2Proof.Machine.execWfeWake h s
  | .waitt h d s1 s2 aux => Sys2Proof.Machine.execWaitt h d s1 s2 aux s
  | .waittTargetReached h => Sys2Proof.Machine.execWaittTargetReached h s
  | .waittTimeout h => Sys2Proof.Machine.execWaittTimeout h s
  | .sev h d s1 imm => Sys2Proof.Machine.execSev h d s1 imm s
  | .bmov h d s1 s2 aux elems => Sys2Proof.Machine.execBmov h d s1 s2 aux elems s
  | .vmac16 h d s1 s2 aux elems => Sys2Proof.Machine.execVmac16 h d s1 s2 aux elems s
  | .vmac32 h d s1 s2 aux elems => Sys2Proof.Machine.execVmac32 h d s1 s2 aux elems s
  | .vmac16m h d s1 s2 aux elems => Sys2Proof.Machine.execVmac16m h d s1 s2 aux elems s
  | .vmac32m h d s1 s2 aux elems => Sys2Proof.Machine.execVmac32m h d s1 s2 aux elems s
  | .crcb32 h d s1 s2 aux elems => Sys2Proof.Machine.execCrcb32 h d s1 s2 aux elems s
  | .crcb16 h d s1 s2 aux elems => Sys2Proof.Machine.execCrcb16 h d s1 s2 aux elems s
  | .nop h word => Sys2Proof.Machine.execNop h word s
  | .mfs h d sysreg aux => Sys2Proof.Machine.execMfs h d sysreg aux s
  | .mts h d sysreg aux => Sys2Proof.Machine.execMts h d sysreg aux s
  | .rfe h d sysreg aux => Sys2Proof.Machine.execRfe h d sysreg aux s
  | .trap h d sysreg aux => Sys2Proof.Machine.execTrap h d sysreg aux s
  | .ifence h d sysreg aux => Sys2Proof.Machine.execIfence h d sysreg aux s
  | .fence h d sysreg aux => Sys2Proof.Machine.execFence h d sysreg aux s
  | .bpFlush h d sysreg aux => Sys2Proof.Machine.execBpFlush h d sysreg aux s
  | .bpBar h d sysreg aux => Sys2Proof.Machine.execBpBar h d sysreg aux s
  | .invalidateDcacheLine h d => Sys2Proof.Machine.execInvalidateDcacheLine h d s
  | .invalidateIcacheLine h d => Sys2Proof.Machine.execInvalidateIcacheLine h d s
  | .invalidateDcache h d => Sys2Proof.Machine.execInvalidateDcache h d s
  | .invalidateIcache h d => Sys2Proof.Machine.execInvalidateIcache h d s
  | .pfstatPop h d => Sys2Proof.Machine.execPfstatPop h d s
  | .holdcntWrite h d => Sys2Proof.Machine.execHoldcntWrite h d s
  | .interruptEntry h => Sys2Proof.Machine.execInterruptEntry h s
  | .postedFaultArrival h => Sys2Proof.Machine.execPostedFaultArrival h s
  | .vectorHoldExpiry h => Sys2Proof.Machine.execVectorHoldExpiry h s
  | .lockstepMismatch pair group lane => Sys2Proof.Machine.execLockstepMismatch pair group lane s
  | .lockstepRelease pair => Sys2Proof.Machine.execLockstepRelease pair s
  | .lockstepHoldExpiry pair => Sys2Proof.Machine.execLockstepHoldExpiry pair s
  | .agreementBufferTimeout pair => Sys2Proof.Machine.execAgreementBufferTimeout pair s
  | .checkpointCapture pair => Sys2Proof.Machine.execCheckpointCapture pair s
  | .checkpointCommit pair => Sys2Proof.Machine.execCheckpointCommit pair s
  | .ustdInj w v => Sys2Proof.Machine.execUstdInj w v s
  | .patrolScrub unit found => Sys2Proof.Machine.execPatrolScrub unit found s
  | .dramRefresh channel bank => Sys2Proof.Machine.execDramRefresh channel bank s
  | .drcReady => Sys2Proof.Machine.execDrcReady s
  | .drcPackageFailed pkg => Sys2Proof.Machine.execDrcPackageFailed pkg s
  | .pmemWriteComplete => Sys2Proof.Machine.execPmemWriteComplete s
  | .pmcLock w => Sys2Proof.Machine.execPmcLock w s
  | .flsKeyWrite w addr v => Sys2Proof.Machine.execFlsKeyWrite w addr v s
  | .programPage w addr => Sys2Proof.Machine.execProgramPage w addr s
  | .eraseBlock w addr => Sys2Proof.Machine.execEraseBlock w addr s
  | .programOtp w addr => Sys2Proof.Machine.execProgramOtp w addr s
  | .flsSequenceTimeout => Sys2Proof.Machine.execFlsSequenceTimeout s
  | .flsOperationDone err => Sys2Proof.Machine.execFlsOperationDone err s
  | .flsSuspend w => Sys2Proof.Machine.execFlsSuspend w s
  | .flsSuspendDone => Sys2Proof.Machine.execFlsSuspendDone s
  | .flsResume w => Sys2Proof.Machine.execFlsResume w s
  | .flsWpLock w => Sys2Proof.Machine.execFlsWpLock w s
  | .swathPost w v => Sys2Proof.Machine.execSwathPost w v s
  | .swathCheck => Sys2Proof.Machine.execSwathCheck s
  | .swathTableLatch => Sys2Proof.Machine.execSwathTableLatch s
  | .dropFlush w => Sys2Proof.Machine.execDropFlush w s
  | .tileStaged swath ctx tile => Sys2Proof.Machine.execTileStaged swath ctx tile s
  | .tileReread swath ctx tile => Sys2Proof.Machine.execTileReread swath ctx tile s
  | .dropRetry w v => Sys2Proof.Machine.execDropRetry w v s
  | .dropRrqPop w => Sys2Proof.Machine.execDropRrqPop w s
  | .observerTick => Sys2Proof.Machine.execObserverTick s
  | .fireObsenWrite w v => Sys2Proof.Machine.execFireObsenWrite w v s
  | .armingCheckComplete => Sys2Proof.Machine.execArmingCheckComplete s
  | .fireRefresh => Sys2Proof.Machine.execFireRefresh s
  | .scanRound => Sys2Proof.Machine.execScanRound s
  | .jetBlockSlot port lane => Sys2Proof.Machine.execJetBlockSlot port lane s
  | .jetCtrlEn w port v => Sys2Proof.Machine.execJetCtrlEn w port v s
  | .jetTload w port => Sys2Proof.Machine.execJetTload w port s
  | .jetCapsReceived port caps => Sys2Proof.Machine.execJetCapsReceived port caps s
  | .jetEchoReceived port rtt => Sys2Proof.Machine.execJetEchoReceived port rtt s
  | .jetStatReceived port stat => Sys2Proof.Machine.execJetStatReceived port stat s
  | .jetTrainTimeout port => Sys2Proof.Machine.execJetTrainTimeout port s
  | .jetLockLoss port => Sys2Proof.Machine.execJetLockLoss port s
  | .sensorFrame port vc pixels formatOk crcErr eccErr => Sys2Proof.Machine.execSensorFrame port vc pixels formatOk crcErr eccErr s
  | .correlationResult port => Sys2Proof.Machine.execCorrelationResult port s
  | .mtrkResult => Sys2Proof.Machine.execMtrkResult s
  | .mtrkPairTimeout port => Sys2Proof.Machine.execMtrkPairTimeout port s
  | .fsyncPulse => Sys2Proof.Machine.execFsyncPulse s
  | .mtrkPreset w => Sys2Proof.Machine.execMtrkPreset w s
  | .mtrkCapture w port v => Sys2Proof.Machine.execMtrkCapture w port v s
  | .slotSample slot => Sys2Proof.Machine.execSlotSample slot s
  | .slotUpdate slot => Sys2Proof.Machine.execSlotUpdate slot s
  | .loopParamWrite w slot idx v => Sys2Proof.Machine.execLoopParamWrite w slot idx v s
  | .rehearsalGo w v => Sys2Proof.Machine.execRehearsalGo w v s
  | .rehearsalStop w => Sys2Proof.Machine.execRehearsalStop w s
  | .pwmPeriodStart unit => Sys2Proof.Machine.execPwmPeriodStart unit s
  | .pwmLoadTransfer unit => Sys2Proof.Machine.execPwmLoadTransfer unit s
  | .pwmLdall w high v => Sys2Proof.Machine.execPwmLdall w high v s
  | .pwmEnable w unit => Sys2Proof.Machine.execPwmEnable w unit s
  | .pwmDisable w unit => Sys2Proof.Machine.execPwmDisable w unit s
  | .tripInput source active => Sys2Proof.Machine.execTripInput source active s
  | .pwmTripClear w unit => Sys2Proof.Machine.execPwmTripClear w unit s
  | .peakCurrentReset unit steps => Sys2Proof.Machine.execPeakCurrentReset unit steps s
  | .pwmLock w => Sys2Proof.Machine.execPwmLock w s
  | .adcResult group codes => Sys2Proof.Machine.execAdcResult group codes s
  | .afeGtrig w v => Sys2Proof.Machine.execAfeGtrig w v s
  | .adcTriggerStart group => Sys2Proof.Machine.execAdcTriggerStart group s
  | .adcTriggerDrop group => Sys2Proof.Machine.execAdcTriggerDrop group s
  | .deltaSigmaOutput ch bits => Sys2Proof.Machine.execDeltaSigmaOutput ch bits s
  | .afeDsloss ch => Sys2Proof.Machine.execAfeDsloss ch s
  | .comparatorEdge cmp vp vn => Sys2Proof.Machine.execComparatorEdge cmp vp vn s
  | .afeDacWrite w cmp v => Sys2Proof.Machine.execAfeDacWrite w cmp v s
  | .afeCmpcfgWrite w cmp v => Sys2Proof.Machine.execAfeCmpcfgWrite w cmp v s
  | .mainsZeroCrossing rms halfNs peak => Sys2Proof.Machine.execMainsZeroCrossing rms halfNs peak s
  | .mainsCrossingTimeout => Sys2Proof.Machine.execMainsCrossingTimeout s
  | .mainsHalfCycleMissing => Sys2Proof.Machine.execMainsHalfCycleMissing s
  | .powerFailWarning => Sys2Proof.Machine.execPowerFailWarning s
  | .railsLost => Sys2Proof.Machine.execRailsLost s
  | .encoderTick => Sys2Proof.Machine.execEncoderTick s
  | .quadratureEdge n a b => Sys2Proof.Machine.execQuadratureEdge n a b s
  | .sincosResult n => Sys2Proof.Machine.execSincosResult n s
  | .serialFrameEnd n started pos crcOk ne nw => Sys2Proof.Machine.execSerialFrameEnd n started pos crcOk ne nw s
  | .indexEdge n => Sys2Proof.Machine.execIndexEdge n s
  | .encPreset w n => Sys2Proof.Machine.execEncPreset w n s
  | .setpointStep j dir early => Sys2Proof.Machine.execSetpointStep j dir early s
  | .eventDelivery => Sys2Proof.Machine.execEventDelivery s
  | .callRunawayClear w idx v => Sys2Proof.Machine.execCallRunawayClear w idx v s
  | .evinEdge n => Sys2Proof.Machine.execEvinEdge n s
  | .evoutPulseEnd n => Sys2Proof.Machine.execEvoutPulseEnd n s
  | .dmaGo w ch v => Sys2Proof.Machine.execDmaGo w ch v s
  | .dmaAbort w ch => Sys2Proof.Machine.execDmaAbort w ch s
  | .dmaAbortComplete ch => Sys2Proof.Machine.execDmaAbortComplete ch s
  | .dmaReadBeat engine => Sys2Proof.Machine.execDmaReadBeat engine s
  | .dmaReadReturn ch => Sys2Proof.Machine.execDmaReadReturn ch s
  | .dmaWriteAck ch => Sys2Proof.Machine.execDmaWriteAck ch s
  | .dmaDescriptorFetch ch => Sys2Proof.Machine.execDmaDescriptorFetch ch s
  | .gpioPcfgWrite w port pin v => Sys2Proof.Machine.execGpioPcfgWrite w port pin v s
  | .gpioFunctionSwitch port pin => Sys2Proof.Machine.execGpioFunctionSwitch port pin s
  | .gpioMaskedWrite w port high v => Sys2Proof.Machine.execGpioMaskedWrite w port high v s
  | .gpioOwnerWrite w port k v => Sys2Proof.Machine.execGpioOwnerWrite w port k v s
  | .gpioLockMask w port v => Sys2Proof.Machine.execGpioLockMask w port v s
  | .gpioLkey w v => Sys2Proof.Machine.execGpioLkey w v s
  | .gpioLockTimeout => Sys2Proof.Machine.execGpioLockTimeout s
  | .wakeDetect land => Sys2Proof.Machine.execWakeDetect land s
  | .serdatWrite w n v => Sys2Proof.Machine.execSerdatWrite w n v s
  | .serdatRead w n => Sys2Proof.Machine.execSerdatRead w n s
  | .serialTransferDone n rx => Sys2Proof.Machine.execSerialTransferDone n rx s
  | .uartReceive n rx => Sys2Proof.Machine.execUartReceive n rx s
  | .i2cStretchTimeout n => Sys2Proof.Machine.execI2cStretchTimeout n s
  | .pbsLatch => Sys2Proof.Machine.execPbsLatch s
  | .memberReportTimeout member => Sys2Proof.Machine.execMemberReportTimeout member s
  | .shareLossTimeout => Sys2Proof.Machine.execShareLossTimeout s
  | .jrnlAccept w => Sys2Proof.Machine.execJrnlAccept w s
  | .acceptComplete => Sys2Proof.Machine.execAcceptComplete s
  | .jrnlAbandon w => Sys2Proof.Machine.execJrnlAbandon w s
  | .cvLineWrite line => Sys2Proof.Machine.execCvLineWrite line s
  | .finalSeal => Sys2Proof.Machine.execFinalSeal s
  | .orderRetire => Sys2Proof.Machine.execOrderRetire s
  | .byrCtrlWrite w v => Sys2Proof.Machine.execByrCtrlWrite w v s
  | .byrBlockSlot port arrival => Sys2Proof.Machine.execByrBlockSlot port arrival s
  | .byrMark port sf crcOk dly => Sys2Proof.Machine.execByrMark port sf crcOk dly s
  | .byrEcho port rtt => Sys2Proof.Machine.execByrEcho port rtt s
  | .byrCaps port addr level tbrd => Sys2Proof.Machine.execByrCaps port addr level tbrd s
  | .byrTime port sf => Sys2Proof.Machine.execByrTime port sf s
  | .byrCueinfo port count cycles => Sys2Proof.Machine.execByrCueinfo port count cycles s
  | .byrJoin port kind src => Sys2Proof.Machine.execByrJoin port kind src s
  | .byrTrainTimeout port => Sys2Proof.Machine.execByrTrainTimeout port s
  | .byrLockLoss port => Sys2Proof.Machine.execByrLockLoss port s
  | .byrWr src tag addr data => Sys2Proof.Machine.execByrWr src tag addr data s
  | .byrRd src tag addr len => Sys2Proof.Machine.execByrRd src tag addr len s
  | .byrRdr tag status data => Sys2Proof.Machine.execByrRdr tag status data s
  | .byrWrack tag status => Sys2Proof.Machine.execByrWrack tag status s
  | .remoteAccessTimeout tag => Sys2Proof.Machine.execRemoteAccessTimeout tag s
  | .byrMsg src data => Sys2Proof.Machine.execByrMsg src data s
  | .byrPbsReport group member request floor => Sys2Proof.Machine.execByrPbsReport group member request floor s
  | .byrPbsShare group member share => Sys2Proof.Machine.execByrPbsShare group member share s
  | .byrEvt src r => Sys2Proof.Machine.execByrEvt src r s
  | .byrMtxGo w v => Sys2Proof.Machine.execByrMtxGo w v s
  | .byrMrxPop w => Sys2Proof.Machine.execByrMrxPop w s
  | .updVerify w v => Sys2Proof.Machine.execUpdVerify w v s
  | .verifyComplete => Sys2Proof.Machine.execVerifyComplete s
  | .updAct w v => Sys2Proof.Machine.execUpdAct w v s
  | .activationComplete => Sys2Proof.Machine.execActivationComplete s
  | .imgdata src chunk p data => Sys2Proof.Machine.execImgdata src chunk p data s
  | .chunkack src chunk result => Sys2Proof.Machine.execChunkack src chunk result s
  | .actreq src mode version origin => Sys2Proof.Machine.execActreq src mode version origin s
  | .actdone src result version node => Sys2Proof.Machine.execActdone src result version node s
  | .bbxWr w v => Sys2Proof.Machine.execBbxWr w v s
  | .bbxRecordWrite => Sys2Proof.Machine.execBbxRecordWrite s
  | .bbxCalset w v => Sys2Proof.Machine.execBbxCalset w v s
  | .calendarSecond => Sys2Proof.Machine.execCalendarSecond s
  | .nozzleCountFlush => Sys2Proof.Machine.execNozzleCountFlush s
  | .secDbgLock w => Sys2Proof.Machine.execSecDbgLock w s
  | .selvOverload rail12 => Sys2Proof.Machine.execSelvOverload rail12 s
  | .selvThermalOff rail12 => Sys2Proof.Machine.execSelvThermalOff rail12 s
  | .selvRestart rail12 => Sys2Proof.Machine.execSelvRestart rail12 s
  | .clockStop => Sys2Proof.Machine.execClockStop s
  | .alwaysOnRailCollapse => Sys2Proof.Machine.execAlwaysOnRailCollapse s
  | .deltaSigmaClockReturn ch => Sys2Proof.Machine.execDeltaSigmaClockReturn ch s
  | .allChannelsInSelfRefresh => Sys2Proof.Machine.execAllChannelsInSelfRefresh s
  | .dmaWriteBeat engine => Sys2Proof.Machine.execDmaWriteBeat engine s

end Sys2Proof.Machine
end

