-- ==== Sys2Proof/Machine/Tick.lean ====
section
/-!
DEFINITION. One event-clock cycle (2.5 ns, three core cycles) in which no command comes: the counters that time itself drives
(R27, R35, R44, R81, R114). Log entry 5.
What the spec leaves open here: log entry 5.
-/

namespace Sys2Proof.Machine

/-- Three core cycles of a core: its hold and the timeout of a waiting WAITT run down (R81, R114). -/
def Core.tick (c : Core) : Core :=
  if c.run != .running then c
  else
    let c := { c with holdCnt := c.holdCnt - 3 }
    match c.wait with
    | .waitt _ dm => if dm = 0 ∨ c.dr dm = 0xFFFFFFFF#32 then c else c.setD dm (BitVec.ofNat 32 ((c.dr dm).toNat - 3))
    | _ => c

/-- The whole nanoseconds that the present cycle adds: 2 and 3 in turn. -/
def State.tickNs (s : State) : Nat := 2 + s.cue.halfNs

/-- The watchdogs that run lose the cycle. -/
def State.tickWatchdogs (s : State) : State :=
  (List.range 3).foldl (fun s p =>
    if s.wdRuns p then s.modSys fun y => { y with wdRemainNs := mset y.wdRemainNs p (mget 0 y.wdRemainNs p - s.tickNs) } else s) s

/-- The time since the first boundaries of a curtain grows (R35). -/
def State.tickCurtain (s : State) : State :=
  if s.sys.dev = .curtain then
    s.modSys fun y => { y with elapsed := y.elapsed + 1, mainsElapsed := y.mainsElapsed.map (· + 1) }
  else s

/-- The time counter, the phase of the cue and the pulse on CUE_OUT (R44, R57). A stop of the 1 GHz timebase freezes the PWM units
(R362); the time counter goes on through it (DESIGN CHOICE, log entry 27). -/
def State.tickCue (s : State) : State :=
  s.modCue fun c =>
    { c with time := c.time + BitVec.ofNat 64 (2 + c.halfNs), halfNs := 1 - c.halfNs,
             phase := if s.cueRuns then c.phase + 1 else c.phase, outLeft := c.outLeft - 1 }

/-- The pulse on FSYNC0 and FSYNC1 runs out (R293). -/
def State.tickFsync (s : State) : State := s.modMtrk fun m => { m with fsyncLeft := m.fsyncLeft - 1 }

/-- One event-clock cycle: nothing counts in DARK but the model's own clock. -/
def State.tick (s : State) : State :=
  let s := { s with clk := s.clk + 1, regs0 := s.regs }
  if s.sys.dev = .dark then s
  else
    let s := { s with cores := s.cores.map fun (e : Nat × Core) => (e.1, e.2.tick) }
    s.tickWatchdogs.tickCurtain.tickCue.tickFsync.pwmTick.scanTick

end Sys2Proof.Machine
end

