-- ==== Sys2Proof/Safety.lean ====
section
/-!
DEFINITION. What counts as a safe run, the invariants of the machine, and the conditions and forms of effect that statements
name.
-/

namespace Sys2Proof.Machine

/-- A run of `n` steps that meets no fault and no refusal. -/
def safeRun : Nat → State → Prop
  | 0, _ => True
  | n + 1, s => ∃ t, step s = .next t ∧ safeRun n t

/-- Memory keeps its canonical form. -/
def State.memWf (s : State) : Prop := s.mem.wf = true

/-- Every register is stored in canonical form: only where it differs from its reset value. -/
def State.regsWf (s : State) : Prop := mwf (fun a v => v == regReset a) s.regs = true

/-- Field `f` shares no bit with field `g`. -/
def Fld.apart (f g : Fld) : Prop := f.addr ≠ g.addr ∨ f.hi < g.lo ∨ g.hi < f.lo

/-- `u` is `s` but for the fields `l` of the registers. -/
def State.onlyFields (s u : State) (l : List Fld) : Prop :=
  u = { s with regs := u.regs } ∧ ∀ f : Fld, (∀ g ∈ l, f.apart g) → u.getF f = s.getF f

/-! ## Lomer instructions -/

/-- Hart `h` issues the instruction at its pc, and the fetch ends well and leaves the state `t`: the core runs and waits for
nothing (R79, R81, R92, R138, R142), the fetch meets no fault (R93), and the word read is the one stored (R184). -/
def State.issuesTo (s t : State) (h : Hart) : Prop :=
  s.canIssue h = true ∧ (∃ l, s.fetch h = (t, .ok l)) ∧ foreignWord t h = false

/-- Whether the instruction at the pc of hart `h` may be a branch, a LOOP, an RFE: no delay slot, no armed loop end. -/
def State.plainPlace (t : State) (h : Hart) : Prop := (t.hart h).delay = none ∧ (t.hart h).atLoopEnd = false

/-- The fields that reads of memory may set: ECC errors, hits on busy or suspended banks, a failed package (R148, R157, R161, R173,
R179, R184). -/
def readFields : List Fld :=
  [R.FLS_STAT_BUSYHIT, R.FLS_STAT_SBR, R.FLS_SBRADDRL_ADDR, R.FLS_SBRADDRH_ADDR, R.FLS_STAT_UE, R.FLS_UEADDRL_ADDR, R.FLS_UEADDRH_ADDR,
   R.FLS_CECNT_CNT, R.SYS_ECC_WMUE, R.SYS_ECC_STUE, R.SYS_ECC_LSUE, R.SYS_ECC_CECNT, R.SYS_ECCADDRL_ADDR, R.SYS_ECCADDRH_ADDR,
   R.DRC_STAT_CE, R.DRC_STAT_UE, R.DRC_STAT_PKGDEAD, R.DRC_STAT_PKGFAIL, R.DRC_CECNT_CNT, R.DRC_UECNT_PKG0, R.DRC_UECNT_PKG1,
   R.DRC_UEADDRL_ADDR, R.DRC_UEADDRH_ADDR, R.BBX_STAT_LOST] ++ (List.range 256).map R.CALL_COIN_CNT

/-- `u` is `s` but for what reads of memory may leave: the fields above, corrected units, the traffic count, the events and the
interrupt lines that an error raises, and the cores. -/
def State.afterReads (s u : State) : Prop :=
  { s with ecc := u.ecc, cores := u.cores, freeCtr := u.freeCtr, drcLines := u.drcLines, drcUeTimes := u.drcUeTimes,
           bbxQueue := u.bbxQueue, bbx := { s.bbx with lost := u.bbx.lost },
           call := { s.call with inflight := u.call.inflight } }.onlyFields u readFields

/-- `t` is `s` but for the core of hart `h`, which has become `c` (in both copies of a cue pair that is not split, R126). -/
def State.onlyHart (s t : State) (h : Hart) (c : Core) : Prop :=
  t = { s with cores := t.cores } ∧
    ∀ k, t.core k = if k = coreOf h ∨ (k = coreOf h + 1 ∧ h.val < 4 ∧ s.isSplit h.val = false) then c else s.core k

/-- Instruction `i` of hart `h`, issued, changes that hart by `f`, retires, and changes nothing else. -/
def registerEffect (i : Instr) (h : Hart) (f : Core → Core) : Prop :=
  ∀ s t : State, s.issuesTo t h → ∃ u, exec i s = .next u ∧ t.onlyHart u h (f (t.hart h)).retire

/-- Instruction `i` of hart `h` writes `r` to data register `d` and `f` to the flags, retires, and changes nothing else. -/
def dataEffect (i : Instr) (h : Hart) (d : BitVec 5) (r : Core → Word) (f : Core → Flags) : Prop :=
  registerEffect i h fun c => { c.setD d.toNat (r c) with flags := f c }

/-- The flags of an add with carry in `k` (R63). -/
def sumFlags (f : Flags) (a b : Word) (k : Nat) : Flags :=
  let r := a + b + BitVec.ofNat 32 k
  { f with n := r.msb, z := decide (r = 0), c := decide (2 ^ 32 ≤ a.toNat + b.toNat + k),
           v := decide (a.toInt + b.toInt + k < -2 ^ 31 ∨ 2 ^ 31 ≤ a.toInt + b.toInt + k) }

/-- The flags of a subtract or compare with borrow in `k`: C is 1 when no borrow occurs (R63). -/
def differenceFlags (f : Flags) (a b : Word) (k : Nat) : Flags :=
  let r := a - b - BitVec.ofNat 32 k
  { f with n := r.msb, z := decide (r = 0), c := decide (b.toNat + k ≤ a.toNat),
           v := decide (a.toInt - b.toInt - k < -2 ^ 31 ∨ 2 ^ 31 ≤ a.toInt - b.toInt - k) }

/-- The flags of a shift by `n` whose last bit out is `out` (R63). -/
def shiftFlags (f : Flags) (r : Word) (n : Nat) (out : Bool) : Flags :=
  { f with n := r.msb, z := decide (r = 0), c := if n = 0 then f.c else out }

/-- The flags of a saturating result whose exact value is `v`, with carry `cy` (R63). -/
def satFlags (f : Flags) (v : Int) (cy : Bool) : Flags :=
  let r := BitVec.ofInt 32 (clampS 32 v)
  let out := decide (v < -2 ^ 31 ∨ 2 ^ 31 ≤ v)
  { n := r.msb, z := decide (r = 0), c := cy, v := out, sv := f.sv || out }

/-- The conditions of R64, in the order of their codes. -/
def conditionTest (f : Flags) (code : BitVec 4) : Bool :=
  [f.z, !f.z, f.c, !f.c, f.n, !f.n, f.v, !f.v, f.c && !f.z, !f.c || f.z, decide (f.n = f.v), decide (f.n ≠ f.v),
    !f.z && decide (f.n = f.v), f.z || decide (f.n ≠ f.v), true, f.sv].getD code.toNat false

/-- The value and the clamp of EXT (R66), read off its pseudocode. -/
def extracted (a : Acc) (sh : Nat) (rnd sat : Bool) : Int × Bool :=
  let v := if rnd = true ∧ 0 < sh then (a.toInt + 2 ^ (sh - 1)) / 2 ^ sh else a.toInt / 2 ^ sh
  if sat = true ∧ 0x7FFFFFFF < v then (0x7FFFFFFF, true)
  else if sat = true ∧ v < -0x80000000 then (-0x80000000, true)
  else (v, false)

/-- The lowest `k` bits of `v` in mirror image. -/
def mirror : Nat → Nat → Nat
  | 0, _ => 0
  | k + 1, v => v % 2 * 2 ^ k + mirror k (v / 2)

/-- Whether the fields of a word that R89 lists make it a reserved encoding: register fields that R59 and R61 exclude, the modes and
sizes of R67 and R71, operands of R83 and R85, fields that the formats table marks 0 (R86). -/
def reservedFields (w : Word) : Prop :=
  let major := fieldOf w 31 26
  let minor := fieldOf w 10 6
  let d := fieldOf w 25 21
  let s1 := fieldOf w 20 16
  let s2 := fieldOf w 15 11
  let aux := fieldOf w 5 0
  let odd := fun n : Nat => n % 2 = 1
  if major = 0x00 then
    if minor ∈ [11, 12, 13] then s2 ≠ 0 ∨ 32 ≤ aux else if minor = 27 then 16 ≤ aux else aux ≠ 0 ∨ (minor ∈ [25, 26] ∧ d ≠ 0)
  else if major = 0x05 then d ≠ 0
  else if major ∈ [0x06, 0x07] then s1 ≠ 0
  else if major = 0x08 then
    (minor ≠ 6 ∧ aux ≠ 0) ∨ (minor ∉ [6, 9] ∧ 8 ≤ d) ∨ (minor ∈ [6, 7, 9] ∧ 8 ≤ s1) ∨ (minor = 5 ∧ s1 ≠ 0) ∨
      (minor ∈ [5, 7] ∧ s2 ≠ 0) ∨ (minor = 6 ∧ 4 ≤ s2)
  else if major = 0x09 then odd d ∨ odd s1
  else if major = 0x0A then
    aux ≠ 0 ∨ (minor ≤ 3 ∧ odd d) ∨ (minor ∈ [0, 1, 2, 4, 5] ∧ odd s1) ∨ (minor = 6 ∧ 8 ≤ d) ∨ (minor = 7 ∧ 8 ≤ s1)
  else if major = 0x0B then odd d ∨ s1 ≠ 0 ∨ 256 ≤ fieldOf w 15 0
  else if 0x10 ≤ major ∧ major ≤ 0x16 then
    let a := fieldOf w 20 17
    let mode := fieldOf w 16 14
    let size := fieldOf w 13 12
    6 ≤ mode ∨ (mode ∈ [2, 4, 5] ∧ 8 ≤ a) ∨ (mode ∈ [2, 5] ∧ fieldOf w 11 0 ≠ 0) ∨ (major ≤ 0x12 ∧ size = 3 ∧ odd d) ∨
      (0x13 ≤ major ∧ size ≠ 3) ∨ (major ∈ [0x13, 0x14] ∧ odd d) ∨ (major ∈ [0x15, 0x16] ∧ 8 ≤ d)
  else if major ∈ [0x19, 0x1A] then w.getLsbD 25 = true
  else if major = 0x1B then odd d ∨ s1 ≠ 0 ∨ s2 ≠ 0 ∨ aux ≠ 0
  else if major = 0x1C then fieldOf w 11 0 = 0 ∨ (w.getLsbD 24 = false ∧ 32 ≤ fieldOf w 23 12)
  else if major = 0x1D then s1 ≠ 0 ∨ s2 ≠ 0 ∨ aux ≠ 0
  else if major = 0x1E then aux ≠ 0
  else if major = 0x1F then d ≠ 0 ∨ s1 ≠ 0 ∨ 256 ≤ fieldOf w 15 0
  else if major = 0x20 then
    odd s1 ∨ (minor = 0 ∧ (odd d ∨ d = s1)) ∨ (minor ∈ [0, 5, 6] ∧ aux ≠ 0) ∨
      (minor ∈ [1, 2, 3, 4] ∧ (8 ≤ d ∨ odd s2 ∨ s1 = s2 ∨ 32 ≤ aux)) ∨ (minor ∈ [3, 4] ∧ 16 ≤ s1)
  else if major = 0x22 then (minor ∉ [1, 2] ∧ fieldOf w 20 11 ≠ 0) ∨ (minor = 3 ∧ 1 < aux)
  else False

/-! ## Registers -/

/-- A register stands at `a`, master `w` can make an access, a core in task mode being granted it (R106), and R22 to R24 with the
chapters of the shared blocks let it write. -/
def State.mayWrite (s : State) (w : Writer) (a : Nat) : Bool :=
  s.masterActs w && !s.deniedTo w (physOf w a) && match blockOf a, regAt a with
  | some b, some (d, i, _) => regPresent d i && s.regAccepts w b.1 d.id
  | _, _ => false

/-- Master `w` can make an access at `a`: a core that can issue an instruction and, in task mode, has the grant of TACC (R106). -/
def State.mayAccess (s : State) (w : Writer) (a : Nat) : Prop := s.masterActs w = true ∧ s.deniedTo w (physOf w a) = false

/-- `s` with a write of master `w` at `a` refused: a core that cannot issue an instruction makes none, one without the grant of
TACC takes DBUS with DPERM, any other DBUS (R23, R106). -/
def State.turnedAway (s : State) (w : Writer) (a : Nat) : State :=
  if s.masterActs w = false then s else s.accessFault w (if s.deniedTo w (physOf w a) then 0x11 else 0x10) true (BitVec.ofNat 40 a)

/-- Bit `k` of the register at `a` as the present event-clock cycle began. -/
def State.stoodAt (s : State) (a k : Nat) : Bool := ((mfind s.regs0 a).getD (regReset a)).getLsbD k

/-- What a write of the bit `v` leaves in a field bit that holds `old` and held `stood` as the cycle began: `ty` the field's type, not
locked (R11); a bit that hardware sets in the cycle of the write stays set (R12). -/
def writtenBit (ty : FieldTy) (v old stood : Bool) : Bool :=
  match ty with
  | .rw | .rwl => v
  | .w1c => old && !(v && stood)
  | .w1s => old || v
  | .ro | .rc | .wo => old

/-! ## Device states -/

/-- R31: the states in which the state commands are accepted; in CURTAIN, complete only. -/
def acceptTable : List (Dev × StateCmd) :=
  [(.places, .go), (.run .printing, .pause), (.run .paused, .resume), (.curtain, .clear), (.places, .enterWings),
   (.run .idle, .enterWings), (.wings, .wake), (.places, .shutdown), (.run .idle, .shutdown), (.curtain, .shutdown),
   (.wings, .shutdown), (.boot, .enterRecovery), (.places, .enterRecovery), (.run .idle, .enterRecovery),
   (.curtain, .enterRecovery), (.boot, .restart), (.places, .restart), (.run .idle, .restart), (.curtain, .restart),
   (.wings, .restart), (.recovery, .restart)]

/-- Whether R31 accepts state command `c` now. -/
def State.accepts (s : State) (c : StateCmd) : Prop := (s.sys.dev, c) ∈ acceptTable ∧ (s.sys.dev = .curtain → s.sys.done = true)

/-- The state that R30 lets an accepted command lead to at a boundary; before a warm reset the state is still the old one. -/
def State.commandLeadsTo (s : State) (c : StateCmd) : Dev :=
  match c with
  | .go => .run (if s.sys.resumeP then .paused else .idle)
  | .pause => .run .paused
  | .resume => .run .printing
  | .clear => .places
  | .enterWings => .wings
  | .wake => .wings
  | .shutdown => if s.sys.dev = .run .idle then .curtain else .dark
  | .enterRecovery | .restart => if s.sys.dev = .run .idle then .curtain else s.sys.dev

/-- Nothing changes the device state at the next boundary: no reset, warning, trigger or host command is due, no complete
curtain has a follow-on, no wake finds LPDDR5X READY (R30, R32). -/
def State.quiet (s : State) : Prop :=
  s.sys.resetDue = false ∧ s.sys.mainsDue = false ∧ s.sys.faultDue = false ∧ s.sys.callDue = none ∧ s.sys.cmds = [] ∧
    ¬ (s.sys.dev = .curtain ∧ s.sys.done = true ∧ s.sys.follow ≠ none) ∧
    ¬ (s.sys.dev = .wings ∧ s.sys.wakeDue = true ∧ s.getF R.DRC_STAT_READY = 1 ∧ s.drcReadyClk < s.clk)

/-- `t` is `s` but for pending interrupt lines of the cores. -/
def State.linesOnly (s t : State) : Prop :=
  t = { s with cores := t.cores } ∧ ∀ n, t.core n = { s.core n with ipend := (t.core n).ipend }

/-- The black-box queue with an event of now added: a module's event goes before firmware's of the same cycle, and of more than 16
records the last is lost (R535). -/
def State.queuedRecord (s : State) (code : Nat) (data : List Word) : List BbxRec :=
  let stays := fun x : BbxRec => decide (0x8000 ≤ code ∨ x.code < 0x8000 ∨ x.clk ≠ s.clk)
  (s.bbxQueue.takeWhile stays ++ ⟨code, data, s.cue.count, s.cue.time, s.clk⟩ :: s.bbxQueue.dropWhile stays).take 16

/-! ## Host frames (R489 to R496) -/

/-- Request `q` is the next one of the open session `x`: no command waits, the sequence number is the next, no pause of an
activation (R491, R527). -/
def State.admits (s : State) (q : Req) (x : HostSess) : Prop :=
  s.sys.dev ≠ .dark ∧ s.session q.sess = some x ∧ x.pend = none ∧ q.seq.toNat = (x.last + 1) % 65536 ∧ s.paused = false

/-- What the reads of a read-modify-write of SRAM may set (R148, R149). -/
def mergeFields : List Fld :=
  [R.SYS_ECC_WMUE, R.SYS_ECC_STUE, R.SYS_ECC_LSUE, R.SYS_ECC_CECNT, R.SYS_ECCADDRL_ADDR, R.SYS_ECCADDRH_ADDR]

/-- Of memory, `u` may differ from `s` in the bytes `l` at the buffer address alone, and holds them there where the management
plane may write the partition and no unit is bad (R149, R152, R496); where no unit is stored in part over an error, no register
changes. -/
def State.copied (s u : State) (buf : Option Nat) (l : List Byte) : Prop :=
  (∀ a, (∀ b, buf = some b → ¬ (b ≤ a ∧ a < b + l.length)) → u.rd8 a = s.rd8 a) ∧
  (∀ b, buf = some b → s.wmWritable .host b = true → (∀ k ∈ partialUnits b l.length, s.eccAt k ≤ 1) → u.rdBytes b l.length = l) ∧
  (∀ b, buf = some b → (∀ k ∈ partialUnits b l.length, s.eccAt k = 0) → u.regs = s.regs) ∧
  (buf = none → u.mem = s.mem ∧ u.ecc = s.ecc ∧ u.regs = s.regs)

/-- HOST sends frame `l` to session `i`: on PCIe through its buffer at `off`, with MSI-X vector `i` (R498); the session table
becomes `sess`; nothing else changes. -/
def State.sends (s u : State) (i off iface : Nat) (sess : SMap HostSess) (l : List Byte) : Prop :=
  let msix := if iface = 0 then mset s.host.msix i (mget 0 s.host.msix i + 1) else s.host.msix
  { s with host := { s.host with sess := sess, sent := mset s.host.sent i l, msix := msix }, mem := u.mem, ecc := u.ecc }.onlyFields u
    mergeFields ∧ s.copied u (if iface = 0 then s.hostBuf i off else none) l

/-- HOST answers command `op` with sequence number `n` of session `i`, `x`. -/
def State.answers (s u : State) (i : Nat) (x : HostSess) (op n status : Nat) (payload : List Byte) : Prop :=
  let l := hostFrame op 1 i n status payload
  s.sends u i 0x2800 x.iface
    (mset s.host.sess i { x with last := n, pend := none, stored := if l.length ≤ 64 then some l else none }) l

/-- HOST refuses it: the answer, and nothing else. -/
def State.refuses (s u : State) (i : Nat) (x : HostSess) (op n status : Nat) : Prop :=
  s.sends u i 0x2800 x.iface s.host.sess (hostFrame op 1 i n status [])

/-- HOST passes it to firmware: the frame in the buffer of session `i`, the session waiting, `i` at the end of HOST_CQ. -/
def State.passes (s u : State) (i : Nat) (x : HostSess) (op n : Nat) (payload : List Byte) : Prop :=
  { s with host := { s.host with sess := mset s.host.sess i { x with pend := some (op, n) }, cq := s.host.cq ++ [i] },
           mem := u.mem, ecc := u.ecc }.onlyFields u mergeFields ∧
  s.copied u (s.hostBuf i 0) (hostFrame op 0 i n 0 payload)

/-- The commands that wait for a boundary with one more: in order of arrival, of one cycle the lower session first (R32, R491). -/
def State.waitingWith (s : State) (c : StateCmd) (sess : Fin 64) (seq : BitVec 16) : List WaitingCmd :=
  let stays := fun y : WaitingCmd => decide (y.clk ≠ s.clk ∨ y.sess ≤ sess)
  s.sys.cmds.takeWhile stays ++ ⟨c, sess, seq, s.clk⟩ :: s.sys.cmds.dropWhile stays

/-! ## The drop pipeline -/

/-- The checks of R222 on the 576 bytes of a descriptor, in the order of their reasons 0x1 to 0x6. -/
def State.descriptorChecks (s : State) (l : List Byte) : List Prop :=
  let at' := leAt l
  let n := at' 0x10 4
  let base := at' 0x18 8
  let ctxs := maskCtxs (l.drop 0x40)
  let records := ctxs.length * ((n + 255) / 256)
  [at' 0 4 = 0x53570944 ∧ at' 0xA 1 < 8 ∧ at' 0xB 1 = 0 ∧ base < 2 ^ 40 ∧ at' 0x20 24 = 0 ∧ crc32cFull (l.take 0x3C) = at' 0x3C 4,
   crc32cFull (l.drop 0x40) = at' 0x38 4 ∧ ctxs.length = at' 0x14 4,
   1 ≤ n ∧ n ≤ 1048576,
   ∀ k ∈ ctxs, k < s.getF R.DROP_CFG_NCTX,
   base % 64 = 0 ∧ (ctxs ≠ [] → s.dramUsable base ((records - 1) * 8256 + 8224) = true),
   ∀ k ∈ ctxs, s.symmetric k = true]

/-- What a descriptor says (R217). -/
def describes (w : DropSwath) (l : List Byte) (d : SwathDesc) : Prop :=
  d = ⟨w.addr, leAt l 4 4, leAt l 8 2, leAt l 0xA 1, leAt l 0xC 4, leAt l 0x10 4, leAt l 0x18 8, leAt l 0x38 4,
    maskCtxs (l.drop 0x40), w.resume⟩

/-- Tile record `l` of tile (k, t) holds in every field what R219 requires, and both CRCs match. -/
def recordPasses (d : SwathDesc) (k t : Nat) (l : List Byte) : Prop :=
  crc32cFull (l.drop 32) = leAt l 0x18 4 ∧ crc32cFull (l.take 0x1C) = leAt l 0x1C 4 ∧
    ∀ e ∈ [(0, 2, 0x71D6), (2, 1, 1), (3, 1, 0), (4, 4, d.order), (8, 2, d.swath), (0xA, 2, k), (0xC, 2, t), (0xE, 2, d.valid t),
      (0x10, 4, d.raster (256 * t)), (0x14, 4, 0)], leAt l e.1 e.2.1 = e.2.2

/-- Every tile of the first window of swath `w` has passed (R228). -/
def State.firstWindowIn (s : State) (w : DropSwath) (d : SwathDesc) : Prop :=
  ∀ k ∈ d.ctxs, w.startCol k < d.n → ∀ t, w.startCol k / 256 ≤ t → t < d.tiles →
    t < w.startCol k / 256 + (s.getF R.DROP_CFG_WIN - 1) → ∃ x, s.dropTile w.uid k t = some x ∧ x.st = .passed

/-- `v` is `u` with swath `w`, whose tables are latched, ready if its first window is in (R228). -/
def State.readied (u v : State) (w : DropSwath) (d : SwathDesc) : Prop :=
  (w.ready = false → w.latched = true → u.firstWindowIn w d →
    v = ((u.modSw w.uid fun x => { x with ready := true, readyClk := u.clk }).irqPulseIf R.DROP_CTRL_READYIRQ baseDROP).publish
      Src.dropReady) ∧
  (¬ (w.ready = false ∧ w.latched = true ∧ u.firstWindowIn w d) → v = u)

/-- Where record (k, t) of a swath stands (R218). -/
def SwathDesc.recordAt (d : SwathDesc) (k t : Nat) : Nat := d.base + (d.ctxs.idxOf k * d.tiles + t) * 8256

/-- `s` with tile (k, t) of swath `w` taken into slot `pos` of its ring, not yet read (R224, R225): the first slot of the context that
waits for a tile, in release order, is no longer waiting. -/
def State.tilePlaced (s : State) (w : DropSwath) (k t pos : Nat) : State :=
  { s with drop := { s.drop with
      ring := mset s.drop.ring k (s.ringOf k ++ [{ uid := w.uid, tile := t, slot := pos }]), last := mset s.drop.last k pos,
      freed := s.drop.freed.erase k, q := s.drop.q.map fun x => if x.uid = w.uid then { x with next := mset x.next k (t + 1) } else x } }

/-- The rings of `u` are those of `s`, with tile (k, t) of swath `w` in state `st`, its payload CRC being `h`. -/
def State.tileBecomes (s u : State) (w : DropSwath) (k t : Nat) (st : TileSt) (h : Option Nat) : Prop :=
  ∀ c, u.ringOf c = (s.ringOf c).map fun x =>
    if c = k ∧ x.uid = w.uid ∧ x.tile = t then { x with st := st, hcrc := h.getD x.hcrc } else x

/-- `v` is `s` with that tile passed and counted; a re-request of it is marked done (R226, R227, R230). -/
def State.tilePassed (s v : State) (w : DropSwath) (d : SwathDesc) (k t h : Nat) : Prop :=
  ∃ u : State, { s with drop := u.drop }.onlyFields u [R.DROP_TILES_CNT, R.DROP_MINLEAD_COLS] ∧
    s.tileBecomes u w k t .passed (some h) ∧ u.drop.q = s.drop.q ∧ u.drop.last = s.drop.last ∧
    u.getF R.DROP_TILES_CNT = min (s.getF R.DROP_TILES_CNT + 1) 0xFFFFFFFF ∧
    (u.getF R.DROP_MINLEAD_COLS = match s.leadOf w.uid k t with
      | some n => min n (s.getF R.DROP_MINLEAD_COLS)
      | none => s.getF R.DROP_MINLEAD_COLS) ∧
    u.drop.uid = s.drop.uid ∧
    (u.drop.rrq = s.drop.rrq.map fun x =>
      if (s.drop.handles.find? fun e => e.2 == some (w.uid, k, t)).map (·.1) = some x.handle then { x with done := true } else x) ∧
    u.readied v w d

/-- `v` is `s` with that tile failed for good, a re-request entered under its own handle or the lowest one free (R227). -/
def State.tileFailed (s v : State) (w : DropSwath) (d : SwathDesc) (k t reason : Nat) : Prop :=
  let handle := ((s.drop.handles.find? fun e => e.2 == some (w.uid, k, t)).map (·.1)).orElse fun _ =>
    (List.range 16).find? fun h => (mfind s.drop.handles h).isNone
  (handle = none → ∃ u : State, { s with drop := u.drop }.onlyFields u [R.DROP_STAT_RRQOVF] ∧ u.getF R.DROP_STAT_RRQOVF = 1 ∧
    u.drop = { s.drop with ring := u.drop.ring } ∧ s.tileBecomes u w k t .failed none ∧ v = u) ∧
  (∀ h, handle = some h → ∃ u : State, { s with drop := u.drop }.onlyFields u [R.DROP_FAILS_RRQS] ∧
    u.getF R.DROP_FAILS_RRQS = min (s.getF R.DROP_FAILS_RRQS + 1) 0xFFFF ∧
    u.drop = { s.drop with ring := u.drop.ring, handles := mset s.drop.handles h (some (w.uid, k, t)),
                           rrq := s.drop.rrq ++ [⟨d.order, d.swath, k, t, reason, h, false⟩] } ∧
    s.tileBecomes u w k t .failed none ∧ v = u.publish Src.dropReReq)

/-- `v` is what the reading of record (k, t) into slot `pos` makes of `s`: the tile passes; or it is to be re-read, or with
`last`, and always with reason 0x4, it fails (R226, R227). -/
def State.tileIsRead (s v : State) (w : DropSwath) (d : SwathDesc) (k t pos : Nat) (last : Bool) : Prop :=
  let a := d.recordAt k t
  let slot := fun x : State => x.slotAddr k pos
  let fails := fun (x : State) (reason : Nat) =>
    (last = true → x.tileFailed v w d k t reason) ∧
    (last = false → v = { x with drop := { x.drop with ring := v.drop.ring } } ∧ x.tileBecomes v w k t .reread none)
  let reached := s.dramUsable a 8224 = true ∧ s.dramAlive a 8224 = true
  (¬ reached → s.tileFailed v w d k t 4) ∧
  (reached → ∀ x r, s.memRead a 8224 = (x, r) →
    ((∀ l, r ≠ .ok l) → fails x 3) ∧
    (∀ l, r = .ok l → ∃ y : State, y = { x with mem := y.mem, ecc := y.ecc } ∧ y.rdBytes (slot x) 8192 = l.drop 32 ∧
      (∀ b, b < slot x ∨ slot x + 8192 ≤ b → y.rd8 b = x.rd8 b) ∧
      (recordPasses d k t l → y.tilePassed v w d k t (leAt l 0x18 4)) ∧
      (¬ recordPasses d k t l → fails y (if crc32cFull (l.drop 32) = leAt l 0x18 4 then 2 else 1))))

/-- `v` is `s` with the tiles of context `k` in swath `w` released that the context and its neighbours have passed; the slots wait
in release order where a tile is due for the context (R225). -/
def State.passedReleased (s v : State) (w : DropSwath) (d : SwathDesc) (k : Nat) : Prop :=
  let who := k :: (s.nbrs k).filter fun j => d.ctxs.contains j
  let gone := fun x : DropTile => x.uid == w.uid && who.all fun c => decide (min (256 * (x.tile + 1)) d.n ≤ w.at c)
  v = { s with drop := { s.drop with ring := v.drop.ring, rrq := v.drop.rrq, handles := v.drop.handles, freed := v.drop.freed } } ∧
    (∀ c, v.ringOf c = if c = k then (s.ringOf k).filter fun x => !gone x else s.ringOf c) ∧
    v.drop.rrq.map (fun e => { e with done := true }) = s.drop.rrq.map (fun e => { e with done := true }) ∧
    v.drop.freed = s.drop.freed ++ List.replicate (if (s.dueTile k).isSome then ((s.ringOf k).filter gone).length else 0) k

/-! ## Firing -/

/-- `q` holds `x` in a signed format of `w` bits whose step is 1: a value that the spec does not round is the integer below or
above it (DESIGN CHOICE, log entry 8), and one outside the format is any value of it. -/
def holdsIn (w : Nat) (x : Rat) (q : Int) : Prop :=
  ∃ m : Int, x - 1 < m ∧ m < x + 1 ∧ (clampS w m = m → q = m) ∧ clampS w q = q

/-- The velocity condition of R260. -/
def State.velocityHolds (s : State) (d : SwathDesc) : Prop :=
  let v : Rat := d.dir * s.fire.obs.v / 2 ^ 24
  (s.getF R.FIRE_VMIN_VMIN : Rat) / 2 ^ 24 ≤ v ∧ v ≤ s.getF R.FIRE_MAXRATE_RATE * (s.getF R.FIRE_PITCH_PITCH / 2 ^ 14) / 10 ^ 9

/-- `u` is what the visit of context `k` at instant `at_` ns makes of `s` (R256 to R258): where its next column is due it is issued,
with less than 1,200 ns margin late, and goes to the context's port. -/
def State.visited (s u : State) (k at_ : Nat) : Prop :=
  (s.fireSwath = none → u = s) ∧
  ∀ w d, s.fireSwath = some (w, d) →
    let o := if s.fire.obs.tick + 60 ≤ at_ then s.fire.obs else s.fire.prev
    let margin := fun t : Int => t - 16 * (at_ : Int)
    let due := fun t : Int => k ∈ d.ctxs ∧ w.at k < d.n ∧ (s.getF R.FIRE_STAT_SW = 2 ∨ at_ < s.fire.until_) ∧
      s.fireTs o d k (w.at k) = some t ∧ margin t ≤ 16 * s.getF R.FIRE_CFG_HORIZON
    let pos := fun c => match u.dropSw w.uid with | some x => min d.n (x.at c) | none => d.n
    ((∀ t, ¬ due t) → u = s) ∧
    (∀ t, due t →
      u = { s with regs := u.regs, cores := u.cores, call := u.call, drop := u.drop, jet := u.jet, jrnl := u.jrnl,
                   nozzles := u.nozzles, mem := u.mem, ecc := u.ecc, freeCtr := u.freeCtr, pmcQueue := u.pmcQueue,
                   sys := { s.sys with faultDue := u.sys.faultDue } } ∧
      u.getF R.FIRE_STAT_SW = s.getF R.FIRE_STAT_SW ∧ pos k = w.at k + 1 ∧ (∀ c ∈ d.ctxs, c ≠ k → pos c = min d.n (w.at c)) ∧
      (∃ ns : Int, (margin t : Rat) / 16 - 1 < ns ∧ ns < (margin t : Rat) / 16 + 1 ∧
        u.getF R.FIRE_MINMARGIN_NS = min (s.getF R.FIRE_MINMARGIN_NS) (max 0 (min 65535 ns)).toNat) ∧
      (∀ p, s.portOf k = some p → s.inService p = true → ∃ c ∈ (u.jport p).queue, c.ctx = k ∧ c.col = w.at k ∧ c.uid = w.uid ∧
        (c.ts : Int) = if margin t < 16 * 1200 then 16 * ((at_ : Int) + 1200) else t) ∧
      (margin t < 16 * 1200 → u.getF R.FIRE_STAT_LATE = 1 ∧
        u.getF R.FIRE_LATECNT_CNT = min (s.getF R.FIRE_LATECNT_CNT + 1) (2 ^ (R.FIRE_LATECNT_CNT.hi + 1) - 1)) ∧
      (¬ margin t < 16 * 1200 → u.getF R.FIRE_STAT_LATE = s.getF R.FIRE_STAT_LATE ∧
        u.getF R.FIRE_LATECNT_CNT = s.getF R.FIRE_LATECNT_CNT))

/-- `v` is `u` with the scheduler free, if every participating context has issued its last column (R263). -/
def State.issuingEnds (u v : State) : Prop :=
  (u.fire.swath = none → v = u) ∧
  ∀ i, u.fire.swath = some i →
    let ends := (u.getF R.FIRE_STAT_SW = 2 ∨ u.getF R.FIRE_STAT_SW = 3) ∧ ∀ w, u.dropSw i = some w → w.allRequested = true
    (ends → v = u.fireNone.swathEndCheck i) ∧ (¬ ends → v = u)

/-! ## Jet ports -/

/-- `u` is `s` but for port `p` of the jets, which has become `x`, and for the fields `l`. -/
def State.onlyPort (s u : State) (p : Nat) (x : JetPort) (l : List Fld) : Prop :=
  { s with jet := u.jet }.onlyFields u l ∧ u.jport p = x ∧ ∀ q, q ≠ p → u.jport q = s.jport q

/-- Port `p`, having left UP, is at the start of TRAIN: WAVE takes effect only in OFF, CAUSE stays, the state of the scramblers is
open (R273, R274, R286, R289). -/
def State.portTrains (s u : State) (p : Nat) : Prop :=
  let x := s.jetLeave p
  let sf := (s.cue.time.toNat + 6399) / 6400
  ∃ r0 r1 : Nat, { x with freeCtr := u.freeCtr }.onlyPort u p
    { skew := s.getS (R.JET_SKEW_SKEW p), wave := if s.jlink p = 0 then s.flag (R.JET_CTRL_WAVE p) else (s.jport p).wave,
      downNs := (x.jport p).downNs, lane0 := { sf := sf, scr := r0 }, lane1 := { sf := sf, scr := r1 } }
    [R.JET_STAT_LINK p, R.JET_BSTAT_VALID p] ∧
  u.jlink p = 1 ∧ u.getF (R.JET_BSTAT_VALID p) = 0

/-- Port `p` is OFF. -/
def State.portOff (s u : State) (p : Nat) : Prop :=
  let x := s.jetLeave p
  x.onlyPort u p { downNs := (x.jport p).downNs } [R.JET_STAT_LINK p] ∧ u.jlink p = 0

/-- Port `p` is in FAULT with a cause, reported. -/
def State.portFails (s v : State) (p cause : Nat) : Prop :=
  ∃ u : State, (s.jetLeave p).onlyFields u [R.JET_STAT_LINK p, R.JET_STAT_CAUSE p] ∧ u.jlink p = 4 ∧
    u.getF (R.JET_STAT_CAUSE p) = cause ∧ v = u.irqPulseIf (R.JET_CTRL_ERRIRQ p) baseJET

/-- Port `p` enters LOAD, with TIME, CTXMAP and TABLE frames to send. -/
def State.portLoads (s u : State) (p : Nat) : Prop :=
  let x := s.jetLeave p
  x.onlyPort u p { x.jport p with load := x.jetLoad p } [R.JET_STAT_LINK p] ∧ u.jlink p = 2

/-- Port `p` in TRAIN has CAPS that fit and 64 measurements: JET_LAT is set and LOAD is entered; else nothing happens. -/
def State.portTrained (s u : State) (p : Nat) : Prop :=
  let x := s.jport p
  let mean : Rat := x.rtt / 64 - s.getF (R.JET_CAPS_TBRD p) + x.skew
  ((x.caps = true ∧ 64 ≤ x.echos) → ∃ t : State, { s with freeCtr := t.freeCtr }.onlyFields t [R.JET_LAT_LAT p] ∧
    (0 ≤ mean → mean / 2 ≤ 65535 → mean / 2 - 1 < t.getF (R.JET_LAT_LAT p) ∧ t.getF (R.JET_LAT_LAT p) < mean / 2 + 1) ∧
    t.portLoads u p) ∧
  (¬ (x.caps = true ∧ 64 ≤ x.echos) → u = s)

/-! ## Media tracking -/

/-- `m` is a quotient that the spec does not round: `x` itself where it is whole, else the integer below or above it (log
entry 8). -/
def rounds (x : Rat) (m : Int) : Prop := x - 1 < m ∧ m < x + 1

/-- `u` is `s` but for port `p` of the tracker, which has become `x`, and the fields `l`. -/
def State.onlyTracker (s u : State) (p : Nat) (x : MtrkPort) (l : List Fld) : Prop :=
  { s with mtrk := u.mtrk, freeCtr := u.freeCtr }.onlyFields u l ∧ u.mtrk = { s.mtrk with ports := u.mtrk.ports } ∧
    u.mtrkPort p = x ∧ ∀ q, q ≠ p → u.mtrkPort q = s.mtrkPort q

/-- The registers in which port `p` shows its position and state. -/
def shownOf (p : Nat) : List Fld :=
  [R.MTRK_PYL_Y p, R.MTRK_PYH_Y p, R.MTRK_PX_X p, R.MTRK_PSTAT_MISS p, R.MTRK_PSTAT_HANDOVER p, R.MTRK_PSTAT_REF p]

/-- They show it. -/
def State.trackerShown (u : State) (p : Nat) : Prop :=
  let x := u.mtrkPort p
  u.getF (R.MTRK_PYL_Y p) = wrap 32 x.y ∧ u.getF (R.MTRK_PYH_Y p) = wrap 40 x.y / 2 ^ 32 ∧ u.getF (R.MTRK_PX_X p) = wrap 32 x.x ∧
    u.getF (R.MTRK_PSTAT_MISS p) = min 255 x.miss ∧ u.getF (R.MTRK_PSTAT_HANDOVER p) = x.handOver.isSome.toNat ∧
    u.getF (R.MTRK_PSTAT_REF p) = x.ref.isSome.toNat

/-- `v` is `s` with a miss of port `p` that has no hand-over: dead reckoning, and loss after MISSMAX misses (R299, R300). -/
def State.trackerReckons (s v : State) (p : Nat) : Prop :=
  let x := s.mtrkPort p
  let travel : Int := (s.auxPos - x.aux) * s.getS R.MTRK_AUXSCALE_SCALE * s.getF R.MTRK_RATIO_RATIO
  let nm46 : Int := if s.getF R.MTRK_CFG_AUXEN = 0 then 0 else travel
  let scale : Rat := s.getF (R.MTRK_SCALE_SCALE p) / 2 ^ 16
  let far : Int := x.drNm + nm46
  let lostBit := if p = 0 then R.MTRK_STAT_LOST0 else R.MTRK_STAT_LOST1
  let lost := s.getF R.MTRK_DRMAX_MISSMAX ≤ x.miss + 1 ∧ s.getF lostBit = 0
  let fault := s.getF R.MTRK_DRMAX_DRMAX ≠ 0 ∧ 1000 * 2 ^ 46 * s.getF R.MTRK_DRMAX_DRMAX < far.natAbs ∧ x.drOver = false
  ∃ (u t : State) (d : Int), (s.getF (R.MTRK_SCALE_SCALE p) ≠ 0 → rounds (nm46 / 2 ^ 46 / scale) d) ∧
    (s.getF (R.MTRK_SCALE_SCALE p) = 0 → d = 0) ∧
    s.onlyTracker u p
      { x with y := x.y + d, drY := x.drY + d, drNm := far, drOver := x.drOver || decide fault, aux := s.auxPos, miss := x.miss + 1,
               ref := if lost then none else x.ref, handOver := if lost then none else x.handOver }
      (R.MTRK_ERR_MISS p :: R.MTRK_STAT_FAULT :: lostBit :: shownOf p) ∧ u.trackerShown p ∧
    u.getF (R.MTRK_ERR_MISS p) = min (s.getF (R.MTRK_ERR_MISS p) + 1) 255 ∧
    u.getF R.MTRK_STAT_FAULT = (if fault then 1 else s.getF R.MTRK_STAT_FAULT) ∧
    u.getF lostBit = (if lost then 1 else s.getF lostBit) ∧
    t = (if fault then (u.irqPulseIf R.MTRK_CTRL_FLTIRQ baseMTRK).publish Src.mtrkFault else u) ∧
    v = if lost then (t.irqPulseIf R.MTRK_CTRL_LOSTIRQ baseMTRK).publish Src.mtrkLost else t

/-- `t` is `s` with the hand-over `h` of port `p` ended short (R297, R298). -/
def State.handOverCutShort (s t : State) (p : Nat) (h : HandOver) : Prop :=
  let x := s.mtrkPort p
  ∃ oy ox : Int, (h.offY ≠ [] → rounds (((h.offY.foldl (· + ·) 0 : Int) : Rat) / h.offY.length) oy) ∧
    (h.offX ≠ [] → rounds (((h.offX.foldl (· + ·) 0 : Int) : Rat) / h.offX.length) ox) ∧
    s.onlyTracker t p
      { x with ref := some h.frame, refY := x.refY + oy, refX := x.refX + ox, dy := h.newY, dx := h.newX, handOver := none }
      [R.MTRK_STAT_HOSHORT, R.MTRK_NOISE_SIGMA p] ∧ t.getF R.MTRK_STAT_HOSHORT = 1

/-- `v` is `s` with a miss of port `p`, which ends a hand-over short (R298 to R300). -/
def State.trackerMisses (s v : State) (p : Nat) : Prop :=
  ((s.mtrkPort p).handOver = none → s.trackerReckons v p) ∧
  (∀ h, (s.mtrkPort p).handOver = some h → ∃ t : State, s.handOverCutShort t p h ∧ t.trackerReckons v p)

/-- `v` is `s` with the result of port `p` stored; the combined result is due once it is complete (R302). -/
def State.trackerDone (s v : State) (p : Nat) (good : Bool) (texp : Nat) : Prop :=
  let mode := s.getF R.MTRK_CFG_MODE
  let x := { s.mtrkPort p with res := some (good, texp) }
  let due := s.mtrk.due = true ∨ (mode = 2 ∧ ∀ q < 2, q ≠ p → (s.mtrkPort q).res ≠ none) ∨ (mode ≠ 2 ∧ mode = p)
  v = { s with mtrk := { s.mtrk with ports := v.mtrk.ports, due := v.mtrk.due } } ∧ (v.mtrk.due = true ↔ due) ∧
    v.mtrkPort p = x ∧ ∀ q, q ≠ p → v.mtrkPort q = s.mtrkPort q

/-- A good result of port `p` of displacement (dy, dx) moves it (R297). -/
def movedTo (x : MtrkPort) (dy dx aux : Int) : MtrkPort :=
  { x with y := x.refY + dy, x := x.refX + dx, ddy := dy - x.dy, ddx := dx - x.dx, dy := dy, dx := dx, drY := 0, drNm := 0,
           drOver := false, miss := 0, aux := aux }

/-! ## PWM -/

/-- `v` is `s` with trip source `k` (land or comparator) newly active: every unit that selects it and is not tripped is tripped
and parked, and PWM_TRIP is published for each (R358, R360); in RUN a source of a curtain mask triggers the curtain. -/
def State.trippedBy (s v : State) (k : Nat) : Prop :=
  let hit := fun n : Nat => n < 48 ∧ s.tripSelected n k = true ∧ s.getF (R.PWM_STAT_TRIPPED n) = 0
  let newly := (List.range 48).filter fun n => s.tripSelected n k && (s.getF (R.PWM_STAT_TRIPPED n) == 0)
  let curtain := s.inRun = true ∧ s.tripCurt k = true
  ∃ u : State,
    { s with pwm := { s.pwm with units := u.pwm.units }, sys := { s.sys with faultDue := s.sys.faultDue || decide curtain } }.onlyFields u
      (R.PWM_GSTAT_TRIP :: R.PWM_TRIPST_SEEN :: R.SYS_CURTAIN_TRIP ::
        newly.flatMap fun n => [R.PWM_STAT_TRIPPED n, R.PWM_STAT_PARKED n]) ∧
    (∀ n, hit n → u.getF (R.PWM_STAT_TRIPPED n) = 1 ∧ u.getF (R.PWM_STAT_PARKED n) = 1 ∧
      u.pwmUnit n = { s.pwmUnit n with returnWait := true, parkNs := s.cue.time.toNat }) ∧
    (∀ n, ¬ hit n → u.pwmUnit n = s.pwmUnit n) ∧
    u.getF R.PWM_GSTAT_TRIP = (if newly = [] then s.getF R.PWM_GSTAT_TRIP else 1) ∧
    u.getF R.PWM_TRIPST_SEEN = (if k < 24 then s.getF R.PWM_TRIPST_SEEN ||| 2 ^ k else s.getF R.PWM_TRIPST_SEEN) ∧
    u.getF R.SYS_CURTAIN_TRIP = (if curtain then 1 else s.getF R.SYS_CURTAIN_TRIP) ∧
    v = newly.foldl (fun y n => y.publish (Src.pwmTrip n)) u

/-- `v` is `s` with comparator `c` at a level: a rising edge is seen, published, trips the units that select it, and then ends the
pulses of those in peak-current mode that name it (R357, R358, R373). -/
def State.comparatorAt (s v : State) (c : Nat) (level : Bool) : Prop :=
  let out := fun t : State => t.cmpOut c
  let bank := fun (lo hi : Fld) => if c < 32 then lo else hi
  ∃ u : State, out u = level ∧ (∀ d < 48, d ≠ c → u.cmpOut d = s.cmpOut d) ∧
    s.onlyFields u [bank R.AFE_CMPOUTL_OUT R.AFE_CMPOUTH_OUT, bank R.AFE_CMPRISEL_RISE R.AFE_CMPRISEH_RISE] ∧
    (¬ (level = true ∧ out s = false) → v = u ∧
      u.getF (bank R.AFE_CMPRISEL_RISE R.AFE_CMPRISEH_RISE) = s.getF (bank R.AFE_CMPRISEL_RISE R.AFE_CMPRISEH_RISE)) ∧
    (level = true ∧ out s = false →
      u.getF (bank R.AFE_CMPRISEL_RISE R.AFE_CMPRISEH_RISE) =
        s.getF (bank R.AFE_CMPRISEL_RISE R.AFE_CMPRISEH_RISE) ||| 2 ^ (c % 32) ∧
      ∃ w : State, (u.publish (Src.afeCmp c)).trippedBy w (24 + c) ∧ v = w.pwmPeakCmp c)

/-- The load-all bit of group `g` is that of R351: set while an enabled unit of the group has still to transfer. -/
def State.loadAllSettled (s u : State) (g : Nat) : Prop :=
  let owing := fun n : Nat => u.getF (R.PWM_CFG_GRP n) == g && u.getF (R.PWM_CTRL_EN n) != 0 && (u.pwmUnit n).load
  u.getF (ldallBit g) = if (List.range 48).any owing then s.getF (ldallBit g) else 0

/-! ## The analogue front end -/

/-- A sin/cos interface claims group `g` (R387). -/
def State.claims (s : State) (g : Nat) : Prop :=
  ∃ i < 8, s.getF (R.ENC_CFG_EN i) ≠ 0 ∧ s.getF (R.ENC_CFG_MODE i) = 1 ∧ s.getF (R.ENC_CFG_SCGRP i) = g

/-- Groups convert (R369). -/
def State.converts (s : State) : Prop := s.cueRuns = true ∧ s.sys.dev ≠ .wings

/-- Value `r` of set-point input `j`, as R394 takes it from an ADC code: 0 in the deadband. -/
def State.deadbanded (s : State) (j : Nat) (r : Int) : Int :=
  let db : Int := s.getF (R.ENC_SPCFG_DB j)
  if -db ≤ r ∧ r ≤ db then 0 else r

/-- What comparator `c` compares (R373, R375, R379): its positive and its negative input in µV. -/
def State.compared (s : State) (c : Nat) (vp vn : Int) : Rat × Rat :=
  let tie := s.getF (R.AFE_CMPCFG_TIELVL c)
  let dac : Rat := s.getF (R.AFE_DAC_ACTIVE c) * 2500000 / 4095
  let r := s.getF (R.AFE_CMPCFG_RAMPSEL c)
  let ramp : Rat := match mfind s.afe.ramps r with
    | some t =>
      if s.getF (R.PWM_STAT_RUN (s.getF (R.AFE_RAMP_SRCUNIT r))) = 0 then 0
      else min 2500000 (s.getF (R.AFE_RAMP_SLOPE r) * (s.cue.time.toNat - t : Nat) / 10)
    | none => 0
  let ref := max 0 (dac - if s.getF (R.AFE_CMPCFG_RAMPEN c) = 0 then 0 else ramp)
  (if s.getF (R.AFE_CMPCFG_CHECK c) = 2 then (if tie = 0 then 250000 else if tie = 1 then 1000000 else 2000000) else (vp : Rat),
    if s.getF (R.AFE_CMPCFG_NSEL c) = 0 then ref else (vn : Rat))

/-! ## Encoders -/

/-- `v` in 48 bits (R385). -/
def in48 (v : Int) : Int := (BitVec.ofInt 48 v).toInt

/-- Interface `i` runs (R385). -/
def State.counts (s : State) (i : Nat) : Prop :=
  s.getF (R.ENC_CFG_EN i) ≠ 0 ∧ s.cueRuns = true ∧ (s.getF (R.ENC_CFG_MODE i) = 0 ∨ s.sys.dev ≠ .wings)

/-- `p` is the position of a running interface `i` now (R386, R387, R390), quotients rounded either way (DESIGN CHOICE, log entry 8). -/
def State.standsAt (s : State) (i : Nat) (p : Int) : Prop :=
  let x := s.encUnit i
  let now : Int := s.cue.time.toNat
  let late : Rat := ((now - x.t1 : Int) : Rat) / ((x.t1 - x.t0 : Int) : Rat)
  let step : Int := 2 ^ s.getF (R.ENC_CFG_FRAC i)
  let known := 2 ≤ x.seen ∧ x.t0 < x.t1
  (known → (x.t1 : Int) ≤ now →
    (s.getF (R.ENC_CFG_MODE i) = 0 → ∃ m, rounds (step * late) m ∧ p = in48 (x.pos + x.dir * min m (step - 1))) ∧
    (s.getF (R.ENC_CFG_MODE i) = 1 → ∃ m, rounds ((x.p1 - x.p0 : Int) * late) m ∧ p = in48 (x.pos + m))) ∧
  (¬ known ∨ 1 < s.getF (R.ENC_CFG_MODE i) → p = x.pos)

/-- `x` with position `p` delivered at a tick. -/
def EncUnit.delivered (x : EncUnit) (p : Int) (new : Bool) : EncUnit :=
  { x with out := p, travel := x.travel + (p - x.out).natAbs, faultOut := x.faultNew, faultNew := false, newOut := new }

/-- `u` is `s` but for interface `i`, which has become `x`, and the fields `l`. -/
def State.onlyEncoder (s u : State) (i : Nat) (x : EncUnit) (l : List Fld) : Prop :=
  { s with enc := { s.enc with units := u.enc.units }, freeCtr := u.freeCtr }.onlyFields u l ∧
    ∀ k, u.encUnit k = if k = i then x else s.encUnit k

/-- `v` is `s` with a fault of interface `i`, which has become `x` (R391). -/
def State.encoderFails (s v : State) (i cause : Nat) (x : EncUnit) : Prop :=
  ∃ u : State, s.onlyEncoder u i { x with faultNew := true }
      [R.ENC_STAT_FAULT i, R.ENC_STAT_CAUSE i, ⟨R.ENC_GSTAT, i, i⟩, R.ENC_ERRCNT_CNT i] ∧
    u.getF (R.ENC_STAT_FAULT i) = 1 ∧ u.getF (R.ENC_STAT_CAUSE i) = cause ∧ (u.getReg R.ENC_GSTAT).getLsbD i = true ∧
    u.getF (R.ENC_ERRCNT_CNT i) = min (s.getF (R.ENC_ERRCNT_CNT i) + 1) 0xFFFFFFFF ∧ v = u.publish (Src.encFault i)

/-- `x` with its position loaded from ENC_SETH:SETL (R392). -/
def State.loaded (s : State) (i : Nat) (x : EncUnit) : EncUnit :=
  let set := in48 (s.getF (R.ENC_SETL_SET i) + 2 ^ 32 * s.getF (R.ENC_SETH_SET i))
  let p := in48 (set + if x.edgeClk = s.clk then x.edgeDelta else 0)
  { x with pos := p, out := p, p1 := x.p1 + (p - x.pos), p0 := x.p0 + (p - x.pos) }

/-- `u` is `s` with an index edge of interface `i` taken (R392). -/
def State.indexTaken (s u : State) (i : Nat) : Prop :=
  let x := s.encUnit i
  let arm := s.getF (R.ENC_CFG_IDXARM i)
  ∃ p, s.standsAt i p ∧
    s.onlyEncoder u i (if arm = 0 then x else s.loaded i x) [R.ENC_IDX_POS i, R.ENC_STAT_IDXSEEN i, R.ENC_CFG_IDXARM i] ∧
    u.getF (R.ENC_IDX_POS i) = (p % 2 ^ 32).toNat ∧ u.getF (R.ENC_STAT_IDXSEEN i) = 1 ∧ u.getF (R.ENC_CFG_IDXARM i) = 0

/-! ## The call board -/

/-- Channel `ch` delivers now (R397, R399, R406). -/
def State.channelOpen (s : State) (ch : Nat) : Prop :=
  s.cueRuns = true ∧ s.getF (R.CALL_CH_EN ch) ≠ 0 ∧ s.getF (R.CALL_CH_SUBV ch) ≠ 0 ∧
    (s.getReg (R.CALL_RUNAWAY (ch / 32))).getLsbD (ch % 32) = false ∧ s.call.waiting.getLsbD ch = false

/-- Physical core `k` is core `n`, or its understudy while the pair is not split (R126, R142). -/
def State.copyOf (s : State) (n k : Nat) : Prop := k = n ∨ (k = n + 1 ∧ n < 8 ∧ s.isSplit (n / 2) = false)

/-- `v` is `s` with one event at consumer `c` of R401. -/
def State.consumes (s v : State) (c : Nat) : Prop :=
  let n := c / 16
  let d := c - 0x140
  let x := s.dch d
  let pend := s.getF (R.DMA_CNT_PEND d)
  let starved := x.credit < (if regionOf x.dst = .peripheral then 4 else 1) ∧ s.dmaState d = 1
  let trigger := fun g : Nat => s.getF (R.AFE_GCFG_ETRIG g) ≠ 0 ∧ s.converts ∧ ¬ s.claims g ∧ (s.adcGroup g).waiting = none
  (c < 0x100 → (8 ≤ n ∨ n % 2 = 0) → v = { s with cores := v.cores } ∧
    (∀ k, s.copyOf n k → v.core k = { s.core k with inputs := (s.core k).inputs ||| BitVec.ofNat 16 (2 ^ (c % 16)) }) ∧
    ∀ k, ¬ s.copyOf n k → v.core k = s.core k) ∧
  (∀ g < 6, c = 0x100 + g → (¬ trigger g → v = s) ∧
    (trigger g → v = { s with afe := { s.afe with groups := v.afe.groups } } ∧
      ∀ h, v.adcGroup h = if h = g then { s.adcGroup h with waiting := some s.clk } else s.adcGroup h)) ∧
  (∀ o < 16, c = 0x110 + o → v = { s with call := { s.call with evout := v.call.evout, evoutClk := v.call.evoutClk } } ∧
    (∀ k, mget 0 v.call.evoutClk k = if k = o then s.clk else mget 0 s.call.evoutClk k) ∧
    ∀ k < 16, v.call.evout.getLsbD k = (s.call.evout.getLsbD k || decide (k = o))) ∧
  (0x140 ≤ c → c < 0x180 →
    (s.dmaState d = 0 → v = s) ∧
    (s.dmaState d ≠ 0 → pend = 15 → s.onlyFields v [R.DMA_STAT_REQOVF d] ∧ v.getF (R.DMA_STAT_REQOVF d) = 1) ∧
    (s.dmaState d ≠ 0 → pend ≠ 15 → ¬ starved → s.onlyFields v [R.DMA_CNT_PEND d] ∧ v.getF (R.DMA_CNT_PEND d) = pend + 1) ∧
    (s.dmaState d ≠ 0 → pend ≠ 15 → starved → { s with dma := { s.dma with ch := v.dma.ch } }.onlyFields v [] ∧
      ∀ k, v.dch k = if k = d then { x with credit := x.credit + s.getF (R.DMA_PACE_BURST d) } else s.dch k)) ∧
  (0x180 ≤ c → c < 0x1A0 → v = s.byrEvout (c - 0x180))

/-! ## DMA -/

/-- `u` is `s` but for DMA channel `c`, which has become `x`, and the fields `l`. -/
def State.onlyChannel (s u : State) (c : Nat) (x : DmaChan) (l : List Fld) : Prop :=
  { s with dma := { s.dma with ch := u.dma.ch } }.onlyFields u l ∧ ∀ k, u.dch k = if k = c then x else s.dch k

/-- A channel without a transfer: the check value's state and the beats of the last 1,000 cycles stay. -/
def DmaChan.emptied (x : DmaChan) : DmaChan := { acc := x.acc, part := x.part, window := x.window }

/-- Channel `c` is IDLE. -/
def State.channelIdles (s u : State) (c : Nat) : Prop :=
  s.onlyChannel u c (s.dch c).emptied [R.DMA_STAT_STATE c] ∧ u.dmaState c = 0

/-- Channel `c` is IDLE after an ABORT, nothing pending (R425). -/
def State.channelAborted (s u : State) (c : Nat) : Prop :=
  s.onlyChannel u c (s.dch c).emptied [R.DMA_STAT_STATE c, R.DMA_CNT_PEND c] ∧ u.dmaState c = 0 ∧ u.getF (R.DMA_CNT_PEND c) = 0

/-- Channel `c` is in HALT on a fault at `a` (R422, R424). -/
def State.channelHalts (s u : State) (c a : Nat) (wr dscf : Bool) : Prop :=
  s.onlyChannel u c { s.dch c with rd := [], queue := [], wr := [], wait := false, fetch := false }
      [R.DMA_STAT_STATE c, R.DMA_STAT_ERR c, R.DMA_STAT_DSCF c, R.DMA_STAT_DIR c, R.DMA_STAT_ERRH c, R.DMA_ERRL_ADDR c] ∧
    u.dmaState c = 3 ∧ u.getF (R.DMA_STAT_ERR c) = 1 ∧ u.getF (R.DMA_STAT_DSCF c) = dscf.toNat ∧
    u.getF (R.DMA_STAT_DIR c) = wr.toNat ∧ u.getF (R.DMA_STAT_ERRH c) = a / 2 ^ 32 % 256 ∧ u.getF (R.DMA_ERRL_ADDR c) = a % 2 ^ 32

/-- The status of channel `c`'s descriptor at `a` with first word `w` written and its VALID cleared (R420): the state, and
whether both writes ended well. -/
def State.statusWritten (s : State) (c a : Nat) (w : Word) (code chk fault : Nat) (wr : Bool) : State × Bool :=
  let by_ : Writer := .dma (Fin.ofNat 64 c)
  let first := bytesLE 4 (code * 2 ^ 28 + if wr then 2 ^ 27 else 0) ++ bytesLE 4 chk ++ bytesLE 8 fault ++ bytesLE 4 (s.dch c).done
  let m := s.memWrite by_ (a + 0x20) first
  if m.2 then m.1.memWrite by_ a (bytesLE 4 (w.toNat % 2 ^ 31)) else (m.1, false)

/-- The chain of channel `c` goes on after a descriptor with first word `w` (R420, R423). -/
def State.chainGoesOn (s u : State) (c : Nat) (w : Word) (next : Nat) : Prop :=
  (w.getLsbD 30 = true → s.channelIdles u c) ∧
  (w.getLsbD 30 = false → s.onlyChannel u c { (s.dch c).emptied with fetch := true } [R.DMA_DSCL_ADDR c, R.DMA_HI_DSC c] ∧
    u.getF (R.DMA_DSCL_ADDR c) = next / 64 % 2 ^ 26 ∧ u.getF (R.DMA_HI_DSC c) = next / 2 ^ 32 % 256)

/-- A descriptor of channel `c` with first word `w` has ended, DONE or BAD: IRQ sets DONE, EVT publishes, and the chain goes on
(R420, R423). -/
def State.descriptorEnds (s v : State) (c : Nat) (w : Word) (next : Nat) : Prop :=
  ∃ u p : State, s.onlyFields u [R.DMA_STAT_DONE c] ∧
    u.getF (R.DMA_STAT_DONE c) = (if w.getLsbD 29 then 1 else s.getF (R.DMA_STAT_DONE c)) ∧
    p = (if w.getLsbD 28 then u.publish (Src.dmaDone c) else u) ∧ p.chainGoesOn v c w next

/-- The transfer or descriptor of channel `c` completes (R417, R418, R420, R425). -/
def State.transferEnds (s v : State) (c : Nat) : Prop :=
  let x := s.dch c
  let k := s.getF (R.DMA_CTRL_CHK c)
  let acc := (x.acc + natLE x.part) % 2 ^ 32
  let res := if k = 0 then 0 else if k = 1 then acc ^^^ 0xFFFFFFFF else acc
  let y := { x with acc := acc, part := [] }
  (x.dsc = none → ∃ u : State, s.onlyChannel u c y.emptied [R.DMA_CHKV_CHK c, R.DMA_STAT_DONE c, R.DMA_STAT_STATE c] ∧
    u.getF (R.DMA_CHKV_CHK c) = res ∧ u.getF (R.DMA_STAT_DONE c) = 1 ∧ u.dmaState c = 0 ∧
    v = if s.getF (R.DMA_CTRL_EVTEN c) = 0 then u else u.publish (Src.dmaDone c)) ∧
  (∀ a w next, x.dsc = some (a, w, next) → ∃ t : State, s.onlyChannel t c y [] ∧
    let m := t.statusWritten c a w 1 res 0 false
    (m.2 = false → m.1.channelHalts v c a true true) ∧
    (m.2 = true → ∃ u : State, m.1.onlyFields u [R.DMA_CHKV_CHK c] ∧ u.getF (R.DMA_CHKV_CHK c) = res ∧ u.descriptorEnds v c w next))

/-- A beat of channel `c` at `a` has failed (R422, R423, R425). -/
def State.beatFails (s v : State) (c a : Nat) (wr : Bool) : Prop :=
  let x := s.dch c
  (x.abort = true → s.onlyChannel v c (if wr then { x with wr := x.wr.tail } else { x with rd := x.rd.tail }) []) ∧
  (x.abort = false → x.dsc = none → s.channelHalts v c a wr false) ∧
  (∀ d w next, x.abort = false → x.dsc = some (d, w, next) → ∃ t : State,
    s.onlyFields t [R.DMA_STAT_DIR c, R.DMA_STAT_ERRH c, R.DMA_ERRL_ADDR c, R.DMA_STAT_BAD c, R.DMA_CNT_BADCNT c] ∧
    t.getF (R.DMA_STAT_DIR c) = wr.toNat ∧ t.getF (R.DMA_STAT_ERRH c) = a / 2 ^ 32 % 256 ∧
    t.getF (R.DMA_ERRL_ADDR c) = a % 2 ^ 32 ∧ t.getF (R.DMA_STAT_BAD c) = 1 ∧
    t.getF (R.DMA_CNT_BADCNT c) = min (s.getF (R.DMA_CNT_BADCNT c) + 1) 65535 ∧
    (let m := t.statusWritten c d w 2 0 a wr
     (m.2 = false → m.1.channelHalts v c d true true) ∧ (m.2 = true → m.1.descriptorEnds v c w next)))

/-- A request that waits is released while less is released than one beat takes (R413). -/
def State.requestServed (s u : State) (c : Nat) : Prop :=
  let x := s.dch c
  let pend := s.getF (R.DMA_CNT_PEND c)
  let due := x.credit < (if regionOf x.dst = .peripheral then 4 else 1) ∧ pend ≠ 0 ∧ s.dmaState c = 1
  (¬ due → u = s) ∧
  (due → s.onlyChannel u c { x with credit := x.credit + s.getF (R.DMA_PACE_BURST c) } [R.DMA_CNT_PEND c] ∧
    u.getF (R.DMA_CNT_PEND c) = pend - 1)

/-- A transfer begins on channel `c`, which has been set up (R425). -/
def State.transferBegins (s v : State) (c : Nat) : Prop :=
  ((s.dch c).left = 0 → s.transferEnds v c) ∧ ((s.dch c).left ≠ 0 → s.requestServed v c)

/-- R410: addresses and length of a transfer that touches peripheral space are multiples of 4. -/
def transferFits (src dst len : Nat) : Prop :=
  ∀ a ∈ [src, dst], regionOf a = .peripheral → a % 4 = 0 ∧ len % 4 = 0

/-- Whether the channel holds its source, or its destination, fixed (R415). -/
def State.holdsFixed (s : State) (c : Nat) (dest : Bool) : Bool :=
  match (s.dch c).dsc with
  | some (_, w, _) => w.getLsbD (if dest then 25 else 26)
  | none => s.getF (if dest then R.DMA_CTRL_DSTFIX c else R.DMA_CTRL_SRCFIX c) != 0

/-- Bytes in the queue of a channel or on their way into it. -/
def DmaChan.filled (x : DmaChan) : Nat := x.queue.length + (x.rd.map (·.2)).sum

/-- Bytes of a channel written but not acknowledged. -/
def DmaChan.unacked (x : DmaChan) : Nat := (x.wr.map (·.2.length)).sum

/-- The size of a beat of at most `n` bytes at `a` (R409, R410). -/
def beatOf (a n : Nat) : Nat := if regionOf a = .peripheral then min 4 n else min (64 - a % 64) n

/-- The next read beat of channel `c`, and the condition of R411, R412 and R414 for it. -/
def State.readBeatAt (s : State) (c : Nat) : Nat × Nat :=
  let x := s.dch c
  let ahead := x.filled + x.unacked
  let a := if s.holdsFixed c false then x.src else x.src + ahead
  (a, beatOf a (x.left - ahead))
def State.mayRead (s : State) (c : Nat) : Prop :=
  let x := s.dch c
  let n := (s.readBeatAt c).2
  let recent := x.window.filter fun b => decide (s.clk < b.1 + 1000)
  s.dmaState c = 1 ∧ x.fetch = false ∧ x.abort = false ∧ x.wait = false ∧ 0 < n ∧ x.filled + n ≤ 4096 ∧
    (recent.map (·.2)).sum + n ≤ 64 * s.getF (R.DMA_PACE_SHARE c)

/-- The next write beat of channel `c`, and the condition of R411 and R413 for it. -/
def State.writeBeatAt (s : State) (c : Nat) : Nat × Nat :=
  let x := s.dch c
  let a := if s.holdsFixed c true then x.dst else x.dst + x.unacked
  let n := if s.getF (R.DMA_CTRL_REQ c) = 0 then x.queue.length else min x.credit x.queue.length
  (a, if regionOf a = .peripheral ∧ n < 4 then 0 else beatOf a n)
def State.mayWriteBeat (s : State) (c : Nat) : Prop :=
  s.dmaState c = 1 ∧ (s.dch c).abort = false ∧ 0 < (s.writeBeatAt c).2

/-- Channel `c` is the one that the port of its engine serves: the highest PRIO, then the first after channel `last` (R411). -/
def State.served (s : State) (c last : Nat) (may : Nat → Prop) : Prop :=
  let turn := fun k : Nat => (k % 16 + 15 - last % 16) % 16
  let prio := fun k : Nat => s.getF (R.DMA_CTRL_PRIO k)
  may c ∧ ∀ k, k / 16 = c / 16 → may k → prio k < prio c ∨ (prio k = prio c ∧ turn c ≤ turn k)

/-- `x` with the watermarks of channel `c` obeyed (R412). -/
def State.watermarked (s : State) (c : Nat) (x : DmaChan) : DmaChan :=
  { x with wait := if 256 * s.getF (R.DMA_PACE_HIWM c) ≤ x.filled then true
                   else if x.filled ≤ 256 * s.getF (R.DMA_PACE_LOWM c) then false else x.wait }

/-! ## Pins -/

/-- Master `w` passes the ownership test of R435 at pin `y` of port `x`. -/
def State.ownerPasses (s : State) (w : Writer) (x y : Nat) : Prop :=
  let o := fieldOf (s.getReg (R.GPIO_PxOWN x (y / 8))) (4 * (y % 8) + 3) (4 * (y % 8))
  let core := w = .rom ∨ ∃ h c, w = .core h c
  let boot := s.sys.dev = .boot
  if o = 1 then core ∧ boot
  else (w.isHouse = true ∧ (boot ∨ s.sys.dev = .places)) ∨ (o = 2 ∧ w.isHouse = true) ∨
    (o = 3 ∧ (w.isCrew = true ∨ ∃ c, w = .dma c)) ∨ (4 ≤ o ∧ o < 8 ∧ ∃ h c, w = .core h c ∧ h.val = o - 4)

/-- Master `w` passes R445 at serial engine `n`. -/
def State.enginePasses (s : State) (w : Writer) (n : Nat) : Prop :=
  if s.carries 0 (1 + 4 * n) 8 then s.ownerPasses w 0 (1 + 4 * n) else w.isHouse = true

/-- `u` is `s` but for the FIFOs of serial engine `n`, which hold `tx` and `rx` and are shown, and the fields `l`. -/
def State.onlyEngine (s u : State) (n : Nat) (tx rx : List Word) (l : List Fld) : Prop :=
  { s with gpio := { s.gpio with tx := u.gpio.tx, rx := u.gpio.rx } }.onlyFields u
      ([R.GPIO_SERSTAT_TXLVL n, R.GPIO_SERSTAT_RXLVL n, R.GPIO_SERSTAT_BUSY n] ++ l) ∧
    (∀ k, mget [] u.gpio.tx k = if k = n then tx else mget [] s.gpio.tx k) ∧
    (∀ k, mget [] u.gpio.rx k = if k = n then rx else mget [] s.gpio.rx k) ∧
    u.getF (R.GPIO_SERSTAT_TXLVL n) = tx.length % 32 ∧ u.getF (R.GPIO_SERSTAT_RXLVL n) = rx.length % 32 ∧
    u.getF (R.GPIO_SERSTAT_BUSY n) = if s.getF (R.GPIO_SERCFG_EN n) ≠ 0 ∧ tx ≠ [] then 1 else 0

/-- `u` is `s` with entry `v` received by engine `n` (R445). -/
def State.entryReceived (s u : State) (n : Nat) (v : Word) : Prop :=
  let rx := mget [] s.gpio.rx n
  (16 ≤ rx.length → s.onlyFields u [R.GPIO_SERSTAT_RXOVF n] ∧ u.getF (R.GPIO_SERSTAT_RXOVF n) = 1) ∧
  (rx.length < 16 → s.onlyEngine u n (mget [] s.gpio.tx n) (rx ++ [v]) [])

/-! ## Power budget and journal -/

/-- P_meas of R449 as an exact number, where every enabled phase had a pair in the window. -/
def State.measured (s : State) : Rat :=
  let w := fun p : Nat => let x := mget {} s.pbs.phases p
    (x.sumVI * (s.getF (R.PBS_PHSC_VFS p) : Int) * (s.getF (R.PBS_PHSC_IFS p) : Int) : Int) / (x.n : Rat) / 2 ^ 30 / 1000
  ((List.range 3).map fun p => if s.getF (R.PBS_PH_EN p) = 0 then (0 : Rat) else w p).sum

/-- What the latch makes of temperature source `t` (R454); a sum that 16 bits do not hold leaves T open (DESIGN CHOICE, log entry 44). -/
def State.temperatureLatched (s u : State) (t : Nat) : Prop :=
  let kind := s.getF (R.PBS_TSRC_KIND t)
  let i := s.getF (R.PBS_TSRC_INDEX t)
  let shows := fun v : Int => u.getF (R.PBS_TVAL_STALE t) = 0 ∧ u.getF (R.PBS_TVAL_T t) = (v % 65536).toNat
  let stale := u.getF (R.PBS_TVAL_STALE t) = 1 ∧ u.getF (R.PBS_TVAL_T t) = s.getF (R.PBS_TVAL_T t)
  (kind = 3 → shows (s.getS R.SYS_TEMP_T)) ∧
  (kind = 2 → s.getF (R.JET_BSTAT_VALID i) ≠ 0 → shows (10 * s.getS (R.JET_BSTAT_TEMP i))) ∧
  (kind = 2 → s.getF (R.JET_BSTAT_VALID i) = 0 → stale) ∧
  (kind = 1 → s.getF (R.AFE_ADCRES_CNT i) = mget 0 s.pbs.seen t → stale) ∧
  (kind = 1 → s.getF (R.AFE_ADCRES_CNT i) ≠ mget 0 s.pbs.seen t → ∃ m : Int,
    rounds (s.getS (R.AFE_ADCRES_VAL i) * s.getS (R.PBS_TSRC_SCALE t) / 10) m ∧ u.getF (R.PBS_TVAL_STALE t) = 0 ∧
    (let v := s.getS (R.PBS_TOFS_OFS t) + m
     v ≤ 32767 → -32768 ≤ v → shows v)) ∧
  (kind ≠ 1 → kind ≠ 2 → kind ≠ 3 → stale)

/-- The overdraw of R460 with P_meas `p`: none, or its excess. -/
def State.drawsOver (s : State) (p : Int) (e : Option Nat) : Prop :=
  let member := s.getF R.PBS_SHARE_ROLE ≠ 0 ∧ s.getF R.PBS_SHARE_ROLE ≠ 1
  let on := fun q : Nat => q < 3 ∧ s.getF (R.PBS_PH_EN q) ≠ 0
  let lim : Int := if s.getF R.PBS_SHARE_ROLE = 0 ∨ s.getF R.PBS_SHARE_ROLE = 1 then s.getF R.PBS_FEED_LIMIT else s.shareNow
  let ilim := s.getF R.PBS_ILIM_ILIM
  let high := fun q : Nat => on q ∧ ilim < s.getF (R.PBS_IRMS_I q)
  let part := fun q : Nat => (lim * ((s.getF (R.PBS_IRMS_I q) : Int) - ilim) / (ilim : Rat) : Rat)
  let tested := ¬ (member ∧ ∀ q, ¬ on q)
  (¬ (tested ∧ (lim < p ∨ ∃ q, high q)) → e = none) ∧
  (tested ∧ (lim < p ∨ ∃ q, high q) → ∃ x : Nat, e = some x ∧ (ilim ≠ 0 → p - lim ≤ x ∧ (∀ q, high q → part q - 1 < x) ∧
    ((x : Int) = max 0 (p - lim) ∨ ∃ q, high q ∧ rounds (part q) x)))

/-- The table of R461: what a latch with overdraw `e` makes of the shedding state. -/
def State.sheds (s u : State) (e : Option Nat) : Prop :=
  let shedding := s.getF R.PBS_STAT_SHED ≠ 0
  let b := s.pbs
  let becomes := fun (sh od clean : Nat) (l : List Fld) =>
    { s with pbs := { b with sh := sh, od := od, clean := clean }, sys := { s.sys with faultDue := u.sys.faultDue } }.onlyFields u l
  let fault := fun f : Prop => (u.sys.faultDue = true ↔ s.sys.faultDue = true ∨ f) ∧
    (f → u.getF R.SYS_CURTAIN_PBS = 1) ∧ (¬ f → u.getF R.SYS_CURTAIN_PBS = s.getF R.SYS_CURTAIN_PBS)
  (∀ x, e = some x → u.getF R.PBS_STAT_OVRD = 1 ∧ u.getF R.PBS_STAT_SHED ≠ 0 ∧
    (¬ shedding → becomes x 1 0 [R.PBS_STAT_OVRD, R.PBS_STAT_SHED] ∧ fault False) ∧
    (shedding → becomes (b.sh + x) (b.od + 1) 0 [R.PBS_STAT_OVRD, R.SYS_CURTAIN_PBS] ∧
      fault (s.getF R.PBS_SHED_SHEDLIM ≤ b.od + 1 ∧ s.inRun = true))) ∧
  (e = none → (¬ shedding → u = s) ∧
    (shedding → b.clean + 1 < s.getF R.PBS_SHED_RECOVER → becomes (b.sh - b.sh / 16) 0 (b.clean + 1) [] ∧ fault False) ∧
    (shedding → s.getF R.PBS_SHED_RECOVER ≤ b.clean + 1 → becomes 0 0 0 [R.PBS_STAT_SHED] ∧ u.getF R.PBS_STAT_SHED = 0 ∧ fault False))

/-- `w` is `s` after a latch, the shares of an owner apart (R448, R449, R453, R454, R459). -/
def State.latched (s w : State) : Prop :=
  let on := fun q : Nat => q < 3 ∧ s.getF (R.PBS_PH_EN q) ≠ 0
  let ph := fun (t : State) (q : Nat) => mget {} t.pbs.phases q
  ∃ (p : Int) (e : Option Nat) (a b : State), w = (b.unaccLatch p).grantCompute ∧
    { s with freeCtr := a.freeCtr, pbs := { s.pbs with phases := a.pbs.phases, seen := a.pbs.seen } }.onlyFields a
      (R.PBS_MEAS_P :: R.PBS_SHLIM_VALID :: R.PBS_SHLIM_S :: (((List.range 3).map R.PBS_IRMS_I) ++
        (List.range 8).flatMap fun t => [R.PBS_TVAL_T t, R.PBS_TVAL_STALE t])) ∧
    (s.paused = true → p = s.getF R.PBS_MEAS_P) ∧
    (s.paused = false → (∀ q, on q → 0 < (ph s q).n) → rounds s.measured p) ∧
    a.getF R.PBS_MEAS_P = min 1048575 p.toNat ∧
    (∀ q, on q → (ph a q).sumVI = 0 ∧ (ph a q).sumI2 = 0 ∧ (ph a q).n = 0 ∧
      let l := (((ph s q).sumI2, (ph s q).n) :: (ph s q).wins).take (s.getF R.PBS_ILIM_WIN)
      let n := (l.map (·.2)).sum
      let ms : Rat := ((l.map (·.1)).sum * s.getF (R.PBS_PHSC_IFS q) ^ 2 : Nat) / (n * 2 ^ 30 : Nat)
      let i := a.getF (R.PBS_IRMS_I q)
      0 < n → ms < 65535 ^ 2 → (i = 0 ∨ ((i - 1 : Nat) : Rat) ^ 2 < ms) ∧ ms < ((i + 1 : Nat) : Rat) ^ 2) ∧
    (∀ q < 3, ¬ on q → ph a q = ph s q ∧ a.getF (R.PBS_IRMS_I q) = s.getF (R.PBS_IRMS_I q)) ∧
    (∀ t < 8, s.temperatureLatched a t) ∧
    a.drawsOver p e ∧ a.sheds b e

/-- `u` is `s` but for the fields `l` and bytes of PMEM at the offsets that `at_` names (a store of JRNL counts in PMC_STAT.DEPTH). -/
def State.onlyStores (s u : State) (l : List Fld) (at_ : Nat → Prop) : Prop :=
  { s with mem := u.mem, ecc := u.ecc, jrnl := u.jrnl, pmcQueue := u.pmcQueue }.onlyFields u (R.PMC_STAT_DEPTH :: l) ∧
    ∀ a, (∀ o, a = pmemBase + o → ¬ at_ o) → u.rd8 a = s.rd8 a

/-- The answer to an ACCEPT of order `q` with a number of swaths and a digest (R469). -/
def State.answerOf (s : State) (q count dig : Nat) : Nat :=
  let held := s.orderHeld q = true
  let same := s.pmRd (orderRec q + 0x10) 4 = dig ∧ s.pmRd (orderRec q + 0xC) 2 = count
  if ¬ (s.sys.dev = .places ∨ s.inRun = true) then 7
  else if held then (if same then 2 else 5)
  else if q ≤ s.getF R.JRNL_LASTRET_SEQ then 3
  else if s.getF R.JRNL_LASTACC_SEQ ≠ 0 ∧ q ≠ s.getF R.JRNL_LASTACC_SEQ + 1 then 4
  else if s.recState (orderRec q) = 1 ∨ s.recState (orderRec q) = 2 then 6 else 1

/-! ## The Byrov fabric -/

/-- `u` is `s` but for Byrov port `q`, which has become `x`, and the fields `l`. -/
def State.onlyByrPort (s u : State) (q : Nat) (x : ByrPort) (l : List Fld) : Prop :=
  { s with byr := { s.byr with ports := u.byr.ports } }.onlyFields u l ∧ ∀ k, u.byrPort k = if k = q then x else s.byrPort k

/-- `u` is `s` with blocks waiting on port `q`, where the link is in JOIN or UP; else they are lost. -/
def State.blocksQueued (s u : State) (q : Nat) (l : List Blk) : Prop :=
  let link := s.getF (R.BYR_PORT_LINK q)
  (link = 2 ∨ link = 3 → s.onlyByrPort u q { s.byrPort q with out := (s.byrPort q).out ++ l } []) ∧ (link ≠ 2 → link ≠ 3 → u = s)

/-- A node `src` lies in the ring that hangs on port `q`, whose position 0 is this node (R502, R508). -/
def State.ringMember (s : State) (q src : Nat) : Prop :=
  let n := s.getF R.BYR_ADDR_ADDR
  let a := fun x : Nat => x / 4096 % 64
  let b := fun x : Nat => x / 64 % 64
  let c := fun x : Nat => x % 64
  src ≠ n ∧ ¬ (b src = 0 ∧ c src ≠ 0) ∧
    (if q = 2 then (b n = 0 ∧ a src = a n ∧ b src ≠ 0 ∧ c src = 0) ∨ (b n ≠ 0 ∧ c n = 0 ∧ a src = a n ∧ b src = b n ∧ c src ≠ 0)
     else n = 0 ∧ b src = 0)

/-- `u` keeps those nodes admitted in `s` that have not left by a port `q` with `gone q` (R509). -/
def State.membersLeft (s u : State) (gone : Nat → Prop) : Prop :=
  u.byr.members.Sublist s.byr.members ∧
    ∀ m, m ∈ u.byr.members ↔ m ∈ s.byr.members ∧ ∀ q < 3, gone q → ¬ s.ringMember q m

/-- A closed root ring reaches the nodes of port `q` by the other port too (R503). -/
def State.otherWay (s : State) (q : Nat) : Prop := q ≠ 2 ∧ Config.byrClosed = true ∧ s.getF (R.BYR_PORT_LINK (1 - q)) = 3

/-- `u` is `s` with port `q` in FAULT for `cause`; the nodes that it admitted leave, and on the upstream port that is a holdover (R509,
R56). -/
def State.linkFails (s u : State) (q cause : Nat) : Prop :=
  ∃ t : State, { s with byr := { s.byr with members := t.byr.members } }.onlyByrPort t q { s.byrPort q with out := [] }
      [R.BYR_PORT_LINK q, R.BYR_PORT_CAUSE q] ∧
    s.membersLeft t (fun k => k = q ∧ ¬ s.otherWay q) ∧
    t.getF (R.BYR_PORT_LINK q) = 4 ∧ t.getF (R.BYR_PORT_CAUSE q) = cause % 16 ∧
    u = if s.getF (R.BYR_PORT_UPSTR q) = 0 then t else t.holdover

/-- `u` is `s` with port `q` out of TRAIN, if CAPS has come and 64 ECHOs are measured; the upstream port then asks to join the
ring of its node (R508). -/
def State.trainingEnds (s u : State) (q : Nat) : Prop :=
  let self := s.getF R.BYR_ADDR_ADDR
  let ring := if self % 64 ≠ 0 then self / 64 * 64 else if self / 64 % 64 ≠ 0 then self / 4096 * 4096 else 0
  let ends := s.getF (R.BYR_PORT_LINK q) = 1 ∧ (s.byrPort q).caps = true ∧ 64 ≤ (s.byrPort q).echos
  (¬ ends → u = s) ∧
  (ends → ∃ t : State, s.onlyFields t [R.BYR_PORT_LINK q] ∧ t.getF (R.BYR_PORT_LINK q) = 2 ∧
    (s.getF (R.BYR_PORT_UPSTR q) = 0 → u = t) ∧
    (s.getF (R.BYR_PORT_UPSTR q) ≠ 0 → t.blocksQueued u q (pktBlks ring self 7 0 [1])))

/-- What the end of remote access `r`, with its bytes or without, does at its sender (R415, R422, R509, R511). -/
def State.accessEnds (s u : State) (r : RemoteAcc) (data : Option (List Byte)) : Prop :=
  (r.by_ = .other → u = s) ∧
  (∀ n, r.by_ = .hart n → r.wr = true → let h : Hart := Fin.ofNat 12 n
    u = ((if data.isSome then s else s.postFault h ⟨r.addr, r.size, true⟩).fenceCheck h)) ∧
  (∀ n q a k rest, r.by_ = .hart n → r.wr = false → (s.hart (Fin.ofNat 12 n)).wait = .load q → q.parts = (a, k) :: rest →
    q.remote = true → a = r.addr →
    u = s.loadResume (Fin.ofNat 12 n) q a rest (match data with | some l => .ok (l.take k) | none => .fault 0x10)) ∧
  (∀ c a k l, r.by_ = .dma c → r.wr = false → (s.dch c).rd = (a, k) :: l → a = r.addr.toNat →
    (∀ d, data = some d → s.onlyChannel u c
      (s.watermarked c { s.dch c with rd := l, queue := (s.dch c).queue ++ d.take k }) []) ∧ (data = none → s.beatFails u c a false)) ∧
  (∀ c a d l, r.by_ = .dma c → r.wr = true → (s.dch c).wr = (a, d) :: l → a = r.addr.toNat →
    (data ≠ none → u = s.dmaAcked c) ∧ (data = none → s.beatFails u c a true))

/-! ## Updates -/

/-- The reasons of R525, in the order of their codes 0x1 to 0x8, that stand against an activation of bank `b`; `version` is
what an ACTREQ asks for (R529). -/
def State.activationBars (s : State) (b : Nat) (hot : Bool) (version : Option Nat) : List Prop :=
  let h := s.manifest b
  let v := imgLevel h
  let far := fun l : Nat => v + 1 < l ∨ l + 1 < v
  let size := fun types : List Nat => (((imgSections h).filter fun x => types.contains x.type).map (·.length)).sum
  [s.sys.dev ≠ .run .idle ∨ s.drop.q ≠ [],
   s.getF (R.UPD_IMGS_ALLOK b) = 0 ∨ ∃ n, version = some n ∧ n ≠ s.getF (R.UPD_IMGV_VER b),
   (∃ x ∈ imgSections h, (x.type = 2 ∨ x.type = 3) ∧ far x.level) ∨
     (∃ q < 3, s.getF (R.BYR_PORT_LINK q) = 3 ∧ far (s.byrPort q).level) ∨
     (∃ p < 32, s.getF (R.JET_STAT_LINK p) = 3 ∧ far (s.getF (R.JET_CAPS_LEVEL p))),
   hot = true ∧ (s.boot.schema < imgSchemaLo h ∨ imgSchemaHi h < s.boot.schema ∨ imgSettings h ≠ s.rdNat (pmemBase + 0x10000) 4),
   hot = true ∧ (48 * 2 ^ 20 < size [1, 3, 4] ∨ 64 * 2 ^ 20 < size [5]),
   hot = true ∧ ∃ k < 64, s.getF (R.LOOP_SCFG_EN k) ≠ 0 ∧ s.slotMoves k = true ∧ s.getF (R.LOOP_SSTAT_INPOS k) = 0,
   s.actFree b = none,
   s.getF R.UPD_STAT_BUSY ≠ 0 ∨ s.fls.op ≠ none]

/-- An activation of bank `b` is asked for, by an ACT or by the ACTREQ of node `origin`: refused with ACAUSE, accepted, or
done where only the record is written (R525, R526, R528, R529, R495). -/
def State.activationAsked (s u : State) (b : Nat) (hot : Bool) (version origin : Option Nat) : Prop :=
  let r := s.actReason b hot version
  let p : State := if origin = none then { s with host := { s.host with actSess := none } } else s
  let q : State := match (if origin = none then s.host.actSess else none) with
    | some i => (p.longStart i 0x19).2
    | none => p
  (r ≠ 0 → ∃ t : State, p.onlyFields t [R.UPD_STAT_ACAUSE] ∧ t.getF R.UPD_STAT_ACAUSE = r ∧ u = t.actDone origin b r) ∧
  (r = 0 → hot = true → u.getF R.UPD_STAT_BUSY = 1 ∧
    { q with upd := { q.upd with act := some { hot := true, bank := b, origin := origin } } }.onlyFields u [R.UPD_STAT_BUSY]) ∧
  (r = 0 → hot = false → u = ((q.actWrite b (q.getF (R.UPD_IMGV_VER b))).actEvent b false 0).actDone origin b 0)

/-! ## The invariant of every state -/

/-- Memory and registers are stored in canonical form, BBX queues at most 16 records (R535), and DROP at most four swaths
(R221). -/
def State.wellKept (s : State) : Prop := s.memWf ∧ s.regsWf ∧ s.bbxQueue.length ≤ 16 ∧ s.drop.q.length ≤ 4

end Sys2Proof.Machine
end

