-- ==== Sys2Proof/Certificates/Slice0/Obligations.lean ====
section
/-!
DEFINITION. The statements for the provers: what the rules of spec/ say the commands do, and the invariants of the machine.
-/

open Sys2Proof Sys2Proof.Machine

/-- A step runs the command at the front of the queue (98_reader.md, 95_what_each_step_holds.md). -/
def Obligations.StepRunsTheFrontCommand : Prop :=
  ∀ (c : Instr) (r : List Instr) (s : State), step { s with pending := c :: r } = exec c { s with pending := r }

/-- ADD, ADDC, SUB, SUBC, CMP, ADDI and CMPI: result, all four flags, nothing else (R63, R89). -/
def Obligations.AddSubtractCompare : Prop :=
  ∀ (h : Hart) (d s1 s2 : BitVec 5) (imm : BitVec 16),
    (dataEffect (.add h d s1 s2 0) h d (fun c => c.dr s1.toNat + c.dr s2.toNat)
      fun c => sumFlags c.flags (c.dr s1.toNat) (c.dr s2.toNat) 0) ∧
    (dataEffect (.addc h d s1 s2 0) h d (fun c => c.dr s1.toNat + c.dr s2.toNat + (if c.flags.c then 1 else 0))
      fun c => sumFlags c.flags (c.dr s1.toNat) (c.dr s2.toNat) (if c.flags.c then 1 else 0)) ∧
    (dataEffect (.sub h d s1 s2 0) h d (fun c => c.dr s1.toNat - c.dr s2.toNat)
      fun c => differenceFlags c.flags (c.dr s1.toNat) (c.dr s2.toNat) 0) ∧
    (dataEffect (.subc h d s1 s2 0) h d (fun c => c.dr s1.toNat - c.dr s2.toNat - (if c.flags.c then 0 else 1))
      fun c => differenceFlags c.flags (c.dr s1.toNat) (c.dr s2.toNat) (if c.flags.c then 0 else 1)) ∧
    (dataEffect (.addi h d s1 imm) h d (fun c => c.dr s1.toNat + imm.signExtend 32)
      fun c => sumFlags c.flags (c.dr s1.toNat) (imm.signExtend 32) 0) ∧
    (registerEffect (.cmp h 0 s1 s2 0) h fun c =>
      { c with flags := differenceFlags c.flags (c.dr s1.toNat) (c.dr s2.toNat) 0 }) ∧
    (registerEffect (.cmpi h 0 s1 imm) h fun c =>
      { c with flags := differenceFlags c.flags (c.dr s1.toNat) (imm.signExtend 32) 0 })

/-- AND, OR, XOR, ANDN, ANDI, ORI, XORI, TST, MUL, MULHS, MULHU, MIN, MAX and CLZ: result, N and Z (R63, R89). -/
def Obligations.LogicAndProducts : Prop :=
  ∀ (h : Hart) (d s1 s2 : BitVec 5) (imm : BitVec 16),
    (∀ e ∈ [(Instr.and h d s1 s2 0, fun c : Core => c.dr s1.toNat &&& c.dr s2.toNat),
        (Instr.or h d s1 s2 0, fun c => c.dr s1.toNat ||| c.dr s2.toNat),
        (Instr.xor h d s1 s2 0, fun c => c.dr s1.toNat ^^^ c.dr s2.toNat),
        (Instr.andn h d s1 s2 0, fun c => c.dr s1.toNat &&& ~~~ c.dr s2.toNat),
        (Instr.andi h d s1 imm, fun c => c.dr s1.toNat &&& imm.zeroExtend 32),
        (Instr.ori h d s1 imm, fun c => c.dr s1.toNat ||| imm.zeroExtend 32),
        (Instr.xori h d s1 imm, fun c => c.dr s1.toNat ^^^ imm.zeroExtend 32),
        (Instr.mul h d s1 s2 0, fun c => c.dr s1.toNat * c.dr s2.toNat),
        (Instr.mulhs h d s1 s2 0, fun c => (((c.dr s1.toNat).signExtend 64 * (c.dr s2.toNat).signExtend 64) >>> 32).setWidth 32),
        (Instr.mulhu h d s1 s2 0, fun c => (((c.dr s1.toNat).zeroExtend 64 * (c.dr s2.toNat).zeroExtend 64) >>> 32).setWidth 32),
        (Instr.min h d s1 s2 0, fun c => if (c.dr s2.toNat).slt (c.dr s1.toNat) then c.dr s2.toNat else c.dr s1.toNat),
        (Instr.max h d s1 s2 0, fun c => if (c.dr s1.toNat).slt (c.dr s2.toNat) then c.dr s2.toNat else c.dr s1.toNat)],
      dataEffect e.1 h d e.2 fun c => { c.flags with n := (e.2 c).msb, z := decide (e.2 c = 0) }) ∧
    (registerEffect (.tst h 0 s1 s2 0) h fun c =>
      { c with flags := { c.flags with n := (c.dr s1.toNat &&& c.dr s2.toNat).msb,
                                       z := decide (c.dr s1.toNat &&& c.dr s2.toNat = 0) } }) ∧
    ∃ clz : Word → Nat,
      clz 0 = 32 ∧ (∀ v, v ≠ 0 → clz v < 32 ∧ v.getLsbD (31 - clz v) = true ∧ ∀ j, 31 - clz v < j → v.getLsbD j = false) ∧
      dataEffect (.clz h d s1 s2 0) h d (fun c => BitVec.ofNat 32 (clz (c.dr s1.toNat))) fun c =>
        { c.flags with n := false, z := decide (clz (c.dr s1.toNat) = 0) }

/-- SHL, SHR, SAR and their immediate forms: result, N, Z, and C as the last bit shifted out (R63, R89). -/
def Obligations.Shifts : Prop :=
  ∀ (h : Hart) (d s1 s2 : BitVec 5) (n : BitVec 5),
    (∀ e ∈ [(Instr.shl h d s1 s2 0, fun c : Core => (c.dr s2.toNat).toNat % 32), (Instr.shli h d s1 0 (n.zeroExtend 6), fun _ => n.toNat)],
      dataEffect e.1 h d (fun c => c.dr s1.toNat <<< e.2 c) fun c =>
        shiftFlags c.flags (c.dr s1.toNat <<< e.2 c) (e.2 c) ((c.dr s1.toNat).getLsbD (32 - e.2 c))) ∧
    (∀ e ∈ [(Instr.shr h d s1 s2 0, fun c : Core => (c.dr s2.toNat).toNat % 32), (Instr.shri h d s1 0 (n.zeroExtend 6), fun _ => n.toNat)],
      dataEffect e.1 h d (fun c => c.dr s1.toNat >>> e.2 c) fun c =>
        shiftFlags c.flags (c.dr s1.toNat >>> e.2 c) (e.2 c) ((c.dr s1.toNat).getLsbD (e.2 c - 1))) ∧
    (∀ e ∈ [(Instr.sar h d s1 s2 0, fun c : Core => (c.dr s2.toNat).toNat % 32), (Instr.sari h d s1 0 (n.zeroExtend 6), fun _ => n.toNat)],
      dataEffect e.1 h d (fun c => (c.dr s1.toNat).sshiftRight (e.2 c)) fun c =>
        shiftFlags c.flags ((c.dr s1.toNat).sshiftRight (e.2 c)) (e.2 c) ((c.dr s1.toNat).getLsbD (e.2 c - 1)))

/-- ADDS, SUBS, ABS and NEG clamp into the signed range and record the clamp in V and SV (R63, R89). -/
def Obligations.SaturatingArithmetic : Prop :=
  ∀ (h : Hart) (d s1 s2 : BitVec 5),
    (dataEffect (.adds h d s1 s2 0) h d (fun c => BitVec.ofInt 32 (clampS 32 ((c.dr s1.toNat).toInt + (c.dr s2.toNat).toInt)))
      fun c => satFlags c.flags ((c.dr s1.toNat).toInt + (c.dr s2.toNat).toInt)
        (decide (2 ^ 32 ≤ (c.dr s1.toNat).toNat + (c.dr s2.toNat).toNat))) ∧
    (dataEffect (.subs h d s1 s2 0) h d (fun c => BitVec.ofInt 32 (clampS 32 ((c.dr s1.toNat).toInt - (c.dr s2.toNat).toInt)))
      fun c => satFlags c.flags ((c.dr s1.toNat).toInt - (c.dr s2.toNat).toInt)
        (decide ((c.dr s2.toNat).toNat ≤ (c.dr s1.toNat).toNat))) ∧
    (∀ s t : State, s.issuesTo t h → ∃ u cy, exec (.abs h d s1 s2 0) s = .next u ∧
      let c := t.hart h
      t.fresh.2.onlyHart u h { c.setD d.toNat (BitVec.ofInt 32 (clampS 32 (c.dr s1.toNat).toInt.natAbs)) with
        flags := satFlags c.flags (c.dr s1.toNat).toInt.natAbs cy }.retire) ∧
    (∀ s t : State, s.issuesTo t h → (t.hart h).dr s1.toNat ≠ 0x80000000#32 →
      ∃ u, exec (.neg h d s1 s2 0) s = .next u ∧
        let c := t.hart h
        t.fresh.2.onlyHart u h { c.setD d.toNat (- c.dr s1.toNat) with
          flags := satFlags c.flags (-(c.dr s1.toNat).toInt) (decide (c.dr s1.toNat = 0)) }.retire) ∧
    (∀ s t : State, s.issuesTo t h → (t.hart h).dr s1.toNat = 0x80000000#32 → ∃ u, exec (.neg h d s1 s2 0) s = .next u ∧
      ((u.hart h).dr d.toNat = 0x80000000#32 ∨ (u.hart h).dr d.toNat = 0x7FFFFFFF#32) ∧
      (u.hart h).flags.v = true ∧ u = { t.fresh.2 with cores := u.cores })

/-- MULA, MAC, MSU, MULU, MACU, CLRA, ACCADD, ACCSET, GUARD and EXT (R65, R66, R89). -/
def Obligations.Accumulators : Prop :=
  ∀ (h : Hart) (n m : BitVec 3) (d s1 s2 : BitVec 5) (sh : BitVec 6) (rnd sat : Bool),
    (∀ e ∈ [(Instr.mula h (n.zeroExtend 5) s1 s2 0, fun c : Core => (c.dr s1.toNat).signExtend 72 * (c.dr s2.toNat).signExtend 72),
        (Instr.mac h (n.zeroExtend 5) s1 s2 0,
          fun c => c.accr n.toNat + (c.dr s1.toNat).signExtend 72 * (c.dr s2.toNat).signExtend 72),
        (Instr.msu h (n.zeroExtend 5) s1 s2 0,
          fun c => c.accr n.toNat - (c.dr s1.toNat).signExtend 72 * (c.dr s2.toNat).signExtend 72),
        (Instr.mulu h (n.zeroExtend 5) s1 s2 0, fun c => (c.dr s1.toNat).zeroExtend 72 * (c.dr s2.toNat).zeroExtend 72),
        (Instr.macu h (n.zeroExtend 5) s1 s2 0,
          fun c => c.accr n.toNat + (c.dr s1.toNat).zeroExtend 72 * (c.dr s2.toNat).zeroExtend 72),
        (Instr.clra h (n.zeroExtend 5) 0 0 0, fun _ => 0),
        (Instr.accadd h (n.zeroExtend 5) (m.zeroExtend 5) 0 0, fun c => c.accr n.toNat + c.accr m.toNat),
        (Instr.accset h (n.zeroExtend 5) s1 s2 0, fun c => (c.dr s1.toNat ++ c.dr s2.toNat).signExtend 72)],
      registerEffect e.1 h fun c => c.setAcc n.toNat (e.2 c)) ∧
    (registerEffect (.guard h d (n.zeroExtend 5) s2 0) h fun c =>
      c.setD d.toNat (((c.accr n.toNat).extractLsb' 64 8).signExtend 32)) ∧
    (∀ e : BitVec 5, e.getLsbD 0 = rnd → e.getLsbD 1 = sat → e.toNat < 4 →
      dataEffect (.ext h d (n.zeroExtend 5) e sh) h d (fun c => BitVec.ofInt 32 (extracted (c.accr n.toNat) sh.toNat rnd sat).1)
        fun c =>
          let v := extracted (c.accr n.toNat) sh.toNat rnd sat
          { sv := c.flags.sv || v.2, n := (BitVec.ofInt 32 v.1).msb, z := decide (BitVec.ofInt 32 v.1 = 0), c := false, v := v.2 })

/-- MOV, MOVI, MOVHI, SEL, ADDAI, MOVA, ADDAD, SUBAD, MOVDA, SETAH, MOVAD, MOVAHD, MOVM and MOVMD (R60, R61, R89, R64). -/
def Obligations.DataAndAddressMoves : Prop :=
   (∀ (h : Hart) (a b : BitVec 4) (n : BitVec 3) (d s1 s2 : BitVec 5) (imm : BitVec 16) (k : BitVec 8),
      let A : BitVec 5 := a ++ 0#1
      let B : BitVec 5 := b ++ 0#1
      (∀ e ∈ [(Instr.addai h A B imm, fun c : Core => c.ar b.toNat + imm.signExtend 40),
          (Instr.mova h A B s2 0, fun c => c.ar b.toNat),
          (Instr.addad h A B s2 0, fun c => c.ar b.toNat + (c.dr s2.toNat).signExtend 40),
          (Instr.subad h A B s2 0, fun c => c.ar b.toNat - (c.dr s2.toNat).signExtend 40),
          (Instr.movda h A s1 s2 0, fun c => (c.dr s1.toNat).zeroExtend 40),
          (Instr.setah h A 0 (k.zeroExtend 16), fun c => k ++ (c.ar a.toNat).setWidth 32)],
        registerEffect e.1 h fun c => c.setA a.toNat (e.2 c)) ∧
      (registerEffect (.movad h d B s2 0) h fun c => c.setD d.toNat ((c.ar b.toNat).setWidth 32)) ∧
      (registerEffect (.movahd h d B s2 0) h fun c => c.setD d.toNat (((c.ar b.toNat).extractLsb' 32 8).zeroExtend 32)) ∧
      (registerEffect (.movm h (n.zeroExtend 5) s1 s2 0) h fun c => c.setM n.toNat (c.dr s1.toNat)) ∧
      (registerEffect (.movmd h d (n.zeroExtend 5) s2 0) h fun c => c.setD d.toNat (c.mr n.toNat))) ∧
   (∀ (h : Hart) (d s1 s2 : BitVec 5) (imm : BitVec 16) (cond : BitVec 4),
      (registerEffect (.mov h d s1 s2 0) h fun c => c.setD d.toNat (c.dr s1.toNat)) ∧
      (registerEffect (.movi h d 0 imm) h fun c => c.setD d.toNat (imm.signExtend 32)) ∧
      (registerEffect (.movhi h d 0 imm) h fun c => c.setD d.toNat (imm ++ (c.dr d.toNat).setWidth 16)) ∧
      (registerEffect (.sel h d s1 s2 (cond.zeroExtend 6)) h fun c =>
        c.setD d.toNat (if conditionTest c.flags cond then c.dr s1.toNat else c.dr s2.toNat)))

/-- The addressing modes: access address and An afterwards (R60, R67, R69, R70). -/
def Obligations.AddressingModes : Prop :=
  ∀ (c : Core) (n : Nat) (off : BitVec 12) (x : Addr),
    addressing c n 0 off x = (c.ar n + off.signExtend 40, none) ∧
    addressing c n 1 off x = (c.ar n, some (c.ar n + off.signExtend 40)) ∧
    addressing c n 2 off x = (c.ar n, some (c.ar n + (c.mr n).signExtend 40)) ∧
    addressing c n 3 off x = (c.ar n - off.zeroExtend 40, some (c.ar n - off.zeroExtend 40)) ∧
    (∀ L k base o : Nat, (c.mr n).toNat = L → 1 ≤ L → L < 2 ^ 24 → L ≤ 2 ^ k → (∀ j, L ≤ 2 ^ j → k ≤ j) →
      (c.ar n).toNat = base * 2 ^ k + o → o < 2 ^ k →
      addressing c n 4 off x = (c.ar n, some (BitVec.ofInt 40 (base * 2 ^ k +
        (if (L : Int) ≤ o + off.toInt then o + off.toInt - L
         else if (o : Int) + off.toInt < 0 then o + off.toInt + L else o + off.toInt))))) ∧
    ((c.mr n = 0 → addressing c n 5 0 x = (c.ar n, some (c.ar n))) ∧
      (∀ k : Nat, k < 32 → 2 ^ k ≤ (c.mr n).toNat → (c.mr n).toNat < 2 ^ (k + 1) →
        ∃ v : Addr, addressing c n 5 0 x = (c.ar n, some v) ∧
          (∀ j, k < j → v.getLsbD j = (c.ar n).getLsbD j) ∧
          mirror (k + 1) v.toNat = (mirror (k + 1) (c.ar n).toNat + mirror (k + 1) (c.mr n).toNat) % 2 ^ (k + 1)))

/-- LDS, LDZ, LDA and LDACC write what they read, after the write-back, and retire (R68, R71, R116). -/
def Obligations.LoadsWriteTheirDestination : Prop :=
  ∀ (h : Hart) (d : BitVec 5) (n : BitVec 3) (a b : BitVec 4) (mode : BitVec 3) (size : BitVec 2) (off : BitVec 12)
      (s t u : State) (l : List Byte), s.issuesTo t h → memBad a mode off = false →
    let acc := (t.hart h).access a mode off t.fresh.1
    let back : Core → Core := fun c => match acc.2 with | some w => c.setA w.1 w.2 | none => c
    (∀ sg : Bool, ¬ (size = 3 ∧ d.getLsbD 0 = true) →
      (t.fresh.2.loadGo h ⟨wordMem (if sg then 0x10 else 0x11) d a mode size off, dataDst d size sg, partsOf acc.1 (2 ^ size.toNat),
        [], acc.2, false⟩ (partsOf acc.1 (2 ^ size.toNat)) [] = (u, some l)) →
      ∃ v, exec (if sg then .lds h d a mode size off else .ldz h d a mode size off) s = .next v ∧
        u.onlyHart v h
          (let c := back { u.hart h with wait := .none }
           if size = 3 then (c.setD d.toNat (BitVec.ofNat 32 (natLE (l.take 4)))).setD (d.toNat + 1) (BitVec.ofNat 32 (natLE (l.drop 4)))
           else c.setD d.toNat (if sg then BitVec.ofInt 32 (sext (8 * l.length) (natLE l)) else BitVec.ofNat 32 (natLE l))).retire) ∧
    ((t.fresh.2.loadGo h ⟨wordMem 0x13 (b ++ 0#1) a mode 3 off, .addr b.toNat, partsOf acc.1 8, [], acc.2, false⟩
        (partsOf acc.1 8) [] = (u, some l)) →
      ∃ v, exec (.lda h (b ++ 0#1) a mode 3 off) s = .next v ∧
        u.onlyHart v h ((back { u.hart h with wait := .none }).setA b.toNat (BitVec.ofNat 40 (natLE (l.take 5)))).retire) ∧
    (acc.1.toNat % 8 = 0 →
      (t.fresh.2.loadGo h ⟨wordMem 0x15 (n.zeroExtend 5) a mode 3 off, .acc n.toNat, partsOf acc.1 16, [], acc.2, false⟩
        (partsOf acc.1 16) [] = (u, some l)) →
      ∃ v, exec (.ldacc h (n.zeroExtend 5) a mode 3 off) s = .next v ∧
        u.onlyHart v h ((back { u.hart h with wait := .none }).setAcc n.toNat (BitVec.ofNat 72 (natLE (l.take 9)))).retire)

/-- LOAD_MISS_RETURN brings the last part of a waiting load and the load completes (R92, R94, R116). -/
def Obligations.MissedLoadCompletes : Prop :=
  ∀ (h : Hart) (s u : State) (r : LoadReq) (a : Addr) (n d : Nat) (sg : Bool) (l : List Byte),
    (s.hart h).wait = .load r → r.parts = [(a, n)] → r.remote = false → r.dst = .data d sg →
    s.missPart h r.word a n = (u, .ok l) →
    ∃ v, exec (.loadMissReturn h) s = .next v ∧
      let c : Core := { u.hart h with wait := .none }
      u.onlyHart v h ((match r.wb with | some w => c.setA w.1 w.2 | none => c).setD d
        (if sg then BitVec.ofInt 32 (sext (8 * (r.got ++ l).length) (natLE (r.got ++ l)))
         else BitVec.ofNat 32 (natLE (r.got ++ l)))).retire

/-- ST, STA and STACC: what a store to a core's own local store leaves there, and that every store that raises no exception writes An
back, retires and keeps every byte outside its parts (R68, R71, R116, R131, R93, R145). -/
def Obligations.StoresCompleteAndKeepOtherMemory : Prop :=
  ∀ (h : Hart) (d : BitVec 5) (n : BitVec 3) (a b : BitVec 4) (mode : BitVec 3) (size : BitVec 2) (off : BitVec 12) (s t : State),
    s.issuesTo t h → memBad a mode off = false →
    let c := t.hart h
    let acc := c.access a mode off t.fresh.1
    let back : Core → Core := fun c => match acc.2 with | some w => c.setA w.1 w.2 | none => c
    let forms := [(Instr.st h d a mode size off, wordMem 0x12 d a mode size off,
        (if size = 3 then bytesLE 4 (c.dr d.toNat).toNat ++ bytesLE 4 (c.dr (d.toNat + 1)).toNat
         else bytesLE (2 ^ size.toNat) (c.dr d.toNat).toNat), decide (¬ (size = 3 ∧ d.getLsbD 0 = true))),
      (Instr.sta h (b ++ 0#1) a mode 3 off, wordMem 0x14 (b ++ 0#1) a mode 3 off,
        bytesLE 5 (c.ar b.toNat).toNat ++ [0#8, 0#8, 0#8], true),
      (Instr.stacc h (n.zeroExtend 5) a mode 3 off, wordMem 0x16 (n.zeroExtend 5) a mode 3 off,
        bytesLE 9 (c.accr n.toNat).toNat ++ List.replicate 7 (if (c.accr n.toNat).msb then 0xFF#8 else 0x00#8),
        decide (acc.1.toNat % 8 = 0))]
    let at_ := fun i : Nat => ownAlias (coreOf h) (acc.1.toNat + i)
    (∀ e ∈ forms, e.2.2.2 = true → 4 ≤ h.val → t.ecc = [] → c.tm = false →
      (∀ i < e.2.2.1.length, regionOf (at_ i) = .localStore (coreOf h)) →
      ∃ u, exec e.1 s = .next u ∧ (∀ i < e.2.2.1.length, u.rd8 (at_ i) = e.2.2.1.getD i 0) ∧
        (∀ x, (∀ i < e.2.2.1.length, x ≠ at_ i) → u.rd8 x = t.rd8 x) ∧
        u.hart h = (back c).retire ∧ (∀ k, k ≠ coreOf h → u.core k = s.core k) ∧
        u = { t.fresh.2 with mem := u.mem, cores := u.cores }) ∧
    (∀ e ∈ forms, ∀ u : State, e.2.2.2 = true → t.fresh.2.coreStore h e.2.1 acc.1 e.2.2.1 = (u, true) →
      (∃ v, exec e.1 s = .next v ∧ u.onlyHart v h (back (u.hart h)).retire) ∧
      ((∀ p ∈ partsOf acc.1 e.2.2.1.length, regionOf (ownAlias (coreOf h) p.1.toNat) ≠ .peripheral ∧
          regionOf (ownAlias (coreOf h) p.1.toNat) ≠ .program) →
        ∀ x, (∀ p ∈ partsOf acc.1 e.2.2.1.length, ¬ (ownAlias (coreOf h) p.1.toNat ≤ x ∧ x < ownAlias (coreOf h) p.1.toNat + p.2) ∧
            ¬ (ownAlias (coreOf h) p.1.toNat + 0x40000 ≤ x ∧ x < ownAlias (coreOf h) p.1.toNat + 0x40000 + p.2)) →
          u.rd8 x = t.rd8 x))

/-- Bcc, J, CALL, JR and CALLR: target, delay slot, annul, A14, BPBR and BPMIS (R62, R64, R72, R73, R100, R102, R103, R76). -/
def Obligations.BranchesTakeTheirDelaySlot : Prop :=
   (∀ (h : Hart) (cond : BitVec 4) (disp : BitVec 21) (far : BitVec 25) (a : BitVec 4) (annul : Bool) (s t : State),
      s.issuesTo t h → t.plainPlace h →
      let c := t.hart h
      let next := fun (k : BranchKind) (taken : Bool) (target : Addr) (u : State) (pc : Addr) (slot : Option DelaySlot) (link : Bool) =>
        t.afterReads u ∧ (c.bpWrong c.pc k taken target = none → u = { t with cores := u.cores }) ∧
        (u.hart h).bpmis = c.bpmis + (if c.bpMissed c.pc k taken target then 1 else 0) ∧
        (∃ n : Nat, n ≤ 3 ∧ (u.hart h).bplook = c.bplook + 1 + BitVec.ofNat 32 n) ∧
        (c.bpFreeze = true → (u.hart h).bpDir = c.bpDir ∧ (u.hart h).bpTarget = c.bpTarget ∧ (u.hart h).bpReturn = c.bpReturn) ∧
        (u.hart h).pc = pc ∧ (u.hart h).delay = slot ∧ (u.hart h).bpbr = c.bpbr + 1 ∧
        (u.hart h).d = c.d ∧ (u.hart h).m = c.m ∧ (u.hart h).acc = c.acc ∧ (u.hart h).flags = c.flags ∧
        (∀ k, (u.hart h).ar k = if link = true ∧ k = 14 then c.pc + 8 else c.ar k) ∧
        (u.hart h).loop0 = c.loop0 ∧ (u.hart h).loop1 = c.loop1
      (conditionTest c.flags cond = true → ∃ u, exec (.bcc h annul cond disp) s = .next u ∧
        next (.cond disp.msb) true (c.pc + disp.signExtend 40 * 4) u (c.pc + 4) (some ⟨c.pc, some (c.pc + disp.signExtend 40 * 4), true⟩) false) ∧
      (conditionTest c.flags cond = false → ∃ u, exec (.bcc h false cond disp) s = .next u ∧
        next (.cond disp.msb) false (c.pc + disp.signExtend 40 * 4) u (c.pc + 4) (some ⟨c.pc, none, true⟩) false) ∧
      (∃ u, exec (.j h false far) s = .next u ∧
        next .jump true (c.pc + far.signExtend 40 * 4) u (c.pc + 4) (some ⟨c.pc, some (c.pc + far.signExtend 40 * 4), true⟩) false) ∧
      (∃ u, exec (.call h false far) s = .next u ∧
        next .call true (c.pc + far.signExtend 40 * 4) u (c.pc + 4) (some ⟨c.pc, some (c.pc + far.signExtend 40 * 4), false⟩) true) ∧
      (∃ u, exec (.jr h (a ++ 0#1) 0 0 0) s = .next u ∧
        next (if a = 14 then .ret else .jumpReg) true (c.ar a.toNat &&& 0xFFFFFFFFFC#40) u (c.pc + 4) (some ⟨c.pc, some (c.ar a.toNat &&& 0xFFFFFFFFFC#40), decide (a ≠ 14)⟩) false) ∧
      (∃ u, exec (.callr h (a ++ 0#1) 0 0 0) s = .next u ∧
        next .callReg true (c.ar a.toNat &&& 0xFFFFFFFFFC#40) u (c.pc + 4) (some ⟨c.pc, some (c.ar a.toNat &&& 0xFFFFFFFFFC#40), false⟩) true)) ∧
   (∀ (h : Hart) (cond : BitVec 4) (disp : BitVec 21) (s t : State), s.issuesTo t h → t.plainPlace h →
      conditionTest (t.hart h).flags cond = false →
      ∃ u, exec (.bcc h true cond disp) s = .next u ∧ (u.hart h).delay = none ∧
        (((t.hart h).loop0.armed = false ∧ (t.hart h).loop1.armed = false) → (u.hart h).pc = (t.hart h).pc + 8) ∧
        (u.hart h).d = (t.hart h).d ∧ (u.hart h).flags = (t.hart h).flags ∧ t.afterReads u)

/-- Where an instruction that retires sends its core: branch target, loop start, or the next word (R72, R76, R77, R121). -/
def Obligations.RetirementFollowsSlotsAndLoops : Prop :=
  ∀ c : Core,
    (∀ (b t : Addr) (dis : Bool), c.delay = some ⟨b, some t, dis⟩ →
      c.retire.pc = t ∧ c.retire.delay = none ∧ c.retire.loop0.count = c.loop0.count ∧ c.retire.loop1.count = c.loop1.count ∧
      (c.retire.loop0.armed = true ↔ c.loop0.armed = true ∧ (dis = true → c.loop0.start.toNat ≤ t.toNat ∧ t.toNat ≤ c.loop0.last.toNat)) ∧
      (c.retire.loop1.armed = true ↔ c.loop1.armed = true ∧ (dis = true → c.loop1.start.toNat ≤ t.toNat ∧ t.toNat ≤ c.loop1.last.toNat))) ∧
    ((c.delay = none ∨ ∃ b dis, c.delay = some ⟨b, none, dis⟩) →
      c.retire.delay = none ∧
      (c.loop1.armed = true → c.pc = c.loop1.last → 1 < c.loop1.count.toNat →
        c.retire.pc = c.loop1.start ∧ c.retire.loop1 = { c.loop1 with count := c.loop1.count - 1 } ∧ c.retire.loop0 = c.loop0) ∧
      (c.loop1.armed = true → c.pc = c.loop1.last → c.loop1.count = 1 →
        c.retire.loop1 = { c.loop1 with count := 0, armed := false }) ∧
      (¬ (c.loop1.armed = true ∧ c.pc = c.loop1.last) → c.retire.loop1 = c.loop1 ∧
        (c.loop0.armed = true → c.pc = c.loop0.last → 1 < c.loop0.count.toNat →
          c.retire.pc = c.loop0.start ∧ c.retire.loop0 = { c.loop0 with count := c.loop0.count - 1 }) ∧
        (c.loop0.armed = true → c.pc = c.loop0.last → c.loop0.count = 1 →
          c.retire.pc = c.pc + 4 ∧ c.retire.loop0 = { c.loop0 with count := 0, armed := false }) ∧
        (¬ (c.loop0.armed = true ∧ c.pc = c.loop0.last) → c.retire.pc = c.pc + 4 ∧ c.retire.loop0 = c.loop0))) ∧
    c.retire.d = c.d ∧ c.retire.a = c.a ∧ c.retire.m = c.m ∧ c.retire.acc = c.acc ∧ c.retire.flags = c.flags ∧
    c.retire.spMachine = c.spMachine ∧ c.retire.spTask = c.spTask

/-- LOOP sets LS, LE and LC, arms its level unless the count is 0, and ILLOOP where R78 says (R75, R78). -/
def Obligations.LoopArmsItsLevel : Prop :=
  ∀ (h : Hart) (level imm : Bool) (cnt len : BitVec 12) (s t : State), s.issuesTo t h → t.plainPlace h → len ≠ 0 →
    (imm = true ∨ cnt.toNat < 32) →
    let c := t.hart h
    let n : Word := if imm then cnt.zeroExtend 32 else c.dr cnt.toNat
    let le := c.pc + len.zeroExtend 40 * 4
    let bad := (level = false ∧ c.loop1.armed = true) ∨ (level = true ∧ c.loop0.armed = true ∧ c.loop0.last.toNat ≤ le.toNat)
    (¬ bad → ∃ u, exec (.loop h level imm cnt len) s = .next u ∧ u = { t with cores := u.cores } ∧
      (if level then (u.hart h).loop1 else (u.hart h).loop0) = ⟨c.pc + 4, le, n, decide (n ≠ 0)⟩ ∧
      (if level then (u.hart h).loop0 = c.loop0 else (u.hart h).loop1 = c.loop1) ∧
      (u.hart h).pc = (if n = 0 then le + 4 else c.pc + 4) ∧ (u.hart h).delay = none ∧
      (u.hart h).d = c.d ∧ (u.hart h).a = c.a ∧ (u.hart h).flags = c.flags) ∧
    (bad → exec (.loop h level imm cnt len) s =
      .next (t.raiseExc h { vec := 2, cause := 0x03, word := wordLoop level imm cnt len }))

/-- WFE, WFE_WAKE, SEV, WAITT, WAITT_TARGET_REACHED and WAITT_TIMEOUT (R79, R80, R82, R81). -/
def Obligations.EventAndCueWaits : Prop :=
   (∀ (h : Hart) (d : BitVec 5) (ch : BitVec 8),
      let done := fun (c : Core) (k : Nat) =>
        ({ c with inputs := 0, wait := .none }.setD k (c.inputs.zeroExtend 32 ||| (if c.intPending then 0x10000#32 else 0#32))).retire
      (∀ s t : State, s.issuesTo t h → t.plainPlace h →
        ((t.hart h).inputs ≠ 0 ∨ (t.hart h).intPending = true → ∃ u, exec (.wfe h d 0 0 0) s = .next u ∧ t.onlyHart u h (done (t.hart h) d.toNat)) ∧
        ((t.hart h).inputs = 0 → (t.hart h).intPending = false →
          ∃ u, exec (.wfe h d 0 0 0) s = .next u ∧ t.onlyHart u h { t.hart h with wait := .wfe d.toNat })) ∧
      (∀ (s : State) (k : Nat), (s.hart h).wait = .wfe k →
        ((s.hart h).inputs ≠ 0 ∨ (s.hart h).intPending = true → ∃ u, exec (.wfeWake h) s = .next u ∧ s.onlyHart u h (done (s.hart h) k)) ∧
        ((s.hart h).inputs = 0 → (s.hart h).intPending = false → exec (.wfeWake h) s = .next s)) ∧
      (∀ s t : State, s.issuesTo t h →
        ∃ u, exec (.sev h 0 0 (ch.zeroExtend 16)) s = .next u ∧
          let v := t.sevEvent (coreOf h) ch.toNat
          v.onlyHart u h (v.hart h).retire)) ∧
   (∀ (h : Hart) (dm dt : BitVec 5),
      let reached := fun (s : State) (k : Nat) => 0 ≤ (s.cue.count.setWidth 32 - (s.hart h).dr k).toInt
      let done := fun (c : Core) (z cy : Bool) =>
        { c with wait := .none, flags := { sv := c.flags.sv, n := false, z := z, c := cy, v := false } }.retire
      (∀ s t : State, s.issuesTo t h → t.plainPlace h →
        (reached t dt.toNat → ∃ u, exec (.waitt h dm dt 0 0) s = .next u ∧ t.onlyHart u h (done (t.hart h) true true)) ∧
        (¬ reached t dt.toNat → dm ≠ 0 → (t.hart h).dr dm.toNat = 0 →
          ∃ u, exec (.waitt h dm dt 0 0) s = .next u ∧ t.onlyHart u h (done (t.hart h) false false)) ∧
        (¬ reached t dt.toNat → (dm = 0 ∨ (t.hart h).dr dm.toNat ≠ 0) →
          ∃ u, exec (.waitt h dm dt 0 0) s = .next u ∧ t.onlyHart u h { t.hart h with wait := .waitt dt.toNat dm.toNat })) ∧
      (∀ (s : State) (t m : Nat), (s.hart h).wait = .waitt t m →
        (reached s t → ∃ u, exec (.waittTargetReached h) s = .next u ∧ exec (.waittTimeout h) s = .next u ∧
          s.onlyHart u h (done (s.hart h) true false)) ∧
        (¬ reached s t → m ≠ 0 → (s.hart h).dr m ≠ 0xFFFFFFFF#32 →
          ∃ u, exec (.waittTimeout h) s = .next u ∧ s.onlyHart u h (done ((s.hart h).setD m 0) false false)) ∧
        (¬ reached s t → (m = 0 ∨ (s.hart h).dr m = 0xFFFFFFFF#32) → exec (.waittTimeout h) s = .next s)))

/-- BMOV, VMAC16, VMAC32, VMAC16M, VMAC32M, CRCB32 and CRCB16: one element, and the count 0 (R69, R83, R84, R85). -/
def Obligations.LongInstructionsByElements : Prop :=
  ∀ (h : Hart) (x y : BitVec 4) (n : BitVec 3) (k d : BitVec 5) (elems : Nat) (s t : State),
    s.issuesTo t h → t.plainPlace h → 1 ≤ elems → x ≠ y →
    let A : BitVec 5 := x ++ 0#1
    let B : BitVec 5 := y ++ 0#1
    let c := t.hart h
    let ends := fun (c : Core) => if c.dr k.toNat = 0 then c.retire else c
    (∀ e ∈ [(Instr.bmov h A B k 0 elems, true), (.vmac16 h (n.zeroExtend 5) A B (k.zeroExtend 6) elems, true),
        (.vmac32 h (n.zeroExtend 5) A B (k.zeroExtend 6) elems, true),
        (.vmac16m h (n.zeroExtend 5) A B (k.zeroExtend 6) elems, decide (x.toNat < 8)),
        (.vmac32m h (n.zeroExtend 5) A B (k.zeroExtend 6) elems, decide (x.toNat < 8)),
        (.crcb32 h d A k 0 elems, true), (.crcb16 h d A k 0 elems, true)],
      e.2 = true → c.dr k.toNat = 0 → ∃ v, exec e.1 s = .next v ∧ t.onlyHart v h c.retire) ∧
    (∀ w ∈ [(Instr.vmac16 h (n.zeroExtend 5) A B (k.zeroExtend 6) elems, 1, 2, false),
        (.vmac32 h (n.zeroExtend 5) A B (k.zeroExtend 6) elems, 2, 4, false),
        (.vmac16m h (n.zeroExtend 5) A B (k.zeroExtend 6) elems, 3, 2, true),
        (.vmac32m h (n.zeroExtend 5) A B (k.zeroExtend 6) elems, 4, 4, true)],
      (w.2.2.2 = true → x.toNat < 8) → (c.dr k.toNat = 1 ∨ (elems = 1 ∧ c.dr k.toNat ≠ 0)) →
      ∀ (u : State) (l : List Byte), l.length = 2 * w.2.2.1 →
        t.loadGo h { word := wordReg 0x20 w.2.1 (n.zeroExtend 5) A B (k.zeroExtend 6), dst := .elem, parts := [] }
          (partsOf (c.ar x.toNat) w.2.2.1 ++ partsOf (c.ar y.toNat) w.2.2.1) [] = (u, some l) →
        let c := u.hart h
        (w.2.2.2 = true → (c.mr x.toNat).toNat ≠ 0 ∧ (c.mr x.toNat).toNat < 2 ^ 24) →
        ∃ v, exec w.1 s = .next v ∧ u.fresh.2.onlyHart v h (ends
          ((((c.setD k.toNat (c.dr k.toNat - 1)).setAcc n.toNat (c.accr n.toNat + BitVec.ofInt 72
              (sext (8 * w.2.2.1) (natLE (l.take w.2.2.1)) * sext (8 * w.2.2.1) (natLE (l.drop w.2.2.1))))).setA x.toNat
            (if w.2.2.2 then moduloStep (c.ar x.toNat) (c.mr x.toNat) w.2.2.1 else c.ar x.toNat + BitVec.ofNat 40 w.2.2.1)).setA y.toNat
            (c.ar y.toNat + BitVec.ofNat 40 w.2.2.1)))) ∧
    (∀ w ∈ [(Instr.crcb32 h d A k 0 elems, 5, fun (v : Word) (l : List Byte) => BitVec.ofNat 32 (crc32c v.toNat l)),
        (Instr.crcb16 h d A k 0 elems, 6, fun v l => v.extractLsb' 16 16 ++ BitVec.ofNat 16 (crc16 (v.setWidth 16).toNat l))],
      (c.dr k.toNat = 1 ∨ (elems = 1 ∧ c.dr k.toNat ≠ 0)) → d ≠ k →
      ∀ (u : State) (l : List Byte),
        t.loadGo h { word := wordReg 0x20 w.2.1 d A k 0, dst := .elem, parts := [] } [(c.ar x.toNat, 1)] [] = (u, some l) →
        let c := u.hart h
        ∃ v, exec w.1 s = .next v ∧ u.fresh.2.onlyHart v h (ends
          (((c.setD d.toNat (w.2.2 (c.dr d.toNat) l)).setA x.toNat (c.ar x.toNat + 1)).setD k.toNat (c.dr k.toNat - 1)))) ∧
    ((c.dr k.toNat = 1 ∨ (elems = 1 ∧ c.dr k.toNat ≠ 0)) →
      ∀ (u v : State) (l : List Byte),
        t.loadGo h { word := wordReg 0x20 0 A B k 0, dst := .elem, parts := [] } [(c.ar y.toNat, 1)] [] = (u, some l) →
        u.fresh.2.coreStore h (wordReg 0x20 0 A B k 0) ((u.hart h).ar x.toNat) l = (v, true) →
        let c := v.hart h
        ∃ w, exec (.bmov h A B k 0 elems) s = .next w ∧ v.onlyHart w h (ends
          (((c.setD k.toNat (c.dr k.toNat - 1)).setA x.toNat (c.ar x.toNat + 1)).setA y.toNat (c.ar y.toNat + 1))))

/-- MFS and MTS: the register moved, in task mode the registers below 0x020 only (R87, R106, R124). -/
def Obligations.SystemRegisterMoves : Prop :=
  ∀ (h : Hart) (d : BitVec 5) (n : BitVec 10) (aux : BitVec 6) (s t : State), s.issuesTo t h →
    let c := t.hart h
    (∀ v, c.sysReg n.toNat = some v → (c.tm = false ∨ n.toNat < 0x020) →
      (∃ u, exec (.mfs h d n aux) s = .next u.settle ∧ t.onlyHart u h (c.setD d.toNat v).retire) ∧
      (∃ u, exec (.mts h d n aux) s = .next u.settle ∧ t.onlyHart u h (c.sysWrite n.toNat (c.dr d.toNat)).retire)) ∧
    (∀ v, c.sysReg n.toNat = some v → c.tm = true → 0x020 ≤ n.toNat →
      exec (.mfs h d n aux) s = .next (t.raiseExc h { vec := 3, cause := 0x05, word := wordSys 1 d n aux }) ∧
      exec (.mts h d n aux) s = .next (t.raiseExc h { vec := 3, cause := 0x05, word := wordSys 2 d n aux })) ∧
    (c.sysReg n.toNat = none →
      exec (.mfs h d n aux) s = .next (t.raiseExc h { vec := 1, cause := 0x01, word := wordSys 1 d n aux }) ∧
      exec (.mts h d n aux) s = .next (t.raiseExc h { vec := 1, cause := 0x01, word := wordSys 2 d n aux }))

/-- System registers: what a write leaves in each, and in no other (R87, R117, R124). -/
def Obligations.SystemRegistersHoldWhatIsWritten : Prop :=
  ∀ (c : Core) (v : Word),
    (∀ e ∈ ([(0x000, 0x1F), (0x010, 0xFFFFFFFF), (0x011, 0xFF), (0x012, 0xFFFFFFFF), (0x013, 0xFF), (0x014, 0xFFFFFFFF),
        (0x018, 0xFFFFFFFF), (0x019, 0xFF), (0x01A, 0xFFFFFFFF), (0x01B, 0xFF), (0x01C, 0xFFFFFFFF), (0x01F, 3),
        (0x021, 0xFFFFFC00), (0x022, 0xFF), (0x023, 0x3F), (0x024, 0xFFFFFFFF), (0x025, 0xFF), (0x030, 0xFFFFF03F),
        (0x031, 0xFFFFFFFF), (0x032, 0xFF), (0x033, 0xFFFFFFFF), (0x034, 0xFF), (0x035, 0xFFFFFFFF), (0x036, 0xFF),
        (0x037, 0xFFFFFFFF), (0x039, 0xFFFFFFFF), (0x03A, 0xFF), (0x03B, 0xFFFFFFFF), (0x040, 0xFFFFFFFF), (0x041, 0xFF),
        (0x050, 0xFFFFFFFF), (0x051, 0xFFFF), (0x054, 0xFFFFFFFF), (0x055, 0xFFFFFFFF), (0x056, 0xFFFFFFFF),
        (0x057, 0xFFFFFFFF), (0x058, 0xFFFFFFFF), (0x059, 0xFFFFFFFF), (0x060, 3), (0x061, 0xFFFFFFFF),
        (0x062, 0xFFFFFFFF), (0x063, 0xFFFFFFFF)] : List (Nat × Word)),
      (c.sysWrite e.1 v).sysReg e.1 = some (v &&& e.2) ∧ ∀ m, m ≠ e.1 → (c.sysWrite e.1 v).sysReg m = c.sysReg m) ∧
    (∀ n < 64, (c.sysWrite (0x100 + n) v).sysReg (0x100 + n) = some (v &&& 0x7FF#32) ∧
      ∀ m, m ≠ 0x100 + n → (c.sysWrite (0x100 + n) v).sysReg m = c.sysReg m) ∧
    (∃ w, c.sysReg 0x020 = some w ∧ (c.sysWrite 0x020 v).sysReg 0x020 = some ((v &&& 0xF003#32) ||| (w &&& 0x000C#32))) ∧
    (∀ n ∈ [0x052, 0x053], ∃ w, c.sysReg n = some w ∧ (c.sysWrite n v).sysReg n = some (w &&& ~~~ v)) ∧
    ((c.sysWrite 0x048 v).pfOvf = (c.pfOvf && !v.getLsbD 31) ∧
      (c.sysWrite 0x048 v).pf = if v.getLsbD 0 then c.pf.tail else c.pf) ∧
    (c.sysWrite 0x042 v).sysReg 0x042 = some 0 ∧ c.sysReg 0x001 = some 0x0204001F#32 ∧
    c.sysWrite 0x001 v = c ∧ c.sysWrite 0x038 v = c ∧
    c.sysWrite 0x05A v = (if v = 0 then { c with holdCnt := 0 } else c)

/-- INVALIDATE_DCACHE_LINE, INVALIDATE_ICACHE_LINE, INVALIDATE_DCACHE, INVALIDATE_ICACHE, PFSTAT_POP and HOLDCNT_WRITE (R94, R96, R114, R117, R124). -/
def Obligations.SystemRegisterCommands : Prop :=
  ∀ (h : Hart) (d : BitVec 5) (s t : State), s.issuesTo t h → (t.hart h).tm = false → (s.hart h).d = (t.hart h).d →
    let c := t.hart h
    let v := c.dr d.toNat
    (v = 1 → ∃ u, exec (.invalidateDcacheLine h d) s = .next u.settle ∧
      t.onlyHart u h { c with dcache := merase c.dcache (c.cmaddr.toNat / 64), dcBad := c.dcBad.erase (c.cmaddr.toNat / 64) }.retire) ∧
    (v = 2 → ∃ u, exec (.invalidateIcacheLine h d) s = .next u.settle ∧
      t.onlyHart u h { c with icache := c.icache.erase (c.cmaddr.toNat / 64), icBad := c.icBad.erase (c.cmaddr.toNat / 64) }.retire) ∧
    (v = 3 → ∃ u, exec (.invalidateDcache h d) s = .next u.settle ∧ t.onlyHart u h { c with dcache := [], dcBad := [] }.retire) ∧
    (v = 4 → ∃ u, exec (.invalidateIcache h d) s = .next u.settle ∧
      t.onlyHart u h { c with icache := [], lineBuf := [], icBad := [] }.retire) ∧
    (v.getLsbD 0 = true → ∃ u, exec (.pfstatPop h d) s = .next u.settle ∧
      t.onlyHart u h { c with pf := c.pf.tail, pfOvf := c.pfOvf && !v.getLsbD 31 }.retire) ∧
    (∃ u, exec (.holdcntWrite h d) s = .next u.settle ∧
      t.onlyHart u h (if v = 0 then { c with holdCnt := 0 } else c).retire)

/-- Entry to a vector: the frame, the saved registers, the mode and the pc (R106, R107, R109, R111, R124). -/
def Obligations.ExceptionEntry : Prop :=
  ∀ (h : Hart) (e : Exc) (t : State), 4 ≤ h.val → t.ecc = [] →
    let c := t.hart h
    let a := (c.spMachine - 16).toNat
    regionOf a = .localStore (coreOf h) → regionOf (a + 15) = .localStore (coreOf h) →
    let u := t.enter h e
    let k := u.hart h
    u.rdNat a 4 = e.ret.toNat % 2 ^ 32 ∧
    u.rdNat (a + 4) 4 = c.cpl.toNat * 2 ^ 12 + c.ie.toNat * 2 ^ 10 + e.ds.toNat * 2 ^ 9 + c.tm.toNat * 2 ^ 8 + e.ret.toNat / 2 ^ 32 ∧
    u.rdNat (a + 8) 4 = c.flags.toWord.toNat ∧ u.rdNat (a + 12) 4 = c.estat.toNat ∧
    (∀ x, ¬ (a ≤ x ∧ x < a + 16) → u.rd8 x = t.rd8 x) ∧
    k.spMachine = c.spMachine - 16 ∧ k.estat = BitVec.ofNat 32 (e.info % 256 * 2 ^ 24 + e.cause * 2 ^ 16 + e.partialSt.toNat * 2 ^ 15 + e.ds.toNat * 2 ^ 14 +
      e.wr.toNat * 2 ^ 13 + c.tm.toNat * 2 ^ 12 + e.vec) ∧ k.epc = e.ret ∧
    k.einstr = (if e.sync then e.word else 0) ∧ k.eaddr = e.eaddr.getD c.eaddr ∧ k.eaddr2 = e.eaddr2.getD c.eaddr2 ∧
    k.tm = false ∧ k.cpl = BitVec.ofNat 4 e.cpl ∧ k.ie = c.ie ∧
    k.holdCnt = min 1024 ((mget 0 c.vhold e.vec).toNat % 2048) ∧ k.pc = c.vbase + BitVec.ofNat 40 (16 * e.vec) ∧
    k.delay = none ∧ k.wait = .none ∧ k.d = c.d ∧ k.a = c.a ∧ k.m = c.m ∧ k.acc = c.acc ∧ k.flags = c.flags ∧
    k.loop0 = c.loop0 ∧ k.loop1 = c.loop1 ∧ k.spTask = c.spTask ∧ u = { t with mem := u.mem, cores := u.cores }

/-- RFE: aux 0 restores from the frame, aux 1 from the machine-check registers (R106, R113, R114, R122). -/
def Obligations.ReturnFromException : Prop :=
  ∀ (h : Hart) (d : BitVec 5) (s t : State), s.issuesTo t h → t.plainPlace h →
    let c := t.hart h
    (c.tm = false → ∀ (u : State) (l : List Byte), l.length = 16 →
      t.loadGo h { word := wordSys 3 d 0 0, dst := .frame, parts := partsOf c.spMachine 16 } (partsOf c.spMachine 16) [] = (u, some l) →
      ∃ v, exec (.rfe h d 0 0) s = .next v ∧ u.onlyHart v h
        { u.hart h with
          wait := .none, delay := none, holdCnt := 0, spMachine := (u.hart h).spMachine + 16
          pc := BitVec.ofNat 40 (natLE (l.take 4) + (l.getD 4 0).toNat * 2 ^ 32)
          flags := flagsOfWord (BitVec.ofNat 32 (natLE ((l.drop 8).take 4)))
          tm := (l.getD 5 0).getLsbD 0, ie := (l.getD 5 0).getLsbD 2, cpl := (l.getD 5 0).extractLsb' 4 4
          estat := BitVec.ofNat 32 (natLE ((l.drop 12).take 4)) &&& 0xFFFFF03F#32 }) ∧
    (c.tm = false → ∃ v, exec (.rfe h d 0 1) s = .next v ∧ t.onlyHart v h
      { c with pc := c.mcepc, flags := flagsOfWord c.mcflags, tm := c.mcstat.getLsbD 8, mca := false, holdCnt := 0, delay := none }) ∧
    (c.tm = true → ∀ x ∈ [(0 : BitVec 6), 1],
      exec (.rfe h d 0 x) s = .next (t.raiseExc h { vec := 3, cause := 0x05, word := wordSys 3 d 0 x }))

/-- NOP, IFENCE, BPBAR, BPFLUSH and FENCE (R89, R90, R101, R105, R166). -/
def Obligations.BarriersAndNop : Prop :=
  ∀ (h : Hart) (d : BitVec 5) (aux : BitVec 6),
    registerEffect (.nop h (wordSys 0 d 0 aux)) h id ∧
    registerEffect (.ifence h d 0 aux) h (fun c => { c with lineBuf := [] }) ∧
    registerEffect (.bpBar h d 0 aux) h id ∧
    registerEffect (.bpFlush h d 0 aux) h (fun c => { c with bpDir := [], bpTarget := [], bpReturn := [] }) ∧
    ∀ s t : State, s.issuesTo t h →
      ((∃ r ∈ t.byr.remote, r.wr = true ∧ r.by_ = .hart h.val) ∨ coreOf h ∈ t.pmcQueue → ∃ u, exec (.fence h d 0 aux) s = .next u ∧
        t.onlyHart u h { t.hart h with wait := .fence }) ∧
      ((∀ r ∈ t.byr.remote, ¬ (r.wr = true ∧ r.by_ = .hart h.val)) → coreOf h ∉ t.pmcQueue →
        let due := (t.postedFlight.filter fun e => e.1 == coreOf h).map fun e => e.2
        let rest := t.postedFlight.filter fun e => e.1 != coreOf h
        let c := t.hart h
        (c.pf.length + due.length ≤ 4 → ∃ u, exec (.fence h d 0 aux) s = .next u ∧
          { t with postedFlight := rest }.onlyHart u h { c with pf := c.pf ++ due, wait := .none }.retire) ∧
        (c.pf.length ≤ 4 → 4 < c.pf.length + due.length → ∃ u, exec (.fence h d 0 aux) s = .next u ∧
          { t with postedFlight := rest }.onlyHart u h { c with pf := (c.pf ++ due).take 4, pfOvf := true, wait := .none }.retire))

/-- INTERRUPT_ENTRY, POSTED_FAULT_ARRIVAL and VECTOR_HOLD_EXPIRY (R82, R109, R110, R111, R114, R117). -/
def Obligations.InterruptsPostedFaultsAndHolds : Prop :=
  ∀ (h : Hart) (s : State),
    let c := s.hart h
    let takeable := fun l => l < 48 ∧ c.ipend.getLsbD l = true ∧ c.ien.getLsbD l = true ∧ c.ie = true ∧ c.cpl.toNat < c.prio l ∧ c.holdCnt = 0
    let posted := c.pf ≠ [] ∧ c.holdCnt = 0 ∧ c.cpl.toNat < 15
    (c.run = .running → (c.wait = .none ∨ ∃ t m, c.wait = .waitt t m) → c.delay = none → ¬ (h.val < 4 ∧ (s.pair h.val).blocked = true) →
      s.paused = false →
      (posted → exec (.interruptEntry h) s = .next (s.enter h { vec := 6, cause := 0x18, sync := false, ret := c.pc })) ∧
      (¬ posted → ∀ l, takeable l → (∀ k, takeable k → c.prio k < c.prio l ∨ (c.prio k = c.prio l ∧ l ≤ k)) →
        exec (.interruptEntry h) s = .next (s.enter h
          { vec := 16 + l, cause := 0x40, info := l, sync := false, ret := c.pc, cpl := c.prio l })) ∧
      (¬ posted → (∀ l, ¬ takeable l) → exec (.interruptEntry h) s = .next s)) ∧
    (∀ e, s.postedFlight.find? (fun e => e.1 == coreOf h) = some e →
      ∃ u, exec (.postedFaultArrival h) s = .next u ∧ { s with postedFlight := s.postedFlight.erase e }.onlyHart u h
        (if c.pf.length < 4 then { c with pf := c.pf ++ [e.2] } else { c with pfOvf := true })) ∧
    (∃ u, exec (.vectorHoldExpiry h) s = .next u ∧ s.onlyHart u h { c with holdCnt := 0 })

/-- TRAP raises its exception; of every instruction, the reserved encodings raise RSVD, and those that may not stand in a delay slot or
at the end of a loop ILLDS and ILLOOP there (R59, R61, R72, R74, R78, R86). -/
def Obligations.TrapsAndIllegalInstructions : Prop :=
   (∀ (h : Hart) (d : BitVec 5) (n : BitVec 6) (s t : State), s.issuesTo t h →
      ((t.hart h).delay = none → exec (.trap h d 0 n) s = .next (t.enter h
        { vec := 7, cause := 0x20, info := n.toNat, word := wordSys 4 d 0 n, ret := (t.hart h).pc + 4, ds := false })) ∧
      (∀ b, (t.hart h).delay = some b → exec (.trap h d 0 n) s = .next (t.enter h
        { vec := 7, cause := 0x20, info := n.toNat, word := wordSys 4 d 0 n, ret := b.branch, ds := true }))) ∧
   (∀ (i : Instr) (h : Hart) (w : Word) (n : Nat) (s t : State), lomerWord i = some (h, w, n) → s.issuesTo t h →
      let major := fieldOf w 31 26
      let minor := fieldOf w 10 6
      let raises := fun vec cause : Nat => exec i s = .next (t.raiseExc h { vec := vec, cause := cause, word := w })
      let reserved := listedWord w = false ∨ reservedFields w ∨
        (major = 0x22 ∧ minor ∈ [1, 2] ∧ (t.hart h).sysReg (fieldOf w 20 11) = none)
      let branch := (0x18 ≤ major ∧ major ≤ 0x1C) ∨ (major = 0x22 ∧ minor = 3)
      (∀ k v, i = .nop k v → listedWord v = false ∨ (major = 0x22 ∧ minor = 0)) →
        (reserved → raises 1 0x01) ∧
        (¬ reserved → branch ∨ major ∈ [0x1D, 0x1E, 0x20] → (t.hart h).delay ≠ none → raises 2 0x02) ∧
        (¬ reserved → branch → (t.hart h).delay = none → (t.hart h).atLoopEnd = true → raises 2 0x03))

/-- REGISTER_WRITE and RC_COUNTER_READ act by the field types; a write that is not accepted is a bus error, one that TACC does not
grant DPERM (R9, R11, R23, R24, R106, R146). -/
def Obligations.RegisterWrites : Prop :=
  (∀ (w : Writer) (addr : Addr) (v : Word) (s : State),
    let a := addr.toNat
    let cmd := Instr.registerWrite w addr v
    0x40000000 ≤ a → a < 0x41000000 →
    (s.masterActs w = false → exec cmd s = .next s) ∧
    (s.masterActs w = true → s.deniedTo w a = true → exec cmd s = .next (s.accessFault w 0x11 true addr)) ∧
    (s.mayAccess w a → a % 4 ≠ 0 ∨ blockOf a = none → exec cmd s = .next (s.accessFault w 0x10 true addr)) ∧
    (s.mayAccess w a → a % 4 = 0 → ∀ b d i j, blockOf a = some b → regAt a = some (d, i, j) → regPresent d i = true →
      (s.regAccepts w b.1 d.id = false → exec cmd s = .next (s.accessFault w 0x10 true addr)) ∧
      (s.regAccepts w b.1 d.id = true → b.1 = baseSYS ∧ d.id ≠ .SYS_WDSVC ∨ b.1 = baseDRC ∨ b.1 = baseSEC →
        ∃ u : State, exec cmd s = .next u.settle ∧ s.onlyFields u (d.fields.map fun f => ⟨a, f.hi, f.lo⟩) ∧
          ∀ f ∈ d.fields, ∀ k, f.lo ≤ k → k ≤ f.hi →
            (u.getReg a).getLsbD k = writtenBit f.ty (v.getLsbD k) ((s.getReg a).getLsbD k) (s.stoodAt a k)))) ∧
  (∀ (w : Writer) (addr : Addr) (inc : Nat) (s : State) (d : RegDesc) (i j : Nat),
    let a := addr.toNat
    a % 4 = 0 → regAt a = some (d, i, j) → regPresent d i = true → (∃ f ∈ d.fields, f.ty = .rc) → s.mayAccess w a →
      ∃ u v : State, exec (.rcCounterRead w addr inc) s = .next v ∧ v = { u.settle with regs := v.regs } ∧
        u = { s with regs := u.regs, shadow := u.shadow } ∧
        (∀ f ∈ d.fields, f.ty = .rc → v.getF ⟨a, f.hi, f.lo⟩ = fieldOf (BitVec.ofNat 32 inc) f.hi f.lo) ∧
        ∀ g : Fld, (∀ f ∈ d.fields, f.ty = .rc → g.apart ⟨a, f.hi, f.lo⟩) → v.getF g = s.getF g)

/-- Unoccupied offsets read 0 and take no write; CUE_CNTL and CUE_TIMEL fill the reader's own shadow (R10, R45). -/
def Obligations.UnoccupiedOffsetsAndShadowedPairs : Prop :=
  (∀ (w : Writer) (addr : Addr) (v : Word) (s : State) b, addr.toNat % 4 = 0 → blockOf addr.toNat = some b →
    regAt addr.toNat = none → s.regRead w addr.toNat = some (0, s) ∧
      (s.mayAccess w addr.toNat → exec (.registerWrite w addr v) s = .next s)) ∧
  (∀ (w : Writer) (s : State), ∀ e ∈ [(R.CUE_CNTL, R.CUE_CNTH, s.cue.count), (R.CUE_TIMEL, R.CUE_TIMEH, s.cue.time)],
    (s.mayAccess w e.1 → ∃ u : State, exec (.shadowedPairRead w (BitVec.ofNat 40 e.1)) s = .next u.settle ∧
      u = { s with regs := u.regs, shadow := u.shadow } ∧ (∀ a, u.getReg a = s.getReg a) ∧
      ∀ k, mget (0 : Word) u.shadow k = if k = shadowKey w e.2.1 then (e.2.2 >>> 32).setWidth 32 else mget (0 : Word) s.shadow k) ∧
    s.regRead w e.2.1 = some (mget (0 : Word) s.shadow (shadowKey w e.2.1), s)) ∧
  (∀ w w' : Writer, ∀ a b : Nat, a < 2 ^ 40 → b < 2 ^ 40 → shadowKey w a = shadowKey w' b → w.num = w'.num ∧ a = b) ∧
  (∀ (h h' : Hart) (x x' : Word), (Writer.core h x).num = (Writer.core h' x').num → h = h')

/-- CUE_PERIOD_WRITE and CUE_CTRL_WRITE (R42, R53). -/
def Obligations.CueRegisters : Prop :=
  ∀ (w : Writer) (v : Word) (s : State),
    (¬ (w.isHouse = true ∧ s.mayAccess w R.CUE_CTRL) → exec (.cuePeriodWrite w v) s = .next (s.turnedAway w R.CUE_PERIOD) ∧
      exec (.cueCtrlWrite w v) s = .next (s.turnedAway w R.CUE_CTRL)) ∧
    (w.isHouse = true → s.mayAccess w R.CUE_CTRL →
      (let p := fieldOf v 15 0
       let fits := 4000 ≤ p ∧ p ≤ 50000 ∧
         (s.sys.dev = .boot ∨ (s.sys.dev = .places ∧ s.loopSchedule p (s.getF R.LOOP_CTRL_SUB) = true))
       (¬ fits → ∃ u : State, exec (.cuePeriodWrite w v) s = .next u.settle ∧ s.onlyFields u [R.CUE_STAT_CFGREF] ∧
         u.getF R.CUE_STAT_CFGREF = 1) ∧
       (fits → s.sys.dev = .boot → ∃ u : State, exec (.cuePeriodWrite w v) s = .next u.settle ∧
         s.onlyFields u [⟨R.CUE_PERIOD, 31, 0⟩] ∧ u.getReg R.CUE_PERIOD = BitVec.ofNat 32 p) ∧
       (fits → s.sys.dev = .places →
         exec (.cuePeriodWrite w v) s =
           .next (State.settle { s with cue := { s.cue with nextPeriod := some (BitVec.ofNat 32 p) } }))) ∧
      (let q := fieldOf v 7 6
       let written := fun u : State => u.getF R.CUE_CTRL_CUEOE = fieldOf v 5 5 ∧ u.getF R.CUE_CTRL_PAIREN = fieldOf v 3 0
       (s.sys.dev = .boot → ∃ u : State, exec (.cueCtrlWrite w v) s = .next u.settle ∧
         s.onlyFields u [R.CUE_CTRL_DISC, R.CUE_CTRL_CUEOE, R.CUE_CTRL_PAIREN] ∧ written u ∧ u.getF R.CUE_CTRL_DISC = q) ∧
       (s.sys.dev = .places → ∃ u : State, exec (.cueCtrlWrite w v) s = .next u.settle ∧
         { s with cue := { s.cue with disc := BitVec.ofNat 2 q } }.onlyFields u
           [R.CUE_CTRL_DISC, R.CUE_CTRL_CUEOE, R.CUE_CTRL_PAIREN, R.CUE_STAT_LOCK] ∧ written u ∧ u.getF R.CUE_CTRL_DISC = q ∧
         u.getF R.CUE_STAT_LOCK = if q = 2 then s.getF R.CUE_STAT_LOCK else 0) ∧
       (s.sys.dev ≠ .boot → s.sys.dev ≠ .places → ∃ u : State, exec (.cueCtrlWrite w v) s = .next u.settle ∧
         s.onlyFields u [R.CUE_CTRL_DISC, R.CUE_CTRL_CUEOE, R.CUE_CTRL_PAIREN, R.CUE_STAT_CFGREF] ∧ written u ∧
         u.getF R.CUE_CTRL_DISC = s.cue.disc.toNat ∧
         u.getF R.CUE_STAT_CFGREF = if q = s.cue.disc.toNat then s.getF R.CUE_STAT_CFGREF else 1)))

/-- CUE_PRE, CUE_DONE, CUE_FOLLOWER_LOCK and CUE_HOLDOVER (R47, R49, R53, R54, R55, R56). -/
def Obligations.CueEvents : Prop :=
  (∀ s : State,
    exec .cuePre s = .next (State.settle (if s.cueRuns = true ∧ s.getF R.CUE_PRE_OFFSET ≠ 0 then s.publish 1 else s))) ∧
  (∀ (n : Fin 4) (s : State),
    let issues := s.canIssue (hartOfPair n) = true
    (s.cueRuns = false ∨ ¬ issues → exec (.cueDone n) s = .next s.settle) ∧
    (s.cueRuns = true → issues → s.cue.done.getLsbD n = true → ∃ u : State, exec (.cueDone n) s = .next u.settle ∧
      { s with cue := { s.cue with again := u.cue.again } }.onlyFields u [R.CUE_STAT_DUPDONE] ∧ u.getF R.CUE_STAT_DUPDONE = 1) ∧
    (s.cueRuns = true → issues → s.cue.done.getLsbD n = false → ∃ u : State, exec (.cueDone n) s = .next u.settle ∧
      u = { s with cue := { s.cue with done := u.cue.done, doneClk := u.cue.doneClk, k := u.cue.k } } ∧
      (∀ m < 4, u.cue.done.getLsbD m = (s.cue.done.getLsbD m || decide (m = n.val))) ∧
      ∀ m, mget 0 u.cue.k m = if m = n.val then 0 else mget 0 s.cue.k m)) ∧
  (∀ (c t : BitVec 64) (p : Word) (ph : Nat) (e : BitVec 16) (s : State),
    let cmd := Instr.cueFollowerLock c t p ph e
    (s.cueRuns = false ∨ s.cue.disc ≠ 2 → exec cmd s = .next s.settle) ∧
    (s.cueRuns = true → s.cue.disc = 2 →
      (p ≠ s.getReg R.CUE_PERIOD → ∃ u : State, exec cmd s = .next u.settle ∧
        s.onlyFields u [R.CUE_STAT_PERMIS, R.CUE_STAT_LOCK] ∧ u.getF R.CUE_STAT_PERMIS = 1 ∧ u.getF R.CUE_STAT_LOCK = 0) ∧
      (p = s.getReg R.CUE_PERIOD →
        let q := s.cue
        let step := s.sys.dev = .places
        let count := if step ∧ q.count.toNat < c.toNat then c else q.count
        let time := if step ∧ q.time.toNat < t.toNat then t else q.time
        ∃ u v : State, exec cmd s = .next v.settle ∧ (time = q.time → v = u) ∧
          (time ≠ q.time → v.cue = u.cue ∧ ∀ p < 32, u.getF (R.JET_STAT_LINK p) ∈ [1, 2, 3] → v.getF (R.JET_STAT_LINK p) = 1) ∧
          { s with cue := { q with phase := if step then ph else q.phase, count := count, time := time, tofs := t - time,
                                   phasing := decide (¬ step) } }.onlyFields u
            [R.CUE_STAT_PERMIS, R.CUE_STAT_HOLDOVER, R.CUE_STAT_LOCK, R.CUE_DISC_PHERR, R.CUE_DISC_CNTOFF] ∧
          u.getF R.CUE_STAT_PERMIS = 0 ∧ u.getF R.CUE_STAT_HOLDOVER = 0 ∧ u.getF R.CUE_STAT_LOCK = 1 ∧
          u.getF R.CUE_DISC_PHERR = e.toNat ∧
          u.getS R.CUE_DISC_CNTOFF = max (-32768) (min 32767 ((c.toNat : Int) - count.toNat))))) ∧
  (∀ s : State, ∃ u : State, exec .cueHoldover s = .next u.settle ∧
    (s.cue.disc = 2 → { s with cue := { s.cue with phasing := false } }.onlyFields u [R.CUE_STAT_HOLDOVER, R.CUE_STAT_LOCK] ∧ u.getF R.CUE_STAT_HOLDOVER = 1 ∧
      u.getF R.CUE_STAT_LOCK = 0) ∧
    (s.cue.disc ≠ 2 → u = s))

/-- CUE_BOUNDARY counts the cue and every pair's misses; a CUE_DONE of its own cycle counts for the next cue (R42, R43, R46, R47, R50,
R52, R55, R564). -/
def Obligations.CueBoundaryTurnsTheCue : Prop :=
  ∀ s : State,
    (s.cueRuns = false → exec .cueBoundary s = .next s.settle) ∧
    (s.cueRuns = true → s.quiet → ∃ u : State, exec .cueBoundary s = .next u ∧
      u.pending = s.pending ∧ u.clk = s.clk ∧ u.boot = s.boot ∧ u.irqMap = s.irqMap ∧ u.wmPart = s.wmPart ∧
      u.cue.count = s.cue.count + 1 ∧ u.cue.last = s.cue.time ∧ u.cue.time = s.cue.time ∧ u.cue.phase = 0 ∧
      (∀ n < 4, u.cue.done.getLsbD n = (s.doneNow n || s.againNow n)) ∧
      (s.cue.phasing = true → s.phaseLimit < (s.getS R.CUE_DISC_PHERR).natAbs →
        (u.getS R.CUE_DISC_PHERR).natAbs = ((s.getS R.CUE_DISC_PHERR).natAbs - 40 : Int).natAbs) ∧
      (s.cue.phasing = false → u.getS R.CUE_DISC_PHERR = s.getS R.CUE_DISC_PHERR) ∧
      u.cue.nextPeriod = none ∧ u.getReg R.CUE_PERIOD = s.cue.nextPeriod.getD (s.getReg R.CUE_PERIOD) ∧
      u.cue.pairen = (s.getReg R.CUE_CTRL).setWidth 4 ∧
      (s.upd.act = none →
        let at_ := pmemBase + jrnlSeals + (s.cue.count + 1).toNat % 63488 * 64
        u.rdNat (at_ + 8) 8 = (s.cue.count + 1).toNat ∧ u.rdNat (at_ + 16) 8 = s.cue.time.toNat) ∧
      (s.paused = false → ∀ n < 4,
        let late := s.doneNow n = true ∨ s.againNow n = true
        let missed := s.cue.pairen.getLsbD n = true ∧ (s.cue.done.getLsbD n = false ∨ s.doneNow n = true) ∧
          ((s.getF R.USTD_STAT_RESTART).testBit n = false ∨ (s.core (2 * n)).run = .inReset)
        let k := if s.doneNow n then ((mfind s.cue.doneClk n).map (·.2)).getD 0 else mget 0 s.cue.k n
        let ovr : Fld := ⟨R.CUE_OVR, 8 * n + 7, 8 * n⟩
        (late → mget 0 u.cue.k n = 0) ∧
        (missed → (¬ late → mget 0 u.cue.k n = k + 1) ∧ u.getF ovr = min (s.getF ovr + 1) 255 ∧ u.getF R.CUE_STAT_OVR = 1 ∧
          (u.getF R.CUE_STAT_HOLD).testBit n = ((s.getF R.CUE_STAT_HOLD).testBit n || (s.inRun && decide (1 ≤ k))) ∧
          (s.inRun = true → 2 ≤ k → u.getF R.SYS_CURTAIN_OVERRUN = 1 ∧ u.sys.faultDue = true)) ∧
        (¬ missed → (¬ late → mget 0 u.cue.k n = k) ∧ u.getF ovr = s.getF ovr ∧ (u.getF R.CUE_STAT_HOLD).testBit n = false)) ∧
      (s.paused = true → ∀ n < 4, s.doneNow n = false → s.againNow n = false → mget 0 u.cue.k n = mget 0 s.cue.k n))

/-- CUE_BOUNDARY takes the state event that stands highest, and the state becomes what R30 says (R29, R30, R32, R34, R160). -/
def Obligations.StateTransitionsAtTheBoundary : Prop :=
  ∀ s : State, s.cueRuns = true → s.sys.resetDue = false →
    let y := s.sys
    let ready := s.getF R.DRC_STAT_READY = 1 ∧ s.drcReadyClk < s.clk
    ∃ u : State, exec .cueBoundary s = .next u ∧
      (s.inRun = true → y.mainsDue = true → u.sys.dev = .curtain ∧ u.sys.done = false ∧ u.sys.follow = y.follow ∧
        u.sys.elapsed = 0 ∧ u.sys.mainsElapsed = some 0) ∧
      (s.inRun = true → y.mainsDue = false → y.faultDue = true → u.sys.dev = .curtain ∧ u.sys.done = false ∧
        u.sys.follow = y.follow ∧ u.sys.elapsed = 0 ∧ u.sys.mainsElapsed = none) ∧
      (s.inRun = true → y.mainsDue = false → y.faultDue = false → y.callDue ≠ none → u.sys.dev = .curtain ∧
        u.sys.done = false ∧ u.sys.follow = none ∧ u.sys.callDue = none) ∧
      ((s.inRun = true ∨ y.dev = .wings → y.mainsDue = false) → (y.dev ≠ .curtain → y.faultDue = false) →
        (s.inRun = true → y.callDue = none) → ¬ (y.dev = .curtain ∧ y.done = true ∧ y.follow ≠ none) →
        ¬ (y.dev = .wings ∧ y.wakeDue = true ∧ ready) → ∀ w, y.cmds = [w] →
          (s.accepts w.cmd → (w.cmd = .shutdown → y.dev ≠ .run .idle → s.draining = false) →
            u.sys.cmds = [] ∧
            (u.sys.dev = s.commandLeadsTo w.cmd ∨ (w.cmd = .resume ∧ u.sys.dev = .run .idle)) ∧
            (w.cmd = .wake → u.sys.wakeDue = true) ∧
            (w.cmd = .enterRecovery ∨ w.cmd = .restart → y.dev ≠ .run .idle → u.sys.resetDue = true) ∧
            (w.cmd = .enterRecovery → y.dev ≠ .run .idle → u.sys.recoveryReq = true) ∧
            (y.dev = .run .idle → w.cmd = .shutdown → u.sys.follow = some .dark) ∧
            (y.dev = .run .idle → w.cmd = .enterRecovery → u.sys.follow = some .recovery) ∧
            (y.dev = .run .idle → w.cmd = .restart → u.sys.follow = some .boot)) ∧
          (s.accepts w.cmd → w.cmd = .shutdown → y.dev ≠ .run .idle → s.draining = true →
            u.sys.dev = y.dev ∧ u.sys.cmds = [w]) ∧
          (¬ s.accepts w.cmd → u.sys.cmds = [] ∧ (s.inRun = false → u.sys.dev = y.dev))) ∧
      (y.dev = .curtain → y.done = true →
        (y.follow = some .dark → u.sys.dev = if s.draining then .curtain else .dark) ∧
        (y.follow = some .boot → u.sys.dev = .curtain ∧ u.sys.resetDue = true) ∧
        (y.follow = some .recovery → u.sys.dev = .curtain ∧ u.sys.resetDue = true ∧ u.sys.recoveryReq = true)) ∧
      (y.dev = .wings → y.mainsDue = true → u.sys.dev = if s.draining then .wings else .dark) ∧
      (y.dev = .wings → y.mainsDue = false → y.faultDue = true → u.sys.dev = .curtain) ∧
      (y.dev = .wings → y.mainsDue = false → y.faultDue = false → y.wakeDue = true → ready → u.sys.dev = .places)

/-- WATCHDOG_SERVICE, WATCHDOG_EXPIRY, CURTAIN_LIMIT and FINAL_SEAL (R27, R28, R30, R34, R35, R479). -/
def Obligations.WatchdogsAndTheCurtainsEnd : Prop :=
  (∀ (h : Hart) (x v : Word) (s : State),
    let p := if h.val < 4 then 0 else if h.val < 8 then 1 else 2
    let us := if s.sys.dev = .boot ∨ s.sys.dev = .recovery then 2000000 else mget 0 s.sys.wdPeriodUs p
    (s.masterActs (.core h x) = false → exec (.watchdogService (.core h x) v) s = .next s) ∧
    (s.mayAccess (.core h x) R.SYS_WDSVC → ∃ u : State, exec (.watchdogService (.core h x) v) s = .next u.settle ∧
      (fieldOf v 15 0 = 0xA5C3 → u = { s with sys := { s.sys with wdRemainNs := mset s.sys.wdRemainNs p (1000 * us) } }) ∧
      (fieldOf v 15 0 ≠ 0xA5C3 → s.onlyFields u [R.SYS_WDSTAT_BADKEY] ∧
        u.getF R.SYS_WDSTAT_BADKEY = s.getF R.SYS_WDSTAT_BADKEY ||| 2 ^ p))) ∧
  (∀ (pl : Plane) (s : State),
    let p := pl.num
    let runs := s.paused = false ∧ s.sys.dev ≠ .dark ∧ (p ≠ 2 → s.inRun = true ∨ s.sys.dev = .places ∨ s.sys.dev = .curtain)
    ∃ u : State, exec (.watchdogExpiry pl) s = .next u.settle ∧
      (¬ runs → u = s) ∧
      (runs → { s with sys := u.sys, bbxQueue := u.bbxQueue, bbx := { s.bbx with lost := u.bbx.lost } }.onlyFields u
          [R.SYS_WDSTAT_EXP, R.SYS_CURTAIN_WDOG, R.BBX_STAT_LOST] ∧
        u.getF R.SYS_WDSTAT_EXP = s.getF R.SYS_WDSTAT_EXP ||| 2 ^ p ∧ u.getF R.SYS_CURTAIN_WDOG = 1 ∧
        u.bbxQueue = s.queuedRecord 9 [BitVec.ofNat 32 p] ∧
        (s.bbxQueue.length < 16 → u.bbx = s.bbx ∧ u.getF R.BBX_STAT_LOST = s.getF R.BBX_STAT_LOST) ∧
        u.sys = if s.sys.dev = .boot ∨ s.sys.dev = .recovery then { s.sys with resetDue := true }
          else if s.sys.dev = .curtain then { s.sys with follow := some (s.sys.follow.getD .boot) }
          else { s.sys with faultDue := true, follow := some .boot })) ∧
  (∀ s : State,
    let runs := s.sys.dev = .curtain ∧ s.sys.done = false ∧ s.sys.limitReached = false
    let own := 400 * s.sys.curtainLimitUs
    let limit := match s.sys.mainsElapsed with
      | none => own
      | some m => min own (s.sys.elapsed - m + 10000000)
    let late := limit - s.sys.elapsed
    let enabled := (List.range 48).filter fun n => s.getF (R.PWM_CTRL_EN n) ≠ 0
    ∃ u : State, exec .curtainLimit s = .next u.settle ∧
      (runs → u = { s with regs := u.regs, pwm := u.pwm, afe := { s.afe with ramps := u.afe.ramps },
                           sys := { s.sys with limitReached := true, elapsed := s.sys.elapsed + late,
                                               mainsElapsed := s.sys.mainsElapsed.map (· + late) } } ∧
        u.getF R.SYS_CURTAIN_FORCED = 1 ∧
        (s.getF R.PWM_GSTAT_FROZEN = 0 → ∀ n < 48, u.getF (R.PWM_CTRL_EN n) = 0) ∧
        (s.getF R.PWM_GSTAT_FROZEN ≠ 0 →
          u.pwm = { s.pwm with deferred := s.pwm.deferred ++ enabled.map fun n => (R.PWM_CTRL n, none) })) ∧
      (¬ runs → u = s)) ∧
  (∀ s : State,
    let ends := s.sys.dev = .curtain ∧ s.sys.done = false ∧ s.draining = false ∧ (s.curtainSteps = true ∨ s.sys.limitReached = true)
    ∃ u : State, exec .finalSeal s = .next u.settle ∧
      (¬ ends → u = s) ∧
      (ends → u.sys = { s.sys with done := true, resumeP := s.sys.resumeP || !s.jrnl.opens.isEmpty, emitting := false } ∧
        (let at_ := pmemBase + jrnlSeals + s.cue.count.toNat % 63488 * 64
         u.rdNat (at_ + 8) 8 = s.cue.count.toNat ∧ u.rdNat (at_ + 40) 4 = 1) ∧
        u.cores = s.cores ∧ u.cue = s.cue ∧ u.pwm = s.pwm ∧ u.loop = s.loop ∧
        (s.sys.emitting = false → u.jrnl = s.jrnl ∧ u.drop = s.drop)))

/-- POWER_ON_RESET, WARM_RESET and BOOT_CONTINUE run BOOT to its outcome (R27, R30, R44, R154, R194, R195). -/
def Obligations.BootAndResets : Prop :=
  (let ended := fun u : State =>
    (u.sys.dev = .places ∧ u.getF R.SYS_BOOT_CODE = 1 ∧ u.getF R.SYS_GOEN_EN = 0 ∧ u.boot.step = 0) ∨
    (u.sys.dev = .recovery ∧ u.getF R.SYS_BOOT_CODE ∈ [0x20, 0x21, 0x22] ∧ u.boot.step = 0) ∨
    (u.sys.dev = .boot ∧ u.getF R.SYS_BOOT_CODE ∈ [0x10, 0x11, 0x12, 0x13, 0x14, 0x15, 0x16, 0x17] ∧ u.boot.step = 0) ∨
    (u.sys.dev = .boot ∧ 2 ≤ u.boot.step)
   let sram := fun a : Nat => 0x08000000 ≤ a ∧ a < 0x26000000 ∧ ¬ (0x08300000 ≤ a ∧ a < 0x08310000)
   (∀ (wake low : Bool) (s : State), ∃ u : State, exec (.powerOnReset wake low) s = .next u.settle ∧
      (s.sys.dev ≠ .dark → u = s) ∧
      (s.sys.dev = .dark → ended u ∧ u.pending = s.pending ∧ u.cue.time = 0 ∧
        (low = true → u.sys.dev = .recovery ∧ u.getF R.SYS_BOOT_CODE = 0x21 ∧ u.getF R.SYS_BOOT_WARM = 0 ∧
          ∀ a, sram a → u.rd8 a = 0))) ∧
   (∀ s : State, ∃ u : State, exec .warmReset s = .next u.settle ∧
      (¬ (s.sys.resetDue = true ∧ s.draining = false ∧ s.sys.dev ≠ .dark) → u = s) ∧
      (s.sys.resetDue = true → s.draining = false → s.sys.dev ≠ .dark → ended u ∧ u.pending = s.pending ∧
        u.cue.time = s.cue.time ∧ u.sys.resetDue = false ∧
        (s.sys.recoveryReq = true → u.sys.dev = .recovery ∧ u.getF R.SYS_BOOT_CODE = 0x22 ∧ u.getF R.SYS_BOOT_WARM = 1 ∧
          u.sys.recoveryReq = false ∧ u.cue.count = s.cue.count ∧ ∀ a, sram a → u.rd8 a = s.rd8 a))) ∧
   (∀ s : State, ∃ u : State, exec .bootContinue s = .next u.settle ∧
      (s.sys.dev ≠ .boot ∨ s.boot.step = 0 → u = s) ∧
      (s.sys.dev = .boot → 2 ≤ s.boot.step → s.boot.step ≤ 15 → ended u) ∧
      (s.sys.dev = .boot → s.boot.step = 15 → (s.wdReload 2).pbHeld.2 = none →
        u.sys.dev = .places ∧ u.getF R.SYS_BOOT_CODE = 1)))

/-- Checkpoints, mismatch and restart, release, hold expiry, agreement timeout and injection (R132, R134, R136, R137, R138, R139). -/
def Obligations.LockstepCheckpointsAndMismatches : Prop :=
  ∀ (n : Fin 4) (s : State),
    let p := s.pair n
    let lead := s.core (2 * n)
    let bit := fun (u : State) (f : Fld) => (u.getF f).testBit n
    let others := fun u : State => ∀ m, m ≠ n.val → u.pair m = s.pair m
    (∃ u : State, exec (.checkpointCapture n) s = .next u.settle ∧
      let due := p.captureDue = true ∧ s.isSplit n = false ∧ p.blocked = false ∧ lead.delay = none ∧ lead.wait = .none
      (due → u = { s with pairs := u.pairs } ∧ others u ∧
        u.pair n = { p with captured := some lead, captureDue := false, undoBase := p.undoLead.length }) ∧
      (¬ due → u = s)) ∧
    (∃ u : State, exec (.checkpointCommit n) s = .next u.settle ∧ (p.captured = none → u = s) ∧
      ∀ c, p.captured = some c → { s with pairs := u.pairs }.onlyFields u [R.USTD_STAT_LOGOVF] ∧ others u ∧
        bit u R.USTD_STAT_LOGOVF = false ∧
        u.pair n = { p with committed := c, captured := none, undoLead := p.undoLead.drop p.undoBase,
                            undoUnder := p.undoUnder.drop p.undoBase, undoBase := 0 }) ∧
    (∀ (g : BitVec 3) (l : BitVec 7), ∃ u : State, exec (.lockstepMismatch n g l) s = .next u.settle ∧
      let acts := s.isSplit n = false ∧ lead.run ≠ .inReset ∧ (g.toNat, l.toNat) ∉ p.dead
      let fatal := bit s R.USTD_STAT_RESTART = true ∨ bit s R.USTD_STAT_LOGOVF = true
      let count : Fld := ⟨R.USTD_MMCNT, 8 * n + 7, 8 * n⟩
      (¬ acts → u = s) ∧
      (acts →
        u = { s with regs := u.regs, cores := u.cores, pairs := u.pairs, bbxQueue := u.bbxQueue, bbx := { s.bbx with lost := u.bbx.lost },
                     cue := { s.cue with done := u.cue.done, again := u.cue.again }, sys := { s.sys with faultDue := u.sys.faultDue },
                     loop := u.loop, mem := u.mem, ecc := u.ecc } ∧ others u ∧
        u.getReg (R.USTD_MMINFO n) = 1#1 ++ g ++ l ++ 0#5 ++ s.cue.count.setWidth 16 ∧
        bit u R.USTD_STAT_MM = true ∧ bit u R.USTD_STAT_RESTART = true ∧ u.getF count = min (s.getF count + 1) 255 ∧
        (∀ m < 4, u.cue.done.getLsbD m = (s.cue.done.getLsbD m && decide (m ≠ n.val))) ∧
        (∀ k < 64, s.getF (R.LOOP_SCFG_OWNER k) = n.val → (u.slot k).staged = []) ∧
        (fatal → (u.core (2 * n)).run = .inReset ∧ (u.core (2 * n + 1)).run = .inReset ∧ u.mem = s.mem ∧
          (s.inRun = true → u.getF R.SYS_CURTAIN_LOCKSTEP = 1 ∧ u.sys.faultDue = true)) ∧
        (¬ fatal → u.sys = s.sys ∧
          (∀ k ∈ [2 * n.val, 2 * n.val + 1],
            u.core k = { (s.core k).restored p.committed with ipend := (u.core k).ipend }) ∧
          (∀ k, k ≠ 2 * n.val → k ≠ 2 * n.val + 1 → u.core k = { s.core k with ipend := (u.core k).ipend }) ∧
          u.pair n = { p with captured := none, undoLead := [], undoUnder := [], undoBase := 0, blocked := true, hold := true,
                              holdB := s.cue.count, released := false, expired := false } ∧
          ∀ a, u.rd8 a = match (p.undoUnder ++ p.undoLead).find? (fun e => e.1 ≤ a && a < e.1 + e.2.length) with
            | some e => e.2.getD (a - e.1) 0
            | none => s.rd8 a))) ∧
    (∃ u : State, exec (.lockstepRelease n) s = .next u.settle ∧
      let acts := p.blocked = true ∧ lead.run ≠ .inReset
      (acts → u = { s with pairs := u.pairs } ∧ others u ∧ u.pair n = { p with blocked := false, released := true }) ∧
      (¬ acts → u = s)) ∧
    (∃ u : State, exec (.lockstepHoldExpiry n) s = .next u.settle ∧
      let acts := p.hold = true ∧ p.expired = false ∧ s.cue.done.getLsbD n = false ∧ s.cue.count = p.holdB + 1
      (¬ acts → u = s) ∧
      (acts → others u ∧
        (s.inRun = true → { s with pairs := u.pairs, sys := { s.sys with faultDue := true } }.onlyFields u [R.SYS_CURTAIN_LOCKSTEP] ∧
          u.getF R.SYS_CURTAIN_LOCKSTEP = 1 ∧ u.pair n = { p with expired := true }) ∧
        (s.inRun = false → u = { s with regs := u.regs, pairs := u.pairs } ∧ u.pair n = { p with hold := false } ∧
          bit u R.USTD_STAT_RESTART = false ∧ (s.sys.dev = .curtain → u.getF R.SYS_CURTAIN_LOCKSTEP = 1)))) ∧
    (∃ u : State, exec (.agreementBufferTimeout n) s = .next u.settle ∧
      (s.isSplit n = true ∨ p.blocked = true → u = s) ∧
      (s.isSplit n = false → p.blocked = false → ∃ t : State, s.onlyFields t [R.USTD_STAT_TIMEOUT] ∧ bit t R.USTD_STAT_TIMEOUT = true ∧
        u = t.machineCheck (Fin.ofNat 12 n.val) 0x03)) ∧
    (∀ (w : Writer) (v : Word), s.mayWrite w R.USTD_INJ = true → ∃ u : State, exec (.ustdInj w v) s = .next u.settle ∧
      let legal := s.bootOrPlaces = true ∧ s.getF R.USTD_CTRL_TESTMODE = 1 ∧ fieldOf v 6 0 < groupLanes (fieldOf v 9 7)
      (¬ legal → s.onlyFields u [R.USTD_STAT_CFGREF] ∧ u.getF R.USTD_STAT_CFGREF = 1) ∧
      (legal → s.onlyFields u [R.USTD_INJ_PAIR, R.USTD_INJ_GROUP, R.USTD_INJ_LANE, R.USTD_TRES_DONE, R.USTD_TRES_CAUGHT] ∧
        u.getF R.USTD_INJ_PAIR = fieldOf v 11 10 ∧ u.getF R.USTD_INJ_GROUP = fieldOf v 9 7 ∧ u.getF R.USTD_INJ_LANE = fieldOf v 6 0 ∧
        u.getF R.USTD_TRES_DONE = 1 ∧
        u.getF R.USTD_TRES_CAUGHT = if (s.getF R.USTD_STAT_SPLIT).testBit (fieldOf v 11 10) ∨
          (fieldOf v 9 7, fieldOf v 6 0) ∈ (s.pair (fieldOf v 11 10)).dead then 0 else 1))

/-- DEBUG_HALT, DEBUG_RESUME and CLOCK_STOP (R142, R362, R540). -/
def Obligations.DebugHaltAndClockStop : Prop :=
  (∀ (h : Hart) (s : State),
    (s.sys.dev = .dark → exec (.debugHalt h) s = .next s.settle) ∧
    (s.sys.dev ≠ .dark → s.getF R.SEC_DBG_LOCK = 1 → ∃ u : State, exec (.debugHalt h) s = .next u.settle ∧
      s.onlyFields u [R.SEC_DBG_REFUSED] ∧ u.getF R.SEC_DBG_REFUSED = 1) ∧
    (s.sys.dev ≠ .dark → s.getF R.SEC_DBG_LOCK = 0 → (s.hart h).run ≠ .running → exec (.debugHalt h) s = .next s.settle) ∧
    (s.sys.dev ≠ .dark → s.getF R.SEC_DBG_LOCK = 0 → (s.hart h).run = .running →
      (4 ≤ h.val → ∃ u : State, exec (.debugHalt h) s = .next u.settle ∧ s.onlyHart u h { s.hart h with run := .halted }) ∧
      (h.val < 4 → ∃ u : State, exec (.debugHalt h) s = .next u.settle ∧
        { s with cores := u.cores, pwm := { s.pwm with frozenAt := u.pwm.frozenAt }, bbxQueue := u.bbxQueue,
                 bbx := { s.bbx with lost := u.bbx.lost } }.onlyFields u
          [R.USTD_STAT_SPLIT, R.PWM_GSTAT_FROZEN, R.BBX_STAT_LOST] ∧
        u.getF R.USTD_STAT_SPLIT = s.getF R.USTD_STAT_SPLIT ||| 2 ^ h.val ∧ u.getF R.PWM_GSTAT_FROZEN = 1 ∧
        (s.getF R.PWM_GSTAT_FROZEN = 0 → u.pwm.frozenAt = some s.cue.time.toNat) ∧
        ∀ k, u.core k = if k = 2 * h.val ∨ (k = 2 * h.val + 1 ∧ s.isSplit h.val = false) then { s.core k with run := .halted }
          else s.core k))) ∧
  (∀ s : State, ∃ u : State, exec .clockStop s = .next u.settle ∧
    (s.sys.dev = .dark → u = s) ∧
    (s.sys.dev ≠ .dark →
      { s with pwm := { s.pwm with clockStopped := true, frozenAt := u.pwm.frozenAt } }.onlyFields u [R.PWM_GSTAT_FROZEN] ∧
      u.getF R.PWM_GSTAT_FROZEN = 1 ∧ (s.getF R.PWM_GSTAT_FROZEN = 0 → u.pwm.frozenAt = some s.cue.time.toNat))) ∧
  (∀ s : State, ∃ u : State, exec .debugResume s = .next u.settle ∧
    (∀ k, u.core k = if k ∈ [0, 2, 4, 6, 8, 9, 10, 11, 12, 13, 14, 15] ∧ (s.core k).run = .halted then { s.core k with run := .running }
      else s.core k) ∧
    u.pwm.clockStopped = false ∧ u.pwm.frozenAt = none ∧
    (s.pwm.frozenAt = none → u = { s with cores := u.cores, pwm := { s.pwm with clockStopped := false } }) ∧
    (∀ t, s.pwm.frozenAt = some t → s.pwm.deferred = [] →
      { s with cores := u.cores, pwm := u.pwm }.onlyFields u [R.PWM_GSTAT_FROZEN] ∧ u.getF R.PWM_GSTAT_FROZEN = 0 ∧
      u.pwm.lands = s.pwm.lands ∧ ∀ n, (mfind u.pwm.units n) =
        (mfind s.pwm.units n).map fun x => { x with startNs := x.startNs + ((s.cue.time.toNat : Int) - t) }))

/-- PATROL_SCRUB, DRAM_REFRESH, DRC_READY, DRC_PACKAGE_FAILED, ALL_CHANNELS_IN_SELF_REFRESH and the PMC (R151, R159, R160, R161, R166, R170). -/
def Obligations.MemoryAgents : Prop :=
  (∀ (unit : Nat) (found : Fin 3) (s : State), ∃ u : State, exec (.patrolScrub unit found) s = .next u.settle ∧
    (s.sys.dev = .dark → u = s) ∧
    (∀ f, (regionOf (8 * unit) = .working ∧ f = R.SYS_ECC_WMUE) ∨ (regionOf (8 * unit) = .stage ∧ f = R.SYS_ECC_STUE) →
      s.sys.dev ≠ .dark →
        let m := max (mget 0 s.ecc unit) found.val
        { s with ecc := u.ecc }.onlyFields u
          [R.SYS_ECC_CECNT, R.SYS_ECC_WMUE, R.SYS_ECC_STUE, R.SYS_ECCADDRL_ADDR, R.SYS_ECCADDRH_ADDR] ∧
        (∀ k, mget 0 u.ecc k = if k = unit then (if m ≤ 1 then 0 else m) else mget 0 s.ecc k) ∧
        u.getF R.SYS_ECC_CECNT = (if m = 1 then min (s.getF R.SYS_ECC_CECNT + 1) (2 ^ (R.SYS_ECC_CECNT.hi + 1 - R.SYS_ECC_CECNT.lo) - 1)
          else s.getF R.SYS_ECC_CECNT) ∧
        (2 ≤ m → u.getF f = 1) ∧ (m ≤ 1 → u.getF R.SYS_ECC_WMUE = s.getF R.SYS_ECC_WMUE ∧ u.getF R.SYS_ECC_STUE = s.getF R.SYS_ECC_STUE) ∧
        (2 ≤ m → s.getF R.SYS_ECC_WMUE = 0 → s.getF R.SYS_ECC_STUE = 0 → s.getF R.SYS_ECC_LSUE = 0 →
          u.getF R.SYS_ECCADDRL_ADDR = 8 * unit % 2 ^ 32 ∧ u.getF R.SYS_ECCADDRH_ADDR = 8 * unit / 2 ^ 32))) ∧
  (∀ (c : Fin 8) (b : Nat) (s : State), exec (.dramRefresh c b) s = .next s) ∧
  (∀ s : State, ∃ u : State, exec .drcReady s = .next u.settle ∧
    (s.drcWaking = true → s.sys.dev ≠ .dark → { s with drcWaking := false, drcReadyClk := s.clk }.onlyFields u [R.DRC_STAT_READY, R.DRC_STAT_SREF] ∧
      u.getF R.DRC_STAT_READY = 1 ∧ u.getF R.DRC_STAT_SREF = 0) ∧
    (s.drcWaking = false ∨ s.sys.dev = .dark → u = s)) ∧
  (∀ (k : Fin 2) (s : State), ∃ u : State, exec (.drcPackageFailed k) s = .next u.settle ∧
    let dead := s.getF R.DRC_STAT_PKGDEAD
    (dead.testBit k = true ∨ s.sys.dev = .dark → u = s) ∧
    (dead.testBit k = false → s.sys.dev ≠ .dark → u.getF R.DRC_STAT_PKGDEAD = dead ||| 2 ^ k.val ∧ u.getF R.DRC_STAT_PKGFAIL = 1 ∧
      u = { s with regs := u.regs, cores := u.cores, call := u.call, bbxQueue := s.queuedRecord 7 [u.getReg R.DRC_STAT],
                   bbx := { s.bbx with lost := u.bbx.lost } })) ∧
  (∀ s : State, ∃ u : State, exec .allChannelsInSelfRefresh s = .next u.settle ∧
    (s.sys.dev = .wings → s.drcWaking = false →
      { s with sys := { s.sys with shown := none } }.onlyFields u [R.DRC_STAT_SREF, R.DRC_STAT_READY] ∧
      u.getF R.DRC_STAT_SREF = 1 ∧ u.getF R.DRC_STAT_READY = 0) ∧
    (s.sys.dev ≠ .wings ∨ s.drcWaking = true → u = s)) ∧
  (∀ s : State, ∃ u : State, exec .pmemWriteComplete s = .next u.settle ∧ ∃ t : State,
    { s with pmcQueue := s.pmcQueue.tail }.onlyFields t [R.PMC_STAT_DEPTH] ∧ t.getF R.PMC_STAT_DEPTH = min 16 (s.pmcQueue.length - 1) ∧
    u = allHarts.foldl State.fenceCheck t) ∧
  (∀ (w : Writer) (s : State), w.isHouse = true → s.mayAccess w R.PMC_CTRL →
    (∃ u : State, exec (.pmcLock w) s = .next u.settle ∧ s.onlyFields u [R.PMC_CTRL_LOCK] ∧ u.getF R.PMC_CTRL_LOCK = 1) ∧
    (s.getF R.PMC_CTRL_LOCK = 1 → ∀ v, ∃ u : State, exec (.registerWrite w (BitVec.ofNat 40 R.PMC_CTRL) v) s = .next u.settle ∧
      s.onlyFields u []))

/-- The program store's command sequence, its operations, suspend, resume and write protection (R174, R175, R176, R178, R181, R182). -/
def Obligations.ProgramStoreCommands : Prop :=
  (∀ (w : Writer) (addr : Addr) (v : Word) (s : State),
    let a := addr.toNat
    let off := a % 0x40000000
    let refused := fun (i : Instr) (c : Nat → Prop) => ∃ (u : State) (k : Nat), exec i s = .next (u.settle.accessFault w 0x10 true addr) ∧
      { s with fls := { s.fls with steps := 0 } }.onlyFields u [R.FLS_STAT_CMDREF, R.FLS_STAT_CAUSE] ∧
      u.getF R.FLS_STAT_CMDREF = 1 ∧ u.getF R.FLS_STAT_CAUSE = k ∧ c k
    0x0200000000 ≤ a → a < 0x0300000000 → a % 4 = 0 → s.mayAccess w a →
    (w.isHouse = false → ∃ u : State, exec (.flsKeyWrite w addr v) s = .next (u.settle.accessFault w 0x10 true addr) ∧
      { s with fls := { s.fls with steps := 0 } }.onlyFields u [R.FLS_STAT_CMDREF, R.FLS_STAT_CAUSE, R.FLS_STAT_BUSYHIT] ∧
      u.getF R.FLS_STAT_CMDREF = 1 ∧ u.getF R.FLS_STAT_BUSYHIT = if s.flsBankBusy a then 1 else s.getF R.FLS_STAT_BUSYHIT) ∧
    (w.isHouse = true → s.flsBankBusy a = true → ∃ u : State, exec (.flsKeyWrite w addr v) s = .next (u.settle.accessFault w 0x10 true addr) ∧
      s.onlyFields u [R.FLS_STAT_BUSYHIT] ∧ u.getF R.FLS_STAT_BUSYHIT = 1) ∧
    (w.isHouse = true → s.flsBankBusy a = false →
      let next := s.fls.seqClk + 256 ≥ s.clk ∧ s.fls.seqBy = w.num ∧ s.fls.seqBank = flsBank a
      (s.fls.steps = 0 → v = 0xAA → off = 0x5550 → exec (.flsKeyWrite w addr v) s = .next (State.settle
        { s with fls := { s.fls with steps := 1, seqBank := flsBank a, seqBy := w.num, seqClk := s.clk } })) ∧
      (s.fls.steps = 0 → ¬ (v = 0xAA ∧ off = 0x5550) → refused (.flsKeyWrite w addr v) (· = 1)) ∧
      (s.fls.steps = 1 → next → v = 0x55 → off = 0x2AA8 → exec (.flsKeyWrite w addr v) s = .next (State.settle
        { s with fls := { s.fls with steps := 2, seqClk := s.clk } })) ∧
      (s.fls.steps = 1 → ¬ (next ∧ v = 0x55 ∧ off = 0x2AA8) → refused (.flsKeyWrite w addr v) (· = 1)) ∧
      (s.fls.steps = 2 ∨ s.fls.steps = 3 → ¬ (s.fls.steps = 2 ∧ next) → refused (.flsKeyWrite w addr v) (· = 1)) ∧
      (s.fls.steps = 2 → next →
        let otp := s.getF R.FLS_OTPOFF_UNIT
        ∀ e ∈ [(Instr.programPage w addr, 1, a % 0x4000 = 0 ∧ mget 0 s.fls.pointer (flsBlock a) ≤ flsPage a % 256),
            (.eraseBlock w addr, 2, a % 0x400000 = 0),
            (.programOtp w addr, 3, flsBank a = 0 ∧ otpIntegrator otp = true ∧ s.bootOrPlaces = true ∧
              mget false s.fls.otpDone otp = false)],
          let legal := s.fls.op = none ∧ s.fls.susp = none ∧ s.getF R.FLS_CTRL_WEN = 1 ∧ s.getF R.SYS_PWR_PFW = 0 ∧
            (s.getF R.FLS_WP_WP).testBit (flsBank a) = false ∧ e.2.2
          (¬ legal → refused e.1 (fun k => 2 ≤ k ∧ k ≤ 0xB)) ∧
          (legal → ∃ u : State, exec e.1 s = .next u.settle ∧
            { s with fls := u.fls, upd := { s.upd with passed := u.upd.passed } }.onlyFields u
              [R.FLS_STAT_BUSY, R.FLS_STAT_OP, R.FLS_STAT_OPBANK, R.UPD_IMGS_HDROK (flsBank a), R.UPD_IMGS_ALLOK (flsBank a)] ∧
            u.getF R.FLS_STAT_BUSY = 1 ∧ u.getF R.FLS_STAT_OP = e.2.1 ∧ u.getF R.FLS_STAT_OPBANK = flsBank a ∧
            u.fls = { s.fls with steps := 0, op := some ⟨e.2.1, a, otp, 0⟩, suspReq := false, pointer := u.fls.pointer } ∧
            (∀ k, mget 0 u.fls.pointer k = if e.2.1 = 1 ∧ k = flsBlock a then flsPage a % 256 + 1 else mget 0 s.fls.pointer k) ∧
            (e.2.1 ≠ 3 → flsBank a < 2 → mfind u.upd.passed (flsBank a) = none))))) ∧
  (∀ s : State, exec .flsSequenceTimeout s =
    .next (if s.fls.steps = 0 ∨ s.clk ≤ s.fls.seqClk + 256 then s else { s with fls := { s.fls with steps := 3 } })) ∧
  (∀ (err : Bool) (s : State), ∃ u : State,
    exec (.flsOperationDone err) s = .next (State.settle
      (u.upd.recWait.foldl State.recServe { u with upd := { u.upd with recWait := [] } })) ∧
    (s.fls.op = none → u = s) ∧
    ∀ o, s.fls.op = some o → o.target % 0x4000 = 0 → (o.kind = 2 → o.target % 0x400000 = 0) →
      u = { s with regs := u.regs, fls := u.fls, mem := u.mem, ecc := u.ecc, freeCtr := u.freeCtr } ∧
      u.fls.op = none ∧ u.getF R.FLS_STAT_BUSY = 0 ∧ u.getF R.FLS_STAT_DONE = 1 ∧ (err = true → u.getF R.FLS_STAT_ERR = 1) ∧
      (o.kind = 1 → (∀ a, u.rd8 a = if o.target ≤ a ∧ a < o.target + 0x4000 then s.pgbuf.getD (a - o.target) 0 else s.rd8 a) ∧
        (err = false → mfind u.fls.undef (flsPage o.target) = none)) ∧
      (o.kind = 2 → 0x0200000000 < o.target → o.target < 0x0300000000 → o.target ≠ 0x0240000000 →
        (∀ a, u.rd8 a = if o.target ≤ a ∧ a < o.target + 0x400000 then 0xFF else s.rd8 a) ∧
        mget 0 u.fls.pointer (flsBlock o.target) = 0 ∧
        (err = false → ∀ i < 256, mfind u.fls.undef (flsPage o.target + i) = none)) ∧
      (o.kind = 3 → u.mem = s.mem ∧ mget false u.fls.otpDone o.unit = true ∧
        ∀ i < 8, mget 0 u.fls.otp (8 * o.unit + i) = s.pgbuf.getD i 0)) ∧
  (∀ (w : Writer) (s : State), w.isHouse = true → s.mayAccess w R.FLS_CTRL →
    let refused := fun i : Instr => ∃ u : State, exec i s = .next u.settle ∧ s.onlyFields u [R.FLS_STAT_CMDREF, R.FLS_STAT_CAUSE] ∧
      u.getF R.FLS_STAT_CMDREF = 1 ∧ u.getF R.FLS_STAT_CAUSE = 0xA
    ((∃ o, s.fls.op = some o ∧ o.kind = 2 ∧ o.suspends < 64) → ∃ u : State, exec (.flsSuspend w) s = .next u.settle ∧
      { s with fls := { s.fls with suspReq := true } }.onlyFields u []) ∧
    (¬ (∃ o, s.fls.op = some o ∧ o.kind = 2 ∧ o.suspends < 64) → refused (.flsSuspend w)) ∧
    (∀ o, s.fls.susp = some o → ∃ u : State, exec (.flsResume w) s = .next u.settle ∧
      { s with fls := { s.fls with op := some o, susp := none } }.onlyFields u [R.FLS_STAT_BUSY, R.FLS_STAT_SUSP] ∧
      u.getF R.FLS_STAT_BUSY = 1 ∧ u.getF R.FLS_STAT_SUSP = 0) ∧
    (s.fls.susp = none → refused (.flsResume w)) ∧
    (∃ u : State, exec (.flsWpLock w) s = .next u.settle ∧ s.onlyFields u [R.FLS_WP_LOCK] ∧ u.getF R.FLS_WP_LOCK = 1) ∧
    (s.getF R.FLS_WP_LOCK = 1 → ∀ v, ∃ u : State, exec (.registerWrite w (BitVec.ofNat 40 R.FLS_WP) v) s = .next u.settle ∧
      s.onlyFields u [])) ∧
  (∀ s : State, ∃ u : State, exec .flsSuspendDone s = .next u.settle ∧
    (∀ o, s.fls.op = some o → s.fls.suspReq = true →
      { s with fls := { s.fls with op := none, susp := some { o with suspends := o.suspends + 1 }, suspReq := false } }.onlyFields u
        [R.FLS_STAT_BUSY, R.FLS_STAT_SUSP] ∧ u.getF R.FLS_STAT_BUSY = 0 ∧ u.getF R.FLS_STAT_SUSP = 1) ∧
    (s.fls.op = none ∨ s.fls.suspReq = false → u = s))

/-- GO, SUBMIT, PAUSE, RESUME, CALL_CURTAIN, CLEAR, ENTER_WINGS, WAKE, SHUTDOWN, ACTIVATE, ENTER_RECOVERY and RESTART (R31, R32, R33, R195, R215, R491). -/
def Obligations.HostStateCommands : Prop :=
  ∀ (q : Req) (x : HostSess) (s : State), s.admits q x →
    let i := q.sess.val
    let n := q.seq.toNat
    let pl := q.payload
    let refused := fun (c : Instr) (op st : Nat) => ∃ u : State, exec c s = .next u.settle ∧ s.refuses u i x op n st
    let rows : List (Instr × Nat × List Nat × StateCmd) :=
      [(.go q, 0x10, [0, 1], .go), (.pause q, 0x12, [0, 1], .pause), (.resume q, 0x13, [0, 1], .resume),
       (.clear q, 0x15, [0, 1], .clear), (.enterWings q, 0x16, [0, 1], .enterWings), (.wake q, 0x17, [0, 1], .wake),
       (.shutdown q, 0x18, [0, 1], .shutdown), (.enterRecovery q, 0x1A, [1], .enterRecovery), (.restart q, 0x1B, [0, 1], .restart)]
    (∀ e ∈ rows,
      (x.role ∉ e.2.2.1 → refused e.1 e.2.1 0x05) ∧
      (x.role ∈ e.2.2.1 → ¬ s.accepts e.2.2.2 → refused e.1 e.2.1 0x03) ∧
      (x.role ∈ e.2.2.1 → s.accepts e.2.2.2 → s.host.long ≠ none → refused e.1 e.2.1 0x02) ∧
      (x.role ∈ e.2.2.1 → s.accepts e.2.2.2 → s.host.long = none →
        let due : Sys := { s.sys with cmds := s.waitingWith e.2.2.2 q.sess q.seq }
        (e.2.2.2 ≠ .restart → ¬ (e.2.2.2 = .enterRecovery ∧ s.sys.dev = .boot) → (e.2.2.2 = .go → s.getF R.SYS_GOEN_EN = 1) →
          ∃ u : State, exec e.1 s = .next u.settle ∧ { s with sys := due }.passes u i x e.2.1 n pl) ∧
        (e.2.2.2 = .go → s.getF R.SYS_GOEN_EN = 0 → ∃ u : State, exec e.1 s = .next u.settle ∧ s.answers u i x e.2.1 n 0x04 []) ∧
        (e.2.2.2 = .enterRecovery → s.sys.dev = .boot → ∃ t u : State, exec e.1 s = .next u.settle ∧ s.answers t i x e.2.1 n 0 [] ∧
          u.host = t.host ∧ u.sys.dev = .recovery ∧ u.getF R.SYS_BOOT_CODE = 0x22) ∧
        (e.2.2.2 = .restart → ∃ (k : Nat) (u : State), k < 65536 ∧ exec e.1 s = .next u.settle ∧
          { s with freeCtr := s.freeCtr + 1, host := { s.host with long := some (i, e.2.1, k) },
                   sys := if s.sys.dev = Dev.boot ∨ s.sys.dev = Dev.recovery then { s.sys with resetDue := true } else due }.answers
            u i x e.2.1 n 0x01 (bytesLE 2 k)))) ∧
    ((s.inRun = false → refused (.callCurtain q) 0x14 0x03) ∧
      (s.inRun = true → ∃ t u : State, exec (.callCurtain q) s = .next u.settle ∧
        { s with sys := { s.sys with callDue := some (s.sys.callDue.getD (q.sess, q.seq)) } }.onlyFields t [R.SYS_CURTAIN_HOSTCMD] ∧
        t.getF R.SYS_CURTAIN_HOSTCMD = 1 ∧ t.passes u i x 0x14 n pl)) ∧
    ((x.role ≠ 0 → refused (.submit q) 0x11 0x05) ∧
      (x.role = 0 → s.sys.dev ≠ .places → s.inRun = false → refused (.submit q) 0x11 0x03) ∧
      (x.role = 0 → s.sys.dev = .places ∨ s.inRun = true → (s.host.long ≠ none → refused (.submit q) 0x11 0x02) ∧
        (s.host.long = none → ∃ u : State, exec (.submit q) s = .next u.settle ∧ s.passes u i x 0x11 n pl))) ∧
    ((x.role ≠ 1 → refused (.activate q) 0x19 0x05) ∧
      (x.role = 1 → s.sys.dev ≠ .run .idle → refused (.activate q) 0x19 0x03) ∧
      (x.role = 1 → s.sys.dev = .run .idle → (s.host.long ≠ none → refused (.activate q) 0x19 0x02) ∧
        (s.host.long = none → ∃ u : State, exec (.activate q) s = .next u.settle ∧
          { s with host := { s.host with actSess := some i } }.passes u i x 0x19 n pl)))

/-- OPEN, CLOSE, KEEPALIVE, STATUS, READMEM, WRITEMEM, IMAGE, FWCALL, RECOVERY_DOWNLOAD and HOST_FRAME_RECEIVE (R490, R491, R493, R494, R495, R498). -/
def Obligations.HostServices : Prop :=
  (∀ (iface : Fin 4) (partner : Nat) (buf : Fin 64) (seq : BitVec 16) (role : BitVec 8) (s : State),
    let cmd := Instr.open iface partner buf seq role
    let free := fun k : Nat => k < 64 ∧ s.session k = none
    let right := role.toNat ≤ 2 ∧ (s.sys.dev = .recovery → role.toNat = 1)
    let refused := fun st : Nat => ∃ u : State, exec cmd s = .next u.settle ∧ u.host.sess = s.host.sess ∧
      { s with host := u.host, mem := u.mem, ecc := u.ecc }.onlyFields u mergeFields ∧
      mget [] u.host.sent 64 = hostFrame 0x01 1 0xFFFF seq.toNat st []
    (s.ifServed iface = false → exec cmd s = .next s.settle) ∧
    (s.ifServed iface = true → (s.paused = true → refused 0x02) ∧ (s.paused = false → ¬ right → refused 0x05) ∧
      (s.paused = false → right →
        (∀ k, free k → (if iface = 0 then k = buf.val else ∀ j, free j → k ≤ j) →
          ∃ u : State, exec cmd s = .next u.settle ∧ { s with host := u.host, mem := u.mem, ecc := u.ecc }.onlyFields u mergeFields ∧
            let l := hostFrame 0x01 1 k seq.toNat 0 []
            (∀ j, mfind u.host.sess j = if j = k then some ⟨role.toNat, iface.val, partner, seq.toNat, none, some l⟩
              else mfind s.host.sess j) ∧ mget [] u.host.sent k = l) ∧
        ((if iface = 0 then s.session buf ≠ none else ∀ j, ¬ free j) → refused 0x0A)))) ∧
  (∀ (q : Req) (x : HostSess) (s : State), s.admits q x →
    let i := q.sess.val
    let n := q.seq.toNat
    let pl := q.payload
    let a := leAt pl 0 8
    let answered := fun (c : Instr) (op st : Nat) (l : List Byte) => ∃ u : State, exec c s = .next u.settle ∧ s.answers u i x op n st l
    let refused := fun (c : Instr) (op st : Nat) => ∃ u : State, exec c s = .next u.settle ∧ s.refuses u i x op n st
    let serves := s.sys.dev = .places ∨ s.inRun = true
    answered (.keepalive q) 0x03 0 [] ∧
    answered (.status q) 0x04 0 ([R.SYS_STATE, R.SYS_CURTAIN, R.SYS_BOOT, R.JRNL_LASTACC, R.JRNL_LASTRET, R.HOST_LONG].flatMap
      fun r => bytesLE 4 (s.regLook r).toNat) ∧
    (∃ u : State, exec (.close q) s = .next u.settle ∧ { s with host := u.host, mem := u.mem, ecc := u.ecc }.onlyFields u mergeFields ∧
      (∀ j, mfind u.host.sess j = if j = i then none else mfind s.host.sess j) ∧
      mget [] u.host.sent i = hostFrame 0x02 1 i n 0 []) ∧
    (let len := leAt pl 8 4
     (regionOf a = .peripheral ∨ regionOf a = .remote ∨ regionOf a = .hole ∨ (regionOf a ≠ .dram ∧ (len = 0 ∨ 8192 < len)) →
        answered (.readMem q) 0x08 0x08 []) ∧
     (regionOf a = .dram → ¬ serves → refused (.readMem q) 0x08 0x03) ∧
     (regionOf a = .working ∨ regionOf a = .stage → 1 ≤ len → len ≤ 8192 → regionOf (a + len - 1) = regionOf a →
        (∀ u ∈ unitsOf a len, s.eccAt u = 0) → answered (.readMem q) 0x08 0 (s.rdBytes a len))) ∧
    (let data := pl.drop 8
     (2 ≤ x.role → refused (.writeMem q) 0x09 0x05) ∧ (x.role ≤ 1 → ¬ serves → refused (.writeMem q) 0x09 0x03) ∧
     (x.role ≤ 1 → serves → s.dramUsable a data.length = false → answered (.writeMem q) 0x09 0x08 []) ∧
     (x.role ≤ 1 → serves → regionOf a = .dram → s.dramUsable a data.length = true → s.dramAlive a data.length = true →
        (∀ y ∈ partialLines a data.length, ∀ k < 8, s.eccAt (64 * y + 8 * k) = 0) →
        ∃ t u : State, exec (.writeMem q) s = .next u.settle ∧ t.answers u i x 0x09 n 0 [] ∧
          t = { s with mem := t.mem, ecc := t.ecc,
                       drcLines := s.drcLines + linesOf a data.length + (partialLines a data.length).length } ∧
          ∀ b, t.rd8 b = if a ≤ b ∧ b < a + data.length then data.getD (b - a) 0 else s.rd8 b)) ∧
    ((2 ≤ x.role → refused (.fwCall q) 0x3F 0x05) ∧ (x.role ≤ 1 → s.cueRuns = false → refused (.fwCall q) 0x3F 0x03) ∧
      (x.role ≤ 1 → s.cueRuns = true → ∃ u : State, exec (.fwCall q) s = .next u.settle ∧ s.passes u i x 0x3F n pl)) ∧
    ((x.role ≠ 1 → refused (.image q) 0x20 0x05) ∧ (x.role = 1 → ¬ serves → refused (.image q) 0x20 0x03) ∧
      (x.role = 1 → serves → s.host.long ≠ none → refused (.image q) 0x20 0x02) ∧
      (x.role = 1 → serves → s.host.long = none → ∃ (k : Nat) (t u : State), k < 65536 ∧ exec (.image q) s = .next u.settle ∧
        { s with freeCtr := s.freeCtr + 1, host := { s.host with long := some (i, 0x20, k) } }.answers t i x 0x20 n 0x01 (bytesLE 2 k) ∧
        { t with host := { t.host with cq := t.host.cq ++ [i] }, mem := u.mem, ecc := u.ecc }.onlyFields u mergeFields ∧
        t.copied u (t.hostBuf i 0) (hostFrame 0x20 0 i n 0 pl))) ∧
    ((x.role ≠ 1 → refused (.recoveryDownload q) 0x21 0x05) ∧
      (x.role = 1 → s.sys.dev ≠ .recovery → refused (.recoveryDownload q) 0x21 0x03) ∧
      (x.role = 1 → s.sys.dev = .recovery → s.host.long = none → s.fls.op ≠ none → exec (.recoveryDownload q) s = .next (State.settle
        { s with host := { s.host with sess := mset s.host.sess i { x with pend := some (0x21, n) } },
                 upd := { s.upd with recWait := s.upd.recWait ++ [.chunk i n pl] } })) ∧
      (x.role = 1 → s.sys.dev = .recovery → s.host.long = none → s.fls.op = none → leAt pl 0 1 = 3 → leAt pl 1 1 % 2 = 0 → leAt pl 4 4 = 0 →
        (pl.drop 8).length ≤ 512 → ∃ (k : Nat) (t u : State), k < 65536 ∧ exec (.recoveryDownload q) s = .next u.settle ∧
          t = { s with freeCtr := s.freeCtr + 1, host := { s.host with long := some (i, 0x21, k) },
                       upd := { s.upd with item := some (3, (pl.drop 8).length), itemTo := t.upd.itemTo, itemData := pl.drop 8 } } ∧
          t.answers u i x 0x21 n 0x01 (bytesLE 2 k)) ∧
      (x.role = 1 → s.sys.dev = .recovery → s.host.long = none → s.fls.op = none → leAt pl 4 4 ≠ 0 →
        s.upd.item = none →
        answered (.recoveryDownload q) 0x21 0x08 []))) ∧
  (∀ (iface : Fin 4) (partner : Nat) (buf : Fin 64) (l : List Byte) (s : State), iface ≠ 0 →
    let cmd := Instr.hostFrameReceive iface partner buf l
    let op := leAt l 2 1
    let i := leAt l 4 2
    let n := leAt l 6 2
    let stray := fun st : Nat => exec cmd s =
      .next (State.settle { s with host := { s.host with sent := mset s.host.sent 64 (hostFrame op 1 i n st []) } })
    (s.ifServed iface = false → exec cmd s = .next s.settle) ∧
    (s.ifServed iface = true → (frameOk l = false → stray 0x06) ∧
      (frameOk l = true → op ≠ 1 → (∀ x, s.session i = some x → x.iface ≠ iface.val ∨ x.partner ≠ partner) → stray 0x09) ∧
      (frameOk l = true → op ≠ 1 → ∀ x, s.session i = some x → x.iface = iface.val → x.partner = partner →
        (x.pend ≠ none → n ≠ x.last → ∃ u : State, exec cmd s = .next u.settle ∧ s.onlyFields u [R.HOST_STAT_DISC] ∧
          u.getF R.HOST_STAT_DISC =
            min (s.getF R.HOST_STAT_DISC + 1) (2 ^ (R.HOST_STAT_DISC.hi + 1 - R.HOST_STAT_DISC.lo) - 1)) ∧
        (∀ old, n = x.last → x.stored = some old → ∃ u : State, exec cmd s = .next u.settle ∧ s.sends u i 0x2800 x.iface s.host.sess old) ∧
        (x.pend = none → n ≠ x.last → n ≠ (x.last + 1) % 65536 → ∃ u : State, exec cmd s = .next u.settle ∧ s.refuses u i x op n 0x07) ∧
        (∀ k : Fin 64, i = k.val →
          let q : Req := ⟨k, BitVec.ofNat 16 n, l.drop 16⟩
          ∀ e ∈ [(0x02, Instr.close q), (0x03, .keepalive q), (0x04, .status q), (0x08, .readMem q), (0x09, .writeMem q), (0x10, .go q),
              (0x11, .submit q), (0x12, .pause q), (0x13, .resume q), (0x14, .callCurtain q), (0x15, .clear q), (0x16, .enterWings q),
              (0x17, .wake q), (0x18, .shutdown q), (0x19, .activate q), (0x1A, .enterRecovery q), (0x1B, .restart q),
              (0x20, .image q), (0x21, .recoveryDownload q), (0x3F, .fwCall q)],
            op = e.1 → exec cmd s = exec e.2 s))))

/-- Long operations, sessions, the doorbell, BAR2, ARP, Ethernet, PTP and the registers through which firmware serves HOST (R490, R495, R496, R498, R499, R500). -/
def Obligations.HostEvents : Prop :=
  (∀ (st : Word) (pl : List Byte) (s : State), ∃ u : State, exec (.longOperationComplete st pl) s = .next u.settle ∧
    (s.host.long = none → u = s) ∧
    ∀ i op n, s.host.long = some (i, op, n) →
      let t := { s with host := { s.host with long := none } }
      (s.session i = none → u = t) ∧
      ∀ x, s.session i = some x → ∃ k < 65536, { t with freeCtr := s.freeCtr + 1 }.sends u i 0x5000 x.iface s.host.sess
        (hostFrame 0x30 2 i k (st.toNat % 65536) pl)) ∧
  (∀ (i : Fin 64) (s : State), ∃ u : State, exec (.sessionIdleTimeout i) s = .next u.settle ∧
    u = { s with host := { s.host with sess := u.host.sess } } ∧
    ∀ j, mfind u.host.sess j = if j = i.val then none else mfind s.host.sess j) ∧
  (∀ s : State, ∀ e ∈ [(Instr.functionLevelReset, 0), (.usbDisconnect, 3)], exec e.1 s = .next (State.settle
    { s with host := { s.host with sess := s.host.sess.filter fun p => p.2.iface != e.2 } })) ∧
  (∀ (v : Word) (s : State), ∃ u : State, exec (.pcieDoorbell v) s = .next u.settle ∧
    (64 ≤ v.toNat ∨ s.hostBuf v.toNat 0 = none → u = s) ∧
    ∀ a, s.hostBuf v.toNat 0 = some a → v.toNat < 64 →
      (∀ t t' head l, s.blockRead .working a 16 = (t, head) → t.blockRead .working (a + 16) (min (leAt head 0xA 2) 8192) = (t', l) →
        u = t'.hostFrameIn 0 0 v.toNat (head ++ l)) ∧
      (let k := 16 + min (s.rdNat (a + 0xA) 2) 8192
       (∀ y ∈ unitsOf a k, s.eccAt y = 0) → u = s.hostFrameIn 0 0 v.toNat (s.rdBytes a k))) ∧
  (∀ (off : Nat) (l : List Byte) (n : Nat) (s : State),
    let on := s.getF R.HOST_CTRL_PCIE = 1 ∧ s.sys.dev ≠ .dark
    let a := 0x1000000000 + off
    (¬ on → exec (.bar2Write off l) s = .next s.settle ∧ exec (.bar2Read off n) s = .next s.settle) ∧
    (on → ¬ (off + l.length ≤ 0x800000000 ∧ s.dramUsable a l.length = true) → ∃ u : State, exec (.bar2Write off l) s = .next u.settle ∧
      s.onlyFields u [R.HOST_STAT_BARERR] ∧ u.getF R.HOST_STAT_BARERR = 1) ∧
    (on → off + l.length ≤ 0x800000000 → off < 0x800000000 → s.dramUsable a l.length = true → s.dramAlive a l.length = true →
      (∀ y ∈ partialLines a l.length, ∀ k < 8, s.eccAt (64 * y + 8 * k) = 0) → ∃ u : State, exec (.bar2Write off l) s = .next u.settle ∧
        u = { s with mem := u.mem, ecc := u.ecc, drcLines := s.drcLines + linesOf a l.length + (partialLines a l.length).length } ∧
        ∀ b, u.rd8 b = if a ≤ b ∧ b < a + l.length then l.getD (b - a) 0 else s.rd8 b) ∧
    (on → ¬ (off + n ≤ 0x800000000 ∧ s.dramUsable a n = true) → ∃ u : State, exec (.bar2Read off n) s = .next u.settle ∧
      { s with host := { s.host with bar2 := none } }.onlyFields u [R.HOST_STAT_BARERR] ∧ u.getF R.HOST_STAT_BARERR = 1) ∧
    (on → off + n ≤ 0x800000000 → s.dramUsable a n = true → s.dramAlive a n = true → (∀ y ∈ halvesOf a n, ∀ k < 4, s.eccAt (y + 8 * k) = 0) →
      exec (.bar2Read off n) s = .next (State.settle
        { s with host := { s.host with bar2 := some (s.rdBytes a n) }, drcLines := s.drcLines + linesOf a n }))) ∧
  (∀ (mac : Fin 2) (ip : Word) (data : List Byte) (tx : Bool) (fine : BitVec 4) (id : BitVec 16) (s : State),
    let on := s.sys.dev ≠ .dark ∧ (s.getReg R.HOST_CTRL).getLsbD (1 + mac) = true
    let h := s.host
    exec (.arpRequest mac ip) s = .next (State.settle
      (if on ∧ s.sys.dev ≠ .recovery ∧ s.getReg (R.HOST_IP mac) = ip ∧ ip ≠ 0 then { s with host := { h with arp := some (mac.val, ip) } } else s)) ∧
    exec (.ethFrameToFirmware mac data) s = .next (State.settle
      (if on ∧ 64 ≤ data.length ∧ data.length ≤ 9218 then { s with host := { h with ethRx := h.ethRx ++ [(mac.val, data)] } } else s)) ∧
    ∃ u : State, exec (.ptpEventTimestamp mac tx fine id) s = .next u.settle ∧ (¬ on → u = s) ∧
      (on → u = { s with host := { h with ts := u.host.ts } } ∧
        ∀ m, mget [] u.host.ts m = if m = mac.val then mget [] h.ts m ++ [⟨s.cue.time, tx, fine.toNat, id.toNat⟩] else mget [] h.ts m)) ∧
  (∀ (w : Writer) (mac : Fin 2) (s : State), s.mayAccess w (R.HOST_TS0 mac) → ∃ u : State, exec (.hostTsRead w mac) s = .next u.settle ∧
    u = { s with regs := u.regs, shadow := u.shadow, host := { s.host with ts := u.host.ts } } ∧ (∀ a, u.getReg a = s.getReg a) ∧
    mget 0 u.shadow (shadowKey w (R.HOST_TS1 mac)) = (s.tsWords mac).2.1 ∧
    mget 0 u.shadow (shadowKey w (R.HOST_TS2 mac)) = (s.tsWords mac).2.2 ∧
    ∀ m, mget [] u.host.ts m = if m = mac.val then (mget [] s.host.ts m).tail else mget [] s.host.ts m) ∧
  (∀ (w : Writer) (v : Word) (s : State), w.isHouse = true → s.mayAccess w R.HOST_RSP →
    exec (.hostCqPop w) s = .next (State.settle { s with host := { s.host with cq := s.host.cq.tail } }) ∧
    (let i := fieldOf v 5 0
     (v.getLsbD 30 = false → ∀ x op n, s.session i = some x → x.pend = some (op, n) →
        ∃ t u : State, exec (.hostRspGo w v) s = .next u.settle ∧ s.onlyFields t [R.HOST_RSP_SESS] ∧ t.getF R.HOST_RSP_SESS = i ∧
          (∀ y, t.fwFrame i 0x2800 = (y, none) → u = t) ∧
          ∀ y l, t.fwFrame i 0x2800 = (y, some l) → y.sends u i 0x2800 x.iface
            (mset s.host.sess i { x with last := n, pend := none, stored := if l.length ≤ 64 then some l else none }) l) ∧
     (∀ x, s.session i = some x →
        ∃ t u : State, exec (.hostRspNotify w v) s = .next u.settle ∧ s.onlyFields t [R.HOST_RSP_SESS] ∧ t.getF R.HOST_RSP_SESS = i ∧
          (∀ y, t.fwFrame i 0x5000 = (y, none) → u = t) ∧
          ∀ y l, t.fwFrame i 0x5000 = (y, some l) → y.sends u i 0x5000 x.iface s.host.sess l)))

/-- Posting, checking and flushing swaths, latching their tables, and popping the re-request queue (R217, R221, R222, R223, R227, R228). -/
def Obligations.SwathQueue : Prop :=
  (∀ (w : Writer) (s : State),
    let turned := fun (i : Instr) (a : Nat) =>
      s.mayWrite w a = false → exec i s = .next (s.turnedAway w a)
    (∀ v : Word, turned (.swathPost w v) R.DROP_SWQH ∧ (s.mayWrite w R.DROP_SWQH = true →
      ∃ u : State, exec (.swathPost w v) s = .next u.settle ∧
        { s with drop := u.drop }.onlyFields u [R.DROP_SWQH_RESUME, R.DROP_SWQH_ADDR, R.DROP_STAT_SWQFULL] ∧
        u.getF R.DROP_SWQH_RESUME = fieldOf v 8 8 ∧ u.getF R.DROP_SWQH_ADDR = fieldOf v 7 0 ∧
        (s.drop.q.length < 4 → u.getF R.DROP_STAT_SWQFULL = s.getF R.DROP_STAT_SWQFULL ∧
          u.drop = { s.drop with uid := s.drop.uid + 1, q := s.drop.q ++
            [{ uid := s.drop.uid, addr := 64 * s.getF R.DROP_SWQL_ADDR + 2 ^ 32 * fieldOf v 7 0, resume := v.getLsbD 8 }] }) ∧
        (4 ≤ s.drop.q.length → u.getF R.DROP_STAT_SWQFULL = 1 ∧ u.drop = s.drop))) ∧
    turned (.dropFlush w) R.DROP_CTRL ∧ (s.mayWrite w R.DROP_CTRL = true →
      ∃ u : State, exec (.dropFlush w) s = .next u.settle ∧ { s with drop := u.drop }.onlyFields u [] ∧
        let gone := fun x : Nat => s.drop.q.any fun y => !y.ready && y.uid == x
        u.drop = { s.drop with q := s.drop.q.filter (fun x => !gone x.uid), ring := u.drop.ring, rrq := u.drop.rrq,
                               handles := u.drop.handles } ∧
        (∀ k, u.ringOf k = (s.ringOf k).filter fun x => !gone x.uid) ∧
        u.drop.rrq.map (fun e => { e with done := true }) = s.drop.rrq.map (fun e => { e with done := true })) ∧
    turned (.dropRrqPop w) R.DROP_RRQ2 ∧ (s.mayWrite w R.DROP_RRQ2 = true →
      ∃ u : State, exec (.dropRrqPop w) s = .next u.settle ∧
        u = { s with drop := { s.drop with rrq := s.drop.rrq.tail, handles := u.drop.handles } } ∧
        ∀ h, mfind u.drop.handles h =
          if mfind s.drop.handles h = some none ∧ (s.drop.rrq.head?.map (·.handle)) = some h ∧
            ∀ e ∈ s.drop.rrq.tail, e.handle ≠ h then none else mfind s.drop.handles h)) ∧
  (∀ (s : State) (w : DropSwath),
    let refused := fun (i : Instr) (t : State) (r : Nat) => ∃ u : State,
      exec i s = .next (State.settle ((u.irqPulseIf R.DROP_CTRL_SDIRQ baseDROP).publish Src.dropSdBad)) ∧
      { t with drop := u.drop }.onlyFields u [R.DROP_STAT_SDBAD, R.DROP_SWSTAT_REASON] ∧
      u.getF R.DROP_STAT_SDBAD = 1 ∧ u.getF R.DROP_SWSTAT_REASON = r ∧ u.drop.q = t.drop.q.filter (fun x => x.uid != w.uid) ∧
      u.drop.uid = t.drop.uid ∧ u.drop.last = t.drop.last ∧
      u.drop.rrq.map (fun e => { e with done := true }) = t.drop.rrq.map (fun e => { e with done := true }) ∧
      ∀ k, u.ringOf k = (t.ringOf k).filter fun x => x.uid != w.uid
    ((s.drop.q.find? fun x => x.desc.isNone) = none ∨ s.sys.dev = .curtain → exec .swathCheck s = .next s.settle) ∧
    ((s.drop.q.find? fun x => x.desc.isNone) = some w → s.sys.dev ≠ .curtain →
      (s.descPlace w.addr = false → refused .swathCheck s 7) ∧
      (s.descPlace w.addr = true → ∀ t r, s.memRead w.addr 576 = (t, r) →
        ((∀ l, r ≠ .ok l) → refused .swathCheck t 7) ∧
        ∀ l, r = .ok l →
          let checks := t.descriptorChecks l
          (∀ i p, checks[i]? = some p → ¬ p → (∀ j q, j < i → checks[j]? = some q → q) → refused .swathCheck t (i + 1)) ∧
          ((∀ p ∈ checks, p) → (∀ x ∈ s.drop.q, x.uid = w.uid → x = w) → ∃ d, describes w l d ∧
            exec .swathCheck s = .next (State.settle (t.modSw w.uid fun x => { x with desc := some d }))))) ∧
    ((s.drop.q.find? fun x => x.desc.isSome && !x.latched) = none ∨ s.sys.dev = .curtain → exec .swathTableLatch s = .next s.settle) ∧
    ((s.drop.q.find? fun x => x.desc.isSome && !x.latched) = some w → s.sys.dev ≠ .curtain → s.dropSw w.uid = some w → ∀ d, w.desc = some d →
      let miss := fun l => d.ctxs.map fun k => (k, leAt l (8 * k) 8)
      let start := fun l => d.ctxs.filterMap fun k => if (leAt l (4 * k) 4).testBit 31 then some (k, leAt l (4 * k) 4 % 2 ^ 20) else none
      let latches := fun (t : State) (m f : SMap Nat) => ∃ v : State, exec .swathTableLatch s = .next v.settle ∧
        (t.modSw w.uid fun x => { x with latched := true, miss := m, start := f }).readied v
          { w with latched := true, miss := m, start := f } d
      (∀ t r, s.tableRead (64 * s.getF R.DROP_MISSBASE_ADDR) 32768 = (t, r) →
        ((∀ l, r ≠ .ok l) → refused .swathTableLatch t 7) ∧
        ∀ l, r = .ok l →
          (w.resume = false → latches t (miss l) []) ∧
          (w.resume = true → ∀ t' r', t.tableRead (64 * t.getF R.DROP_SKIPBASE_ADDR) 16384 = (t', r') →
            ((∀ l', r' ≠ .ok l') → refused .swathTableLatch t' 7) ∧
            ∀ l', r' = .ok l' → latches t' (miss l) (start l')))))

/-- Staging of a tile, its one re-read, and staging afresh (R218, R219, R224, R225, R226, R227). -/
def Obligations.TileStaging : Prop :=
  (∀ (i : Fin 4) (k : Fin 4096) (t : Nat) (s : State),
    let staged := Instr.tileStaged i k t
    let reread := Instr.tileReread i k t
    ((s.sys.dev = .curtain ∨ s.drop.q[i.val]? = none ∨ ∃ w, s.drop.q[i.val]? = some w ∧ w.desc = none) →
      exec staged s = .next s.settle ∧ exec reread s = .next s.settle) ∧
    (∀ w d, s.sys.dev ≠ .curtain → s.drop.q[i.val]? = some w → w.desc = some d → s.dropSw w.uid = some w →
      let next := s.nextFill = some k.val ∧ ∃ x, s.dueTile k = some (x, t) ∧ x.uid = w.uid
      (∀ x, s.dropTile w.uid k t = some x →
        (x.st = .staging → ∃ y v : State, exec staged s = .next v.settle ∧ s.tileIsRead y w d k t x.slot false ∧
          y.passedReleased v w d k) ∧
        (x.st ≠ .staging → exec staged s = .next s.settle) ∧
        (x.st = .reread → ∃ u y v : State, exec reread s = .next v.settle ∧ s.onlyFields u [R.DROP_FAILS_REREADS] ∧
          u.getF R.DROP_FAILS_REREADS = min (s.getF R.DROP_FAILS_REREADS + 1) 0xFFFF ∧ u.tileIsRead y w d k t x.slot true ∧
          y.passedReleased v w d k) ∧
        (x.st ≠ .reread → exec reread s = .next s.settle)) ∧
      (s.dropTile w.uid k t = none →
        exec reread s = .next s.settle ∧
        (∀ pos, s.freePos k = some pos → next →
          ∃ y v : State, exec staged s = .next v.settle ∧ (s.tilePlaced w k t pos).tileIsRead y w d k t pos false ∧
            y.passedReleased v w d k) ∧
        (s.freePos k = none ∨ ¬ next → exec staged s = .next s.settle)))) ∧
  (∀ s : State,
    let rank := fun k => match s.dueTile k with | some (w, t) => t - w.startCol k / 256 | none => 0
    (∀ k, s.mayFill k = true → s.nextFill ≠ none) ∧
    (∀ k, s.nextFill = some k → s.mayFill k = true ∧
      (∀ j, s.drop.freed.find? s.mayFill = some j → k = j) ∧
      (s.drop.freed.find? s.mayFill = none → ∀ j, s.mayFill j = true → rank k < rank j ∨ (rank k = rank j ∧ k ≤ j)))) ∧
  (∀ (w : Writer) (v : Word) (s : State),
    (s.mayWrite w R.DROP_RETRY = false →
      exec (.dropRetry w v) s = .next (s.turnedAway w R.DROP_RETRY)) ∧
    (s.mayWrite w R.DROP_RETRY = true → ∃ u : State, exec (.dropRetry w v) s = .next u.settle ∧
      { s with drop := u.drop }.onlyFields u [R.DROP_RETRY_HANDLE] ∧ u.getF R.DROP_RETRY_HANDLE = fieldOf v 3 0 ∧
      u.drop = { s.drop with ring := u.drop.ring } ∧
      ∀ c, u.ringOf c = (s.ringOf c).map fun x =>
        if v.getLsbD 31 = true ∧ mfind s.drop.handles (fieldOf v 3 0) = some (some (x.uid, c, x.tile)) ∧
            (s.dropTile x.uid c x.tile).map (·.st) = some .failed then { x with st := .staging } else x))

/-- FIRE_OBSEN_WRITE and OBSERVER_TICK: observer, faults, stalls, start of an arming check; and the firing equation (R248, R249, R250, R251, R260, R261). -/
def Obligations.CarriageObserver : Prop :=
   ((∀ (w : Writer) (v : Word) (s : State),
      (s.mayWrite w R.FIRE_CTRL = false → exec (.fireObsenWrite w v) s = .next (s.turnedAway w R.FIRE_CTRL)) ∧
      (s.mayWrite w R.FIRE_CTRL = true → ∃ u : State, exec (.fireObsenWrite w v) s = .next u.settle ∧
        let l := [R.FIRE_CTRL_OBSEN, R.FIRE_CTRL_EN, R.FIRE_CTRL_OBSIRQ, R.FIRE_CTRL_STALLIRQ, R.FIRE_CTRL_LATEIRQ,
          R.FIRE_CTRL_OVSIRQ, R.FIRE_CTRL_ARMIRQ]
        { s with fire := { s.fire with init := (s.fire.init || !s.flag R.FIRE_CTRL_OBSEN) && v.getLsbD 7 } }.onlyFields u l ∧
        ∀ f ∈ l, u.getF f = fieldOf v f.hi f.lo)) ∧
    (∀ s : State, s.getF R.FIRE_CTRL_OBSEN = 0 → exec .observerTick s = .next s.settle) ∧
    (∀ s : State, s.getF R.FIRE_CTRL_OBSEN ≠ 0 → ∃ u t v : State, exec .observerTick s = .next v.settle ∧
      let f := s.fire
      let enc := s.encUnit (s.getF R.FIRE_CFG_ENC)
      let slot := s.getF R.FIRE_CFG_CSLOT
      let scale : Rat := s.encScale / 2 ^ 16
      let y : Rat := scale * enc.out
      let ap : Rat := ((f.acmd + f.b : Int) : Rat) / 2 ^ 22 / 10 ^ 9
      let pp : Rat := f.obs.p / 2 ^ 8 + f.obs.v / 2 ^ 24 * 100 + ap * 100 ^ 2 / 2
      let vp : Rat := f.obs.v / 2 ^ 24 + ap * 100
      let e : Rat := if f.init = true ∨ enc.newOut = false then 0 else y - pp
      let gain := fun g : Fld => (s.getF g : Rat) / 2 ^ 16
      let g := u.fire
      u = { s with freeCtr := u.freeCtr,
                   fire := { f with prev := f.obs, obs := g.obs, b := g.b, acmd := g.acmd, e := g.e, init := false } } ∧
      g.obs.tick = s.cue.time.toNat ∧
      (f.init = true → holdsIn 48 (y * 2 ^ 8) g.obs.p ∧ g.obs.v = 0 ∧ g.b = 0) ∧
      (f.init = false → holdsIn 48 ((pp + gain R.FIRE_OBSL1_GAIN * e) * 2 ^ 8) g.obs.p ∧
        holdsIn 32 ((vp + gain R.FIRE_OBSL2_GAIN * e / 100) * 2 ^ 24) g.obs.v ∧
        holdsIn 32 (f.b + gain R.FIRE_OBSL3_GAIN * e / 100 ^ 2 * 10 ^ 9 * 2 ^ 22) g.b) ∧
      (let runs := s.slotType slot = 2 ∧ s.slotTs slot ≠ 0
       (runs → holdsIn 32 (((s.slot slot).ac : Rat) / 2 ^ 24 / (s.slotTs slot * 5 / 2 / 10 ^ 9) ^ 2 * scale / 10 ^ 9 * 2 ^ 22) g.acmd) ∧
       (¬ runs → g.acmd = 0)) ∧
      holdsIn 32 ((g.acmd + g.b : Int) : Rat) g.obs.a ∧
      (∃ m : Int, e * 2 ^ 8 - 1 < m ∧ m < e * 2 ^ 8 + 1 ∧ g.e = clampS 32 m) ∧
      (let lim : Rat := s.getF R.FIRE_INNOVLIM_LIM
       let fault := (s.getF R.FIRE_INNOVLIM_LIM ≠ 0 ∧ (lim < e ∨ lim < -e)) ∨ enc.faultOut = true
       (fault → ∃ r : State, u.onlyFields r [R.FIRE_STAT_OBSFLT] ∧ r.getF R.FIRE_STAT_OBSFLT = 1 ∧
         t = (r.irqPulseIf R.FIRE_CTRL_OBSIRQ baseFIRE).publish Src.fireObsFlt) ∧
       (¬ fault → t = u)) ∧
      (t.fireSwath = none → v = t) ∧
      (∀ w d, t.fireSwath = some (w, d) →
        let ok := t.velocityHolds d
        let flt := t.getF R.FIRE_STAT_OBSFLT ≠ 0
        let fast : Rat := s.getF R.FIRE_MAXRATE_RATE * (s.getF R.FIRE_PITCH_PITCH / 2 ^ 14) / 10 ^ 9
        let mayArm := t.fire.arm = none ∧ t.fire.blocked = false ∧ ¬ flt ∧ t.sys.dev = .run .printing ∧ t.getF R.FIRE_STAT_GRANT ≠ 0
        (t.getF R.FIRE_STAT_SW = 2 → ok ∧ ¬ flt → v = t) ∧
        (t.getF R.FIRE_STAT_SW = 2 → ¬ (ok ∧ ¬ flt) → ∃ r : State,
          { t with fire := { t.fire with until_ := t.fire.obs.tick + 60, blocked := false, arm := none } }.onlyFields r
            [R.FIRE_STAT_SW, R.FIRE_STAT_STALL, R.FIRE_STAT_OVERSPEED] ∧
          r.getF R.FIRE_STAT_SW = 3 ∧ r.getF R.FIRE_STAT_STALL = 1 ∧
          (fast < d.dir * t.fire.obs.v / 2 ^ 24 → r.getF R.FIRE_STAT_OVERSPEED = 1) ∧
          (¬ fast < d.dir * t.fire.obs.v / 2 ^ 24 → r.getF R.FIRE_STAT_OVERSPEED = t.getF R.FIRE_STAT_OVERSPEED) ∧
          v = (r.irqPulseIf R.FIRE_CTRL_STALLIRQ baseFIRE).publish Src.fireStall) ∧
        (t.getF R.FIRE_STAT_SW ≠ 2 → ¬ ok → v = { t with fire := { t.fire with blocked := false } }) ∧
        (t.getF R.FIRE_STAT_SW ≠ 2 → ok → mayArm → v = { t with fire := { t.fire with arm := some t.fire.obs } }) ∧
        (t.getF R.FIRE_STAT_SW ≠ 2 → ok → ¬ mayArm → v = t)))) ∧
   (∀ (o : Obs) (xr : Int) (g vel : Nat),
      let tf : Rat := if vel = 0 then 0 else g * 100 / vel
      let v : Rat := o.v / 2 ^ 24
      let a : Rat := o.a / 2 ^ 22 / 10 ^ 9
      let dd : Rat := xr / 2 ^ 8 - o.p / 2 ^ 8 - v * tf
      let w := v + a * tf
      let t0 := dd / w
      let t1 := t0 - a / 2 * t0 * t0 / (w + a * t0)
      let t2 := t1 - (a / 2 * t1 * t1 + w * t1 - dd) / (w + a * t1)
      w ≠ 0 → w + a * t0 ≠ 0 → w + a * t1 ≠ 0 →
        ∃ r : Frac, 0 < r.den ∧ (r.num : Rat) / r.den = w + a * t2 ∧
          ejection o xr g vel = some (((o.tick + t2) * 16 + 1 / 2).floor, r))

/-- ARMING_CHECK_COMPLETE, FIRE_REFRESH and SCAN_ROUND (R252, R254, R256, R257, R258, R262). -/
def Obligations.ScanRoundsAndArming : Prop :=
  (∀ s : State, (s.fire.arm = none ∨ s.fireSwath = none → exec .armingCheckComplete s = .next s.settle) ∧
    (s.cueRuns = false → exec .fireRefresh s = .next s.settle)) ∧
  (∀ (s : State) o w d, s.fire.arm = some o → s.fireSwath = some (w, d) →
    let passes := ∀ k ∈ d.ctxs, w.at k < d.n → ∃ t, s.fireTs o d k (w.at k) = some t ∧
      16 * ((o.tick + s.getF R.DROP_CFG_NCTX + 64 + 1200 : Nat) : Int) ≤ t
    let left := ∃ k ∈ d.ctxs, w.at k < d.n
    let ended := fun b : Bool => { s with fire := { s.fire with arm := none, until_ := 0, blocked := b } }
    (¬ passes → ∃ r : State, (ended true).onlyFields r [R.FIRE_STAT_OVERSHOT] ∧ r.getF R.FIRE_STAT_OVERSHOT = 1 ∧
      exec .armingCheckComplete s = .next (State.settle ((r.irqPulseIf R.FIRE_CTRL_OVSIRQ baseFIRE).publish Src.fireOvershot))) ∧
    (passes → left → ∃ r : State, (ended false).onlyFields r [R.FIRE_STAT_SW] ∧ r.getF R.FIRE_STAT_SW = 2 ∧
      exec .armingCheckComplete s = .next (State.settle ((r.irqPulseIf R.FIRE_CTRL_ARMIRQ baseFIRE).publish Src.fireArmed))) ∧
    (passes → ¬ left → ∃ u : State, exec .armingCheckComplete s = .next u.settle ∧ u.getF R.FIRE_STAT_SW = 0 ∧
      u.fire = { s.fire with swath := none, arm := none, blocked := false, until_ := 0 })) ∧
  (∀ s : State, s.cueRuns = true → ∃ u : State, exec .fireRefresh s = .next u.settle ∧
    { s with fire := { s.fire with flight := u.fire.flight } }.onlyFields u [R.FIRE_STAT_GAPCLAMP, R.FIRE_STAT_NOVEL] ∧
    let inUse := fun k => k < s.getF R.DROP_CFG_NCTX
    let gap := fun k => s.getS R.FIRE_GAP_GAP + 100 * s.getS (R.FIRE_GRP_GOFS (s.getF (R.FIRE_CTXB_GRP k)))
    let lvl := fun k => s.getF (R.FIRE_CTXB_REFLVL k)
    let table := fun k => fieldOf (s.getReg (R.DROP_CTXB k)) (8 * s.fire.setNo + 7) (8 * s.fire.setNo)
    let vel := fun k => s.getF (R.DROP_DT_VEL (table k) (lvl k))
    (s.fire.setNo < 4 → ∀ k, inUse k → mget (0, 0) u.fire.flight k =
      ((max 0 (min 20000000 (gap k))).toNat, if lvl k = 0 then 0 else vel k)) ∧
    (u.getF R.FIRE_STAT_GAPCLAMP = 1 ↔ s.getF R.FIRE_STAT_GAPCLAMP = 1 ∨ ∃ k, inUse k ∧ (gap k < 0 ∨ 20000000 < gap k)) ∧
    (s.fire.setNo < 4 →
      (u.getF R.FIRE_STAT_NOVEL = 1 ↔ s.getF R.FIRE_STAT_NOVEL = 1 ∨ ∃ k, inUse k ∧ lvl k ≠ 0 ∧ vel k = 0))) ∧
  (∀ s : State, ∃ y z u v : State, exec .scanRound s = .next v.settle ∧
    let now := s.cue.time.toNat
    let n := y.getF R.DROP_CFG_NCTX
    let begun := { y with fire := { y.fire with round := some (now, 0) } }
    (s.fire.round = none → y = s) ∧
    (∀ t0 k0, s.fire.round = some (t0, k0) → y = s.scanVisits (t0 + s.getF R.DROP_CFG_NCTX)) ∧
    (n = 0 → z = begun) ∧ (n ≠ 0 → begun.visited z 0 now) ∧
    u = { z with fire := { z.fire with round := if n ≤ 1 then none else some (now, 1) } } ∧ u.issuingEnds v) ∧
  (∀ (s : State) (t0 k : Nat), s.fire.round = some (t0, k) → k < s.getF R.DROP_CFG_NCTX → ∃ z u : State,
    s.visited z k (t0 + k) ∧
    u = { z with fire := { z.fire with round := if s.getF R.DROP_CFG_NCTX ≤ k + 1 then none else some (t0, k + 1) } } ∧
    u.issuingEnds (s.scanVisits (t0 + k)))

/-- JET_CTRL_EN, JET_TLOAD, CAPS, ECHO, STAT, the training timeout and the loss of lock (R272, R274, R278, R284, R285, R286). -/
def Obligations.JetLinkStates : Prop :=
  ∀ (port : Fin 32) (s : State),
    let p := port.val
    let link := s.jlink p
    (link ≠ 3 → s.jetLeave p = s) ∧
    (link = 3 → let u := s.jetLeave p
      let x := s.jport p
      let l := x.lane0.cols ++ x.lane1.cols ++ x.queue
      u.jlink p = 0 ∧ u.inService p = false ∧ u.getF (R.JET_STAT_JOINPEND p) = 0 ∧ (u.getReg R.JET_INSVC).getLsbD p = false ∧
      u.jport p = { x with queue := [], downNs := s.cue.time.toNat, lane0 := { x.lane0 with cols := [], out := [] },
                           lane1 := { x.lane1 with cols := [], out := [] } } ∧
      (∀ q, q ≠ p → u.jport q = s.jport q) ∧
      u.getF (R.JET_ERRCNT_LOST p) = min (s.getF (R.JET_ERRCNT_LOST p) + l.length) 255 ∧
      u.getF (R.JET_STAT_LOST p) = if l = [] then s.getF (R.JET_STAT_LOST p) else 1) ∧
    (∀ (w : Writer) (v : Word),
      (s.mayWrite w (R.JET_CTRL p) = false →
        exec (.jetCtrlEn w port v) s = .next (s.turnedAway w (R.JET_CTRL p)) ∧
        exec (.jetTload w port) s = .next (s.turnedAway w (R.JET_CTRL p))) ∧
      (s.mayWrite w (R.JET_CTRL p) = true →
        (∃ u : State, exec (.jetTload w port) s = .next u.settle ∧
          (link = 3 ∧ s.drop.q = [] → ∃ t : State, s.onlyFields t [] ∧ t.portLoads u p) ∧
          (¬ (link = 3 ∧ s.drop.q = []) → s.onlyFields u [R.JET_STAT_CFGREF p] ∧ u.getF (R.JET_STAT_CFGREF p) = 1)) ∧
        (∃ t u : State, exec (.jetCtrlEn w port v) s = .next u.settle ∧
          let l := [R.JET_CTRL_LATEIRQ p, R.JET_CTRL_ERRIRQ p, R.JET_CTRL_UPIRQ p, R.JET_CTRL_WAVE p, R.JET_CTRL_EN p]
          let was := s.getF (R.JET_CTRL_EN p) = 1
          let on := v.getLsbD 0 = true
          let load := v.getLsbD 5 = true
          let may := s.sys.dev = .places ∨ s.inRun = true
          (load → ¬ (link = 3 ∧ s.drop.q = []) → s.onlyFields u [R.JET_STAT_CFGREF p] ∧ u.getF (R.JET_STAT_CFGREF p) = 1) ∧
          ((load → link = 3 ∧ s.drop.q = []) → s.onlyFields t l ∧ (∀ f ∈ l, t.getF f = fieldOf v f.hi f.lo) ∧
            (was → ¬ on → t.portOff u p) ∧
            (¬ (was ∧ ¬ on) → load → t.portLoads u p) ∧
            (¬ (was ∧ ¬ on) → ¬ load → (¬ was ∧ on ∧ link = 0 ∧ may → t.portTrains u p) ∧
              (¬ (¬ was ∧ on ∧ link = 0 ∧ may) → u = t)))))) ∧
    (∀ (caps : BitVec 56), ∃ u : State, exec (.jetCapsReceived port caps) s = .next u.settle ∧
      (link = 0 ∨ link = 4 → u = s) ∧
      (link ≠ 0 → link ≠ 4 → ∃ t : State,
        s.onlyFields t [R.JET_CAPS_LEVEL p, R.JET_CAPS_MAXCTX p, R.JET_CAPS_TBRD p] ∧
        t.getF (R.JET_CAPS_LEVEL p) = (caps.extractLsb' 48 8).toNat ∧ t.getF (R.JET_CAPS_MAXCTX p) = (caps.extractLsb' 40 8).toNat ∧
        t.getF (R.JET_CAPS_TBRD p) = (caps.extractLsb' 24 16).toNat ∧
        (link ≠ 1 → u = t) ∧
        (link = 1 → let level := (caps.extractLsb' 48 8).toNat
          (level ≤ s.ifLevel + 1 ∧ s.ifLevel ≤ level + 1 →
            ∃ r : State, t.onlyPort r p { t.jport p with caps := true } [] ∧ r.portTrained u p) ∧
          (¬ (level ≤ s.ifLevel + 1 ∧ s.ifLevel ≤ level + 1) → t.portFails u p 1)))) ∧
    (∀ rtt : Nat, ∃ u : State, exec (.jetEchoReceived port rtt) s = .next u.settle ∧
      (link = 1 → (s.jport p).echos < 64 → ∃ t : State,
        s.onlyPort t p { s.jport p with echos := (s.jport p).echos + 1, rtt := (s.jport p).rtt + rtt } [] ∧ t.portTrained u p) ∧
      (link ≠ 1 ∨ 64 ≤ (s.jport p).echos → u = s)) ∧
    (∃ u : State, exec (.jetTrainTimeout port) s = .next u.settle ∧ (link = 1 → s.portFails u p 2) ∧ (link ≠ 1 → u = s)) ∧
    (∃ u : State, exec (.jetLockLoss port) s = .next u.settle ∧
      (link ∈ [1, 2, 3] → ∃ t : State, s.onlyFields t [R.JET_STAT_LOCKLOSS p, R.JET_ERRCNT_SYNC p] ∧
        t.getF (R.JET_STAT_LOCKLOSS p) = 1 ∧ t.getF (R.JET_ERRCNT_SYNC p) = 255 ∧ t.portFails u p 3) ∧
      (link ∉ [1, 2, 3] → u = s)) ∧
    (∀ stat : BitVec 56, ∃ u : State, exec (.jetStatReceived port stat) s = .next u.settle ∧
      (link = 0 ∨ link = 4 → u = s) ∧
      (link ≠ 0 → link ≠ 4 → ∃ t : State,
        s.onlyFields t [R.JET_BSTAT_TEMP p, R.JET_BSTAT_FCODE p, R.JET_BSTAT_LATEFIRE p, R.JET_BSTAT_FAULT p, R.JET_BSTAT_READY p,
          R.JET_BSTAT_VALID p, R.JET_FIRED_CNT p] ∧
        (∀ e ∈ [(R.JET_BSTAT_TEMP p, 40, 8), (R.JET_BSTAT_FCODE p, 32, 8), (R.JET_BSTAT_LATEFIRE p, 51, 1),
            (R.JET_BSTAT_FAULT p, 54, 1), (R.JET_BSTAT_READY p, 55, 1), (R.JET_FIRED_CNT p, 0, 32)],
          t.getF e.1 = (stat.extractLsb' e.2.1 e.2.2).toNat) ∧ t.getF (R.JET_BSTAT_VALID p) = 1 ∧
        (let x := s.jport p
         let sf := x.lane0.sf
         let err := stat.getLsbD 53 = true ∨ stat.getLsbD 52 = true
         let bad := (if stat.getLsbD 53 then x.lane0.prevSf else []) ++ (if stat.getLsbD 52 then x.lane1.prevSf else [])
         let fails := if x.fails ≠ 0 ∧ x.failSf = sf then x.fails else if x.fails ≠ 0 ∧ x.failSf + 1 = sf then x.fails + 1 else 1
         let fourth := err ∧ link = 3 ∧ 4 ≤ fails
         let up := link = 2 ∧ stat.getLsbD 55 = true ∧ x.load = [] ∧ x.lane0.out = [] ∧ x.lane1.out = []
         ∃ a b c d : State,
           (¬ err → c = t) ∧
           (err → t.onlyFields a [R.JET_STAT_CRCERR p, R.JET_ERRCNT_CRCERR p] ∧ a.getF (R.JET_STAT_CRCERR p) = 1 ∧
             a.getF (R.JET_ERRCNT_CRCERR p) = min (s.getF (R.JET_ERRCNT_CRCERR p) + 1) 255 ∧
             b = bad.foldl (fun y j => y.defect j 3) ((a.irqPulseIf (R.JET_CTRL_ERRIRQ p) baseJET).publish (Src.jetLinkErr p)) ∧
             b.onlyPort c p { x with fails := fails, failSf := sf } []) ∧
           (fourth → c.portFails d p 5) ∧ (¬ fourth → d = c) ∧
           (link = 1 ∨ fourth → u = d) ∧
           (link ≠ 1 → ¬ fourth → stat.getLsbD 54 = true → ∃ r : State, d.onlyFields r [R.JET_STAT_BFAULT p] ∧
             r.getF (R.JET_STAT_BFAULT p) = 1 ∧ r.portFails u p 4) ∧
           (link ≠ 1 → ¬ fourth → stat.getLsbD 54 = false →
             (up → ∃ y e : State, d.onlyFields y [R.JET_STAT_LINK p] ∧ y.jlink p = 3 ∧
               e = (y.irqPulseIf (R.JET_CTRL_UPIRQ p) baseJET).publish (Src.jetUp p) ∧
               e.onlyFields u [R.JET_STAT_INSVC p, R.JET_STAT_JOINPEND p, ⟨R.JET_INSVC, p, p⟩] ∧
               (s.getF R.FIRE_STAT_SW = 0 → u.inService p = true ∧ u.getF (R.JET_STAT_JOINPEND p) = 0 ∧
                 (u.getReg R.JET_INSVC).getLsbD p = true) ∧
               (s.getF R.FIRE_STAT_SW ≠ 0 → u.inService p = e.inService p ∧ u.getF (R.JET_STAT_JOINPEND p) = 1 ∧
                 (u.getReg R.JET_INSVC).getLsbD p = (e.getReg R.JET_INSVC).getLsbD p)) ∧
             (¬ up → u = d)))))

/-- JET_BLOCK_SLOT: MARK, wave slots, frames and strobes, the bits of a block (R273, R274, R275, R276, R277, R281). -/
def Obligations.JetBlockSlots : Prop :=
  (∀ (y : JetLane) (b : Blk),
    let z := y.send b
    let sent := fun k i : Nat => if k ≤ i then z.bits.testBit (2 + (i - k)) else y.scr.testBit (k - 1 - i)
    z = { y with last := some b, scr := z.scr, bits := z.bits } ∧ z.bits < 2 ^ 66 ∧
      z.bits.testBit 0 = !b.ctl ∧ z.bits.testBit 1 = b.ctl ∧
      (∀ i < 64, z.bits.testBit (2 + i) = ((b.payload.getLsbD i != sent 39 i) != sent 58 i)) ∧
      ∀ i < 58, z.scr.testBit i = z.bits.testBit (65 - i)) ∧
  ∀ (port : Fin 32) (ln : Fin 2) (s : State),
    let p := port.val
    let link := s.jlink p
    let x := s.jport p
    let y := x.lane ln
    let cmd := Instr.jetBlockSlot port ln
    (link = 0 ∨ link = 4 → exec cmd s = .next s.settle) ∧
    (link ≠ 0 → link ≠ 4 → y.slot = 0 → ∃ u : State, exec cmd s = .next u.settle ∧
      let crc := y.crc ^^^ 0xFFFFFFFF
      let mark : Blk := ⟨true, BitVec.ofNat 64 ((y.sf % 2 ^ 24 * 2 ^ 32 + crc) * 256 + 0x2D)⟩
      let z : JetLane := { y.send mark with slot := 1, crc := 0xFFFFFFFF, prevCrc := crc, prevSf := y.inSf,
                                            inSf := (y.cols.map (·.jsn)).eraseDups }
      s.onlyPort u p (x.setLane ln z) []) ∧
    (link ≠ 0 → link ≠ 4 → y.slot ≠ 0 → x.wave = true → ∀ j < 64, 249 * j / 64 + 1 = y.slot →
      ∃ (u : State) (b : BitVec 64), exec cmd s = .next u.settle ∧
        u.jport p = x.setLane ln { y.send ⟨false, b⟩ with slot := (y.slot + 1) % 250 } ∧
        (∀ q, q ≠ p → u.jport q = s.jport q) ∧
        (s.getF (R.JET_WLEN_LEN p) = 0 ∨ link = 1 → b = 0 ∧ u = { s with jet := u.jet }) ∧
        (s.getF (R.JET_WLEN_LEN p) ≠ 0 → link ≠ 1 →
          ∀ t r, s.memRead (8 * s.getF (R.JET_WBASE_ADDR p) +
              8 * (((y.sf + 2) * 128 + 2 * j + ln.val) % s.getF (R.JET_WLEN_LEN p))) 8 = (t, r) →
            u = { t with jet := u.jet, freeCtr := u.freeCtr } ∧ ∀ l, r = .ok l → u.freeCtr = t.freeCtr ∧ b = BitVec.ofNat 64 (natLE l))) ∧
    (link ≠ 0 → link ≠ 4 → y.slot ≠ 0 → (x.wave = true → ∀ j < 64, 249 * j / 64 + 1 ≠ y.slot) →
      ∃ t u v : State, exec cmd s = .next v.settle ∧
        -- the frame in progress or the one that starts
        (y.out ≠ [] → t = s) ∧
        (y.out = [] → ∀ f r, x.load = f :: r → 
          let frame := f.map fun b => if b = ctlBlk 0x33 0 then ctlBlk 0x33 (y.sf % 2 ^ 56) else b
          s.onlyPort t p { (x.setLane ln { y with out := frame }) with load := r } []) ∧
        (y.out = [] → x.load = [] → x.queue = [] → t = s) ∧
        (y.out = [] → x.load = [] → ∀ h r, x.queue = h :: r → y.swath ≠ some h.uid → ∀ w d, s.dropSw h.uid = some w →
          w.desc = some d → 
          let frame := [ctlBlk 0x55 (d.b0a / 2 % 4 * 2 ^ 54 + d.b0a % 2 * 2 ^ 53 + d.swath * 2 ^ 37)]
          s.onlyPort t p (x.setLane ln { y with swath := some h.uid, out := frame }) []) ∧
        (y.out = [] → x.load = [] → ∀ h r, x.queue = h :: r → y.swath = some h.uid → (x.lane (1 - ln)).swath ≠ some h.uid → t = s) ∧
        (y.out = [] → x.load = [] → ∀ h r, x.queue = h :: r → y.swath = some h.uid → (x.lane (1 - ln)).swath = some h.uid →
          t = { s with jet := t.jet, regs := t.regs, cores := t.cores, call := t.call, mem := t.mem, ecc := t.ecc, pmcQueue := t.pmcQueue } ∧ ∃ c ∈ x.queue, ∃ d : Option JetCol,
          let first := fun (c : JetCol) (l : List JetCol) => c ∈ l ∧ c.uid = h.uid ∧
            ∀ e ∈ l, e.uid = h.uid → c.ts < e.ts ∨ (c.ts = e.ts ∧ c.ctx ≤ e.ctx)
          let rest := x.queue.filter fun e => e != c
          first c x.queue ∧ (∀ e, d = some e → first e rest) ∧ (d = none → ∀ e ∈ rest, e.uid ≠ h.uid) ∧
          (t.jport p).queue = rest.filter (fun e => some e != d) ∧ ((t.jport p).lane ln).cols = c :: d.toList ∧
          ((t.jport p).lane ln).out = fireFrame (s.getF (R.JET_MAP_BASE p)) c d) ∧
        -- its next block
        (let z := (t.jport p).lane ln
         let b := z.out.headD (ctlBlk 0x1E 0)
         let crc := crc32c z.crc (bytesLE 8 b.payload.toNat)
         let sf := if y.slot = 249 then y.sf + 1 else z.sf
         let cols := if z.out.length ≤ 1 then [] else z.cols
         let o : JetLane := { z.send b with slot := (y.slot + 1) % 250, out := z.out.tail, crc := crc, sf := sf, cols := cols }
         t.onlyPort u p ((t.jport p).setLane ln o) [] ∧
         (1 < z.out.length → v = u) ∧
         (z.out.length ≤ 1 → z.cols = [] → s.sys.emitting = false → v = u) ∧
         v = { u with regs := v.regs, cores := v.cores, call := v.call, drop := v.drop, jrnl := v.jrnl, nozzles := v.nozzles,
                      mem := v.mem, ecc := v.ecc, pmcQueue := v.pmcQueue,
                      sys := { u.sys with faultDue := v.sys.faultDue, emitting := v.sys.emitting } } ∧
         (z.out.length ≤ 1 → ∀ c ∈ z.cols, ∃ j n, mfind v.jrnl.cap c.ctx = some (j, n) ∧
           (j = c.jsn → c.col + 1 ≤ n) ∧ (j ≠ c.jsn → jsnAfter j c.jsn = true ∨ ∃ e ∈ z.cols, e.jsn = j))))

/-- SENSOR_FRAME, CORRELATION_RESULT, MTRK_RESULT, MTRK_PAIR_TIMEOUT, FSYNC_PULSE, MTRK_PRESET and MTRK_CAPTURE (R291, R292, R293, R295, R296, R297). -/
def Obligations.MediaTracking : Prop :=
  (∀ (w : Writer) (s : State),
    (s.mayWrite w R.MTRK_CTRL = false → exec (.mtrkPreset w) s = .next (s.turnedAway w R.MTRK_CTRL)) ∧
    (s.mayWrite w R.MTRK_CTRL = true →
      let last := s.mtrk.last
      let set := sext 48 (s.getF R.MTRK_SETL_SET + 2 ^ 32 * s.getF R.MTRK_SETH_SET)
      (¬ (last.valid = true ∧ last.clk = s.clk) → ∃ u : State, exec (.mtrkPreset w) s = .next u.settle ∧
        { s with mtrk := { s.mtrk with preset := true } }.onlyFields u []) ∧
      (last.valid = true → last.clk = s.clk → ∃ u : State, exec (.mtrkPreset w) s = .next u.settle ∧
        { s with mtrk := { s.mtrk with offset := set - last.raw, last := { last with y := set } } }.onlyFields u
          [R.MTRK_POSL_POS, R.MTRK_POSH_POS] ∧
        u.getF R.MTRK_POSL_POS = wrap 32 set ∧ u.getF R.MTRK_POSH_POS = wrap 48 set / 2 ^ 32)) ∧
    (∀ (port : Fin 2) (v : Word),
      (s.mayWrite w (R.MTRK_CAP port) = false →
        exec (.mtrkCapture w port v) s = .next (s.turnedAway w (R.MTRK_CAP port))) ∧
      (s.mayWrite w (R.MTRK_CAP port) = true → ∃ u : State, exec (.mtrkCapture w port v) s = .next u.settle ∧
        s.onlyTracker u port { s.mtrkPort port with capture := true } [R.MTRK_CAP_ADDR port, R.MTRK_CAP_DONE port] ∧
        u.getF (R.MTRK_CAP_ADDR port) = fieldOf v 19 0 ∧ u.getF (R.MTRK_CAP_DONE port) = 0))) ∧
  (∀ (port : Fin 2) (s : State), s.regsWf →
    let p := port.val
    let x := s.mtrkPort p
    let now := s.cue.time.toNat
    (∀ (vc : BitVec 2) (pixels : List Byte) (ok : Bool) (crc ecc : Nat),
      let cmd := Instr.sensorFrame port vc pixels ok crc ecc
      let early := ∃ t, x.lastFe = some t ∧ now < t + 25000
      let fmt := ok = false ∨ pixels.length ≠ 4096 ∨ early
      let bad := fmt ∨ crc ≠ 0 ∨ ecc ≠ 0
      let texp := now - s.getF (R.MTRK_PCFG_EXPOFS p)
      let swap := s.getF (R.MTRK_PCFG_SWAPXY p) ≠ 0
      let flip := fun (f : Fld) (c : Nat) => if s.getF f ≠ 0 then 63 - c else c
      let discards := fun (u v : State) => u.getF (R.MTRK_ERR_CRC p) = min (s.getF (R.MTRK_ERR_CRC p) + crc) 255 ∧
        u.getF (R.MTRK_ERR_ECC p) = min (s.getF (R.MTRK_ERR_ECC p) + ecc) 255 ∧
        (fmt → u.getF (R.MTRK_ERR_FMT p) = min (s.getF (R.MTRK_ERR_FMT p) + 1) 255) ∧
        (¬ fmt → u.getF (R.MTRK_ERR_FMT p) = s.getF (R.MTRK_ERR_FMT p)) ∧
        u.getF R.MTRK_STAT_FRERR = 1 ∧ v = u.irqPulseIf R.MTRK_CTRL_ERRIRQ baseMTRK
      let counts := [R.MTRK_ERR_CRC p, R.MTRK_ERR_ECC p, R.MTRK_ERR_FMT p, R.MTRK_STAT_FRERR]
      (s.mtrkRuns p = false ∨ vc.toNat ≠ s.getF (R.MTRK_PCFG_VC p) → exec cmd s = .next s.settle) ∧
      (s.mtrkRuns p = true → vc.toNat = s.getF (R.MTRK_PCFG_VC p) →
        (x.skip = true → s.getF R.MTRK_CFG_MODE = 2 → ∃ u v : State, exec cmd s = .next v.settle ∧ s.onlyFields u counts ∧ discards u v) ∧
        (¬ (x.skip = true ∧ s.getF R.MTRK_CFG_MODE = 2) → bad → ∃ u v : State, exec cmd s = .next v.settle ∧
          s.onlyTracker u p { x with pend := x.pend ++ [(none, texp)] } counts ∧ discards u v) ∧
        (¬ (x.skip = true ∧ s.getF R.MTRK_CFG_MODE = 2) → ¬ bad → ∃ (u v : State) (f : List Byte), exec cmd s = .next v.settle ∧ f.length = 4096 ∧
          (∀ b y, b < 64 → y < 64 → f.getD (64 * y + b) 0 =
            let c := flip (R.MTRK_PCFG_FLIPX p) b
            let r := flip (R.MTRK_PCFG_FLIPY p) y
            pixels.getD (if swap then 64 * c + r else 64 * r + c) 0) ∧
          u.onlyTracker v p { x with pend := x.pend ++ [(some f, texp)], lastFe := some now, capture := false } [] ∧
          (x.capture = false → u = s) ∧
          (x.capture = true → ∃ t : State, t = (s.memWrite (.block .control) (4096 * s.getF (R.MTRK_CAP_ADDR p)) pixels).1 ∧
            t.onlyFields u [R.MTRK_CAP_DONE p] ∧ u.getF (R.MTRK_CAP_DONE p) = 1)))) ∧
    (let cmd := Instr.correlationResult port
     (x.pend = [] → exec cmd s = .next s.settle) ∧
     (∀ texp rest, x.pend = (none, texp) :: rest → ∃ a b v : State, exec cmd s = .next v.settle ∧
       s.onlyTracker a p { x with pend := rest } [] ∧ a.trackerMisses b p ∧ b.trackerDone v p false texp) ∧
     (∀ f texp rest, x.pend = (some f, texp) :: rest → ∃ (a : State) (tex : Nat), tex ≤ 255 ∧
       s.onlyTracker a p { x with pend := rest } [R.MTRK_PSTAT_TEX p] ∧ a.getF (R.MTRK_PSTAT_TEX p) = tex ∧
       (x.ref = none → ∃ b v : State, exec cmd s = .next v.settle ∧
         (s.getF R.MTRK_TRK_TEXMIN ≤ tex →
           let lostBit := if p = 0 then R.MTRK_STAT_LOST0 else R.MTRK_STAT_LOST1
           let y : MtrkPort := { x with pend := rest, ref := some f, refY := x.y, refX := x.x, dy := 0, dx := 0, ddy := 0, ddx := 0, drY := 0, drNm := 0, drOver := false, miss := 0, aux := s.auxPos }
           a.onlyTracker b p y (lostBit :: shownOf p) ∧ b.getF lostBit = 0 ∧ b.trackerShown p ∧ b.trackerDone v p true texp) ∧
         (tex < s.getF R.MTRK_TRK_TEXMIN → a.trackerMisses b p ∧ b.trackerDone v p false texp)) ∧
       (∀ r, x.ref = some r → ∃ (b c v : State) (conf edge : Nat) (dy dx : Int), exec cmd s = .next v.settle ∧
         let py := if x.miss = 0 then x.dy + x.ddy else x.dy + x.drY
         let px := if x.miss = 0 then x.dx + x.ddx else x.dx
         let near := fun z : Int => -13 * 128 ≤ z ∧ z ≤ 13 * 128
         let good := s.getF R.MTRK_TRK_CONFMIN ≤ conf ∧ s.getF R.MTRK_TRK_TEXMIN ≤ tex ∧ edge = 0 ∧ near py ∧ near px
         let rekey : Int := 128 * s.getF R.MTRK_TRK_REKEY
         let far := rekey ≤ dy ∨ dy ≤ -rekey ∨ rekey ≤ dx ∨ dx ≤ -rekey
         let y := movedTo { x with pend := rest } dy dx s.auxPos
         conf ≤ 255 ∧ edge ≤ 1 ∧
         a.onlyTracker b p { x with pend := rest } [R.MTRK_PSTAT_CONF p, R.MTRK_PSTAT_EDGE p] ∧
         b.getF (R.MTRK_PSTAT_CONF p) = conf ∧ b.getF (R.MTRK_PSTAT_EDGE p) = edge ∧
         (good → c.trackerShown p ∧ c.trackerDone v p true texp ∧ (c.mtrkPort p).y = x.refY + dy ∧ (c.mtrkPort p).x = x.refX + dx ∧
           (x.handOver = none → ¬ far → b.onlyTracker c p y (R.MTRK_RATIO_RATIO :: shownOf p)) ∧
           (x.handOver = none → far → b.onlyTracker c p
             { y with handOver := some ⟨f, [dy], [dx], s.getF R.MTRK_TRK_HOVER, 0, 0⟩ } (R.MTRK_RATIO_RATIO :: shownOf p)) ∧
           (∀ h, x.handOver = some h → 1 < h.left → ∃ h', h'.left = h.left - 1 ∧ h'.frame = h.frame ∧
             (h'.offY = h.offY ∨ ∃ o, h'.offY = o :: h.offY) ∧
             b.onlyTracker c p { y with handOver := some h' } (R.MTRK_RATIO_RATIO :: shownOf p)) ∧
           (∀ h, x.handOver = some h → h.left ≤ 1 → (c.mtrkPort p).handOver = none ∧ (c.mtrkPort p).ref = some h.frame)) ∧
         (¬ good → b.trackerMisses c p ∧ c.trackerDone v p false texp)))) ∧
    (let cmd := Instr.mtrkPairTimeout port
     let begun := fun q : Nat => match (s.mtrkPort q).res with
       | some r => some r.2
       | none => (s.mtrkPort q).pend.head?.map (·.2)
     let misses := fun texp : Nat => s.getF R.MTRK_CFG_MODE = 2 ∧ s.mtrkRuns p = true ∧ begun p = none ∧ begun (1 - p) = some texp
     ((∀ texp, ¬ misses texp) → exec cmd s = .next s.settle) ∧
     (∀ texp, misses texp → ∃ a b v : State, exec cmd s = .next v.settle ∧ s.onlyTracker a p { x with skip := true } [] ∧
       a.trackerMisses b p ∧ b.trackerDone v p false texp))) ∧
  (∀ s : State,
    let due := s.cueRuns = true ∧ s.sys.dev ≠ .wings ∧ s.getF R.MTRK_CTRL_FSYNCEN ≠ 0 ∧
      s.cue.count.toNat % s.getF R.MTRK_CFG_FDIV = 0
    (¬ due → exec .fsyncPulse s = .next s.settle) ∧
    (due → ∃ u : State, exec .fsyncPulse s = .next u.settle ∧
      u = { s with mtrk := { s.mtrk with ports := u.mtrk.ports, fsyncLeft := 45 } } ∧
      ∀ q, u.mtrkPort q = if q < 2 then { s.mtrkPort q with skip := false } else s.mtrkPort q) ∧
    (s.mtrk.due = false → exec .mtrkResult s = .next s.settle) ∧
    (s.mtrk.due = true → ∃ (u : State) (raw texp : Int), exec .mtrkResult s = .next (State.settle (u.publish Src.mtrkResult)) ∧
      let y := fun q : Nat => (s.getF (R.MTRK_SCALE_SCALE q) : Rat) / 2 ^ 16 * (s.mtrkPort q).y
      let pair := s.getF R.MTRK_CFG_MODE = 2
      let g := fun q : Nat => (s.mtrkPort q).res.getD (false, 0)
      let base : Rat := s.getF R.MTRK_BASELINE_NM
      let both := pair ∧ (g 0).1 = true ∧ (g 1).1 = true
      let θ : Rat := u.mtrk.theta / 2 ^ 16 / 10 ^ 6
      let one := pair ∧ (g 0).1 ≠ (g 1).1
      let q := s.getF R.MTRK_CFG_MODE
      let pos : Rat := if ¬ pair then y q else if ¬ one then (y 0 + y 1) / 2
        else if (g 0).1 = true then y 0 + θ * base / 2 else y 1 - θ * base / 2
      let t : Rat := if ¬ pair then (g q).2 else if ¬ one then ((g 0).2 + (g 1).2) / 2
        else if (g 0).1 = true then (g 0).2 else (g 1).2
      let set := sext 48 (s.getF R.MTRK_SETL_SET + 2 ^ 32 * s.getF R.MTRK_SETH_SET)
      let off := if s.mtrk.preset then set - raw else s.mtrk.offset
      let pc := count48 (off + raw)
      let dr := pair ∧ (g 0).1 = false ∧ (g 1).1 = false
      rounds (pos * 2 ^ 8) raw ∧ rounds t texp ∧
      (both → s.getF R.MTRK_BASELINE_NM ≠ 0 →
        ∃ m, rounds ((y 1 - y 0) / base * 10 ^ 6 * 2 ^ 16) m ∧ u.mtrk.theta = clampS 32 m) ∧
      (¬ (both ∧ s.getF R.MTRK_BASELINE_NM ≠ 0) → u.mtrk.theta = s.mtrk.theta) ∧
      { s with mtrk := u.mtrk, freeCtr := u.freeCtr }.onlyFields u [R.MTRK_POSL_POS, R.MTRK_POSH_POS, R.MTRK_SKEW_THETA,
        R.MTRK_TEXP_TIME, R.MTRK_STAT_SINGLE, R.MTRK_STAT_DR] ∧
      u.mtrk = { s.mtrk with ports := u.mtrk.ports, offset := off, theta := u.mtrk.theta, preset := false, due := false, prev := s.mtrk.last,
                             last := ⟨true, pc, raw, texp.toNat, decide one, decide dr, s.clk⟩ } ∧
      (∀ q, u.mtrkPort q = if q < 2 then { s.mtrkPort q with res := none } else s.mtrkPort q) ∧
      u.getF R.MTRK_POSL_POS = wrap 32 pc ∧ u.getF R.MTRK_POSH_POS = wrap 48 pc / 2 ^ 32 ∧
      u.getF R.MTRK_SKEW_THETA = wrap 32 u.mtrk.theta ∧ u.getF R.MTRK_TEXP_TIME = texp.toNat % 2 ^ 32 ∧
      u.getF R.MTRK_STAT_SINGLE = (decide one).toNat ∧ u.getF R.MTRK_STAT_DR = (decide dr).toNat))

/-- SLOT_SAMPLE, SLOT_UPDATE, LOOP_PARAM_WRITE, REHEARSAL_GO and REHEARSAL_STOP; the PI law (R312, R313, R314, R315, R317, R319). -/
def Obligations.LoopEngine : Prop :=
  (∀ (w : Writer) (k : Fin 64) (j : Fin 37) (v : Word) (s : State),
    let cmd := Instr.loopParamWrite w k j v
    let a := R.LOOP_SP k j
    let refused := (∃ h x, w = .core h x ∧ h.val < 4 ∧ h.val ≠ s.getF (R.LOOP_SCFG_OWNER k)) ∨
      (j.val = 33 ∧ ¬ (selOk (fieldOf v 31 16) = true ∧ fieldOf v 15 4 = 0 ∧ fieldOf v 3 0 < 3))
    let direct := s.bootOrPlaces = true ∧ w.isHouse = true
    let x := s.slot k
    let only := fun (u : State) (st : SMap Word) => u.loop = { s.loop with slots := u.loop.slots } ∧
      u.slot k = { x with staged := st } ∧ ∀ n, n ≠ k.val → u.slot n = s.slot n
    (s.mayWrite w a = false → exec cmd s = .next (s.turnedAway w a)) ∧
    (s.mayWrite w a = true → ∃ u : State, exec cmd s = .next u.settle ∧
      (refused → s.onlyFields u [R.LOOP_STAT_CFGREF] ∧ u.getF R.LOOP_STAT_CFGREF = 1) ∧
      (¬ refused → direct → { s with loop := u.loop }.onlyFields u [⟨a, 31, 0⟩, R.LOOP_SSTAT_STAGED k] ∧ u.getReg a = v ∧
        only u (merase x.staged j) ∧
        u.getF (R.LOOP_SSTAT_STAGED k) = if merase x.staged j = [] then 0 else s.getF (R.LOOP_SSTAT_STAGED k)) ∧
      (¬ refused → ¬ direct → { s with loop := u.loop }.onlyFields u [R.LOOP_SSTAT_STAGED k] ∧
        u.getF (R.LOOP_SSTAT_STAGED k) = 1 ∧ only u (mset x.staged j v)))) ∧
  (∀ (w : Writer) (s : State),
    let a := R.LOOP_RHCTRL
    let busy := s.getF R.LOOP_RHSTAT_BUSY ≠ 0
    (s.mayWrite w a = false → exec (.rehearsalStop w) s = .next (s.turnedAway w a) ∧
      ∀ v, exec (.rehearsalGo w v) s = .next (s.turnedAway w a)) ∧
    (s.mayWrite w a = true →
      (s.getF R.LOOP_RHCTRL_WAVE ≠ 3 → ∃ u : State, exec (.rehearsalStop w) s = .next u.settle ∧
        (busy → { s with loop := { s.loop with rh := { s.loop.rh with stop := true } } }.onlyFields u []) ∧ (¬ busy → s.onlyFields u [])) ∧
      (∀ v : Word, v.getLsbD 30 = false → ∃ u : State, exec (.rehearsalGo w v) s = .next u.settle ∧
        (fieldOf v 13 12 = 3 → s.onlyFields u [R.LOOP_STAT_CFGREF] ∧ u.getF R.LOOP_STAT_CFGREF = 1) ∧
        (fieldOf v 13 12 ≠ 3 →
          let l := [R.LOOP_RHCTRL_POINT, R.LOOP_RHCTRL_WAVE, R.LOOP_RHCTRL_SLOT]
          let goes := s.sys.dev = .run .idle ∧ ¬ busy ∧ s.slotRuns (fieldOf v 5 0) = true
          (∀ f ∈ l, u.getF f = fieldOf v f.hi f.lo) ∧
          (¬ goes → s.onlyFields u (R.LOOP_STAT_CFGREF :: l) ∧ u.getF R.LOOP_STAT_CFGREF = 1) ∧
          (goes → { s with loop := u.loop, freeCtr := u.freeCtr }.onlyFields u ([R.LOOP_RHSTAT_BUSY, R.LOOP_RHSTAT_DONE,
              R.LOOP_RHSTAT_ABORT, R.LOOP_RHSTAT_COUNT] ++ l) ∧
            u.getF R.LOOP_RHSTAT_BUSY = 1 ∧ u.getF R.LOOP_RHSTAT_DONE = 0 ∧ u.getF R.LOOP_RHSTAT_ABORT = 0 ∧
            u.getF R.LOOP_RHSTAT_COUNT = 0 ∧
            ∃ q, 1 ≤ q ∧ q < 32768 ∧ u.loop = { s.loop with rh :=
              { waiting := true, lfsr := q, slot := u.getF R.LOOP_RHCTRL_SLOT, point := u.getF R.LOOP_RHCTRL_POINT,
                wave := u.getF R.LOOP_RHCTRL_WAVE } }))))) ∧
  (∀ (slot : Fin 64) (s : State),
    let k := slot.val
    let x := s.slot k
    let runs := (s.inRun = true ∨ s.sys.dev = .curtain) ∧ s.paused = false ∧ s.getF (R.LOOP_SCFG_EN k) ≠ 0 ∧ x.stopped = false ∧
      s.slotHeld k = false
    let sub := max 1 (s.getF R.LOOP_CTRL_SUB)
    let cycle := s.cue.count.toNat * sub + min (s.cue.phase / max 1 (s.getF R.CUE_PERIOD_PERIOD / sub)) (sub - 1)
    let due := runs ∧ cycle % 2 ^ s.getF (R.LOOP_SCFG_DIV k) = s.getF (R.LOOP_SCFG_DOFS k)
    (∃ u : State, exec (.slotSample slot) s = .next u.settle ∧ (¬ due → u = s) ∧
      (due → u = { s with loop := { s.loop with slots := u.loop.slots }, regs := u.regs, afe := u.afe, enc := u.enc, freeCtr := u.freeCtr } ∧
        (∀ n, n ≠ k → u.slot n = s.slot n) ∧ ∃ l b, l.length = 5 ∧
        u.slot k = { x with raw := l, inFault := b, sampleNs := s.cue.time.toNat, mtrk := s.mtrkSample, sampled := true } ∧
        (∀ i < 5, ∀ n, (s.slotSelectors k).getD i 0 = 0x6000 + n → n < 64 → l.getD i 0 = (let y := s.slot n
          if y.stopped then 0 else if y.outClk < s.clk then y.u else y.uPrev)))) ∧
    (∃ u : State, exec (.slotUpdate slot) s = .next u.settle ∧
      (x.sampled = false ∨ ¬ runs → u = { s with loop := { s.loop with slots := u.loop.slots } } ∧
        u.slot k = { x with sampled := false } ∧ ∀ n, n ≠ k → u.slot n = s.slot n) ∧
      (x.sampled = true → runs → ∃ o : Int,
        let y := u.slot k
        let t := s.slotType k
        let grant := fun (v : Int) => if t = 0 ∨ t = 1 ∨ t = 5 then (v * s.slotGrant k + 2 ^ 14) / 2 ^ 15 else v
        let hi := grant (s.getReg (R.LOOP_SP k 14)).toInt
        let lo := grant (s.getReg (R.LOOP_SP k 15)).toInt
        let rehearsed := s.loop.rh.slot = k ∧ (s.loop.rh.armed = true ∨ s.loop.rh.running = true)
        u = { s with regs := u.regs, cores := u.cores, call := u.call, pwm := u.pwm, loop := u.loop, mem := u.mem, ecc := u.ecc, freeCtr := u.freeCtr,
                     pmcQueue := u.pmcQueue, afe := { s.afe with ramps := u.afe.ramps } } ∧
        (∀ n, n ≠ k → u.slot n = s.slot n) ∧ u.loop.curtain = s.loop.curtain ∧
        y.sampled = false ∧ y.fresh = false ∧ y.outClk = s.clk ∧ y.fbPrev = x.fb ∧ y.raw = x.raw ∧ y.sampleNs = x.sampleNs ∧
        (¬ rehearsed → t ≠ 4 → lo ≤ o ∧ o ≤ max lo hi) ∧ (¬ rehearsed → t = 4 → 0 ≤ o ∧ o ≤ 2 ^ 30) ∧
        u.getF (R.LOOP_SOUTV_U k) = wrap 32 o ∧
        (y.stopped = false → y.u = o ∧ y.uPrev = x.u ∧ u.getF (R.LOOP_SSTAT_RUN k) = 1) ∧
        (y.stopped = true → y.u = 0 ∧ u.getF (R.LOOP_SSTAT_RUN k) = 0 ∧ u.getF (R.LOOP_SSTAT_FAULT k) = 1 ∧
          s.getF (R.LOOP_SCFG_FACT k) ≠ 0) ∧
        u.getF (R.LOOP_SSTAT_GRANTLIM k) = if s.slotGrant k < 0x8000 then 1 else 0))) ∧
  (∀ (i : RunIn) (x : LoopSlot) (c : Bool), i.point = 4 → i.named 2 = false →
    let prod := fun (a b : Int) (sh w : Nat) => clampS w ((a * b + 2 ^ (sh - 1)) / 2 ^ sh)
    let e := clampS 32 (i.r - i.x 0)
    let v := clampS 32 (((prod (i.p 2) e 24 32 + prod (i.p 4) (i.x 1) 24 32) * 2 ^ 16 + x.i1 + 2 ^ 15) / 2 ^ 16)
    let held := (i.hi < v ∧ 0 < e) ∨ (v < i.lo ∧ e < 0)
    let i1 := if held then x.i1 else max (i.lo * 2 ^ 16) (min (x.i1 + prod (i.p 3) e 8 48) (i.hi * 2 ^ 16))
    let o := (Id.run ((lawPi i false x).run c)).1
    o.u = max i.lo (min v i.hi) ∧ o.e = e ∧ o.slot = { x with i1 := i1 })

/-- The PWM commands: load-all, enable, disable, lock, trips and their clearing, period starts, load points, peak-current reset (R343, R347, R349, R350, R351, R353). -/
def Obligations.PwmUnits : Prop :=
  (∀ (w : Writer) (s : State),
    let frozen := s.getF R.PWM_GSTAT_FROZEN ≠ 0
    let waits := fun (i : Instr) (a : Nat) => ∃ v : Word, exec i s =
      .next (State.settle { s with pwm := { s.pwm with deferred := s.pwm.deferred ++ [(a, some v)] } })
    let turned := fun (i : Instr) (a : Nat) =>
      s.mayWrite w a = false → exec i s = .next (s.turnedAway w a)
    (∀ (high : Bool) (v : Word),
      let cmd := Instr.pwmLdall w high v
      let a := if high then R.PWM_LDALLH else R.PWM_LDALL
      let begins := fun g : Nat => s.getF (ldallBit g) = 0 ∧
        if high then 32 ≤ g ∧ g < 48 ∧ v.getLsbD (g - 32) = true else g < 32 ∧ v.getLsbD g = true
      turned cmd a ∧ (s.mayWrite w a = true → (frozen → waits cmd a) ∧
        (¬ frozen → ∃ u : State, exec cmd s = .next u.settle ∧
          { s with pwm := { s.pwm with units := u.pwm.units } }.onlyFields u [R.PWM_LDALL_LDALL, R.PWM_LDALLH_LDALL] ∧
          (∀ n, u.pwmUnit n = if n < 48 ∧ begins (s.getF (R.PWM_CFG_GRP n)) ∧ s.getF (R.PWM_CTRL_EN n) ≠ 0
            then { s.pwmUnit n with load := true, loadNs := s.pwmNow } else s.pwmUnit n) ∧
          ∀ g < 48, u.getF (ldallBit g) = if begins g then
            (if (List.range 48).any (fun n => s.getF (R.PWM_CFG_GRP n) == g && s.getF (R.PWM_CTRL_EN n) != 0) then 1 else 0) else s.getF (ldallBit g)))) ∧
    (∀ unit : Fin 48,
      let n := unit.val
      let on := s.getF (R.PWM_CTRL_EN n) ≠ 0
      let was := s.getF (R.PWM_STAT_TRIPPED n)
      turned (.pwmEnable w unit) (R.PWM_CTRL n) ∧ turned (.pwmDisable w unit) (R.PWM_CTRL n) ∧
      turned (.pwmTripClear w unit) (R.PWM_STAT n) ∧
      (s.mayWrite w (R.PWM_CTRL n) = true →
        (frozen → waits (.pwmEnable w unit) (R.PWM_CTRL n)) ∧
        (¬ frozen → ∃ u : State, exec (.pwmEnable w unit) s = .next u.settle ∧
          (s.sys.dev = .curtain → s.onlyFields u [R.PWM_STAT_CFGREF n] ∧ u.getF (R.PWM_STAT_CFGREF n) = 1) ∧
          (s.sys.dev ≠ .curtain → on → s.onlyFields u []) ∧
          (s.sys.dev ≠ .curtain → ¬ on → s.onlyFields u [R.PWM_CTRL_EN n, R.PWM_STAT_JOINPEND n] ∧
            u.getF (R.PWM_CTRL_EN n) = 1 ∧ u.getF (R.PWM_STAT_JOINPEND n) = 1)) ∧
        (∃ u : State, exec (.pwmDisable w unit) s = .next u.settle ∧ (¬ on → s.onlyFields u []) ∧
          (on → let grp := s.getF (R.PWM_CFG_GRP n)
            { s with pwm := { s.pwm with units := u.pwm.units },
                     afe := { s.afe with ramps := s.afe.ramps.filter fun r => s.getF (R.AFE_RAMP_SRCUNIT r.1) != n } }.onlyFields u
              [R.PWM_CTRL_EN n, R.PWM_STAT_JOINPEND n, R.PWM_STAT_RUN n, R.PWM_STAT_PARKED n, R.PWM_STAT_MINP n,
               R.PWM_DROPCNT_OUTH n, R.PWM_DROPCNT_OUTL n, ldallBit grp] ∧
            u.getF (R.PWM_CTRL_EN n) = 0 ∧ u.getF (R.PWM_STAT_JOINPEND n) = 0 ∧ u.getF (R.PWM_STAT_RUN n) = 0 ∧
            u.getF (R.PWM_STAT_PARKED n) = 1 ∧ s.loadAllSettled u grp ∧ (∀ m, m ≠ n → u.pwmUnit m = s.pwmUnit m) ∧
            u.pwmUnit n = { s.pwmUnit n with load := false, syncWait := false, returnWait := false, nextPeriod := none, plan := {},
                                             parkNs := s.cue.time.toNat }))) ∧
      (s.mayWrite w (R.PWM_STAT n) = true →
        (frozen → waits (.pwmTripClear w unit) (R.PWM_STAT n)) ∧
        (¬ frozen → ∃ u : State, exec (.pwmTripClear w unit) s = .next u.settle ∧ s.onlyFields u [R.PWM_STAT_TRIPPED n] ∧
          u.getF (R.PWM_STAT_TRIPPED n) =
            if s.tripCur n = true ∨ s.stoodAt (R.PWM_STAT n) (R.PWM_STAT_TRIPPED n).lo = false then was else 0))) ∧
    turned (.pwmLock w) R.PWM_LOCK ∧
    (s.mayWrite w R.PWM_LOCK = true → (frozen → waits (.pwmLock w) R.PWM_LOCK) ∧
      (¬ frozen → ∃ u : State, exec (.pwmLock w) s = .next u.settle ∧ s.onlyFields u [R.PWM_LOCK_LOCK] ∧
        u.getF R.PWM_LOCK_LOCK = 1))) ∧
  (∀ (k : Fin 72) (active : Bool) (s : State), s.regsWf →
    let cmd := Instr.tripInput k active
    (24 ≤ k.val → ∃ v : State, exec cmd s = .next v.settle ∧
      s.comparatorAt v (k.val - 24) (active && decide (s.getF (R.AFE_CMPCFG_EN (k.val - 24)) ≠ 0))) ∧
    (k.val < 24 → ∃ t v : State, exec cmd s = .next v.settle ∧
      let low := active = true ∧ s.getF (R.GPIO_PCFG_FSEL 4 k) = 2 ∧ s.gpio.parked.contains (128 + k.val) = false
      t = { s with pwm := { s.pwm with lands := t.pwm.lands } } ∧
      (∀ j < 24, t.pwm.lands.getLsbD j = if j = k.val then decide low else s.pwm.lands.getLsbD j) ∧
      (low ∧ s.pwm.lands.getLsbD k = false → t.trippedBy v k) ∧ (¬ (low ∧ s.pwm.lands.getLsbD k = false) → v = t))) ∧
  (∀ (unit : Fin 48) (s : State),
    let n := unit.val
    let x := s.pwmUnit n
    let now := s.cue.time.toNat
    let goes := s.getF (R.PWM_STAT_RUN n) ≠ 0 ∧ s.getF R.PWM_GSTAT_FROZEN = 0
    let ldpt := s.getF (R.PWM_CFG_LDPT n)
    let grp := s.getF (R.PWM_CFG_GRP n)
    let mode := s.getF (R.PWM_CFG_MODE n)
    let counts := [R.PWM_STAT_MINP n, R.PWM_DROPCNT_OUTH n, R.PWM_DROPCNT_OUTL n]
    let here := s.pwmHere n
    let follows := fun m : Nat => m < 48 ∧ m ≠ n ∧ s.getF (R.PWM_CFG_SYNC m) ≠ 0 ∧ s.getF (R.PWM_CFG_SYNCUNIT m) = n ∧
      ((s.pwmUnit m).syncWait = true ∨ s.getF (R.PWM_STAT_RUN m) ≠ 0)
    (∃ u : State, exec (.pwmPeriodStart unit) s = .next u.settle ∧
      (¬ goes → u = s) ∧
      (goes → ∀ m, follows m → (u.pwmUnit m).startNs = (now : Int) - s.getF (R.PWM_PHASE_PHASE m) ∧ u.getF (R.PWM_STAT_RUN m) = 1) ∧
      (goes → (∀ m, ¬ follows m) →
        let loads := x.load = true ∧ ldpt ≠ 2 ∧ x.loadNs < now
        let tripped := s.getF (R.PWM_STAT_TRIPPED n) ≠ 0 ∧ (s.getF (R.PWM_CFG_TRIPMODE n) = 0 ∨ s.tripCur n = true)
        let y := u.pwmUnit n
        let p := 16 * u.getF (R.PWM_PERIOD_ACTIVE n)
        let cmp := u.getF (R.PWM_ACTCMP_CMP n)
        let dth := s.getF (R.PWM_DT_DTH n)
        let dtl := s.getF (R.PWM_DT_DTL n)
        let minp := s.getF (R.PWM_MINP_MINP n)
        let a := if mode = 1 then (p - cmp) / 2 else 0
        let inside := 0 < cmp ∧ cmp < p ∧ cmp ≠ 0xFFFFF
        { s with pwm := { s.pwm with units := u.pwm.units }, afe := { s.afe with ramps := u.afe.ramps } }.onlyFields u
          (R.PWM_PERIOD_ACTIVE n :: R.PWM_ACTCMP_CMP n :: ldallBit grp :: R.PWM_STAT_TRIPPED n :: R.PWM_STAT_PARKED n ::
            R.PWM_STAT_CMPCLAMP n :: counts) ∧
        (∀ m, m ≠ n → u.pwmUnit m = s.pwmUnit m) ∧
        (∀ r, mfind u.afe.ramps r = if r < 24 ∧ s.getF (R.AFE_RAMP_SRCUNIT r) = n then some (now + 24) else mfind s.afe.ramps r) ∧
        u.getF (R.PWM_PERIOD_ACTIVE n) = (if loads then s.getF (R.PWM_PERIOD_PERIOD n)
          else x.nextPeriod.getD (s.getF (R.PWM_PERIOD_ACTIVE n)) % 65536) ∧
        cmp = (if loads then s.getF (R.PWM_CMPA_CMP n) else s.getF (R.PWM_ACTCMP_CMP n)) ∧
        y = { x with actB := if loads then s.getF (R.PWM_CMPB_CMP n) else x.actB, load := x.load && !decide loads,
                     nextPeriod := none, startNs := now, returnWait := x.returnWait && decide tripped, plan := y.plan } ∧
        (u.getF (R.PWM_STAT_TRIPPED n) ≠ 0 ↔ tripped) ∧
        u.getF (R.PWM_STAT_PARKED n) = (if x.returnWait = true ∧ ¬ tripped then 0 else s.getF (R.PWM_STAT_PARKED n)) ∧
        (p ≤ cmp → cmp ≠ 0 → cmp ≠ 0xFFFFF → u.getF (R.PWM_STAT_CMPCLAMP n) = 1) ∧
        (cmp = 0 → y.plan.outH = none) ∧
        (s.getF (R.PWM_CFG_OUTM n) = 0 → inside → dth + minp ≤ cmp → dth < cmp → dtl + minp ≤ p - cmp → dtl < p - cmp →
          y.plan.outH = some (a + dth, a + cmp) ∧ y.plan.outL = some (a + cmp + dtl, p + a)) ∧
        (s.getF (R.PWM_CFG_OUTM n) ≠ 0 → inside → minp ≤ cmp → y.plan.outH = some (a, a + cmp)))) ∧
    (∃ u : State, exec (.pwmLoadTransfer unit) s = .next u.settle ∧
      let acts := goes ∧ x.load = true ∧ ((ldpt = 2 ∧ x.loadNs + 2 ≤ now) ∨ (ldpt = 1 ∧ mode ≠ 0 ∧ x.loadNs < now))
      (¬ acts → u = s) ∧
      (acts → let y := u.pwmUnit n
        let old := x.plan
        { s with pwm := { s.pwm with units := u.pwm.units } }.onlyFields u
          (R.PWM_ACTCMP_CMP n :: ldallBit grp :: R.PWM_STAT_CMPCLAMP n :: counts) ∧
        s.loadAllSettled u grp ∧ (∀ m, m ≠ n → u.pwmUnit m = s.pwmUnit m) ∧
        u.getF (R.PWM_ACTCMP_CMP n) = s.getF (R.PWM_CMPA_CMP n) ∧
        y = { x with actB := s.getF (R.PWM_CMPB_CMP n), load := false, nextPeriod := some (s.getF (R.PWM_PERIOD_PERIOD n)),
                     plan := y.plan } ∧
        (old.a ≤ here → old.b ≤ here → y.plan.outH = old.outH) ∧
        (old.a ≤ here → here < old.b → ∀ c e, y.plan.outH = some (c, e) → here ≤ e ∧ ∃ e', old.outH = some (c, e')))) ∧
    (∀ steps : Nat, ∃ u : State, exec (.peakCurrentReset unit steps) s = .next u.settle ∧
      let dtl := s.getF (R.PWM_DT_DTL n)
      let minp := s.getF (R.PWM_MINP_MINP n)
      let blank := max (16 * s.getF (R.PWM_PCM_LEB n)) minp
      let rest := 16 * s.getF (R.PWM_PERIOD_ACTIVE n) - steps
      let acts := fun a b : Nat => x.plan.outH = some (a, b) ∧ mode = 2 ∧ goes ∧ a + blank ≤ steps ∧ steps < b
      ((∀ a b, ¬ acts a b) → u = s) ∧
      (∀ a b, acts a b → { s with pwm := { s.pwm with units := u.pwm.units } }.onlyFields u counts ∧
        (∀ m, m ≠ n → u.pwmUnit m = s.pwmUnit m) ∧
        ∃ p, u.pwmUnit n = { x with plan := p } ∧ p.outH = (if a < steps then some (a, steps) else none) ∧
          (s.getF (R.PWM_CFG_OUTM n) ≠ 0 → p.outL = x.plan.outL) ∧
          (s.getF (R.PWM_CFG_OUTM n) = 0 → dtl + minp ≤ rest → dtl < rest → p.outL = some (steps + dtl, steps + rest)) ∧
          (s.getF (R.PWM_CFG_OUTM n) = 0 → rest < dtl + minp → p.outL = none ∧ u.getF (R.PWM_STAT_MINP n) = 1))))

/-- ADC conversions and triggers, delta-sigma outputs and clock loss, comparators and their DACs, mains crossings (R368, R369, R370, R371, R372, R373). -/
def Obligations.AnalogueFrontEnd : Prop :=
  (∀ (g : Fin 6) (s : State),
    (∀ codes : List Int,
      let convs := (s.adcGroup g).convs
      let slots := (convs.head?.map (·.2)).getD []
      let negative := fun i : Nat => (s.getF (R.AFE_GCFG_UNI g)).testBit i = true ∧ codes.getD i 0 < 0
      let code := fun i : Nat => if negative i then 0 else clampS 16 (codes.getD i 0)
      let clipped := fun i : Nat => ¬ negative i ∧ code i ≠ codes.getD i 0
      let inGroup := fun c : Nat => 4 * g.val ≤ c ∧ c < 4 * g.val + 4
      let ch := fun j : Nat => s.getF (R.ENC_SPCFG_CH (4 + j))
      let sampled := fun j : Nat => j < 4 ∧ inGroup (ch j) ∧ s.getF (R.ENC_SPCFG_EN (4 + j)) ≠ 0 ∧
        ∃ k ∈ slots, 0x5004 + j ∈ s.slotSelectors k
      (convs = [] → ¬ s.claims g → exec (.adcResult g codes) s = .next s.settle) ∧
      (convs ≠ [] ∨ s.claims g → ∃ u : State, exec (.adcResult g codes) s = .next u.settle ∧
        { s with afe := { s.afe with groups := u.afe.groups, slotRes := u.afe.slotRes }, enc := { s.enc with spval := u.enc.spval } }.onlyFields u
          (R.AFE_OVR_CH :: R.AFE_STAT_OVR :: ((List.range 4).flatMap fun i => [R.AFE_ADCRES_VAL (4 * g + i), R.AFE_ADCRES_CNT (4 * g + i), R.ENC_SPCNTL_VAL (4 + i)])) ∧
        (∀ h, u.adcGroup h = if h = g.val then { s.adcGroup h with convs := convs.tail } else s.adcGroup h) ∧
        (∀ i < 4, u.getF (R.AFE_ADCRES_VAL (4 * g + i)) = wrap 16 (code i) ∧
          u.getF (R.AFE_ADCRES_CNT (4 * g + i)) = (s.getF (R.AFE_ADCRES_CNT (4 * g + i)) + 1) % 65536) ∧
        (∀ c < 24, (u.getF R.AFE_OVR_CH).testBit c = true ↔
          (s.getF R.AFE_OVR_CH).testBit c = true ∨ (inGroup c ∧ clipped (c - 4 * g))) ∧
        ((∃ i < 4, clipped i) → u.getF R.AFE_STAT_OVR = 1) ∧ ((∀ i < 4, ¬ clipped i) → u.getF R.AFE_STAT_OVR = s.getF R.AFE_STAT_OVR) ∧
        (∀ m, mget 0 u.afe.slotRes m =
          if m / 32 ∈ slots ∧ inGroup (m % 32) then code (m % 32 - 4 * g) else mget 0 s.afe.slotRes m) ∧
        (∀ j, sampled j → u.setpoint (4 + j) = s.deadbanded (4 + j) (code (ch j - 4 * g)) ∧
          u.getF (R.ENC_SPCNTL_VAL (4 + j)) = wrap 16 (u.setpoint (4 + j))) ∧
        ∀ k, (∀ j, k = 4 + j → ¬ sampled j) → u.setpoint k = s.setpoint k ∧
          (k < 8 → u.getF (R.ENC_SPCNTL_VAL k) = s.getF (R.ENC_SPCNTL_VAL k)))) ∧
    (let x := s.adcGroup g
     let becomes := fun (u : State) (y : AdcGroup) => u = { s with regs := u.regs, afe := { s.afe with groups := u.afe.groups } } ∧
       ∀ h, u.adcGroup h = if h = g.val then y else s.adcGroup h
     let sub := max 1 (s.getF R.LOOP_CTRL_SUB)
     let sampledSoon := ∃ k < 64, g.val ∈ s.slotGroups k ∧ s.slotRuns k = true ∧ ∃ j ≤ sub,
       let instant := j * (s.getF R.CUE_PERIOD_PERIOD / sub) + s.getF (R.LOOP_SPHASE_PHASE k)
       s.cue.phase < instant ∧ instant ≤ s.cue.phase + 80 ∧
         (s.cue.count.toNat * sub + j) % 2 ^ s.getF (R.LOOP_SCFG_DIV k) = s.getF (R.LOOP_SCFG_DOFS k)
     let free := s.converts ∧ x.freeAt ≤ s.clk ∧ ¬ sampledSoon
     (x.waiting = none ∨ ¬ free → exec (.adcTriggerStart g) s = .next s.settle) ∧
     (x.waiting ≠ none → free → ∃ u : State, exec (.adcTriggerStart g) s = .next u.settle ∧
       becomes u { waiting := none, convs := x.convs ++ [(s.clk, [])], freeAt := s.clk + 80 } ∧ u.regs = s.regs) ∧
     let late := ∃ t, x.waiting = some t ∧ t + 800 ≤ s.clk
     (¬ late → exec (.adcTriggerDrop g) s = .next s.settle) ∧
     (late → ∃ t u : State, exec (.adcTriggerDrop g) s = .next u.settle ∧
       becomes t { x with waiting := none } ∧ t.regs = s.regs ∧ t.onlyFields u [R.AFE_STAT_TRIGLOST] ∧ u.getF R.AFE_STAT_TRIGLOST = 1))) ∧
  (∀ (w : Writer) (v : Word) (s : State),
    (s.mayWrite w R.AFE_GTRIG = false → exec (.afeGtrig w v) s = .next (s.turnedAway w R.AFE_GTRIG)) ∧
    (s.mayWrite w R.AFE_GTRIG = true → ∃ u : State, exec (.afeGtrig w v) s = .next u.settle ∧
      (¬ s.converts → s.onlyFields u [R.AFE_STAT_CFGREF] ∧ u.getF R.AFE_STAT_CFGREF = 1) ∧
      (s.converts → u = { s with afe := { s.afe with groups := u.afe.groups } } ∧
        ∀ g, (g < 6 ∧ v.getLsbD g = true ∧ ¬ s.claims g ∧ (s.adcGroup g).waiting = none →
            u.adcGroup g = { s.adcGroup g with waiting := some s.clk }) ∧
          (¬ (g < 6 ∧ v.getLsbD g = true ∧ ¬ s.claims g ∧ (s.adcGroup g).waiting = none) → u.adcGroup g = s.adcGroup g)))) ∧
  (∀ (ch : Fin 16) (s : State),
    let d := ch.val
    let x := s.dsFilter d
    let loses := s.getF (R.AFE_DSRES_LOSS d) ≠ 0
    let on := s.getF (R.AFE_DSCFG_EN d) ≠ 0
    let osr := s.getF (R.AFE_DSCFG_OSR d)
    let order := s.getF (R.AFE_DSCFG_ORDER d)
    let becomes := fun (u : State) (y : DsFilter) => u = { s with regs := u.regs, afe := { s.afe with ds := u.afe.ds } } ∧
      ∀ e, u.dsFilter e = if e = d then y else s.dsFilter e
    (∀ bits : Nat,
      let bit := fun i : Nat => decide (s.getF (R.GPIO_PCFG_FSEL 6 (2 * d)) = 5) && !s.gpio.parked.contains (192 + 2 * d) && bits.testBit i
      let ones := ((List.range osr).filter bit).length
      let (sum, y) := ((List.range osr).foldl (fun z i => z.push (bit i)) x).comb order
      let clocked := s.getF (R.AFE_DSCFG_CLKSRC d) = 0 ∨ s.carries 6 (2 * d + 1) 5 = true
      (¬ on ∨ loses ∨ ¬ clocked → exec (.deltaSigmaOutput ch bits) s = .next s.settle) ∧
      (clocked → on → ¬ loses → 0 < x.flush → ∃ u : State, exec (.deltaSigmaOutput ch bits) s = .next u.settle ∧
        becomes u { y with flush := x.flush - 1 } ∧ u.regs = s.regs) ∧
      (clocked → on → ¬ loses → x.flush = 0 → 0 < osr → ∃ t u v : State, exec (.deltaSigmaOutput ch bits) s = .next v.settle ∧
        becomes t { y with outClk := s.clk, prev := s.getS (R.AFE_DSRES_VAL d) } ∧ t.regs = s.regs ∧
        t.onlyFields u [R.AFE_DSRES_VAL d, R.AFE_DSRES_CNT d] ∧
        u.getF (R.AFE_DSRES_CNT d) = (s.getF (R.AFE_DSRES_CNT d) + 1) % 32768 ∧
        (let level := fun n : Nat => clampS 16 (Rat.floor ((2 * (n : Rat) / (osr : Rat) ^ order - 1) * 32768 + (1 / 2 : Rat)))
         u.getF (R.AFE_DSRES_VAL d) = wrap 16 (level sum) ∧
         (order = 1 → x.c1 = x.i1 → x.i1 < 2 ^ 32 → u.getF (R.AFE_DSRES_VAL d) = wrap 16 (level ones))) ∧
        v = if s.getF R.PBS_CTRL_EN = 0 then u else u.pbsSample d (u.getS (R.AFE_DSRES_VAL d)))) ∧
    (¬ on → exec (.afeDsloss ch) s = .next s.settle) ∧
    (on → ∃ u : State, exec (.afeDsloss ch) s = .next (u.publish Src.afeDsLoss).settle ∧
      s.onlyFields u [R.AFE_DSRES_LOSS d, R.AFE_STAT_DSLOSS] ∧ u.getF (R.AFE_DSRES_LOSS d) = 1 ∧ u.getF R.AFE_STAT_DSLOSS = 1) ∧
    (¬ loses → exec (.deltaSigmaClockReturn ch) s = .next s.settle) ∧
    (loses → ∃ t u : State, exec (.deltaSigmaClockReturn ch) s = .next u.settle ∧
      becomes t { flush := order, outClk := x.outClk, prev := x.prev } ∧ t.regs = s.regs ∧
      t.onlyFields u [R.AFE_DSRES_LOSS d] ∧ u.getF (R.AFE_DSRES_LOSS d) = 0)) ∧
  (∀ (cmp : Fin 48) (s : State), s.regsWf →
    let c := cmp.val
    (∀ vp vn : Int,
      let p := (s.compared c vp vn).1
      let n := (s.compared c vp vn).2
      let level := s.getF (R.AFE_CMPCFG_EN c) ≠ 0 ∧ (if s.getF (R.AFE_CMPCFG_CHECK c) = 1 then p < n else n < p)
      ∃ v : State, exec (.comparatorEdge cmp vp vn) s = .next v.settle ∧ s.comparatorAt v c (decide level)) ∧
    (∀ (w : Writer) (v : Word),
      (s.mayWrite w (R.AFE_DAC c) = false → exec (.afeDacWrite w cmp v) s = .next (s.turnedAway w (R.AFE_DAC c))) ∧
      (s.mayWrite w (R.AFE_CMPCFG c) = false →
        exec (.afeCmpcfgWrite w cmp v) s = .next (s.turnedAway w (R.AFE_CMPCFG c))) ∧
      (s.mayWrite w (R.AFE_DAC c) = true → ∃ u : State, exec (.afeDacWrite w cmp v) s = .next u.settle ∧
        let driven := ∃ k < 64, s.getF (R.LOOP_SCFG_EN k) ≠ 0 ∧ s.getF (R.LOOP_SOUT_KIND k) = 4 ∧ s.getF (R.LOOP_SOUT_A k) = c
        (driven → s.onlyFields u [R.AFE_STAT_CFGREF] ∧ u.getF R.AFE_STAT_CFGREF = 1) ∧
        (¬ driven → s.onlyFields u [R.AFE_DAC_CODE c, R.AFE_DAC_ACTIVE c] ∧ u.getF (R.AFE_DAC_CODE c) = fieldOf v 11 0 ∧
          u.getF (R.AFE_DAC_ACTIVE c) = fieldOf v 11 0)) ∧
      (s.mayWrite w (R.AFE_CMPCFG c) = true → ∃ y : State, exec (.afeCmpcfgWrite w cmp v) s = .next y.settle ∧
        let refused := fieldOf v 29 28 = 3 ∨ fieldOf v 27 26 = 3 ∨ 24 ≤ fieldOf v 24 20
        (refused → s.onlyFields y [R.AFE_STAT_CFGREF] ∧ y.getF R.AFE_STAT_CFGREF = 1) ∧
        (¬ refused → ∃ (u x : State) (free : Bool),
          let written := [R.AFE_CMPCFG_EN c, R.AFE_CMPCFG_NSEL c, R.AFE_CMPCFG_CHECK c, R.AFE_CMPCFG_TIELVL c, R.AFE_CMPCFG_RAMPEN c, R.AFE_CMPCFG_RAMPSEL c]
          { s with freeCtr := u.freeCtr }.onlyFields u (R.AFE_STAT_CHKON :: written) ∧ (∀ f ∈ written, u.getF f = fieldOf v f.hi f.lo) ∧
          u.getF R.AFE_STAT_CHKON = ((List.range 48).any fun k => u.getF (R.AFE_CMPCFG_CHECK k) != 0).toNat ∧
          u.comparatorAt x c free ∧ (v.getLsbD 31 = true → y = x) ∧ (v.getLsbD 31 = false → x.comparatorAt y c false))))) ∧
  (∀ s : State,
    (s.sys.dev = .dark → exec .mainsCrossingTimeout s = .next s.settle ∧ exec .mainsHalfCycleMissing s = .next s.settle ∧
      ∀ rms half peak, exec (.mainsZeroCrossing rms half peak) s = .next s.settle) ∧
    (∀ (rms : BitVec 16) (half peak : Nat), s.sys.dev ≠ .dark →
      let halves := (half :: s.afe.halves).take 8
      let total : Nat := halves.foldl (· + ·) 0
      let good := if 2 * s.getF R.AFE_MAINS_PFTHR < peak then s.afe.good + 1 else 0
      ∃ u : State, exec (.mainsZeroCrossing rms half peak) s = .next (u.publish Src.afeMainsZc).settle ∧
        { s with freeCtr := u.freeCtr, afe := { s.afe with halves := halves, good := good } }.onlyFields u
          [R.AFE_MMEAS_RMS, R.AFE_MMEAS_FREQ, R.AFE_STAT_PFW, R.SYS_PWR_PFW] ∧
        u.getF R.AFE_MMEAS_RMS = rms.toNat ∧
        (0 < total → ∃ m : Int, rounds (halves.length / (2 * total / 10 ^ 9) * 100) m ∧ u.getF R.AFE_MMEAS_FREQ = min 65535 m.toNat) ∧
        u.getF R.AFE_STAT_PFW = (if 4 ≤ good then 0 else s.getF R.AFE_STAT_PFW) ∧
        u.getF R.SYS_PWR_PFW = (if 4 ≤ good then 0 else s.getF R.SYS_PWR_PFW)) ∧
    (s.sys.dev ≠ .dark → ∃ u : State, exec .mainsCrossingTimeout s = .next u.settle ∧
      { s with afe := { s.afe with halves := [] } }.onlyFields u [R.AFE_MMEAS_FREQ] ∧ u.getF R.AFE_MMEAS_FREQ = 0) ∧
    (s.sys.dev ≠ .dark → ∃ u : State, exec .mainsHalfCycleMissing s = .next u.settle ∧
      { s with afe := { s.afe with good := 0 }, bbx := { s.bbx with halves := s.bbx.halves + 1 } }.onlyFields u
        [R.AFE_STAT_PFW, R.AFE_STAT_PFSEEN, R.AFE_MAINS_MISS] ∧
      u.getF R.AFE_STAT_PFW = 1 ∧ u.getF R.AFE_STAT_PFSEEN = 1 ∧
      u.getF R.AFE_MAINS_MISS = min (s.getF R.AFE_MAINS_MISS + 1) 65535))

/-- ENCODER_TICK, QUADRATURE_EDGE, SINCOS_RESULT, SERIAL_FRAME_END, INDEX_EDGE, ENC_PRESET and SETPOINT_STEP (R385, R386, R387, R389, R390, R391). -/
def Obligations.Encoders : Prop :=
  (∀ s : State, ∃ u : State, exec .encoderTick s = .next u.settle ∧
    { s with enc := { s.enc with units := u.enc.units }, freeCtr := u.freeCtr }.onlyFields u
      ((List.range 8).flatMap fun i => [R.ENC_POSL_POS i, R.ENC_POSH_POS i, R.ENC_STAT_VALID i]) ∧
    (∀ i, 8 ≤ i → u.encUnit i = s.encUnit i) ∧
    ∀ i < 8,
      let x := s.encUnit i
      let y := u.encUnit i
      let shows := fun p : Int => u.getF (R.ENC_POSL_POS i) = (p % 2 ^ 32).toNat ∧ u.getF (R.ENC_POSH_POS i) = (p % 2 ^ 48).toNat / 2 ^ 32
      let stands := u.getF (R.ENC_STAT_VALID i) = s.getF (R.ENC_STAT_VALID i)
      let mode := s.getF (R.ENC_CFG_MODE i)
      (¬ s.counts i → y = { x with newOut := false, faultOut := false } ∧ stands ∧ u.getF (R.ENC_POSL_POS i) = s.getF (R.ENC_POSL_POS i) ∧
        u.getF (R.ENC_POSH_POS i) = s.getF (R.ENC_POSH_POS i)) ∧
      (s.counts i → mode ≤ 1 → ∃ p, s.standsAt i p ∧ y = x.delivered p true ∧ shows p ∧
        (mode = 1 ∧ x.seen = 0 → stands) ∧ (¬ (mode = 1 ∧ x.seen = 0) → u.getF (R.ENC_STAT_VALID i) = 1)) ∧
      (s.counts i → 1 < mode → ∃ (p : Int) (z : EncUnit), shows p ∧
        (x.frame = false → p = x.pos ∧ z = x.delivered p false ∧ stands) ∧
        (x.frame = true → z = { x with pos := p, frame := false }.delivered p true ∧ u.getF (R.ENC_STAT_VALID i) = 1 ∧
          (x.seen < 2 ∨ x.t1 ≤ x.t0 → p = in48 x.p1) ∧
          (2 ≤ x.seen → x.t0 < x.t1 → ∃ m, p = in48 (x.p1 + m) ∧
            rounds ((x.p1 - x.p0 : Int) * (((s.cue.time.toNat : Int) - x.t1 : Int) : Rat) / ((x.t1 - x.t0 : Int) : Rat)) m)) ∧
        (x.toFrame + 1 < s.getF (R.ENC_SCFG_FDIV i) → y = { z with toFrame := x.toFrame + 1 }) ∧
        (s.getF (R.ENC_SCFG_FDIV i) ≤ x.toFrame + 1 → ∃ d, 5 ≤ d ∧ d ≤ 10 ∧
          y = { z with toFrame := 0, latchNs := s.cue.time.toNat + d }))) ∧
  (∀ (n : Fin 8) (s : State),
    let i := n.val
    let x := s.encUnit i
    let mode := s.getF (R.ENC_CFG_MODE i)
    let now := s.cue.time.toNat
    let inv := s.getF (R.ENC_CFG_DIRINV i)
    let locked := s.getF R.FIRE_CFG_ENC = i ∧ s.getF R.FIRE_STAT_SW ≠ 0
    (∀ inA inB : Bool,
      let a := inA && s.carries 5 (3 * i) 3
      let b := inB && s.carries 5 (3 * i + 1) 3
      let cmd := Instr.quadratureEdge n inA inB
      let acts := x.newRef = false ∧ s.counts i ∧ mode = 0
      (¬ acts → ∃ u : State, exec cmd s = .next u.settle ∧ s.onlyEncoder u i { x with a := a, b := b, newRef := false } [] ∧ u.freeCtr = s.freeCtr) ∧
      (acts → a ≠ x.a → b ≠ x.b → ∃ v : State, exec cmd s = .next v.settle ∧
        s.encoderFails v i 1 { x with a := a, b := b, newRef := false }) ∧
      (acts → a = x.a → b = x.b → exec cmd s = .next s.settle) ∧
      (acts → (a = x.a ↔ b ≠ x.b) → ∃ u : State, exec cmd s = .next u.settle ∧
        let leads := (a ≠ x.a ∧ a ≠ b) ∨ (b ≠ x.b ∧ a = b)
        let dir : Int := if (decide leads == Config.quadALeads) = decide (inv ≠ 0) then -1 else 1
        let size : Int := dir * 2 ^ s.getF (R.ENC_CFG_FRAC i)
        s.onlyEncoder u i { x with a := a, b := b, newRef := false, pos := in48 (x.pos + size), dir := dir, seen := min 2 (x.seen + 1), t0 := x.t1, t1 := now, edgeDelta := (if x.edgeClk = s.clk then x.edgeDelta + size else size), edgeClk := s.clk } [] ∧ u.freeCtr = s.freeCtr)) ∧
    (let cmd := Instr.sincosResult n
     let ch := 4 * s.getF (R.ENC_CFG_SCGRP i) + 2 * s.getF (R.ENC_CFG_SCPAIR i)
     let sn := s.getS (R.AFE_ADCRES_VAL ch)
     let cs := s.getS (R.AFE_ADCRES_VAL (ch + 1))
     let amp := sn ^ 2 + cs ^ 2
     let weak := amp < (s.getF (R.ENC_AMP_AMIN i)) ^ 2 ∨ (s.getF (R.ENC_AMP_AMAX i)) ^ 2 < amp
     let turn := fun a b : Nat => (BitVec.ofInt 12 ((a : Int) - b)).toInt
     let instant := (now - 184) / 200 * 200
     (¬ (s.counts i ∧ mode = 1) → exec cmd s = .next s.settle) ∧
     (s.counts i → mode = 1 → ∃ (ph : Nat) (r v : State), exec cmd s = .next v.settle ∧ ph < 4096 ∧
       (sn ≠ 0 ∨ cs ≠ 0 → ph = if inv = 0 then phase4096 sn cs else (4096 - phase4096 sn cs) % 4096) ∧
       (let t : State := { s with freeCtr := s.freeCtr + if sn = 0 ∧ cs = 0 then 1 else 0 }
        let held := { x with phase := ph, p0 := x.pos, p1 := x.pos, t0 := x.t1, t1 := instant, seen := min 2 (x.seen + 1) }
        let jump := 1024 < turn ph x.phase ∨ turn ph x.phase < -1024
        (weak → t.encoderFails r i 2 held) ∧
        (¬ weak → x.seen = 0 → let p := in48 (x.pos - x.pos % 4096 + ph)
          t.onlyEncoder r i { x with phase := ph, goodPhase := ph, pos := p, p1 := p, p0 := p, t1 := instant, seen := 1 } [] ∧ r.freeCtr = t.freeCtr) ∧
        (¬ weak → x.seen ≠ 0 → jump → t.encoderFails r i 3 held) ∧
        (¬ weak → x.seen ≠ 0 → ¬ jump → let p := in48 (x.pos + turn ph x.goodPhase)
          t.onlyEncoder r i { x with phase := ph, goodPhase := ph, pos := p, p0 := x.p1, p1 := p, t0 := x.t1, t1 := instant, seen := min 2 (x.seen + 1) } [] ∧
          r.freeCtr = t.freeCtr)) ∧
       (x.idxWait = false → v = r) ∧
       (x.idxWait = true → ∃ q : State, r.onlyEncoder q i { r.encUnit i with idxWait := false } [] ∧ q.indexTaken v i))) ∧
    (∀ (started : Bool) (pos : BitVec 48) (crcOk ne nw : Bool),
      let cmd := Instr.serialFrameEnd n started pos crcOk ne nw
      let begun := started = true ∧ s.carries 5 (2 * i) 4 = true ∧ s.carries 5 (2 * i + 1) 4 = true
      let bits := s.getF (R.ENC_SCFG_BITS i)
      (¬ (s.counts i ∧ 2 ≤ mode) → exec cmd s = .next s.settle) ∧
      (s.counts i → 2 ≤ mode → ¬ begun → ∃ v : State, exec cmd s = .next v.settle ∧ s.encoderFails v i 6 x) ∧
      (s.counts i → 2 ≤ mode → begun → ∃ t v : State, exec cmd s = .next v.settle ∧ s.onlyFields t [R.ENC_STAT_WARN i] ∧
        t.getF (R.ENC_STAT_WARN i) = (if mode = 2 ∧ nw = false then 1 else s.getF (R.ENC_STAT_WARN i)) ∧
        (let badCrc := mode = 2 ∧ s.getF (R.ENC_SCFG_CRCEN i) ≠ 0 ∧ crcOk = false
         let bad := mode = 2 ∧ ne = false
         (badCrc → t.encoderFails v i 4 x) ∧ (¬ badCrc → bad → t.encoderFails v i 5 x) ∧
         (¬ badCrc → ¬ bad → ∃ g : Nat, g < 2 ^ bits ∧
           (mode = 4 → g ^^^ (g / 2) = pos.toNat % 2 ^ bits) ∧ (mode ≠ 4 → g = pos.toNat % 2 ^ bits) ∧
           t.onlyEncoder v i { x with p0 := x.p1, t0 := x.t1, p1 := in48 (if inv = 0 then (g : Int) else -(g : Int)), t1 := x.latchNs, frame := true, seen := min 2 (x.seen + 1) } [])))) ∧
    (let cmd := Instr.indexEdge n
     let z := s.carries 5 (3 * i + 2) 3
     (z = false ∨ (mode ≠ 1 ∧ ¬ s.counts i) → exec cmd s = .next s.settle) ∧
     (z = true → mode = 1 → ∃ u : State, exec cmd s = .next u.settle ∧ s.onlyEncoder u i { x with idxWait := s.encRuns i } []) ∧
     (z = true → mode ≠ 1 → s.counts i → ∃ u : State, exec cmd s = .next u.settle ∧ s.indexTaken u i) ∧
     (s.encRuns i = true ↔ s.counts i)) ∧
    (∀ w : Writer, let cmd := Instr.encPreset w n
      (s.mayWrite w (R.ENC_CFG i) = false → exec cmd s = .next (s.turnedAway w (R.ENC_CFG i))) ∧
      (s.mayWrite w (R.ENC_CFG i) = true → s.getReg (R.ENC_CFG i) &&& 0x10FFF#32 = 0 → ∃ u : State, exec cmd s = .next u.settle ∧
        (locked → s.onlyFields u [R.ENC_STAT_CFGREF i] ∧ u.getF (R.ENC_STAT_CFGREF i) = 1) ∧
        (¬ locked → s.onlyEncoder u i (s.loaded i x) [])))) ∧
  (∀ (j : Fin 4) (dir early : Bool) (s : State),
    let cmd := Instr.setpointStep j dir early
    let acts := s.carries 4 (24 + 2 * j) 9 = true ∧ s.getF (R.ENC_SPCFG_EN j) ≠ 0
    let up := ((dir && s.carries 4 (25 + 2 * j) 9) = true ↔ s.getF (R.ENC_SPCFG_DIRINV j) = 0)
    (¬ acts → exec cmd s = .next s.settle) ∧
    (acts → ∃ (u : State) (p : Int), exec cmd s = .next u.settle ∧
      { s with enc := { s.enc with spval := u.enc.spval } }.onlyFields u [R.ENC_SPCNTL_VAL j, R.ENC_SPCNTH_VAL j, ⟨R.ENC_GSTAT, 16 + j, 16 + j⟩] ∧
      (up → p = in48 (s.setpoint j + 1)) ∧ (¬ up → p = in48 (s.setpoint j - 1)) ∧
      (∀ k, u.setpoint k = if k = j.val then p else s.setpoint k) ∧
      u.getF (R.ENC_SPCNTL_VAL j) = (p % 2 ^ 32).toNat ∧ u.getF (R.ENC_SPCNTH_VAL j) = (p % 2 ^ 48).toNat / 2 ^ 32 ∧
      (u.getReg R.ENC_GSTAT).getLsbD (16 + j) = ((s.getReg R.ENC_GSTAT).getLsbD (16 + j) || early))) ∧
  (∀ sn cs : Int, (sn ≠ 0 ∨ cs ≠ 0) → phase4096 sn cs < 4096 ∧
    (phase4096 sn cs / 1024 = if 0 < cs ∧ 0 ≤ sn then 0 else if cs ≤ 0 ∧ 0 < sn then 1 else if cs < 0 then 2 else 3))

/-- Publication, merging, EVENT_DELIVERY with its ceiling and consumers, CALL_RUNAWAY_CLEAR, EVIN_EDGE, EVOUT_PULSE_END; interrupt lines (R80, R110, R124, R399, R400, R401). -/
def Obligations.EventsEnterTheCallBoard : Prop :=
  (∀ (s : State) (src core ch : Nat),
    s.publish src = (if s.getF (R.CALL_PUB_V src) = 0 then s else s.enterChannel (s.getF (R.CALL_PUB_CH src))) ∧
    s.sevEvent core ch = (if (s.getF (R.CALL_CH_SEVMASK ch)).testBit core then s.enterChannel ch else s) ∧
    (let now := fun e : CallEvent => e.ch = ch ∧ e.cycle = s.clk
     (¬ s.channelOpen ch → s.enterChannel ch = s) ∧
     (s.channelOpen ch → (∀ e ∈ s.call.inflight, ¬ now e) →
       s.enterChannel ch = { s with call := { s.call with inflight := s.call.inflight ++ [⟨ch, s.clk, false⟩] } }) ∧
     (∀ l e r, s.channelOpen ch → s.call.inflight = l ++ e :: r → (∀ x ∈ l, ¬ now x) → now e →
       (e.merged = true → s.enterChannel ch = s) ∧
       (e.merged = false →
         { s with call := { s.call with inflight := l ++ { e with merged := true } :: r } }.onlyFields (s.enterChannel ch) [R.CALL_COIN_CNT ch] ∧
         (s.enterChannel ch).getF (R.CALL_COIN_CNT ch) = min (s.getF (R.CALL_COIN_CNT ch) + 1) 65535)))) ∧
  (∀ s : State,
    let left := if s.call.outClk = s.clk then s.call.out else []
    let ready := fun e : CallEvent => e.cycle < s.clk ∧ ∀ o ∈ left, o.1 ≠ e.ch
    ((∀ e ∈ s.call.inflight, ¬ ready e) → exec .eventDelivery s = .next s.settle) ∧
    (∀ l e r, s.call.inflight = l ++ e :: r → (∀ x ∈ l, ¬ ready x) → ready e →
      let gone : State := { s with call := { s.call with inflight := l ++ r } }
      let top := s.getF (R.CALL_CEIL_MAX e.ch)
      let n := s.getF (R.CALL_CEIL_CNT e.ch)
      let run : Fld := ⟨R.CALL_RUNAWAY (e.ch / 32), e.ch % 32, e.ch % 32⟩
      let beyond : Prop := 0 < top ∧ top ≤ n
      let t : State := { gone with call := { gone.call with outClk := s.clk, out := left ++ [(e.ch, decide beyond)] } }
      (¬ s.channelOpen e.ch → exec .eventDelivery s = .next gone.settle) ∧
      (s.channelOpen e.ch → beyond → ∃ u : State, exec .eventDelivery s = .next u.settle ∧ t.onlyFields u [run] ∧ u.getF run = 1) ∧
      (s.channelOpen e.ch → ¬ beyond → ∃ u v : State, exec .eventDelivery s = .next v.settle ∧ t.onlyFields u [R.CALL_CEIL_CNT e.ch] ∧
        u.getF (R.CALL_CEIL_CNT e.ch) = min (n + 1) 65535 ∧ u.consumes v (s.getF (R.CALL_CH_SUB e.ch))))) ∧
  (∀ (w : Writer) (idx : Fin 8) (v : Word) (s : State),
    let a := R.CALL_RUNAWAY idx
    (s.mayWrite w a = false → exec (.callRunawayClear w idx v) s = .next (s.turnedAway w a)) ∧
    (s.mayWrite w a = true → ∃ u : State, exec (.callRunawayClear w idx v) s = .next u.settle ∧
      { s with call := { s.call with waiting := u.call.waiting } }.onlyFields u [⟨a, 31, 0⟩] ∧
      (∀ b < 32, (u.getReg a).getLsbD b = ((s.getReg a).getLsbD b && !(v.getLsbD b && s.stoodAt a b))) ∧
      ∀ c < 256, u.call.waiting.getLsbD c = true ↔ s.call.waiting.getLsbD c = true ∨
        (c / 32 = idx.val ∧ v.getLsbD (c % 32) = true ∧ s.stoodAt a (c % 32) = true ∧ (s.getReg a).getLsbD (c % 32) = true))) ∧
  (∀ (n : Fin 16) (s : State),
    exec (.evinEdge n) s = .next (State.settle (if s.carries 7 n 7 then s.publish (0x040 + n) else s)) ∧
    (s.clk < mget 0 s.call.evoutClk n + 4 → exec (.evoutPulseEnd n) s = .next s.settle) ∧
    (mget 0 s.call.evoutClk n + 4 ≤ s.clk → ∃ u : State, exec (.evoutPulseEnd n) s = .next u.settle ∧
      u = { s with call := { s.call with evout := u.call.evout } } ∧
      ∀ k < 16, u.call.evout.getLsbD k = (s.call.evout.getLsbD k && decide (k ≠ n.val)))) ∧
  (∀ (s u : State) (base out : Nat) (on : IrqEntry → Prop),
    (u = s.settle ∧ on = fun e => s.irqLevel e.base e.output = true) ∨ (u = s.irqPulse base out ∧ on = fun e => e.base = base ∧ e.output = out) →
      u = { s with cores := u.cores } ∧
      ∀ k, u.core k = { s.core k with ipend := (u.core k).ipend } ∧
        ∀ l < 48, (u.core k).ipend.getLsbD l = true ↔ (s.core k).ipend.getLsbD l = true ∨
          ∃ e ∈ s.irqMap, on e ∧ e.line = l ∧ s.copyOf (coreOf (hartOfCore e.core)) k)

/-- DMA_GO, DMA_ABORT, DMA_ABORT_COMPLETE, DMA_DESCRIPTOR_FETCH, DMA_READ_BEAT, DMA_READ_RETURN, DMA_WRITE_BEAT and DMA_WRITE_ACK (R409, R410, R411, R412, R413, R414). -/
def Obligations.DmaChannels : Prop :=
  (∀ (w : Writer) (ch : Fin 64) (s : State),
    let c := ch.val
    let a := R.DMA_CTRL c
    let x := s.dch c
    let fields := [R.DMA_CTRL_EVTEN c, R.DMA_CTRL_IRQEN c, R.DMA_CTRL_PRIO c, R.DMA_CTRL_CHK c, R.DMA_CTRL_REQ c, R.DMA_CTRL_MODE c, R.DMA_CTRL_SRCFIX c, R.DMA_CTRL_DSTFIX c]
    let refuses := fun t u : State => t.onlyFields u [R.DMA_STAT_CFGREF c, R.DMA_GSTAT_CFGREF] ∧ u.getF (R.DMA_STAT_CFGREF c) = 1 ∧
      u.getF R.DMA_GSTAT_CFGREF = 1
    (s.mayWrite w a = false → exec (.dmaAbort w ch) s = .next (s.turnedAway w a)) ∧
    (∀ v : Word, (s.mayWrite w a = false → exec (.dmaGo w ch v) s = .next (s.turnedAway w a)) ∧
      (s.mayWrite w a = true → v.getLsbD 30 = false → ∃ t u : State, exec (.dmaGo w ch v) s = .next u.settle ∧
        (s.dmaState c = 0 → s.onlyFields t fields ∧ ∀ f ∈ fields, t.getF f = fieldOf v f.hi f.lo) ∧
        (s.dmaState c ≠ 0 → (∀ f ∈ fields, s.getF f = fieldOf v f.hi f.lo) → t = s) ∧
        (s.dmaState c ≠ 0 → ¬ (∀ f ∈ fields, s.getF f = fieldOf v f.hi f.lo) → refuses s t) ∧
        (let runs := s.sys.dev = .places ∨ s.inRun = true ∨ s.sys.dev = .curtain
         let starts := fun u : State => u.dmaState c = 1 ∧ u.getF (R.DMA_CNT_PEND c) = 0 ∧ u.getF (R.DMA_STAT_DSCF c) = 0
         let upd := [R.DMA_STAT_STATE c, R.DMA_CNT_PEND c, R.DMA_STAT_DSCF c]
         let chain := t.getF (R.DMA_CTRL_MODE c) ≠ 0
         let fits := transferFits (s.dmaSrc c) (s.dmaDst c) (s.getF (R.DMA_LEN_LEN c))
         (¬ runs ∨ s.dmaState c = 1 → refuses t u) ∧
         (runs → s.dmaState c = 0 → chain → t.onlyChannel u c { x.emptied with fetch := true } upd ∧ starts u) ∧
         (runs → s.dmaState c = 0 → ¬ chain → ¬ fits → refuses t u) ∧
         (runs → s.dmaState c = 0 → ¬ chain → fits → ∃ r : State,
           (let k := t.getF (R.DMA_CTRL_CHK c)
            let y : DmaChan := { window := x.window, src := s.dmaSrc c, dst := s.dmaDst c, left := s.getF (R.DMA_LEN_LEN c), acc := if k = 1 then 0xFFFFFFFF else if k = 2 then 0xFFFF else 0 }
            t.onlyChannel r c y upd) ∧ starts r ∧ r.transferBegins u c) ∧
         (runs → s.dmaState c = 2 ∨ (s.dmaState c = 3 ∧ chain) →
           t.onlyChannel u c { x with fetch := true, dsc := none } [R.DMA_STAT_STATE c] ∧ u.dmaState c = 1) ∧
         (runs → s.dmaState c = 3 → ¬ chain → ∃ r : State, t.onlyFields r [R.DMA_STAT_STATE c] ∧ r.dmaState c = 1 ∧
           r.requestServed u c)))) ∧
    (s.mayWrite w a = true → ∃ u : State, exec (.dmaAbort w ch) s = .next u.settle ∧
      (s.dmaState c = 0 → s.onlyFields u []) ∧
      (s.dmaState c ≠ 0 → x.rd = [] ∧ x.wr = [] → s.channelAborted u c) ∧
      (s.dmaState c ≠ 0 → ¬ (x.rd = [] ∧ x.wr = []) → x.abort = true → s.onlyFields u []) ∧
      (s.dmaState c ≠ 0 → ¬ (x.rd = [] ∧ x.wr = []) → x.abort = false →
        s.onlyChannel u c { x with abort := true, abortClk := s.clk } [])) ∧
    (let ended := x.abort = true ∧ x.rd = [] ∧ x.wr = []
     (¬ ended → exec (.dmaAbortComplete ch) s = .next s.settle) ∧
     (ended → ∃ u : State, exec (.dmaAbortComplete ch) s = .next u.settle ∧ s.channelAborted u c))) ∧
  (∀ (ch : Fin 64) (s : State),
    let c := ch.val
    let x := s.dch c
    let acts := s.dmaState c = 1 ∧ x.fetch = true ∧ x.abort = false
    (¬ acts → exec (.dmaDescriptorFetch ch) s = .next s.settle) ∧
    (acts → ∃ t v : State, exec (.dmaDescriptorFetch ch) s = .next v.settle ∧ s.onlyChannel t c { x with fetch := false } [] ∧
      let a := 64 * s.getF (R.DMA_DSCL_ADDR c) + 2 ^ 32 * s.getF (R.DMA_HI_DSC c)
      let home := regionOf a = .working ∨ regionOf a = .dram ∨ ∃ k, regionOf a = .localStore k
      (¬ home → t.channelHalts v c a false true) ∧
      (home → (∀ l, (t.memRead a 32).2 ≠ .ok l) → (t.memRead a 32).1.channelHalts v c a false true) ∧
      (∀ l, home → (t.memRead a 32).2 = .ok l →
        let r := (t.memRead a 32).1
        let w : Word := BitVec.ofNat 32 (leAt l 0 4)
        let len := leAt l 4 4
        let src := leAt l 8 8
        let dst := leAt l 16 8
        let next := leAt l 24 8
        let good := fieldOf w 24 0 = 0 ∧ src < 2 ^ 40 ∧ dst < 2 ^ 40 ∧ (w.getLsbD 30 = true ∨ next % 64 = 0) ∧ transferFits src dst len
        let y := { r.dch c with dsc := some (a, w, next % 2 ^ 40), done := 0 }
        (w.getLsbD 31 = false → r.onlyFields v [R.DMA_STAT_STATE c] ∧ v.dmaState c = 2) ∧
        (w.getLsbD 31 = true → ¬ good → ∃ q : State, r.onlyChannel q c y [] ∧
          let m := q.statusWritten c a w 3 0 0 false
          (m.2 = false → m.1.channelHalts v c a true true) ∧
          (m.2 = true → m.1.onlyFields v [R.DMA_STAT_STATE c, R.DMA_STAT_ERR c, R.DMA_STAT_DSCF c] ∧
            v.dmaState c = 3 ∧ v.getF (R.DMA_STAT_ERR c) = 1 ∧ v.getF (R.DMA_STAT_DSCF c) = 1)) ∧
        (w.getLsbD 31 = true → good → ∃ q : State, q.transferBegins v c ∧
          let k := r.getF (R.DMA_CTRL_CHK c)
          let init := if k = 1 then 0xFFFFFFFF else if k = 2 then 0xFFFF else 0
          r.onlyChannel q c (if w.getLsbD 27 then { y with src := src, dst := dst, left := len } else { y with src := src, dst := dst, left := len, acc := init, part := [] }) [])))) ∧
  (∀ (e : Fin 4) (s : State),
    (let last := mget 15 s.dma.rdLast e
     (s.clk < mget 0 s.dma.rdNext e ∨ (∀ c, c / 16 = e.val → ¬ s.mayRead c) → exec (.dmaReadBeat e) s = .next s.settle) ∧
     (∀ c, c / 16 = e.val → mget 0 s.dma.rdNext e ≤ s.clk → s.served c last s.mayRead → ∃ t u v : State, exec (.dmaReadBeat e) s = .next v.settle ∧
       let x := s.dch c
       let a := (s.readBeatAt c).1
       let n := (s.readBeatAt c).2
       t = { s with dma := { s.dma with rdLast := t.dma.rdLast, rdNext := t.dma.rdNext } } ∧
       (∀ k, mget 0 t.dma.rdNext k = if k = e.val then s.clk + 1 else mget 0 s.dma.rdNext k) ∧
       (∀ k, mget 15 t.dma.rdLast k = if k = e.val then c % 16 else mget 15 s.dma.rdLast k) ∧
       t.onlyChannel u c (s.watermarked c { x with rd := x.rd ++ [(a, n)], window := (x.window.filter fun b => decide (s.clk < b.1 + 1000)) ++ [(s.clk, n)] }) [] ∧
       (regionOf a ≠ .remote → v = u) ∧
       (regionOf a = .remote → (∀ r, u.byrAccess (.dma c) a n none = some r → v = r) ∧
         (u.byrAccess (.dma c) a n none = none → u.beatFails v c a false)))) ∧
    (let last := mget 15 s.dma.wrLast e
     (s.clk < mget 0 s.dma.wrNext e ∨ (∀ c, c / 16 = e.val → ¬ s.mayWriteBeat c) → exec (.dmaWriteBeat e) s = .next s.settle) ∧
     (∀ c, c / 16 = e.val → mget 0 s.dma.wrNext e ≤ s.clk → s.served c last s.mayWriteBeat → ∃ t u v : State, exec (.dmaWriteBeat e) s = .next v.settle ∧
       let x := s.dch c
       let a := (s.writeBeatAt c).1
       let n := (s.writeBeatAt c).2
       t = { s with dma := { s.dma with wrLast := t.dma.wrLast, wrNext := t.dma.wrNext } } ∧
       (∀ k, mget 0 t.dma.wrNext k = if k = e.val then s.clk + 1 else mget 0 s.dma.wrNext k) ∧
       (∀ k, mget 15 t.dma.wrLast k = if k = e.val then c % 16 else mget 15 s.dma.wrLast k) ∧
       t.onlyChannel u c (s.watermarked c { x with queue := x.queue.drop n, wr := x.wr ++ [(a, x.queue.take n)], credit := x.credit - n }) [] ∧
       (regionOf a ≠ .remote → v = u) ∧
       (regionOf a = .remote → (∀ r, u.byrAccess (.dma c) a n (some (x.queue.take n)) = some r → v = r) ∧
         (u.byrAccess (.dma c) a n (some (x.queue.take n)) = none → u.beatFails v c a true))))) ∧
  (∀ (ch : Fin 64) (s : State),
    let c := ch.val
    let waits := fun l : List Nat => l = [] ∨ regionOf (l.headD 0) = .remote
    (waits ((s.dch c).rd.map (·.1)) → exec (.dmaReadReturn ch) s = .next s.settle) ∧
    (∀ a n q, (s.dch c).rd = (a, n) :: q → regionOf a ≠ .remote → ∃ v : State, exec (.dmaReadReturn ch) s = .next v.settle ∧
      let t := (s.busRead (.dma ch) a n).1
      let x := t.dch c
      (∀ l, (s.busRead (.dma ch) a n).2 = .ok l →
        t.onlyChannel v c (t.watermarked c { x with rd := x.rd.tail, queue := x.queue ++ l }) []) ∧
      ((∀ l, (s.busRead (.dma ch) a n).2 ≠ .ok l) → t.beatFails v c a false)) ∧
    (waits ((s.dch c).wr.map (·.1)) → exec (.dmaWriteAck ch) s = .next s.settle) ∧
    (∀ a l q, (s.dch c).wr = (a, l) :: q → regionOf a ≠ .remote → ∃ v : State, exec (.dmaWriteAck ch) s = .next v.settle ∧
      let t := (s.busWrite (.dma ch) a l).1
      let x := t.dch c
      ((s.busWrite (.dma ch) a l).2 = false → t.beatFails v c a true) ∧
      ((s.busWrite (.dma ch) a l).2 = true → x.wr = (a, l) :: q → ∃ u : State,
        (let src := if t.holdsFixed c false then x.src else x.src + l.length
         let dst := if t.holdsFixed c true then x.dst else x.dst + l.length
         let y := { x with wr := q, src := src, dst := dst, left := x.left - l.length, done := x.done + l.length }
         let shown := [R.DMA_SRCL_ADDR c, R.DMA_HI_SRC c, R.DMA_DSTL_ADDR c, R.DMA_HI_DST c, R.DMA_LEN_LEN c]
         t.onlyChannel u c (chkBytes (t.getF (R.DMA_CTRL_CHK c)) y l) (if x.dsc = none then shown else []) ∧
         (x.dsc = none → shown.map u.getF = [src % 2 ^ 32, src / 2 ^ 32 % 256, dst % 2 ^ 32, dst / 2 ^ 32 % 256, (x.left - l.length) % 2 ^ 32])) ∧
        (let closing := ∀ d w next, x.dsc = some (d, w, next) → w.getLsbD 30 = true
         let ends := x.left ≤ l.length ∧ (x.abort = false ∨ (x.abortClk = t.clk ∧ closing))
         (ends → u.transferEnds v c) ∧ (¬ ends → u.requestServed v c))))) ∧
  (∀ (x : DmaChan) (l : List Byte), chkBytes 0 x l = x ∧ chkBytes 1 x l = { x with acc := crc32c x.acc l } ∧
    chkBytes 2 x l = { x with acc := crc16 x.acc l } ∧
    (x.part = [] → ∀ a b c d : Byte, chkBytes 3 x [a, b, c, d] = { x with acc := (x.acc + natLE [a, b, c, d]) % 2 ^ 32 }))

/-- GPIO function, level, owner and lock writes, the function switch, the lock time-out, and the commands of the serial engines (R431, R433, R435, R436, R437, R438). -/
def Obligations.PinsAndSerialEngines : Prop :=
  (∀ (w : Writer) (port : Fin 8) (pin : Fin 32) (v : Word) (s : State),
    let x := port.val
    let y := pin.val
    let a := R.GPIO_PCFG x y
    let place := 32 * x + y
    let fields := [R.GPIO_PCFG_PARK x y, R.GPIO_PCFG_PULL x y, R.GPIO_PCFG_DRIVE x y, R.GPIO_PCFG_SLOW x y, R.GPIO_PCFG_OD x y, R.GPIO_PCFG_OE x y, R.GPIO_PCFG_FSEL x y]
    let cmd := Instr.gpioPcfgWrite w port pin v
    (s.mayWrite w a = false → exec cmd s = .next (s.turnedAway w a)) ∧
    (s.mayWrite w a = true → ∃ u : State, exec cmd s = .next u.settle ∧
      let locked := s.getF (R.GPIO_PCFG_LOCKED x y) ≠ 0
      let refused := fieldOf v 27 26 = 3 ∨ pinHas x y (fieldOf v 3 0) = false
      let old := s.getF (R.GPIO_PCFG_FSEL x y)
      let turned := fun f : Fld => s.onlyFields u [f] ∧ u.getF f = 1
      (¬ s.ownerPasses w x y → turned R.GPIO_STAT_OWNREF) ∧ (s.ownerPasses w x y → locked → turned R.GPIO_STAT_LCKREF) ∧
      (s.ownerPasses w x y → ¬ locked → refused → turned R.GPIO_STAT_CFGREF) ∧
      (s.ownerPasses w x y → ¬ locked → ¬ refused → (∀ f ∈ fields, u.getF f = fieldOf v f.hi f.lo) ∧
        (∀ k, mget 0 u.gpio.pinClk k = if k = place then s.clk else mget 0 s.gpio.pinClk k) ∧
        (fieldOf v 3 0 = old → { s with gpio := { s.gpio with pinClk := u.gpio.pinClk } }.onlyFields u fields) ∧
        (fieldOf v 3 0 ≠ old → { s with gpio := { s.gpio with parked := u.gpio.parked, pinClk := u.gpio.pinClk }, pwm := { s.pwm with lands := u.pwm.lands }, enc := { s.enc with units := u.enc.units } }.onlyFields u fields ∧
          (∀ k, k ∈ u.gpio.parked ↔ k = place ∨ k ∈ s.gpio.parked) ∧
          (∀ k < 24, u.pwm.lands.getLsbD k = (s.pwm.lands.getLsbD k && !decide (old = 2 ∧ k = y))) ∧
          ∀ k, u.encUnit k = if old = 3 ∧ k = y / 3 then { s.encUnit k with newRef := true } else s.encUnit k))) ∧
    (place ∉ s.gpio.parked → exec (.gpioFunctionSwitch port pin) s = .next s.settle) ∧
    (place ∈ s.gpio.parked → ∃ u : State, exec (.gpioFunctionSwitch port pin) s = .next u.settle ∧
      u = { s with gpio := { s.gpio with parked := u.gpio.parked, pinClk := u.gpio.pinClk } } ∧
      (∀ k, mget 0 u.gpio.pinClk k = if k = place then s.clk else mget 0 s.gpio.pinClk k) ∧
      ∀ k, k ∈ u.gpio.parked ↔ k ∈ s.gpio.parked ∧ k ≠ place)) ∧
  (∀ (w : Writer) (port : Fin 8) (v : Word) (s : State),
    let x := port.val
    (∀ high : Bool,
      let a := if high then R.GPIO_PxMWH x else R.GPIO_PxMWL x
      let pin := fun i : Nat => if high then 16 + i else i
      let masked := fun i : Nat => i < 16 ∧ v.getLsbD (16 + i) = true
      (s.mayWrite w a = false → exec (.gpioMaskedWrite w port high v) s = .next (s.turnedAway w a)) ∧
      (s.mayWrite w a = true → ∃ u : State, exec (.gpioMaskedWrite w port high v) s = .next u.settle ∧
        { s with gpio := { s.gpio with outClk := u.gpio.outClk } }.onlyFields u [⟨a, 15, 0⟩, R.GPIO_STAT_OWNREF] ∧
        (∀ k, mget 0 u.gpio.outClk k = if k = x then s.clk else mget 0 s.gpio.outClk k) ∧
        (∀ i, masked i → s.ownerPasses w x (pin i) → (u.getReg a).getLsbD i = v.getLsbD i) ∧
        (∀ i < 16, ¬ (masked i ∧ s.ownerPasses w x (pin i)) → (u.getReg a).getLsbD i = (s.getReg a).getLsbD i) ∧
        ((∃ i, masked i ∧ ¬ s.ownerPasses w x (pin i)) → u.getF R.GPIO_STAT_OWNREF = 1) ∧
        ((∀ i, masked i → s.ownerPasses w x (pin i)) → u.getF R.GPIO_STAT_OWNREF = s.getF R.GPIO_STAT_OWNREF))) ∧
    (∀ k : Fin 4,
      let a := R.GPIO_PxOWN x k
      let code := fun i : Nat => fieldOf v (4 * i + 3) (4 * i)
      let old := fun i : Nat => fieldOf (s.getReg a) (4 * i + 3) (4 * i)
      let locked := fun i : Nat => i < 8 ∧ s.getF (R.GPIO_PCFG_LOCKED x (8 * k + i)) ≠ 0
      let refused := fun i : Nat => i < 8 ∧ code i ≠ old i ∧ s.getF (R.GPIO_PCFG_LOCKED x (8 * k + i)) = 0 ∧
        (8 ≤ code i ∨ ((code i = 1 ∨ old i = 1) ∧ s.sys.dev ≠ .boot))
      (s.mayWrite w a = false → exec (.gpioOwnerWrite w port k v) s = .next (s.turnedAway w a)) ∧
      (s.mayWrite w a = true → ∃ u : State, exec (.gpioOwnerWrite w port k v) s = .next u.settle ∧
        s.onlyFields u [⟨a, 31, 0⟩, R.GPIO_STAT_LCKREF, R.GPIO_STAT_CFGREF] ∧
        (∀ i < 8, (locked i ∨ refused i → fieldOf (u.getReg a) (4 * i + 3) (4 * i) = old i) ∧
          (¬ (locked i ∨ refused i) → fieldOf (u.getReg a) (4 * i + 3) (4 * i) = code i)) ∧
        ((∃ i, locked i) → u.getF R.GPIO_STAT_LCKREF = 1) ∧
        ((∀ i, ¬ locked i) → u.getF R.GPIO_STAT_LCKREF = s.getF R.GPIO_STAT_LCKREF) ∧
        ((∃ i, refused i) → u.getF R.GPIO_STAT_CFGREF = 1) ∧
        ((∀ i, ¬ refused i) → u.getF R.GPIO_STAT_CFGREF = s.getF R.GPIO_STAT_CFGREF))) ∧
    (let a := R.GPIO_PxLCKM x
     let breaks := s.gpio.lkStep ≠ 0 ∧ s.gpio.lkBy ≠ w.num
     (s.mayWrite w a = false → exec (.gpioLockMask w port v) s = .next (s.turnedAway w a)) ∧
     (s.mayWrite w a = true → ∃ u : State, exec (.gpioLockMask w port v) s = .next u.settle ∧
       { s with gpio := { s.gpio with lkStep := 1, lkPort := x, lkBy := w.num, lkClk := s.clk } }.onlyFields u
         [⟨a, 31, 0⟩, R.GPIO_STAT_LKSEQ] ∧ u.getReg a = v ∧
       (breaks → u.getF R.GPIO_STAT_LKSEQ = 1) ∧ (¬ breaks → u.getF R.GPIO_STAT_LKSEQ = s.getF R.GPIO_STAT_LKSEQ))) ∧
    (let g := s.gpio
     let held := g.lkStep ≠ 0 ∧ g.lkBy = w.num ∧ g.lkPort = fieldOf v 18 16 ∧ s.clk ≤ g.lkClk + 64
     let second := held ∧ g.lkStep = 1 ∧ fieldOf v 15 0 = 0xC35A
     let third := held ∧ g.lkStep = 2 ∧ fieldOf v 15 0 = 0x3CA5
     let mask := s.getReg (R.GPIO_PxLCKM g.lkPort)
     let broken := fun u : State => { s with gpio := { g with lkStep := 0 } }.onlyFields u [R.GPIO_STAT_LKSEQ] ∧ u.getF R.GPIO_STAT_LKSEQ = 1
     (s.mayWrite w R.GPIO_LKEY = false → exec (.gpioLkey w v) s = .next (s.turnedAway w R.GPIO_LKEY)) ∧
     (s.mayWrite w R.GPIO_LKEY = true → ∃ u : State, exec (.gpioLkey w v) s = .next u.settle ∧
       (second → u = { s with gpio := { g with lkStep := 2, lkClk := s.clk } }) ∧
       (third → { s with gpio := { g with lkStep := 0 } }.onlyFields u (⟨R.GPIO_PxLCKM g.lkPort, 31, 0⟩ :: R.GPIO_STAT_OWNREF :: (List.range 32).map (R.GPIO_PCFG_LOCKED g.lkPort)) ∧
         u.getReg (R.GPIO_PxLCKM g.lkPort) = 0 ∧
         (∀ y < 32, (mask.getLsbD y = true → s.ownerPasses w g.lkPort y → u.getF (R.GPIO_PCFG_LOCKED g.lkPort y) = 1) ∧
           (¬ (mask.getLsbD y = true ∧ s.ownerPasses w g.lkPort y) →
             u.getF (R.GPIO_PCFG_LOCKED g.lkPort y) = s.getF (R.GPIO_PCFG_LOCKED g.lkPort y))) ∧
         ((∃ y < 32, mask.getLsbD y = true ∧ ¬ s.ownerPasses w g.lkPort y) → u.getF R.GPIO_STAT_OWNREF = 1) ∧
         ((∀ y < 32, mask.getLsbD y = true → s.ownerPasses w g.lkPort y) → u.getF R.GPIO_STAT_OWNREF = s.getF R.GPIO_STAT_OWNREF)) ∧
       (¬ second → ¬ third → broken u)) ∧
     let late := g.lkStep ≠ 0 ∧ g.lkClk + 64 < s.clk
     (¬ late → exec .gpioLockTimeout s = .next s.settle) ∧
     (late → ∃ u : State, exec .gpioLockTimeout s = .next u.settle ∧ broken u))) ∧
  (∀ (e : Fin 4) (s : State),
    let n := e.val
    let tx := mget [] s.gpio.tx n
    let rx := mget [] s.gpio.rx n
    let on := s.getF (R.GPIO_SERCFG_EN n) ≠ 0
    let mode := s.getF (R.GPIO_SERCFG_MODE n)
    (∀ (w : Writer) (v : Word),
      (s.mayWrite w (R.GPIO_SERDAT n) = false →
        exec (.serdatWrite w e v) s = .next (s.turnedAway w (R.GPIO_SERDAT n))) ∧
      (s.mayWrite w (R.GPIO_SERDAT n) = true → ∃ u : State, exec (.serdatWrite w e v) s = .next u.settle ∧
        (¬ s.enginePasses w n → s.onlyFields u [R.GPIO_STAT_OWNREF] ∧ u.getF R.GPIO_STAT_OWNREF = 1) ∧
        (s.enginePasses w n → 16 ≤ tx.length → s.onlyFields u [R.GPIO_SERSTAT_TXOVF n] ∧ u.getF (R.GPIO_SERSTAT_TXOVF n) = 1) ∧
        (s.enginePasses w n → tx.length < 16 → s.onlyEngine u n (tx ++ [v]) rx [])) ∧
      (∃ u : State, exec (.serdatRead w e) s = .next u ∧ s.regRead w (R.GPIO_SERDAT n) = some (rx.headD 0, u) ∧
        (rx = [] → s.onlyFields u [R.GPIO_SERSTAT_UNDF n] ∧ u.getF (R.GPIO_SERSTAT_UNDF n) = 1) ∧
        (rx ≠ [] → s.onlyEngine u n tx rx.tail []))) ∧
    (∀ lines : Word,
      (tx = [] ∨ ¬ on → exec (.serialTransferDone e lines) s = .next s.settle) ∧
      (∀ v l, tx = v :: l → on → ∃ t u : State, exec (.serialTransferDone e lines) s = .next u.settle ∧ s.onlyEngine t n l rx [] ∧
        (mode = 0 → ∃ (q : State) (r : Word),
          let seen := s.carries 0 (2 + 4 * n) 8
          let nack := seen = true ∧ lines.getLsbD 8 = true
          { t with freeCtr := q.freeCtr }.onlyFields q [R.GPIO_SERSTAT_NACK n] ∧
          (nack → q.getF (R.GPIO_SERSTAT_NACK n) = 1) ∧ (¬ nack → q.getF (R.GPIO_SERSTAT_NACK n) = s.getF (R.GPIO_SERSTAT_NACK n)) ∧
          q.entryReceived u n r ∧
          (v.getLsbD 8 = true → q.freeCtr = s.freeCtr ∧ r = if seen then lines &&& 0x1FF#32 else 0) ∧
          (v.getLsbD 8 = false → r.toNat < 512 ∧ (r.getLsbD 8 = true ↔ nack))) ∧
        (mode = 1 → t.entryReceived u n
          (if s.carries 0 (3 + 4 * n) 8 then BitVec.ofNat 32 (lines.toNat % 2 ^ (s.getF (R.GPIO_SERCFG_BITS n) + 1)) else 0)) ∧
        (2 ≤ mode → u = t)) ∧
      (let runs := on ∧ mode = 2 ∧ s.carries 0 (2 + 4 * n) 8 = true
       (¬ runs → exec (.uartReceive e lines) s = .next s.settle) ∧
       (runs → ∃ u : State, exec (.uartReceive e lines) s = .next u.settle ∧ s.entryReceived u n (lines &&& 0x3FF#32)))) ∧
    (let stuck := s.getF (R.GPIO_SERSTAT_BUSY n) ≠ 0 ∧ mode = 0
     (¬ stuck → exec (.i2cStretchTimeout e) s = .next s.settle) ∧
     (stuck → ∃ u : State, exec (.i2cStretchTimeout e) s = .next u.settle ∧ s.onlyEngine u n tx.tail rx [R.GPIO_SERSTAT_STRETCH n] ∧
       u.getF (R.GPIO_SERSTAT_STRETCH n) = 1)))

/-- PBS_LATCH, MEMBER_REPORT_TIMEOUT, SHARE_LOSS_TIMEOUT, JRNL_ACCEPT, ACCEPT_COMPLETE, JRNL_ABANDON, CV_LINE_WRITE and ORDER_RETIRE (R448, R449, R454, R457, R460, R461). -/
def Obligations.PowerBudgetAndJournal : Prop :=
  (∀ s : State,
    let acts := s.cueRuns = true ∧ s.getF R.PBS_CTRL_EN ≠ 0
    (¬ acts → exec .pbsLatch s = .next s.settle) ∧
    (acts → ∃ d w v : State,
      (d = { s with regs := d.regs } ∧
        ∀ x, d.getReg x = if x ∈ latchInputs then (mfind s.regs0 x).getD (regReset x) else s.getReg x) ∧
      (d.getF R.PBS_SHARE_ROLE ≠ 1 → exec .pbsLatch s = .next v.settle ∧ v = { w with regs := v.regs } ∧
        ∀ x, v.getReg x = if x ∈ latchInputs then s.getReg x else w.getReg x) ∧
      (d.getF R.PBS_SHARE_ROLE ≠ 1 → d.latched w))) ∧
  (∀ (s : State) (p : Int),
    (∃ g d : Int,
      rounds ((((List.range 32).filter fun k => k != 0 && s.getF (R.PBS_CLS_EN k) != 0).map fun k => s.getF (R.PBS_GNT_G k) * s.getF (R.PBS_CLS_PMAX k)).sum / 32768) g ∧
      rounds (((max 0 (p - s.getF R.PBS_BASE_BASE - g - s.pbs.head) - s.getF R.PBS_UNACC_W : Int) : Rat) / 256) d ∧
      { s with freeCtr := (s.unaccLatch p).freeCtr }.onlyFields (s.unaccLatch p) [R.PBS_UNACC_W] ∧
      (let v := (s.getF R.PBS_UNACC_W : Int) + d
       v < 2 ^ 20 → (s.unaccLatch p).getF R.PBS_UNACC_W = v.toNat)) ∧
    (s.inRun = false → s.grantCompute.pbs.next = none) ∧
    (s.inRun = true → ∃ q, s.grantCompute.pbs.next = some q ∧
      let limit := if s.getF R.PBS_SHARE_ROLE = 0 then s.getF R.PBS_FEED_LIMIT else s.shareNow
      let phead := s.getF R.PBS_HEAD_PHEAD
      let t := s.getF R.PBS_HEAD_TSEL
      q.b = (limit : Int) - s.getF R.PBS_BASE_BASE - s.getF R.PBS_UNACC_W - s.pbs.sh ∧
      (q.headRes = true ↔ s.getF R.FIRE_STAT_SW ≠ 0 ∨ (0 < s.getF R.DROP_SWSTAT_DEPTH ∧ (phead : Int) ≤ q.b)) ∧
      q.head = (if q.headRes then phead else 0) ∧
      (q.permit = true ↔ q.headRes = true ∧ (s.getF R.PBS_HEAD_TEN ≠ 0 → s.getS (R.PBS_TVAL_T t) < s.getS (R.PBS_TLIM_TMAX t))) ∧
      ∀ c ∈ grantAll q.b q.head s.pbsClasses.1, 0 < s.getF (R.PBS_CLS_PMAX c.k) →
        mget 0 q.g c.k = min ((c.g * 32768).toNat / s.getF (R.PBS_CLS_PMAX c.k)) 0x8000)) ∧
  (∀ (b head : Int) (l : List PbsClass), (l.map (·.k)).Nodup →
    (∀ c ∈ l, c.g = 0 ∧ 0 ≤ c.floor ∧ c.floor ≤ c.want ∧ c.prio < 8) →
    (∀ c ∈ grantAll b head l, 0 ≤ c.g ∧ c.g ≤ c.want) ∧ ((grantAll b head l).map (·.g)).sum ≤ max 0 (b - head) ∧
    (grantAll b head l).map (fun c => (c.k, c.want)) = l.map (fun c => (c.k, c.want)) ∧
    ((l.map (·.want)).sum ≤ b - head → ∀ c ∈ grantAll b head l, c.g = c.want)) ∧
  (∀ (m : Fin 16) (s : State),
    (∃ u : State, exec (.memberReportTimeout m) s = .next u.settle ∧ u = { s with pbs := { s.pbs with reports := u.pbs.reports } } ∧
      ∀ k, mfind u.pbs.reports k = if k = m.val then (mfind s.pbs.reports k).map fun r => { r with lost := true } else mfind s.pbs.reports k) ∧
    (s.getF R.PBS_SHARE_ROLE = 0 → exec .shareLossTimeout s = .next s.settle) ∧
    (s.getF R.PBS_SHARE_ROLE ≠ 0 → ∃ u : State, exec .shareLossTimeout s = .next u.settle ∧
      s.onlyFields u [R.PBS_STAT_FALLBACK, R.PBS_STAT_SHARELOSS] ∧ u.getF R.PBS_STAT_FALLBACK = 1 ∧ u.getF R.PBS_STAT_SHARELOSS = 1)) ∧
  (∀ (w : Writer) (s : State),
    let q := s.getF R.JRNL_ASEQ_SEQ
    let denied := s.turnedAway w R.JRNL_CTRL
    (s.mayWrite w R.JRNL_CTRL = false → exec (.jrnlAccept w) s = .next denied ∧ exec (.jrnlAbandon w) s = .next denied) ∧
    (s.mayWrite w R.JRNL_CTRL = true →
      (∃ u : State, exec (.jrnlAccept w) s = .next u.settle ∧
        (s.getF R.JRNL_STAT_ABUSY ≠ 0 → s.onlyFields u [R.JRNL_STAT_CFGREF] ∧ u.getF R.JRNL_STAT_CFGREF = 1) ∧
        (s.getF R.JRNL_STAT_ABUSY = 0 → { s with jrnl := { s.jrnl with acc := some (q, s.getF R.JRNL_ANSW_COUNT, s.getF R.JRNL_ADIG_DIG) } }.onlyFields u
          [R.JRNL_STAT_ABUSY] ∧ u.getF R.JRNL_STAT_ABUSY = 1)) ∧
      (∃ u : State, exec (.jrnlAbandon w) s = .next u.settle ∧
        let may := (s.sys.dev = .places ∨ s.sys.dev = .run .idle ∨ s.sys.dev = .run .paused) ∧ s.jrnlOrderList.head? = some q
        let gone := fun x : DropSwath => x.desc.any fun d => d.order == q
        (¬ may → s.onlyFields u [R.JRNL_STAT_CFGREF] ∧ u.getF R.JRNL_STAT_CFGREF = 1) ∧
        (may → u.drop.q = s.drop.q.filter (fun x => !((s.drop.q.filter gone).map (·.uid)).contains x.uid) ∧
          (∀ p, (u.jport p).queue = (s.jport p).queue.filter fun c => !((s.drop.q.filter gone).map (·.uid)).contains c.uid) ∧
          (∀ i, s.fire.swath = some i → (∃ x ∈ s.drop.q, gone x = true ∧ x.uid = i) → u.fire.swath = none) ∧
          u.pmRd (orderRec q) 4 / 2 ^ 28 = 4 ∧ u.getF R.JRNL_LASTRET_SEQ = max q (s.getF R.JRNL_LASTRET_SEQ) ∧
          (∀ e ∈ u.jrnl.ended, e.1 ≠ q) ∧ u.sys.resumeP = false ∧
          u.cores = s.cores ∧ u.cue = s.cue ∧ u.loop = s.loop ∧ u.pwm = s.pwm)))) ∧
  (∀ s : State,
    (s.jrnl.acc = none → exec .acceptComplete s = .next s.settle) ∧
    (∀ q count dig, s.jrnl.acc = some (q, count, dig) → ∃ u : State, exec .acceptComplete s = .next u.settle ∧
      let r := s.answerOf q count dig
      let o := orderRec q
      u.getF R.JRNL_STAT_ABUSY = 0 ∧ u.getF R.JRNL_STAT_ARES = r ∧ u.jrnl = { s.jrnl with acc := none } ∧
      (r ≠ 1 → r ≠ 2 → { s with jrnl := u.jrnl }.onlyFields u [R.JRNL_STAT_ABUSY, R.JRNL_STAT_ARES]) ∧
      (r = 2 → { s with jrnl := u.jrnl }.onlyFields u [R.JRNL_STAT_ABUSY, R.JRNL_STAT_ARES, R.JRNL_TOKL_SEQ, R.JRNL_TOKH_ASN] ∧
        u.getF R.JRNL_TOKL_SEQ = q % 2 ^ 32 ∧ u.getF R.JRNL_TOKH_ASN = s.pmRd (o + 8) 4) ∧
      (r = 1 → let asn := s.pmRd 0x100010 8
        s.onlyStores u [R.JRNL_STAT_ABUSY, R.JRNL_STAT_ARES, R.JRNL_TOKL_SEQ, R.JRNL_TOKH_ASN, R.JRNL_LASTACC_SEQ]
          (fun x => (o ≤ x ∧ x < o + 64) ∨ (0x100010 ≤ x ∧ x < 0x100018) ∨ (0x100020 ≤ x ∧ x < 0x100028)) ∧
        u.getF R.JRNL_TOKL_SEQ = q % 2 ^ 32 ∧ u.getF R.JRNL_TOKH_ASN = asn % 2 ^ 32 ∧ u.getF R.JRNL_LASTACC_SEQ = q % 2 ^ 32 ∧
        u.pmRd 0x100010 8 = (asn + 1) % 2 ^ 64 ∧ u.pmRd 0x100020 8 = q % 2 ^ 64 ∧
        (∀ e ∈ [(0, 4, 2 ^ 28), (4, 4, q), (8, 4, asn), (0xC, 2, count), (0xE, 2, 0), (0x10, 4, dig), (0x18, 8, s.cue.count.toNat), (0x20, 8, 0)],
          u.pmRd (o + e.1) e.2.1 = e.2.2 % 256 ^ e.2.1) ∧ u.recState o = 1))) ∧
  (∀ (line : Fin 512) (s : State),
    let o := 0x101000 + 64 * line.val
    let turned := fun u : State => if u.sys.railsDue = true ∧ u.jrnl.dirty = [] then u.enterDark else u
    (line.val ∉ s.jrnl.dirty → exec (.cvLineWrite line) s = .next (turned s).settle) ∧
    (line.val ∈ s.jrnl.dirty → ∃ u : State, exec (.cvLineWrite line) s = .next (turned u).settle ∧
      s.onlyStores u [] (fun x => o ≤ x ∧ x < o + 64) ∧ u.jrnl = { s.jrnl with dirty := u.jrnl.dirty } ∧
      (∀ l, l ∈ u.jrnl.dirty ↔ l ∈ s.jrnl.dirty ∧ l ≠ line.val) ∧
      ∀ i < 8, u.pmRd (o + 8 * i) 8 = let e := mget (0, 0) s.jrnl.cap (8 * line + i); (e.1 * 2 ^ 40 + e.2) % 2 ^ 64)) ∧
  (∀ s : State,
    let durable := fun e : Nat × Nat => ∀ l ∈ s.jrnl.dirty, ∀ i < 8, (mget (0, 0) s.jrnl.cap (8 * l + i)).1 ≠ e.2
    ((∀ e ∈ s.jrnl.ended, ¬ durable e) → exec .orderRetire s = .next s.settle) ∧
    (∀ l e m, s.jrnl.ended = l ++ e :: m → (∀ x ∈ l, ¬ durable x) → durable e → ∃ u : State, exec .orderRetire s = .next u.settle ∧
      let o := orderRec e.1
      let newer := s.getF R.JRNL_LASTRET_SEQ < e.1
      s.onlyStores u [R.JRNL_STAT_RETIRED, R.JRNL_LASTRET_SEQ] (fun x => (o ≤ x ∧ x < o + 64) ∨ (0x100028 ≤ x ∧ x < 0x100030)) ∧
      u.jrnl = { s.jrnl with ended := s.jrnl.ended.filter fun x => x != e } ∧ u.getF R.JRNL_STAT_RETIRED = 1 ∧
      u.pmRd o 4 = s.pmRd o 4 % 2 ^ 28 + 3 * 2 ^ 28 ∧ u.recState o = 3 ∧
      u.pmRd (o + 0x20) 8 = s.cue.count.toNat ∧ (∀ x, 4 ≤ x → x < 0x20 → u.rd8 (pmemBase + o + x) = s.rd8 (pmemBase + o + x)) ∧
      (newer → u.getF R.JRNL_LASTRET_SEQ = e.1 % 2 ^ 32 ∧ u.pmRd 0x100028 8 = e.1 % 2 ^ 64) ∧
      (¬ newer → u.getF R.JRNL_LASTRET_SEQ = s.getF R.JRNL_LASTRET_SEQ)))

/-- The Byrov rows: port control, block slots, MARK, ECHO, CAPS, TIME, CUEINFO, JOIN, link loss, WR, RD, RDR, WRACK, time-outs, EVT, MSG, MTX, MRX and PBS packets (R463, R465, R502, R503, R504, R505). -/
def Obligations.ByrovFabric : Prop :=
  (∀ (w : Writer) (v : Word) (s : State),
    (s.mayWrite w R.BYR_CTRL = false → exec (.byrCtrlWrite w v) s = .next (s.turnedAway w R.BYR_CTRL)) ∧
    (s.mayWrite w R.BYR_CTRL = true → ∃ u : State, exec (.byrCtrlWrite w v) s = .next u.settle ∧
      let was := fun q : Nat => (s.getReg R.BYR_CTRL).getLsbD q = true
      let now := fun q : Nat => v.getLsbD q = true
      let lost := ∃ q < 3, was q ∧ ¬ now q ∧ s.getF (R.BYR_PORT_UPSTR q) ≠ 0 ∧ s.getF (R.BYR_PORT_LINK q) = 3 ∧ s.cue.disc = 2
      let shown := fun q : Nat => [R.BYR_PORT_LINK q, R.BYR_PORT_UPSTR q]
      let caps := s.getF R.BYR_ADDR_ADDR * 2 ^ 38 + s.getF (R.UPD_IMGS_LEVEL (s.getF R.UPD_STAT_ACTIVE)) % 2 ^ 8 * 2 ^ 30 +
        Config.byrTurnaround.toNat * 2 ^ 14 + 2 ^ 13
      { s with freeCtr := u.freeCtr, byr := { s.byr with ports := u.byr.ports, members := u.byr.members },
               cue := { s.cue with phasing := u.cue.phasing } }.onlyFields u
        (R.CUE_STAT_HOLDOVER :: R.CUE_STAT_LOCK :: ⟨R.BYR_CTRL, 3, 0⟩ :: (shown 0 ++ shown 1 ++ shown 2)) ∧
      u.getF ⟨R.BYR_CTRL, 3, 0⟩ = fieldOf v 3 0 ∧
      (lost → u.getF R.CUE_STAT_HOLDOVER = 1 ∧ u.getF R.CUE_STAT_LOCK = 0 ∧ u.cue.phasing = false) ∧
      (¬ lost → u.cue = s.cue ∧ u.getF R.CUE_STAT_HOLDOVER = s.getF R.CUE_STAT_HOLDOVER ∧ u.getF R.CUE_STAT_LOCK = s.getF R.CUE_STAT_LOCK) ∧
      s.membersLeft u (fun q => was q ∧ ¬ now q ∧ ¬ (s.otherWay q ∧ (q = 1 → (was 0 ↔ now 0)))) ∧
      (∀ q, 3 ≤ q → u.byrPort q = s.byrPort q) ∧
      ∀ q < 3,
        (¬ was q → now q → u.getF (R.BYR_PORT_LINK q) = 1 ∧
          (∃ r < 2 ^ 58, u.byrPort q = { out := [ctlBlk 0x87 caps], scr := r, skew := s.getS (R.BYR_SKEW_SKEW q) }) ∧
          (Config.byrClosed = false ∨ (∀ k < 3, k ≠ q → (was k ↔ now k)) →
            (u.getF (R.BYR_PORT_UPSTR q) = 1 ↔ s.byrRoute 0 = some q))) ∧
        (was q → ¬ now q → u.getF (R.BYR_PORT_LINK q) = 0 ∧ u.byrPort q = {} ∧
          u.getF (R.BYR_PORT_UPSTR q) = s.getF (R.BYR_PORT_UPSTR q)) ∧
        ((was q ↔ now q) → u.byrPort q = s.byrPort q ∧ ∀ f ∈ shown q, u.getF f = s.getF f))) ∧
  (∀ (s : State) (d : Nat),
    let n := s.getF R.BYR_ADDR_ADDR
    let a := fun x : Nat => x / 4096 % 64
    let b := fun x : Nat => x / 64 % 64
    let c := fun x : Nat => x % 64
    let east := (a d + 64 - a n) % 64
    let west := (a n + 64 - a d) % 64
    let way := if east ≤ west then 0 else 1
    (d = n → s.byrRoute d = none) ∧
    (d ≠ n → b n = 0 → a d = a n → s.byrRoute d = some 2) ∧
    (d ≠ n → b n = 0 → a d ≠ a n → s.byrRoute d = some
      (if Config.byrClosed then (if s.getF (R.BYR_PORT_LINK way) = 3 then way else 1 - way) else if a n < a d then 0 else 1)) ∧
    (d ≠ n → b n ≠ 0 → c n = 0 → s.byrRoute d = some
      (if a d = a n ∧ b d = b n then 2 else if a d = a n ∧ b d ≠ 0 ∧ b n < b d then 0 else 1)) ∧
    (d ≠ n → b n ≠ 0 → c n ≠ 0 → s.byrRoute d = some (if a d = a n ∧ b d = b n ∧ c n < c d then 0 else 1))) ∧
  (∀ (s : State) (d k tag : Nat) (l : List Blk) (data : List Byte),
    s.byrPkt d k tag data = s.byrSend d (pktBlks d (s.getF R.BYR_ADDR_ADDR) k tag data) ∧
    (s.byrRoute d = none → s.byrSend d l = s) ∧ (∀ q, s.byrRoute d = some q → s.blocksQueued (s.byrSend d l) q l)) ∧
  (∀ (port : Fin 3) (arrival : List Blk) (s : State), ∃ e t : State,
    let q := port.val
    let odd := arrival.filter fun b => b.ctl && !([0x1E, 0x2D, 0x33, 0x4B, 0x55, 0x66, 0x78, 0x87].contains (b.payload.toNat % 256))
    s.onlyFields e [R.BYR_ERRCNT_SYNC q, R.BYR_ERRCNT_CRC q] ∧
    e.getF (R.BYR_ERRCNT_SYNC q) = min (s.getF (R.BYR_ERRCNT_SYNC q) + odd.length) 65535 ∧
    e.getF (R.BYR_ERRCNT_CRC q) = min (s.getF (R.BYR_ERRCNT_CRC q) + if pktBad arrival then 1 else 0) 65535 ∧
    (arrival = [] → t = e) ∧
    (∀ b l, arrival = b :: l →
      let typ := b.payload.toNat % 256
      let dest := b.payload.toNat / 2 ^ 46
      let sent := e.byrSend dest arrival
      let packet := b.ctl = true ∧ (typ = 0x4B ∨ typ = 0x55)
      let admits := fun p : Nat => b.ctl = true ∧ typ = 0x4B ∧ b.payload.toNat / 2 ^ 24 % 16 = 7 ∧
        (l.head?.map fun x => x.payload.toNat % 256) = some 2 ∧ e.byrRoute dest = some p ∧ e.getF (R.BYR_PORT_LINK p) = 2
      (¬ packet → t = e) ∧ (packet → (∀ p, ¬ admits p) → t = sent) ∧
      (∀ p, admits p → sent.onlyFields t [R.BYR_PORT_LINK p] ∧ t.getF (R.BYR_PORT_LINK p) = 3)) ∧
    let link := t.getF (R.BYR_PORT_LINK q)
    let x := t.byrPort q
    let sf := t.byrTimeNs / 6400
    let crc := x.crc ^^^ 0xFFFFFFFF
    let time := if sf % 64 = 0 ∧ t.getF (R.BYR_PORT_UPSTR q) = 0 then [ctlBlk 0x33 (sf % 2 ^ 56)] else []
    let b := x.out.headD (ctlBlk 0x1E 0)
    let sends := fun (y : ByrPort) (m : Blk) => { y with last := some m, scr := (blkBits x.scr m).1, bits := (blkBits x.scr m).2 }
    (link = 0 ∨ link = 4 → exec (.byrBlockSlot port arrival) s = .next t.settle) ∧
    (link ≠ 0 → link ≠ 4 → ∃ u : State, exec (.byrBlockSlot port arrival) s = .next u.settle ∧
      (x.slot = 0 → t.onlyByrPort u q (sends { x with slot := 1, crc := 0xFFFFFFFF, prevCrc := crc, out := time ++ x.out }
        (ctlBlk 0x2D (sf % 2 ^ 24 * 2 ^ 32 + crc))) []) ∧
      (x.slot ≠ 0 → t.onlyByrPort u q
        (sends { x with slot := (x.slot + 1) % 500, out := x.out.tail, crc := crc32c x.crc (bytesLE 8 b.payload.toNat) } b) []))) ∧
  (∀ (port : Fin 3) (sf : BitVec 24) (crcOk : Bool) (dly : BitVec 16) (s : State),
    let q := port.val
    let cmd := Instr.byrMark port sf crcOk dly
    let link := s.getF (R.BYR_PORT_LINK q)
    let x := s.byrPort q
    (link = 0 ∨ link = 4 → exec cmd s = .next s.settle) ∧
    (link ≠ 0 → link ≠ 4 → ∃ t : State,
      (crcOk = true → s.onlyByrPort t q { x with fails := 0 } []) ∧
      (crcOk = false → s.onlyByrPort t q { x with fails := x.fails + 1 } [R.BYR_ERRCNT_CRC q] ∧
        t.getF (R.BYR_ERRCNT_CRC q) = min (s.getF (R.BYR_ERRCNT_CRC q) + 1) 65535) ∧
      let y := t.byrPort q
      let ends := link = 3 ∧ 4 ≤ y.fails
      (ends → ∃ u : State, exec cmd s = .next u.settle ∧ t.linkFails u q 4) ∧
      (¬ ends → s.getF (R.BYR_PORT_UPSTR q) = 0 → exec cmd s = .next t.settle) ∧
      (¬ ends → s.getF (R.BYR_PORT_UPSTR q) ≠ 0 → ∃ (n : Nat) (v u : State), exec cmd s = .next u.settle ∧
        y.sf ≤ n ∧ n < y.sf + 2 ^ 24 ∧ n % 2 ^ 24 = sf.toNat ∧
        { t with byr := { t.byr with rootNs := n * 6400 + dly.toNat / 16 } }.onlyByrPort v q
          { y with sf := n, echos := y.echos + 1, out := ctlBlk 0x66 (sf.toNat * 2 ^ 32) :: y.out } [R.BYR_DLY_DLY q] ∧
        v.getF (R.BYR_DLY_DLY q) = dly.toNat ∧ v.trainingEnds u q))) ∧
  (∀ (port : Fin 3) (rtt : BitVec 32) (s : State),
    let q := port.val
    let x := s.byrPort q
    let y := { x with echos := x.echos + 1, rtt := x.rtt + rtt.toNat }
    let off := s.getF (R.BYR_PORT_LINK q) ≠ 1 ∨ s.getF (R.BYR_PORT_UPSTR q) ≠ 0
    (off → exec (.byrEcho port rtt) s = .next s.settle) ∧
    (¬ off → ∃ t u : State, exec (.byrEcho port rtt) s = .next u.settle ∧ t.trainingEnds u q ∧
      (y.echos ≠ 64 → s.onlyByrPort t q y []) ∧
      (y.echos = 64 → ∃ l : Int, rounds (((y.rtt : Int) - 64 * y.tbrd + 64 * x.skew : Int) / 128) l ∧
        { s with freeCtr := t.freeCtr }.onlyByrPort t q y [R.BYR_DLY_DLY q] ∧ (t.getF (R.BYR_DLY_DLY q) : Int) = l % 65536))) ∧
  (∀ (port : Fin 3) (addr : BitVec 18) (level : BitVec 8) (tbrd : BitVec 16) (s : State),
    let q := port.val
    let mine := s.getF (R.UPD_IMGS_LEVEL (s.getF R.UPD_STAT_ACTIVE))
    let near := level.toNat ≤ mine + 1 ∧ mine ≤ level.toNat + 1
    (s.getF (R.BYR_PORT_LINK q) ≠ 1 → exec (.byrCaps port addr level tbrd) s = .next s.settle) ∧
    (s.getF (R.BYR_PORT_LINK q) = 1 → ∃ t u : State, exec (.byrCaps port addr level tbrd) s = .next u.settle ∧
      s.onlyFields t [R.BYR_PORT_PEER q] ∧ t.getF (R.BYR_PORT_PEER q) = addr.toNat ∧ (¬ near → t.linkFails u q 1) ∧
      (near → ∃ v : State, t.onlyByrPort v q { s.byrPort q with caps := true, level := level.toNat, tbrd := tbrd.toNat } [] ∧
        v.trainingEnds u q))) ∧
  (∀ (port : Fin 3) (sf : BitVec 56) (count : BitVec 40) (cyc : BitVec 12) (s : State),
    let q := port.val
    let down := s.getF (R.BYR_PORT_UPSTR q) = 0
    let ns := sf.toNat * 6400 + s.getF (R.BYR_DLY_DLY q) / 16
    (down → exec (.byrTime port sf) s = .next s.settle ∧ exec (.byrCueinfo port count cyc) s = .next s.settle) ∧
    (¬ down → exec (.byrCueinfo port count cyc) s =
        .next (State.settle { s with byr := { s.byr with rootCue := count.toNat, rootCyc := cyc.toNat } }) ∧
      ∃ u : State, exec (.byrTime port sf) s = .next u.settle ∧
        { s with byr := { s.byr with rootNs := ns } }.onlyByrPort u q { s.byrPort q with sf := sf.toNat } [])) ∧
  (∀ (port : Fin 3) (kind : BitVec 8) (src : BitVec 18) (s : State),
    let q := port.val
    let n := s.getF R.BYR_ADDR_ADDR
    let link := s.getF (R.BYR_PORT_LINK q)
    let fits := s.ringMember q src.toNat ∧ src.toNat ∉ s.byr.members
    ∃ u : State, exec (.byrJoin port kind src) s = .next u.settle ∧
      (kind = 1 → ¬ fits → s.blocksQueued u q (pktBlks src.toNat n 7 0 [3])) ∧
      (kind = 1 → fits → ∃ t : State, { s with byr := { s.byr with members := s.byr.members ++ [src.toNat] } }.onlyFields t [R.BYR_PORT_LINK q] ∧
        t.getF (R.BYR_PORT_LINK q) = (if link = 2 then 3 else link) ∧ t.blocksQueued u q (pktBlks src.toNat n 7 0 [2])) ∧
      (kind = 2 → link = 2 → s.onlyFields u [R.BYR_PORT_LINK q] ∧ u.getF (R.BYR_PORT_LINK q) = 3) ∧
      (kind = 3 → link = 2 → ∃ t : State, s.linkFails t q 3 ∧ t.onlyFields u [R.BYR_STAT_DUP] ∧ u.getF R.BYR_STAT_DUP = 1) ∧
      (kind ≠ 1 → ¬ (link = 2 ∧ (kind = 2 ∨ kind = 3)) → u = s)) ∧
  (∀ (port : Fin 3) (s : State),
    let q := port.val
    let link := s.getF (R.BYR_PORT_LINK q)
    (link = 1 → ∃ u : State, exec (.byrTrainTimeout port) s = .next u.settle ∧ s.linkFails u q 2) ∧
    (link ≠ 1 → exec (.byrTrainTimeout port) s = .next s.settle) ∧
    (link = 3 → ∃ t u : State, exec (.byrLockLoss port) s = .next u.settle ∧ s.onlyFields t [R.BYR_ERRCNT_SYNC q] ∧
      t.getF (R.BYR_ERRCNT_SYNC q) = min (s.getF (R.BYR_ERRCNT_SYNC q) + 1000) 65535 ∧ t.linkFails u q 4) ∧
    (link ≠ 3 → exec (.byrLockLoss port) s = .next s.settle)) ∧
  (∀ (src : BitVec 18) (tag : BitVec 8) (addr : Addr) (data : List Byte) (len : BitVec 9) (s : State),
    let a := addr.toNat
    let n := len.toNat
    let wr := Instr.byrWr src tag addr data
    let rd := Instr.byrRd src tag addr len
    (data = [] ∨ s.byrGranted a data.length true = false → exec wr s = .next (s.byrPkt src.toNat 4 tag.toNat [1]).settle) ∧
    (data ≠ [] → s.byrGranted a data.length true = true →
      let m := s.memWrite .byr a data
      exec wr s = .next (m.1.byrPkt src.toNat 4 tag.toNat [if m.2 then 0 else 2]).settle) ∧
    (n = 0 ∨ s.byrGranted a n false = false → exec rd s = .next (s.byrPkt src.toNat 3 tag.toNat (1 :: List.replicate 7 0)).settle) ∧
    (n ≠ 0 → s.byrGranted a n false = true →
      (∀ t l, s.memRead a n = (t, .ok l) → exec rd s = .next (t.byrPkt src.toNat 3 tag.toNat (List.replicate 8 0 ++ l)).settle) ∧
      (∀ t r, s.memRead a n = (t, r) → (∀ l, r ≠ .ok l) →
        exec rd s = .next (t.byrPkt src.toNat 3 tag.toNat (2 :: List.replicate 7 0)).settle)) ∧
    (∀ k y, (regionOf k = .working → (s.byrGranted k n y = true → s.getF R.BYR_RACC_WM ≠ 0 ∧ regionOf (k + n - 1) = .working) ∧
        (s.getF R.BYR_RACC_WM ≠ 0 → regionOf (k + n - 1) = .working → s.byrGranted k n false = true)) ∧
      (regionOf k = .dram → (s.byrGranted k n y = true ↔ s.getF R.BYR_RACC_DRAM ≠ 0 ∧ s.dramUsable k n = true)) ∧
      (regionOf k = .pmem → (s.byrGranted k n y = true → s.getF R.BYR_RACC_PMEM ≠ 0 ∧ pmemBase + 0xB40000 ≤ k)) ∧
      (regionOf k ≠ .working → regionOf k ≠ .dram → regionOf k ≠ .pmem → s.byrGranted k n y = false))) ∧
  (∀ (tag status : BitVec 8) (data : List Byte) (s : State),
    let found := fun (wr : Bool) (r : RemoteAcc) => s.byr.remote.find? (fun x => x.tag == tag.toNat && x.wr == wr) = some r
    let past := fun r : RemoteAcc => { s with byr := { s.byr with remote := s.byr.remote.erase r } }
    ((∀ r, ¬ found false r) → exec (.byrRdr tag status data) s = .next s.settle) ∧
    ((∀ r, ¬ found true r) → exec (.byrWrack tag status) s = .next s.settle) ∧
    ((∀ r ∈ s.byr.remote, r.tag ≠ tag.toNat) → exec (.remoteAccessTimeout tag) s = .next s.settle) ∧
    (∀ r, found false r → ∃ u : State, exec (.byrRdr tag status data) s = .next u.settle ∧
      State.accessEnds (past r) u r (if status = 0 then some data else none)) ∧
    (∀ r, found true r → ∃ u : State, exec (.byrWrack tag status) s = .next u.settle ∧
      State.accessEnds (past r) u r (if status = 0 then some [] else none)) ∧
    (∀ r, s.byr.remote.find? (fun x => x.tag == tag.toNat) = some r → ∃ t u : State, exec (.remoteAccessTimeout tag) s = .next u.settle ∧
      (past r).onlyFields t [R.BYR_STAT_TMO] ∧ t.getF R.BYR_STAT_TMO = 1 ∧ t.accessEnds u r none)) ∧
  (∀ (src : BitVec 18) (r : Fin 32) (data : List Byte) (s : State),
    let takes := s.getF (R.BYR_EVSRC_ANY r) ≠ 0 ∨ (s.getF (R.BYR_EVSRC_V r) ≠ 0 ∧ s.getF (R.BYR_EVSRC_SRC r) = src.toNat)
    (takes → exec (.byrEvt src r) s = .next (s.publish (0x1C0 + r.val)).settle) ∧
    (¬ takes → ∃ u : State, exec (.byrEvt src r) s = .next u.settle ∧ s.onlyFields u [R.BYR_STAT_EVREJ] ∧
      u.getF R.BYR_STAT_EVREJ = min (s.getF R.BYR_STAT_EVREJ + 1) 65535) ∧
    (s.getF (R.BYR_EVOUT_V r) = 0 → s.byrEvout r = s) ∧
    (let d := s.getF (R.BYR_EVOUT_DEST r)
     s.getF (R.BYR_EVOUT_V r) ≠ 0 → s.byrEvout r =
      s.byrSend d [ctlBlk 0x55 (d * 2 ^ 38 + s.getF R.BYR_ADDR_ADDR * 2 ^ 20 + s.getF (R.BYR_EVOUT_REM r) * 2 ^ 15)]) ∧
    (let held := fun n : Nat => ∃ e ∈ s.byr.rx, e.1 = n
     let p : State := { s with freeCtr := s.freeCtr + 1 }
     let l := data.take 2040
     ((∀ n < 64, held n) → exec (.byrMsg src data) s = .next p.settle) ∧
     ((∃ n < 64, ¬ held n) → ∃ (n : Nat) (t : State), n < 64 ∧ ¬ held n ∧
       (let a := s.getF R.BYR_MBASE_ADDR * 2 ^ 17 + 2048 * n
        t = if regionOf a = .working then (p.memWrite .byr a (bytesLE 4 l.length ++ l)).1 else p) ∧
       exec (.byrMsg src data) s = .next (State.settle { t with byr := { t.byr with rx := s.byr.rx ++ [(n, src.toNat)] } })))) ∧
  (∀ (w : Writer) (v : Word) (s : State),
    let pop := s.mayWrite w R.BYR_MRX
    (s.mayWrite w R.BYR_MTX = false → exec (.byrMtxGo w v) s = .next (s.turnedAway w R.BYR_MTX)) ∧
    (pop = false → exec (.byrMrxPop w) s = .next (s.turnedAway w R.BYR_MRX)) ∧
    (pop = true → exec (.byrMrxPop w) s = .next (State.settle { s with byr := { s.byr with rx := s.byr.rx.tail } })) ∧
    (s.mayWrite w R.BYR_MTX = true → ∃ t : State,
      let n := fieldOf v 30 24
      let d := fieldOf v 17 0
      let a := s.getF R.BYR_MBASE_ADDR * 2 ^ 17 + 2048 * n
      (64 ≤ n → exec (.byrMtxGo w v) s = .next t.settle ∧ s.onlyFields t [R.BYR_STAT_CFGREF] ∧ t.getF R.BYR_STAT_CFGREF = 1) ∧
      (n < 64 → s.onlyFields t [R.BYR_MTX_SLOT, R.BYR_MTX_DEST] ∧ t.getF R.BYR_MTX_SLOT = n ∧ t.getF R.BYR_MTX_DEST = d ∧
        (regionOf a ≠ .working → exec (.byrMtxGo w v) s = .next t.settle) ∧
        (regionOf a = .working → ∀ t1 t2 head l, t.blockRead .working a 4 = (t1, head) →
          t1.blockRead .working (a + 4) (min (leAt head 0 4) 2040) = (t2, l) →
          exec (.byrMtxGo w v) s = .next (t2.byrPkt d 5 0 l).settle)))) ∧
  (∀ (s : State) (r : Region) (a n : Nat), let x := s.blockRead r a n
    x.2.length = n ∧ (∀ i < n, s.eccAt (a + i) ≠ 2 → x.2.getD i 0 = s.rd8 (a + i)) ∧
      { s with ecc := x.1.ecc, freeCtr := x.1.freeCtr }.onlyFields x.1 mergeFields) ∧
  (∀ (group : BitVec 8) (m : Fin 16) (x y : BitVec 20) (s : State),
    let role := s.getF R.PBS_SHARE_ROLE
    let mine := s.getF R.PBS_SHARE_GROUP = group.toNat
    let member := mine ∧ role ≠ 0 ∧ role ≠ 1 ∧ s.getF R.PBS_SHARE_MEMBER = m.val
    (¬ (mine ∧ role = 1) → exec (.byrPbsReport group m x y) s = .next s.settle) ∧
    (mine ∧ role = 1 → ∃ u : State, exec (.byrPbsReport group m x y) s = .next u.settle ∧
      u = { s with pbs := { s.pbs with reports := u.pbs.reports } } ∧
      ∀ k, mfind u.pbs.reports k = if k = m.val then some ⟨x.toNat, y.toNat, false⟩ else mfind s.pbs.reports k) ∧
    (¬ member → exec (.byrPbsShare group m x) s = .next s.settle) ∧
    (member → ∃ u : State, exec (.byrPbsShare group m x) s = .next u.settle ∧
      { s with pbs := { s.pbs with share := some x.toNat } }.onlyFields u [R.PBS_STAT_FALLBACK] ∧ u.getF R.PBS_STAT_FALLBACK = 0))

/-- UPD_VERIFY, VERIFY_COMPLETE, UPD_ACT, ACTIVATION_COMPLETE, IMGDATA, CHUNKACK, ACTREQ and ACTDONE (R495, R518, R519, R520, R522, R523). -/
def Obligations.ImagesAndActivation : Prop :=
  (∀ (b : Bool) (w : Writer) (v : Word) (s : State),
    let cmd := if b then Instr.updVerify w v else Instr.updAct w v
    let verify := b || v.getLsbD 31
    let act := !b || v.getLsbD 30
    let bank := fieldOf v 24 24
    let chunk := fieldOf v 9 0
    let hot := !v.getLsbD 29
    let bad := 1019 ≤ chunk ∧ chunk ≠ 0x3FF
    let busy := s.getF R.UPD_STAT_BUSY ≠ 0
    let ref := fun t : State => s.onlyFields t [R.UPD_STAT_CFGREF] ∧ t.getF R.UPD_STAT_CFGREF = 1
    (s.mayWrite w R.UPD_CTRL = false → exec cmd s = .next (s.turnedAway w R.UPD_CTRL)) ∧
    (s.mayWrite w R.UPD_CTRL = true → ∃ t u : State, exec cmd s = .next u.settle ∧
      (bad → u = t ∧ ref t) ∧
      (¬ bad → busy → ref t ∧ (act = false → u = t) ∧ (act = true → t.onlyFields u [R.UPD_STAT_ACAUSE] ∧
        u.getF R.UPD_STAT_ACAUSE = t.actReason bank hot none)) ∧
      (¬ bad → ¬ busy →
        { s with upd := { s.upd with verify := if verify then some (bank, chunk) else s.upd.verify } }.onlyFields t
          [R.UPD_STAT_BUSY, R.UPD_CTRL_MODE, R.UPD_CTRL_BANK, R.UPD_CTRL_IRQEN, R.UPD_CTRL_CHUNK] ∧
        (verify = true → t.getF R.UPD_STAT_BUSY = 1) ∧ (verify = false → t.getF R.UPD_STAT_BUSY = s.getF R.UPD_STAT_BUSY) ∧
        t.getF R.UPD_CTRL_MODE = fieldOf v 29 29 ∧ t.getF R.UPD_CTRL_BANK = bank ∧ t.getF R.UPD_CTRL_IRQEN = fieldOf v 10 10 ∧
        t.getF R.UPD_CTRL_CHUNK = chunk ∧ (act = false → u = t) ∧ (act = true → t.activationAsked u bank hot none none)))) ∧
  (∀ (s : State) (b : Nat) (hot : Bool) (version : Option Nat),
    let bars := s.activationBars b hot version
    (∀ k < 8, s.actReason b hot version = k + 1 ↔ bars.getD k False ∧ ∀ j < k, ¬ bars.getD j False) ∧
    (s.actReason b hot version = 0 ↔ ∀ k < 8, ¬ bars.getD k False) ∧
    let ptr := mget 0 s.fls.pointer (flsBlock (actPage b 0))
    (∀ p, s.actFree b = some p ↔ p % 2 = 1 ∧ p ≤ 253 ∧ ptr ≤ p ∧ p ≤ ptr + 1)) ∧
  (∀ (s : State) (b v p : Nat), s.actFree b = some p →
    let n := max ((s.actCount 0).getD 0) ((s.actCount 1).getD 0) + 1
    let body := bytesLE 4 0x54434131 ++ bytesLE 4 n ++ bytesLE 4 v
    let u := s.actWrite b v
    let a := actPage b p
    u = { s with mem := u.mem, fls := { s.fls with undef := u.fls.undef, pointer := u.fls.pointer } } ∧
    (List.range 16).map (fun i => u.flsByte (a + i)) = body ++ bytesLE 4 (crc32cFull body) ∧
    (∀ x, ¬ (a ≤ x ∧ x < a + 16) → u.rd8 x = s.rd8 x) ∧
    (∀ k, mfind u.fls.undef k = if k = flsPage a then none else mfind s.fls.undef k) ∧
    ∀ k, mget 0 u.fls.pointer k = if k = flsBlock a then p + 1 else mget 0 s.fls.pointer k) ∧
  (∀ (s t : State) (b c : Nat),
    (s.manifestRead b = (t, none) → s.verdict b c = (t, 6)) ∧
    (∀ h, s.manifestRead b = (t, some h) →
      let k := leAt h 0x14 1
      let m := t.manifestReason h
      (c = 0x3FF → s.verdict b c = (t, m)) ∧
      (m = 0 ↔ manifestForm h = true ∧ leAt h 0x10 4 = 0x9416 ∧ t.keyAccepted k ((h.drop 0xD0).take 96) = true ∧
        manifestDigest h = (h.drop 0x40).take 48 ∧ signatureOk h (manifestDigest h) 0x70 0xD0 = true) ∧
      (c ≠ 0x3FF → 0x3FF ∉ mget [] t.upd.passed b → s.verdict b c = (t, 7)) ∧
      (c ≠ 0x3FF → 0x3FF ∈ mget [] t.upd.passed b → ∀ u r, t.chunkReason b h c = (u, r) →
        (r ≠ 0 → s.verdict b c = (u, r)) ∧ (r = 0 → s.verdict b c = u.sectionsWithin b h (c :: mget [] u.upd.passed b))))) ∧
  (∀ s : State,
    (s.upd.verify = none → exec .verifyComplete s = .next s.settle) ∧
    (∀ b c, s.upd.verify = some (b, c) → ∃ t u : State, exec .verifyComplete s = .next u.settle ∧
      let m := s.verdict b c
      let h := m.1.manifest b
      let l := (if m.2 = 0 then [c] else []) ++ (mget [] m.1.upd.passed b).filter (· != c)
      let p := t.chainReply c m.2
      let q : State := if c = 0x3FF then { p with upd := { p.upd with chainBank := b, chainOut := none, chainDone := [], chainStop := false } } else p
      { m.1 with upd := { m.1.upd with passed := t.upd.passed, verify := none } }.onlyFields t
        [R.UPD_STAT_BUSY, R.UPD_STAT_DONE, R.UPD_STAT_PASS, R.UPD_STAT_VCAUSE, R.UPD_IMGS_HDROK b, R.UPD_IMGS_ALLOK b, R.UPD_IMGS_LEVEL b, R.UPD_IMGV_VER b] ∧
      (∀ k, mget [] t.upd.passed k = if k = b then l else mget [] m.1.upd.passed k) ∧
      t.getF R.UPD_STAT_BUSY = 0 ∧ t.getF R.UPD_STAT_DONE = 1 ∧ (t.getF R.UPD_STAT_PASS = 1 ↔ m.2 = 0) ∧
      t.getF R.UPD_STAT_VCAUSE = m.2 ∧ (t.getF (R.UPD_IMGS_HDROK b) = 1 ↔ 0x3FF ∈ l) ∧
      (t.getF (R.UPD_IMGS_ALLOK b) = 1 ↔ 0x3FF ∈ l ∧ ∀ i < imgChunks h, i ∈ l) ∧
      (c = 0x3FF → m.2 = 0 → t.getF (R.UPD_IMGS_LEVEL b) = imgLevel h ∧ t.getF (R.UPD_IMGV_VER b) = imgVersion h) ∧
      (¬ (c = 0x3FF ∧ m.2 = 0) → ∀ f ∈ [R.UPD_IMGS_LEVEL b, R.UPD_IMGV_VER b], t.getF f = m.1.getF f) ∧
      (m.2 ≠ 0 ∨ b = p.getF R.UPD_STAT_ACTIVE → u = p) ∧
      (m.2 = 0 → b ≠ p.getF R.UPD_STAT_ACTIVE → u = q.chainSend))) ∧
  (∀ (s : State) (c n : Nat),
    let b := s.upd.chainBank
    let idle := s.getF R.UPD_CHAIN_V = 0 ∨ s.upd.chainStop = true ∨ s.upd.chainOut ≠ none
    (∀ x, s.chainNext = some x → x ∉ s.upd.chainDone ∧
      (x = 0x3FF ∨ (x < imgChunks (s.manifest b) ∧ 0x3FF ∈ s.upd.chainDone ∧ ∀ k < x, k ∈ s.upd.chainDone))) ∧
    (idle ∨ s.chainNext = none → s.chainSend = s) ∧
    (¬ idle → ∀ x, s.chainNext = some x →
      (x ∉ mget [] s.upd.passed b → s.chainSend = s) ∧
      (x ∈ mget [] s.upd.passed b → let t := s.chainData b x
        s.chainSend = { t with upd := { t.upd with chainOut := some (x, 0) } })) ∧
    (∀ src, s.upd.chainSrc = some (src, c) → let t := s.byrPkt src 5 0 (bytesLE 8 (2 + c * 2 ^ 16 + n * 2 ^ 32))
      s.chainReply c n = { t with upd := { t.upd with chainSrc := none } }) ∧
    ((∀ src, s.upd.chainSrc ≠ some (src, c)) → s.chainReply c n = s)) ∧
  (∀ (src : BitVec 18) (chunk : BitVec 16) (result : BitVec 8) (s : State),
    let c := chunk.toNat
    let cmd := Instr.chunkack src chunk result
    let mine := s.getF R.UPD_CHAIN_NODE = src.toNat
    ((∀ n, s.upd.chainOut ≠ some (c, n)) ∨ ¬ mine → exec cmd s = .next s.settle) ∧
    (∀ n, s.upd.chainOut = some (c, n) → mine →
      (result = 0 → exec cmd s = .next
        (State.chainSend { s with upd := { s.upd with chainOut := none, chainDone := c :: s.upd.chainDone } }).settle) ∧
      (result ≠ 0 → n < 3 → let t := s.chainData s.upd.chainBank c
        exec cmd s = .next (State.settle { t with upd := { t.upd with chainOut := some (c, n + 1) } })) ∧
      (result ≠ 0 → 3 ≤ n → let t : State := { s with upd := { s.upd with chainOut := none, chainStop := true } }
        ((∀ i k, s.host.long ≠ some (i, 0x20, k)) → exec cmd s = .next t.settle) ∧
        ∀ i k, s.host.long = some (i, 0x20, k) → exec cmd s = .next (t.hostNotify i 6 (bytesLE 1 result.toNat)).settle))) ∧
  (∀ (src : BitVec 18) (chunk : BitVec 16) (p : Fin 1024) (data : List Byte) (s : State),
    let c := chunk.toNat
    let cmd := Instr.imgdata src chunk p data
    (s.sys.dev ≠ .recovery → exec cmd s = exec (.byrMsg src (bytesLE 8 (1 + c * 2 ^ 16 + p.val * 2 ^ 32) ++ data.take 1024))
      { s with upd := { s.upd with chainSrc := some (src.toNat, c) } }) ∧
    (s.sys.dev = .recovery → s.fls.op ≠ none → exec cmd s = .next (State.settle
      { s with upd := { s.upd with recWait := s.upd.recWait ++ [.packet src.toNat c p data] } })) ∧
    (s.sys.dev = .recovery → s.fls.op = none → ∀ t ok, s.recTake 1 ((if c = 0x3FF then 0 else 2 ^ 20 * (c + 1)) + 1024 * p.val) (data.take 1024) = (t, ok) →
      (ok = false → exec cmd s = .next s.settle) ∧ (ok = true → p.val ≠ 1023 → exec cmd s = .next t.settle) ∧
      (ok = true → p.val = 1023 → ∀ v h, t.manifestRead t.upd.itemTo = (v, some h) →
        let m := if c = 0x3FF then (v, v.manifestReason h) else v.chunkReason t.upd.itemTo h c
        let x := m.1.byrPkt src.toNat 5 0 (bytesLE 8 (2 + c * 2 ^ 16 + m.2 * 2 ^ 32))
        exec cmd s = .next (if c ≠ 0x3FF ∧ c + 1 = imgChunks (x.manifest t.upd.itemTo) then (x.recEnd 1).1 else x).settle) ∧
      (ok = true → p.val = 1023 → ∀ v, t.manifestRead t.upd.itemTo = (v, none) →
        let x := v.byrPkt src.toNat 5 0 (bytesLE 8 (2 + c * 2 ^ 16 + 6 * 2 ^ 32))
        exec cmd s = .next (if c ≠ 0x3FF ∧ c + 1 = imgChunks (x.manifest t.upd.itemTo) then (x.recEnd 1).1 else x).settle))) ∧
  (∀ (src origin : BitVec 18) (mode : Bool) (result : BitVec 4) (version : Word) (s : State),
    exec (.actdone src result version origin) s =
      exec (.byrMsg src (bytesLE 8 (4 + result.toNat * 2 ^ 8 + version.toNat * 2 ^ 32) ++ bytesLE 8 origin.toNat)) s ∧
    (∃ u : State, exec (.actreq src mode version origin) s = .next u.settle ∧
      s.activationAsked u (1 - s.getF R.UPD_STAT_ACTIVE) (!mode) (some version.toNat) (some origin.toNat)) ∧
    ∀ b n : Nat, s.actDone none b n = s ∧ s.actDone (some origin.toNat) b n = s.byrPkt origin.toNat 5 0
      (bytesLE 8 (4 + n * 2 ^ 8 + s.getF (R.UPD_IMGV_VER b) * 2 ^ 32) ++ bytesLE 8 (s.getF R.BYR_ADDR_ADDR))) ∧
  (∀ s : State,
    ((∀ a, s.upd.act = some a → a.paused = false) ∨ s.sys.resetDue = true ∨ s.inRun = false →
      exec .activationComplete s = .next s.settle) ∧
    (∀ a, s.upd.act = some a → a.paused = true → s.sys.resetDue = false → s.inRun = true →
      ∃ p q u : State, exec .activationComplete s = .next u.settle ∧
        (let r := s.releaseCores.loopInit
         { r with upd := { r.upd with act := none } }.onlyFields p (a.units.flatMap fun n => [R.PWM_CTRL_EN n, R.PWM_STAT_JOINPEND n])) ∧
        (∀ n ∈ a.units, p.getF (R.PWM_CTRL_EN n) = 1 ∧ p.getF (R.PWM_STAT_JOINPEND n) = 1) ∧
        (p.pwmBoundary.actEvent a.bank true 0).onlyFields q [R.UPD_STAT_BUSY, R.UPD_STAT_ACTIVE] ∧
        q.getF R.UPD_STAT_BUSY = 0 ∧ q.getF R.UPD_STAT_ACTIVE = a.bank % 2 ∧
        let x := q.actDone a.origin a.bank 0
        let y := match x.host.long with | some (_, 0x19, _) => x.longEnd 0 [] | _ => x
        (y.getF R.UPD_CHAIN_V = 0 → u = y) ∧
        (y.getF R.UPD_CHAIN_V ≠ 0 → u = y.byrPkt (y.getF R.UPD_CHAIN_NODE) 5 0
          (bytesLE 8 (3 + y.getF (R.UPD_IMGV_VER a.bank) * 2 ^ 32) ++ bytesLE 8 (a.origin.getD (y.getF R.BYR_ADDR_ADDR))))) ∧
    (∀ n ∈ [0, 2, 4, 6, 8, 9, 10, 11, 12, 13, 14, 15], s.releaseCores.core n =
      match mfind s.boot.cores n with | some c => { c with run := .running } | none => { run := .inReset }))

/-- BBX, calendar, nozzle-flush, debug-lock, power-fail, rail, temperature and wake rows (R33, R381, R443, R532, R533, R535). -/
def Obligations.BlackBoxLifetimeAndSupply : Prop :=
  (∀ (b : Bool) (w : Writer) (v : Word) (s : State),
    let cmd := if b then Instr.bbxWr w v else Instr.bbxCalset w v
    let wr := b || v.getLsbD 31
    let cal := !b || v.getLsbD 30
    let code := fieldOf v 15 0
    let full := wr = true ∧ 16 ≤ s.bbxQueue.length
    let data := (List.range 6).map fun i => s.getReg (R.BBX_WDATA i)
    (s.mayWrite w R.BBX_CTRL = false → exec cmd s = .next (s.turnedAway w R.BBX_CTRL)) ∧
    (s.mayWrite w R.BBX_CTRL = true → ∃ u : State, exec cmd s = .next u.settle ∧
      (code < 0x8000 → s.onlyFields u [R.BBX_STAT_CFGREF] ∧ u.getF R.BBX_STAT_CFGREF = 1) ∧
      (0x8000 ≤ code →
        { s with bbxQueue := u.bbxQueue, bbx := u.bbx }.onlyFields u [R.BBX_CTRL_CODE, R.BBX_CTRL_LOSTIRQ, R.BBX_STAT_LOST] ∧
        u.getF R.BBX_CTRL_CODE = code ∧ u.getF R.BBX_CTRL_LOSTIRQ = fieldOf v 16 16 ∧
        u.bbxQueue = (if wr then s.queuedRecord code data else s.bbxQueue) ∧
        (full → u.bbx.lost = s.bbx.lost + 1 ∧ u.getF R.BBX_STAT_LOST = min (s.getF R.BBX_STAT_LOST + 1) 65535) ∧
        (¬ full → u.bbx.lost = s.bbx.lost ∧ u.getF R.BBX_STAT_LOST = s.getF R.BBX_STAT_LOST) ∧
        u.bbx = (if cal then { s.bbx with lost := u.bbx.lost, calValid := true, calClk := some s.clk, cal := BitVec.ofNat 40 (s.getF R.BBX_CALSETH_SEC * 2 ^ 32 + s.getF R.BBX_CALSETL_SEC) }
          else { s.bbx with lost := u.bbx.lost })))) ∧
  (∀ s : State,
    (s.bbxQueue = [] → exec .bbxRecordWrite s = .next s.settle) ∧
    (∀ r t, s.bbxQueue = r :: t → ∃ u : State, exec .bbxRecordWrite s = .next u.settle ∧
      let x := s.bbx
      let pinned := x.pin < 1024
      let slot := if pinned then 1024 * x.area + x.pin else x.wrap
      let a := pmemBase + 0x500000 + 64 * slot
      let body := bytesLE 8 x.serial ++ bytesLE 8 r.cue.toNat ++ bytesLE 8 r.time.toNat ++
        bytesLE 4 (if x.calValid then x.cal.toNat else 0) ++ bytesLE 2 x.boots ++ bytesLE 1 (bbxBlock r.code) ++ bytesLE 1 x.area ++
        bytesLE 2 r.code ++ bytesLE 2 (min x.lost 65535) ++ ((r.data.flatMap fun w : Word => bytesLE 4 w.toNat) ++ List.replicate 24 0).take 24
      u.rdBytes a 64 = body ++ bytesLE 4 (crc32cFull body) ∧ (∀ y, ¬ (a ≤ y ∧ y < a + 64) → u.rd8 y = s.rd8 y) ∧
      { s with mem := u.mem, ecc := u.ecc, pmcQueue := u.pmcQueue, bbxQueue := t, bbx := { x with serial := x.serial + 1, lost := 0, pin := if pinned then x.pin + 1 else x.pin, wrap := if pinned then x.wrap else if x.wrap = 65535 then 2048 else x.wrap + 1 } }.onlyFields u
        [R.PMC_STAT_DEPTH])) ∧
  (∀ s : State,
    let now := if s.bbx.calClk = some s.clk then s.bbx.cal else s.bbx.cal + 1
    let p : State := { s with bbx := { s.bbx with cal := now } }
    let at_ := fun (t : State) (x : Nat) => t.pmRd (0xB00000 + x) 8
    let adds := fun (t : State) (x n : Nat) => at_ t x = (at_ s x + n) % 2 ^ 64
    let kept := [0, 8, 0x1200, 0x1208, 0x1210] ++ (List.range 8).map (fun i => 0x1000 + 8 * i) ++
      (List.range 31).map fun k => 0x1040 + 8 * k
    (s.sys.dev = .dark → exec .calendarSecond s = .next p.settle) ∧
    (s.sys.dev ≠ .dark → ∃ u : State, exec .calendarSecond s = .next u.settle ∧
      { p with mem := u.mem, ecc := u.ecc, pmcQueue := u.pmcQueue, enc := { s.enc with units := u.enc.units }, bbx := { p.bbx with halves := 0, warns := 0 } }.onlyFields u
        [R.PMC_STAT_DEPTH] ∧
      (∀ i, u.encUnit i = { s.encUnit i with travel := 0 }) ∧
      (∀ a, (∀ x ∈ kept, ¬ (pmemBase + 0xB00000 + x ≤ a ∧ a < pmemBase + 0xB00000 + x + 8)) → u.rd8 a = s.rd8 a) ∧
      u.pmRd 0xB00000 4 = 0x4546494C ∧ u.pmRd 0xB00004 4 = s.bbx.boots % 2 ^ 32 ∧
      at_ u 8 = (if s.bbx.calValid then now.toNat else 0) ∧
      (∀ i < 8, adds u (0x1000 + 8 * i) (s.encUnit i).travel) ∧
      (∀ k < 31, adds u (0x1040 + 8 * k) (if s.getF (R.PBS_GNT_G (k + 1)) = 0 then 0 else 1)) ∧
      adds u 0x1200 1 ∧ adds u 0x1208 s.bbx.halves ∧ adds u 0x1210 s.bbx.warns)) ∧
  (∀ s : State,
    (s.nozzles.flush = none → exec .nozzleCountFlush s = .next s.settle) ∧
    (∀ m, s.nozzles.flush = some m → (m.map (·.1)).Nodup → ∃ u : State, exec .nozzleCountFlush s = .next u.settle ∧
      { s with mem := u.mem, ecc := u.ecc, pmcQueue := u.pmcQueue, nozzles := if s.nozzles.due then { bank := [], flush := some s.nozzles.bank, due := false } else { s.nozzles with flush := none } }.onlyFields u
        [R.PMC_STAT_DEPTH] ∧
      (∀ e ∈ m, u.pmRd (0x900000 + 8 * e.1) 8 = min (2 ^ 40 - 1) (s.pmRd (0x900000 + 8 * e.1) 8 + e.2)) ∧
      (∀ a, (∀ e ∈ m, ¬ (pmemBase + 0x900000 + 8 * e.1 ≤ a ∧ a < pmemBase + 0x900000 + 8 * e.1 + 8)) → u.rd8 a = s.rd8 a))) ∧
  (∀ (w : Writer) (s : State),
    (s.mayWrite w R.SEC_DBG = false → exec (.secDbgLock w) s = .next (s.turnedAway w R.SEC_DBG)) ∧
    (s.mayWrite w R.SEC_DBG = true → ∃ u : State, exec (.secDbgLock w) s = .next u.settle ∧
      s.onlyFields u [R.SEC_DBG_LOCK] ∧ u.getF R.SEC_DBG_LOCK = 1)) ∧
  (∀ (rail12 : Bool) (s : State),
    let ol := if rail12 then R.SYS_PWR_OL12 else R.SYS_PWR_OL5
    let off := if rail12 then R.SYS_PWR_OFF12 else R.SYS_PWR_OFF5
    let becomes := fun (c : Instr) (f : Fld) (n : Nat) => ∃ u : State, exec c s = .next u.settle ∧ s.onlyFields u [f] ∧ u.getF f = n
    becomes (.selvRestart rail12) off 0 ∧
    (s.sys.dev ≠ .dark → becomes (.selvOverload rail12) ol 1 ∧ becomes (.selvThermalOff rail12) off 1) ∧
    (s.sys.dev = .dark → exec (.selvOverload rail12) s = .next s.settle ∧ exec (.selvThermalOff rail12) s = .next s.settle)) ∧
  (∀ s : State,
    let curtains := s.inRun = true ∨ s.sys.dev = .curtain
    (s.sys.dev = .dark → exec .powerFailWarning s = .next s.settle) ∧
    (s.sys.dev ≠ .dark → ∃ u : State, exec .powerFailWarning s = .next u.settle ∧
      { s with sys := u.sys, bbxQueue := s.queuedRecord 8 [s.getReg R.AFE_MMEAS], bbx := { s.bbx with warns := s.bbx.warns + 1, lost := s.bbx.lost + if s.bbxQueue.length < 16 then 0 else 1 } }.onlyFields u
        [R.SYS_PWR_PFW, R.SYS_CURTAIN_MAINS, R.BBX_STAT_LOST] ∧
      u.getF R.SYS_PWR_PFW = 1 ∧
      u.getF R.BBX_STAT_LOST = (if s.bbxQueue.length < 16 then s.getF R.BBX_STAT_LOST else min (s.getF R.BBX_STAT_LOST + 1) 65535) ∧
      (curtains → u.getF R.SYS_CURTAIN_MAINS = 1) ∧ (¬ curtains → u.getF R.SYS_CURTAIN_MAINS = s.getF R.SYS_CURTAIN_MAINS) ∧
      (curtains ∨ s.sys.dev = .wings → u.sys = { s.sys with mainsDue := true }) ∧
      (¬ (curtains ∨ s.sys.dev = .wings) → u.sys = s.sys))) ∧
  (∀ (t : BitVec 16) (s : State),
    (s.sys.dev = .dark → exec (.dieTemperatureUpdate t) s = .next s.settle) ∧
    (s.sys.dev ≠ .dark → ∃ u : State, exec (.dieTemperatureUpdate t) s = .next u.settle ∧
      let hot := 1150 ≤ t.toInt ∧ (s.inRun = true ∨ s.sys.dev = .curtain)
      { s with sys := u.sys }.onlyFields u [R.SYS_TEMP_T, R.SYS_CURTAIN_THERMAL] ∧ u.getF R.SYS_TEMP_T = t.toNat ∧
      u.getF R.SYS_CURTAIN_THERMAL = (if hot then 1 else s.getF R.SYS_CURTAIN_THERMAL) ∧
      (hot ∧ s.inRun = true → u.sys = { s.sys with faultDue := true }) ∧ (¬ (hot ∧ s.inRun = true) → u.sys = s.sys))) ∧
  (∀ (land : Fin 16) (s : State),
    let wakes := (s.sys.dev = .wings ∨ s.sys.dev = .dark) ∧ s.getF (R.GPIO_WAKECFG_EN land) ≠ 0
    let leaves := s.sys.dev = .wings ∧ s.sys.wakeDue = false
    (¬ wakes → exec (.wakeDetect land) s = .next s.settle) ∧
    (wakes → ∃ u : State, exec (.wakeDetect land) s = .next u.settle ∧
      u.getF R.GPIO_STAT_WAKESRC = s.getF R.GPIO_STAT_WAKESRC ||| 2 ^ land.val ∧
      (¬ leaves → s.onlyFields u [R.GPIO_STAT_WAKESRC]) ∧
      (leaves → { s with drcWaking := true, sys := { s.sys with wakeDue := true } }.onlyFields u [R.GPIO_STAT_WAKESRC, R.DRC_STAT_SREF] ∧
        u.getF R.DRC_STAT_SREF = 0))) ∧
  (∀ s : State,
    let gone := fun a : Nat => (0x08000000 ≤ a ∧ a < 0x40000000) ∨ 0x1000000000 ≤ a
    let kept := R.GPIO_STAT :: R.SYS_PWR :: (List.range 16).map R.GPIO_WAKECFG
    (s.sys.dev = .dark → exec .railsLost s = .next s.settle) ∧
    (s.sys.dev ≠ .dark → s.draining = true →
      exec .railsLost s = .next (State.settle { s with sys := { s.sys with railsDue := true } })) ∧
    (s.sys.dev ≠ .dark → s.draining = false → ∃ u : State, exec .railsLost s = .next u.settle ∧ u.sys.dev = .dark ∧
      (∀ n < 16, (u.core n).run = .inReset) ∧ u.pending = s.pending ∧ u.bbx = s.bbx ∧ u.bbxQueue = [] ∧ u.fls.op = none ∧
      (∀ a, ¬ gone a → u.rd8 a = s.rd8 a) ∧ (∀ a, gone a → mfind u.mem a = none) ∧ u.dramEpoch = s.dramEpoch + 1 ∧
      (∀ a, a ∉ kept → u.getReg a = regReset a) ∧ (∀ n < 16, u.getReg (R.GPIO_WAKECFG n) = s.getReg (R.GPIO_WAKECFG n)) ∧
      (∀ f ∈ [R.GPIO_STAT_WAKESRC, R.SYS_PWR_VBATLOW, R.SYS_PWR_OFF12, R.SYS_PWR_OFF5], u.getF f = s.getF f) ∧ u.getF R.SYS_PWR_PFW = 0) ∧
    (s.sys.dev ≠ .dark → exec .alwaysOnRailCollapse s = .next s.settle) ∧
    (s.sys.dev = .dark → ∃ (cal : BitVec 40) (u : State), exec .alwaysOnRailCollapse s = .next u.settle ∧
      { s with freeCtr := s.freeCtr + 1, bbx := { s.bbx with calValid := false, cal := cal } }.onlyFields u
        (R.GPIO_STAT_WAKESRC :: R.SYS_PWR_VBATLOW :: (List.range 16).map fun n => ⟨R.GPIO_WAKECFG n, 31, 0⟩) ∧
      u.getF R.GPIO_STAT_WAKESRC = 0 ∧ u.getF R.SYS_PWR_VBATLOW = 1 ∧
      ∀ n < 16, u.getReg (R.GPIO_WAKECFG n) = regReset (R.GPIO_WAKECFG n)))

/-- A second CUE_DONE by the same pair within one cue is ignored and sets CUE_STAT.DUPDONE (R49); the model keeps only the cycle in which
it came, since in the cycle of a boundary it is the new cue's (R47). -/
def Obligations.SecondCueDoneIsIgnored : Prop :=
  ∀ (n : Fin 4) (s : State), s.cueRuns = true → s.canIssue (hartOfPair n) = true →
    let ignored := fun t : State => ∃ v : State, exec (.cueDone n) t = .next v.settle ∧
      { t with cue := { t.cue with again := v.cue.again } }.onlyFields v [R.CUE_STAT_DUPDONE] ∧ v.getF R.CUE_STAT_DUPDONE = 1
    (s.cue.done.getLsbD n = true → ignored s) ∧
    ∃ t : State, exec (.cueDone n) s = .next t ∧ t.cue.done.getLsbD n = true ∧ ignored t

/-- What reset leaves, and that the invariant of every step holds at reset (R27, R30, R44, R160, R193, R221). -/
def Obligations.ResetState : Prop :=
  let s := State.reset
  s.wellKept ∧ s.sys.dev = .boot ∧ s.pending = [] ∧ s.cue.time = 0 ∧ s.cue.count = 0 ∧ s.bbx.boots = 1 ∧
  (∀ n < 16, (s.core n).run = if n = 12 then .running else .inReset) ∧
  mget 0 s.sys.wdRemainNs 2 = 2000000000 ∧ s.drcWaking = true ∧ s.getReg R.SEC_KEYSTAT = 0x100 ∧
  (∀ a, a ≠ R.SEC_KEYSTAT → s.getReg a = regReset a) ∧
  ∀ e ∈ [(R.CUE_PERIOD, (0x2710 : Word)), (R.HOST_CFG, 0xC8), (R.HOST_CTRL, 9), (R.BYR_TMO, 0x64), (R.BBX_CTRL, 0x8000), (R.SYS_STATE, 1)],
    s.getReg e.1 = e.2

/-- Every step keeps memory and registers canonical, at most 16 queued records and at most four swaths (R221, R535). -/
def Obligations.EveryStepKeepsTheInvariant : Prop :=
  ∀ s t : State, s.wellKept → step s = .next t → t.wellKept
end

