-- ==== Sys2Proof/Laws/State.lean ====
section
/-!
SUPPORT. The small lemmas of the state's own updates: one per field and update, so that no proof unfolds a record update.
-/

namespace Sys2Proof.Machine

/-! ## Fields after an update -/

@[simp] theorem State.setReg_pending (s : State) (a : Nat) (v : Word) : (s.setReg a v).pending = s.pending := rfl
@[simp] theorem State.setReg_clk (s : State) (a : Nat) (v : Word) : (s.setReg a v).clk = s.clk := rfl
@[simp] theorem State.setReg_freeCtr (s : State) (a : Nat) (v : Word) : (s.setReg a v).freeCtr = s.freeCtr := rfl
@[simp] theorem State.setReg_dramEpoch (s : State) (a : Nat) (v : Word) : (s.setReg a v).dramEpoch = s.dramEpoch := rfl
@[simp] theorem State.setReg_romEpoch (s : State) (a : Nat) (v : Word) : (s.setReg a v).romEpoch = s.romEpoch := rfl
@[simp] theorem State.setReg_shadow (s : State) (a : Nat) (v : Word) : (s.setReg a v).shadow = s.shadow := rfl
@[simp] theorem State.setReg_mem (s : State) (a : Nat) (v : Word) : (s.setReg a v).mem = s.mem := rfl
@[simp] theorem State.setReg_cores (s : State) (a : Nat) (v : Word) : (s.setReg a v).cores = s.cores := rfl
@[simp] theorem State.setReg_pairs (s : State) (a : Nat) (v : Word) : (s.setReg a v).pairs = s.pairs := rfl
@[simp] theorem State.setReg_sys (s : State) (a : Nat) (v : Word) : (s.setReg a v).sys = s.sys := rfl
@[simp] theorem State.setReg_boot (s : State) (a : Nat) (v : Word) : (s.setReg a v).boot = s.boot := rfl
@[simp] theorem State.setReg_cue (s : State) (a : Nat) (v : Word) : (s.setReg a v).cue = s.cue := rfl
@[simp] theorem State.setReg_call (s : State) (a : Nat) (v : Word) : (s.setReg a v).call = s.call := rfl
@[simp] theorem State.setReg_irqMap (s : State) (a : Nat) (v : Word) : (s.setReg a v).irqMap = s.irqMap := rfl
@[simp] theorem State.setReg_wmPart (s : State) (a : Nat) (v : Word) : (s.setReg a v).wmPart = s.wmPart := rfl
@[simp] theorem State.setReg_bbxQueue (s : State) (a : Nat) (v : Word) : (s.setReg a v).bbxQueue = s.bbxQueue := rfl
@[simp] theorem State.setReg_ecc (s : State) (a : Nat) (v : Word) : (s.setReg a v).ecc = s.ecc := rfl
@[simp] theorem State.setReg_fls (s : State) (a : Nat) (v : Word) : (s.setReg a v).fls = s.fls := rfl
@[simp] theorem State.setReg_pwm (s : State) (a : Nat) (v : Word) : (s.setReg a v).pwm = s.pwm := rfl
@[simp] theorem State.setReg_enc (s : State) (a : Nat) (v : Word) : (s.setReg a v).enc = s.enc := rfl
@[simp] theorem State.setReg_afe (s : State) (a : Nat) (v : Word) : (s.setReg a v).afe = s.afe := rfl
@[simp] theorem State.setReg_mtrk (s : State) (a : Nat) (v : Word) : (s.setReg a v).mtrk = s.mtrk := rfl
@[simp] theorem State.setReg_loop (s : State) (a : Nat) (v : Word) : (s.setReg a v).loop = s.loop := rfl
@[simp] theorem State.setReg_gpio (s : State) (a : Nat) (v : Word) : (s.setReg a v).gpio = s.gpio := rfl
@[simp] theorem State.setReg_pbs (s : State) (a : Nat) (v : Word) : (s.setReg a v).pbs = s.pbs := rfl
@[simp] theorem State.setReg_byr (s : State) (a : Nat) (v : Word) : (s.setReg a v).byr = s.byr := rfl
@[simp] theorem State.setReg_host (s : State) (a : Nat) (v : Word) : (s.setReg a v).host = s.host := rfl
@[simp] theorem State.setReg_dma (s : State) (a : Nat) (v : Word) : (s.setReg a v).dma = s.dma := rfl
@[simp] theorem State.setReg_drop (s : State) (a : Nat) (v : Word) : (s.setReg a v).drop = s.drop := rfl
@[simp] theorem State.setReg_fire (s : State) (a : Nat) (v : Word) : (s.setReg a v).fire = s.fire := rfl
@[simp] theorem State.setReg_jet (s : State) (a : Nat) (v : Word) : (s.setReg a v).jet = s.jet := rfl
@[simp] theorem State.setReg_jrnl (s : State) (a : Nat) (v : Word) : (s.setReg a v).jrnl = s.jrnl := rfl
@[simp] theorem State.setReg_nozzles (s : State) (a : Nat) (v : Word) : (s.setReg a v).nozzles = s.nozzles := rfl
@[simp] theorem State.setReg_bbx (s : State) (a : Nat) (v : Word) : (s.setReg a v).bbx = s.bbx := rfl
@[simp] theorem State.setReg_upd (s : State) (a : Nat) (v : Word) : (s.setReg a v).upd = s.upd := rfl
@[simp] theorem State.setReg_drcLines (s : State) (a : Nat) (v : Word) : (s.setReg a v).drcLines = s.drcLines := rfl
@[simp] theorem State.setReg_drcUeTimes (s : State) (a : Nat) (v : Word) : (s.setReg a v).drcUeTimes = s.drcUeTimes := rfl
@[simp] theorem State.setReg_postedFlight (s : State) (a : Nat) (v : Word) : (s.setReg a v).postedFlight = s.postedFlight := rfl
@[simp] theorem State.setReg_drcWaking (s : State) (a : Nat) (v : Word) : (s.setReg a v).drcWaking = s.drcWaking := rfl
@[simp] theorem State.setReg_drcReadyClk (s : State) (a : Nat) (v : Word) : (s.setReg a v).drcReadyClk = s.drcReadyClk := rfl
@[simp] theorem State.setReg_pmcQueue (s : State) (a : Nat) (v : Word) : (s.setReg a v).pmcQueue = s.pmcQueue := rfl
@[simp] theorem State.setReg_regs0 (s : State) (a : Nat) (v : Word) : (s.setReg a v).regs0 = s.regs0 := rfl

@[simp] theorem State.setF_pending (s : State) (f : Fld) (v : Nat) : (s.setF f v).pending = s.pending := rfl
@[simp] theorem State.setF_clk (s : State) (f : Fld) (v : Nat) : (s.setF f v).clk = s.clk := rfl
@[simp] theorem State.setF_freeCtr (s : State) (f : Fld) (v : Nat) : (s.setF f v).freeCtr = s.freeCtr := rfl
@[simp] theorem State.setF_dramEpoch (s : State) (f : Fld) (v : Nat) : (s.setF f v).dramEpoch = s.dramEpoch := rfl
@[simp] theorem State.setF_romEpoch (s : State) (f : Fld) (v : Nat) : (s.setF f v).romEpoch = s.romEpoch := rfl
@[simp] theorem State.setF_shadow (s : State) (f : Fld) (v : Nat) : (s.setF f v).shadow = s.shadow := rfl
@[simp] theorem State.setF_mem (s : State) (f : Fld) (v : Nat) : (s.setF f v).mem = s.mem := rfl
@[simp] theorem State.setF_cores (s : State) (f : Fld) (v : Nat) : (s.setF f v).cores = s.cores := rfl
@[simp] theorem State.setF_pairs (s : State) (f : Fld) (v : Nat) : (s.setF f v).pairs = s.pairs := rfl
@[simp] theorem State.setF_sys (s : State) (f : Fld) (v : Nat) : (s.setF f v).sys = s.sys := rfl
@[simp] theorem State.setF_boot (s : State) (f : Fld) (v : Nat) : (s.setF f v).boot = s.boot := rfl
@[simp] theorem State.setF_cue (s : State) (f : Fld) (v : Nat) : (s.setF f v).cue = s.cue := rfl
@[simp] theorem State.setF_call (s : State) (f : Fld) (v : Nat) : (s.setF f v).call = s.call := rfl
@[simp] theorem State.setF_irqMap (s : State) (f : Fld) (v : Nat) : (s.setF f v).irqMap = s.irqMap := rfl
@[simp] theorem State.setF_wmPart (s : State) (f : Fld) (v : Nat) : (s.setF f v).wmPart = s.wmPart := rfl
@[simp] theorem State.setF_bbxQueue (s : State) (f : Fld) (v : Nat) : (s.setF f v).bbxQueue = s.bbxQueue := rfl
@[simp] theorem State.setF_ecc (s : State) (f : Fld) (v : Nat) : (s.setF f v).ecc = s.ecc := rfl
@[simp] theorem State.setF_fls (s : State) (f : Fld) (v : Nat) : (s.setF f v).fls = s.fls := rfl
@[simp] theorem State.setF_pwm (s : State) (f : Fld) (v : Nat) : (s.setF f v).pwm = s.pwm := rfl
@[simp] theorem State.setF_enc (s : State) (f : Fld) (v : Nat) : (s.setF f v).enc = s.enc := rfl
@[simp] theorem State.setF_afe (s : State) (f : Fld) (v : Nat) : (s.setF f v).afe = s.afe := rfl
@[simp] theorem State.setF_mtrk (s : State) (f : Fld) (v : Nat) : (s.setF f v).mtrk = s.mtrk := rfl
@[simp] theorem State.setF_loop (s : State) (f : Fld) (v : Nat) : (s.setF f v).loop = s.loop := rfl
@[simp] theorem State.setF_gpio (s : State) (f : Fld) (v : Nat) : (s.setF f v).gpio = s.gpio := rfl
@[simp] theorem State.setF_pbs (s : State) (f : Fld) (v : Nat) : (s.setF f v).pbs = s.pbs := rfl
@[simp] theorem State.setF_byr (s : State) (f : Fld) (v : Nat) : (s.setF f v).byr = s.byr := rfl
@[simp] theorem State.setF_host (s : State) (f : Fld) (v : Nat) : (s.setF f v).host = s.host := rfl
@[simp] theorem State.setF_dma (s : State) (f : Fld) (v : Nat) : (s.setF f v).dma = s.dma := rfl
@[simp] theorem State.setF_drop (s : State) (f : Fld) (v : Nat) : (s.setF f v).drop = s.drop := rfl
@[simp] theorem State.setF_fire (s : State) (f : Fld) (v : Nat) : (s.setF f v).fire = s.fire := rfl
@[simp] theorem State.setF_jet (s : State) (f : Fld) (v : Nat) : (s.setF f v).jet = s.jet := rfl
@[simp] theorem State.setF_jrnl (s : State) (f : Fld) (v : Nat) : (s.setF f v).jrnl = s.jrnl := rfl
@[simp] theorem State.setF_nozzles (s : State) (f : Fld) (v : Nat) : (s.setF f v).nozzles = s.nozzles := rfl
@[simp] theorem State.setF_bbx (s : State) (f : Fld) (v : Nat) : (s.setF f v).bbx = s.bbx := rfl
@[simp] theorem State.setF_upd (s : State) (f : Fld) (v : Nat) : (s.setF f v).upd = s.upd := rfl
@[simp] theorem State.setF_drcLines (s : State) (f : Fld) (v : Nat) : (s.setF f v).drcLines = s.drcLines := rfl
@[simp] theorem State.setF_drcUeTimes (s : State) (f : Fld) (v : Nat) : (s.setF f v).drcUeTimes = s.drcUeTimes := rfl
@[simp] theorem State.setF_postedFlight (s : State) (f : Fld) (v : Nat) : (s.setF f v).postedFlight = s.postedFlight := rfl
@[simp] theorem State.setF_drcWaking (s : State) (f : Fld) (v : Nat) : (s.setF f v).drcWaking = s.drcWaking := rfl
@[simp] theorem State.setF_drcReadyClk (s : State) (f : Fld) (v : Nat) : (s.setF f v).drcReadyClk = s.drcReadyClk := rfl
@[simp] theorem State.setF_pmcQueue (s : State) (f : Fld) (v : Nat) : (s.setF f v).pmcQueue = s.pmcQueue := rfl
@[simp] theorem State.setF_regs0 (s : State) (f : Fld) (v : Nat) : (s.setF f v).regs0 = s.regs0 := rfl

@[simp] theorem State.wr8_pending (s : State) (a : Nat) (v : Byte) : (s.wr8 a v).pending = s.pending := rfl
@[simp] theorem State.wr8_clk (s : State) (a : Nat) (v : Byte) : (s.wr8 a v).clk = s.clk := rfl
@[simp] theorem State.wr8_freeCtr (s : State) (a : Nat) (v : Byte) : (s.wr8 a v).freeCtr = s.freeCtr := rfl
@[simp] theorem State.wr8_dramEpoch (s : State) (a : Nat) (v : Byte) : (s.wr8 a v).dramEpoch = s.dramEpoch := rfl
@[simp] theorem State.wr8_romEpoch (s : State) (a : Nat) (v : Byte) : (s.wr8 a v).romEpoch = s.romEpoch := rfl
@[simp] theorem State.wr8_regs (s : State) (a : Nat) (v : Byte) : (s.wr8 a v).regs = s.regs := rfl
@[simp] theorem State.wr8_shadow (s : State) (a : Nat) (v : Byte) : (s.wr8 a v).shadow = s.shadow := rfl
@[simp] theorem State.wr8_cores (s : State) (a : Nat) (v : Byte) : (s.wr8 a v).cores = s.cores := rfl
@[simp] theorem State.wr8_pairs (s : State) (a : Nat) (v : Byte) : (s.wr8 a v).pairs = s.pairs := rfl
@[simp] theorem State.wr8_sys (s : State) (a : Nat) (v : Byte) : (s.wr8 a v).sys = s.sys := rfl
@[simp] theorem State.wr8_boot (s : State) (a : Nat) (v : Byte) : (s.wr8 a v).boot = s.boot := rfl
@[simp] theorem State.wr8_cue (s : State) (a : Nat) (v : Byte) : (s.wr8 a v).cue = s.cue := rfl
@[simp] theorem State.wr8_call (s : State) (a : Nat) (v : Byte) : (s.wr8 a v).call = s.call := rfl
@[simp] theorem State.wr8_irqMap (s : State) (a : Nat) (v : Byte) : (s.wr8 a v).irqMap = s.irqMap := rfl
@[simp] theorem State.wr8_wmPart (s : State) (a : Nat) (v : Byte) : (s.wr8 a v).wmPart = s.wmPart := rfl
@[simp] theorem State.wr8_bbxQueue (s : State) (a : Nat) (v : Byte) : (s.wr8 a v).bbxQueue = s.bbxQueue := rfl
@[simp] theorem State.wr8_ecc (s : State) (a : Nat) (v : Byte) : (s.wr8 a v).ecc = s.ecc := rfl
@[simp] theorem State.wr8_fls (s : State) (a : Nat) (v : Byte) : (s.wr8 a v).fls = s.fls := rfl
@[simp] theorem State.wr8_pwm (s : State) (a : Nat) (v : Byte) : (s.wr8 a v).pwm = s.pwm := rfl
@[simp] theorem State.wr8_enc (s : State) (a : Nat) (v : Byte) : (s.wr8 a v).enc = s.enc := rfl
@[simp] theorem State.wr8_afe (s : State) (a : Nat) (v : Byte) : (s.wr8 a v).afe = s.afe := rfl
@[simp] theorem State.wr8_mtrk (s : State) (a : Nat) (v : Byte) : (s.wr8 a v).mtrk = s.mtrk := rfl
@[simp] theorem State.wr8_loop (s : State) (a : Nat) (v : Byte) : (s.wr8 a v).loop = s.loop := rfl
@[simp] theorem State.wr8_gpio (s : State) (a : Nat) (v : Byte) : (s.wr8 a v).gpio = s.gpio := rfl
@[simp] theorem State.wr8_pbs (s : State) (a : Nat) (v : Byte) : (s.wr8 a v).pbs = s.pbs := rfl
@[simp] theorem State.wr8_byr (s : State) (a : Nat) (v : Byte) : (s.wr8 a v).byr = s.byr := rfl
@[simp] theorem State.wr8_host (s : State) (a : Nat) (v : Byte) : (s.wr8 a v).host = s.host := rfl
@[simp] theorem State.wr8_dma (s : State) (a : Nat) (v : Byte) : (s.wr8 a v).dma = s.dma := rfl
@[simp] theorem State.wr8_drop (s : State) (a : Nat) (v : Byte) : (s.wr8 a v).drop = s.drop := rfl
@[simp] theorem State.wr8_fire (s : State) (a : Nat) (v : Byte) : (s.wr8 a v).fire = s.fire := rfl
@[simp] theorem State.wr8_jet (s : State) (a : Nat) (v : Byte) : (s.wr8 a v).jet = s.jet := rfl
@[simp] theorem State.wr8_jrnl (s : State) (a : Nat) (v : Byte) : (s.wr8 a v).jrnl = s.jrnl := rfl
@[simp] theorem State.wr8_nozzles (s : State) (a : Nat) (v : Byte) : (s.wr8 a v).nozzles = s.nozzles := rfl
@[simp] theorem State.wr8_bbx (s : State) (a : Nat) (v : Byte) : (s.wr8 a v).bbx = s.bbx := rfl
@[simp] theorem State.wr8_upd (s : State) (a : Nat) (v : Byte) : (s.wr8 a v).upd = s.upd := rfl
@[simp] theorem State.wr8_drcLines (s : State) (a : Nat) (v : Byte) : (s.wr8 a v).drcLines = s.drcLines := rfl
@[simp] theorem State.wr8_drcUeTimes (s : State) (a : Nat) (v : Byte) : (s.wr8 a v).drcUeTimes = s.drcUeTimes := rfl
@[simp] theorem State.wr8_postedFlight (s : State) (a : Nat) (v : Byte) : (s.wr8 a v).postedFlight = s.postedFlight := rfl
@[simp] theorem State.wr8_drcWaking (s : State) (a : Nat) (v : Byte) : (s.wr8 a v).drcWaking = s.drcWaking := rfl
@[simp] theorem State.wr8_drcReadyClk (s : State) (a : Nat) (v : Byte) : (s.wr8 a v).drcReadyClk = s.drcReadyClk := rfl
@[simp] theorem State.wr8_pmcQueue (s : State) (a : Nat) (v : Byte) : (s.wr8 a v).pmcQueue = s.pmcQueue := rfl
@[simp] theorem State.wr8_regs0 (s : State) (a : Nat) (v : Byte) : (s.wr8 a v).regs0 = s.regs0 := rfl

@[simp] theorem State.setCore_pending (s : State) (n : Nat) (c : Core) : (s.setCore n c).pending = s.pending := rfl
@[simp] theorem State.setCore_clk (s : State) (n : Nat) (c : Core) : (s.setCore n c).clk = s.clk := rfl
@[simp] theorem State.setCore_freeCtr (s : State) (n : Nat) (c : Core) : (s.setCore n c).freeCtr = s.freeCtr := rfl
@[simp] theorem State.setCore_dramEpoch (s : State) (n : Nat) (c : Core) : (s.setCore n c).dramEpoch = s.dramEpoch := rfl
@[simp] theorem State.setCore_romEpoch (s : State) (n : Nat) (c : Core) : (s.setCore n c).romEpoch = s.romEpoch := rfl
@[simp] theorem State.setCore_regs (s : State) (n : Nat) (c : Core) : (s.setCore n c).regs = s.regs := rfl
@[simp] theorem State.setCore_shadow (s : State) (n : Nat) (c : Core) : (s.setCore n c).shadow = s.shadow := rfl
@[simp] theorem State.setCore_mem (s : State) (n : Nat) (c : Core) : (s.setCore n c).mem = s.mem := rfl
@[simp] theorem State.setCore_pairs (s : State) (n : Nat) (c : Core) : (s.setCore n c).pairs = s.pairs := rfl
@[simp] theorem State.setCore_sys (s : State) (n : Nat) (c : Core) : (s.setCore n c).sys = s.sys := rfl
@[simp] theorem State.setCore_boot (s : State) (n : Nat) (c : Core) : (s.setCore n c).boot = s.boot := rfl
@[simp] theorem State.setCore_cue (s : State) (n : Nat) (c : Core) : (s.setCore n c).cue = s.cue := rfl
@[simp] theorem State.setCore_call (s : State) (n : Nat) (c : Core) : (s.setCore n c).call = s.call := rfl
@[simp] theorem State.setCore_irqMap (s : State) (n : Nat) (c : Core) : (s.setCore n c).irqMap = s.irqMap := rfl
@[simp] theorem State.setCore_wmPart (s : State) (n : Nat) (c : Core) : (s.setCore n c).wmPart = s.wmPart := rfl
@[simp] theorem State.setCore_bbxQueue (s : State) (n : Nat) (c : Core) : (s.setCore n c).bbxQueue = s.bbxQueue := rfl
@[simp] theorem State.setCore_ecc (s : State) (n : Nat) (c : Core) : (s.setCore n c).ecc = s.ecc := rfl
@[simp] theorem State.setCore_fls (s : State) (n : Nat) (c : Core) : (s.setCore n c).fls = s.fls := rfl
@[simp] theorem State.setCore_pwm (s : State) (n : Nat) (c : Core) : (s.setCore n c).pwm = s.pwm := rfl
@[simp] theorem State.setCore_enc (s : State) (n : Nat) (c : Core) : (s.setCore n c).enc = s.enc := rfl
@[simp] theorem State.setCore_afe (s : State) (n : Nat) (c : Core) : (s.setCore n c).afe = s.afe := rfl
@[simp] theorem State.setCore_mtrk (s : State) (n : Nat) (c : Core) : (s.setCore n c).mtrk = s.mtrk := rfl
@[simp] theorem State.setCore_loop (s : State) (n : Nat) (c : Core) : (s.setCore n c).loop = s.loop := rfl
@[simp] theorem State.setCore_gpio (s : State) (n : Nat) (c : Core) : (s.setCore n c).gpio = s.gpio := rfl
@[simp] theorem State.setCore_pbs (s : State) (n : Nat) (c : Core) : (s.setCore n c).pbs = s.pbs := rfl
@[simp] theorem State.setCore_byr (s : State) (n : Nat) (c : Core) : (s.setCore n c).byr = s.byr := rfl
@[simp] theorem State.setCore_host (s : State) (n : Nat) (c : Core) : (s.setCore n c).host = s.host := rfl
@[simp] theorem State.setCore_dma (s : State) (n : Nat) (c : Core) : (s.setCore n c).dma = s.dma := rfl
@[simp] theorem State.setCore_drop (s : State) (n : Nat) (c : Core) : (s.setCore n c).drop = s.drop := rfl
@[simp] theorem State.setCore_fire (s : State) (n : Nat) (c : Core) : (s.setCore n c).fire = s.fire := rfl
@[simp] theorem State.setCore_jet (s : State) (n : Nat) (c : Core) : (s.setCore n c).jet = s.jet := rfl
@[simp] theorem State.setCore_jrnl (s : State) (n : Nat) (c : Core) : (s.setCore n c).jrnl = s.jrnl := rfl
@[simp] theorem State.setCore_nozzles (s : State) (n : Nat) (c : Core) : (s.setCore n c).nozzles = s.nozzles := rfl
@[simp] theorem State.setCore_bbx (s : State) (n : Nat) (c : Core) : (s.setCore n c).bbx = s.bbx := rfl
@[simp] theorem State.setCore_upd (s : State) (n : Nat) (c : Core) : (s.setCore n c).upd = s.upd := rfl
@[simp] theorem State.setCore_drcLines (s : State) (n : Nat) (c : Core) : (s.setCore n c).drcLines = s.drcLines := rfl
@[simp] theorem State.setCore_drcUeTimes (s : State) (n : Nat) (c : Core) : (s.setCore n c).drcUeTimes = s.drcUeTimes := rfl
@[simp] theorem State.setCore_postedFlight (s : State) (n : Nat) (c : Core) : (s.setCore n c).postedFlight = s.postedFlight := rfl
@[simp] theorem State.setCore_drcWaking (s : State) (n : Nat) (c : Core) : (s.setCore n c).drcWaking = s.drcWaking := rfl
@[simp] theorem State.setCore_drcReadyClk (s : State) (n : Nat) (c : Core) : (s.setCore n c).drcReadyClk = s.drcReadyClk := rfl
@[simp] theorem State.setCore_pmcQueue (s : State) (n : Nat) (c : Core) : (s.setCore n c).pmcQueue = s.pmcQueue := rfl
@[simp] theorem State.setCore_regs0 (s : State) (n : Nat) (c : Core) : (s.setCore n c).regs0 = s.regs0 := rfl

@[simp] theorem State.modSys_pending (s : State) (f : Sys → Sys) : (s.modSys f).pending = s.pending := rfl
@[simp] theorem State.modSys_clk (s : State) (f : Sys → Sys) : (s.modSys f).clk = s.clk := rfl
@[simp] theorem State.modSys_freeCtr (s : State) (f : Sys → Sys) : (s.modSys f).freeCtr = s.freeCtr := rfl
@[simp] theorem State.modSys_dramEpoch (s : State) (f : Sys → Sys) : (s.modSys f).dramEpoch = s.dramEpoch := rfl
@[simp] theorem State.modSys_romEpoch (s : State) (f : Sys → Sys) : (s.modSys f).romEpoch = s.romEpoch := rfl
@[simp] theorem State.modSys_regs (s : State) (f : Sys → Sys) : (s.modSys f).regs = s.regs := rfl
@[simp] theorem State.modSys_shadow (s : State) (f : Sys → Sys) : (s.modSys f).shadow = s.shadow := rfl
@[simp] theorem State.modSys_mem (s : State) (f : Sys → Sys) : (s.modSys f).mem = s.mem := rfl
@[simp] theorem State.modSys_cores (s : State) (f : Sys → Sys) : (s.modSys f).cores = s.cores := rfl
@[simp] theorem State.modSys_pairs (s : State) (f : Sys → Sys) : (s.modSys f).pairs = s.pairs := rfl
@[simp] theorem State.modSys_boot (s : State) (f : Sys → Sys) : (s.modSys f).boot = s.boot := rfl
@[simp] theorem State.modSys_cue (s : State) (f : Sys → Sys) : (s.modSys f).cue = s.cue := rfl
@[simp] theorem State.modSys_call (s : State) (f : Sys → Sys) : (s.modSys f).call = s.call := rfl
@[simp] theorem State.modSys_irqMap (s : State) (f : Sys → Sys) : (s.modSys f).irqMap = s.irqMap := rfl
@[simp] theorem State.modSys_wmPart (s : State) (f : Sys → Sys) : (s.modSys f).wmPart = s.wmPart := rfl
@[simp] theorem State.modSys_bbxQueue (s : State) (f : Sys → Sys) : (s.modSys f).bbxQueue = s.bbxQueue := rfl
@[simp] theorem State.modSys_ecc (s : State) (f : Sys → Sys) : (s.modSys f).ecc = s.ecc := rfl
@[simp] theorem State.modSys_fls (s : State) (f : Sys → Sys) : (s.modSys f).fls = s.fls := rfl
@[simp] theorem State.modSys_pwm (s : State) (f : Sys → Sys) : (s.modSys f).pwm = s.pwm := rfl
@[simp] theorem State.modSys_enc (s : State) (f : Sys → Sys) : (s.modSys f).enc = s.enc := rfl
@[simp] theorem State.modSys_afe (s : State) (f : Sys → Sys) : (s.modSys f).afe = s.afe := rfl
@[simp] theorem State.modSys_mtrk (s : State) (f : Sys → Sys) : (s.modSys f).mtrk = s.mtrk := rfl
@[simp] theorem State.modSys_loop (s : State) (f : Sys → Sys) : (s.modSys f).loop = s.loop := rfl
@[simp] theorem State.modSys_gpio (s : State) (f : Sys → Sys) : (s.modSys f).gpio = s.gpio := rfl
@[simp] theorem State.modSys_pbs (s : State) (f : Sys → Sys) : (s.modSys f).pbs = s.pbs := rfl
@[simp] theorem State.modSys_byr (s : State) (f : Sys → Sys) : (s.modSys f).byr = s.byr := rfl
@[simp] theorem State.modSys_host (s : State) (f : Sys → Sys) : (s.modSys f).host = s.host := rfl
@[simp] theorem State.modSys_dma (s : State) (f : Sys → Sys) : (s.modSys f).dma = s.dma := rfl
@[simp] theorem State.modSys_drop (s : State) (f : Sys → Sys) : (s.modSys f).drop = s.drop := rfl
@[simp] theorem State.modSys_fire (s : State) (f : Sys → Sys) : (s.modSys f).fire = s.fire := rfl
@[simp] theorem State.modSys_jet (s : State) (f : Sys → Sys) : (s.modSys f).jet = s.jet := rfl
@[simp] theorem State.modSys_jrnl (s : State) (f : Sys → Sys) : (s.modSys f).jrnl = s.jrnl := rfl
@[simp] theorem State.modSys_nozzles (s : State) (f : Sys → Sys) : (s.modSys f).nozzles = s.nozzles := rfl
@[simp] theorem State.modSys_bbx (s : State) (f : Sys → Sys) : (s.modSys f).bbx = s.bbx := rfl
@[simp] theorem State.modSys_upd (s : State) (f : Sys → Sys) : (s.modSys f).upd = s.upd := rfl
@[simp] theorem State.modSys_drcLines (s : State) (f : Sys → Sys) : (s.modSys f).drcLines = s.drcLines := rfl
@[simp] theorem State.modSys_drcUeTimes (s : State) (f : Sys → Sys) : (s.modSys f).drcUeTimes = s.drcUeTimes := rfl
@[simp] theorem State.modSys_postedFlight (s : State) (f : Sys → Sys) : (s.modSys f).postedFlight = s.postedFlight := rfl
@[simp] theorem State.modSys_drcWaking (s : State) (f : Sys → Sys) : (s.modSys f).drcWaking = s.drcWaking := rfl
@[simp] theorem State.modSys_drcReadyClk (s : State) (f : Sys → Sys) : (s.modSys f).drcReadyClk = s.drcReadyClk := rfl
@[simp] theorem State.modSys_pmcQueue (s : State) (f : Sys → Sys) : (s.modSys f).pmcQueue = s.pmcQueue := rfl
@[simp] theorem State.modSys_regs0 (s : State) (f : Sys → Sys) : (s.modSys f).regs0 = s.regs0 := rfl

@[simp] theorem State.modCue_pending (s : State) (f : Cue → Cue) : (s.modCue f).pending = s.pending := rfl
@[simp] theorem State.modCue_clk (s : State) (f : Cue → Cue) : (s.modCue f).clk = s.clk := rfl
@[simp] theorem State.modCue_freeCtr (s : State) (f : Cue → Cue) : (s.modCue f).freeCtr = s.freeCtr := rfl
@[simp] theorem State.modCue_dramEpoch (s : State) (f : Cue → Cue) : (s.modCue f).dramEpoch = s.dramEpoch := rfl
@[simp] theorem State.modCue_romEpoch (s : State) (f : Cue → Cue) : (s.modCue f).romEpoch = s.romEpoch := rfl
@[simp] theorem State.modCue_regs (s : State) (f : Cue → Cue) : (s.modCue f).regs = s.regs := rfl
@[simp] theorem State.modCue_shadow (s : State) (f : Cue → Cue) : (s.modCue f).shadow = s.shadow := rfl
@[simp] theorem State.modCue_mem (s : State) (f : Cue → Cue) : (s.modCue f).mem = s.mem := rfl
@[simp] theorem State.modCue_cores (s : State) (f : Cue → Cue) : (s.modCue f).cores = s.cores := rfl
@[simp] theorem State.modCue_pairs (s : State) (f : Cue → Cue) : (s.modCue f).pairs = s.pairs := rfl
@[simp] theorem State.modCue_sys (s : State) (f : Cue → Cue) : (s.modCue f).sys = s.sys := rfl
@[simp] theorem State.modCue_boot (s : State) (f : Cue → Cue) : (s.modCue f).boot = s.boot := rfl
@[simp] theorem State.modCue_call (s : State) (f : Cue → Cue) : (s.modCue f).call = s.call := rfl
@[simp] theorem State.modCue_irqMap (s : State) (f : Cue → Cue) : (s.modCue f).irqMap = s.irqMap := rfl
@[simp] theorem State.modCue_wmPart (s : State) (f : Cue → Cue) : (s.modCue f).wmPart = s.wmPart := rfl
@[simp] theorem State.modCue_bbxQueue (s : State) (f : Cue → Cue) : (s.modCue f).bbxQueue = s.bbxQueue := rfl
@[simp] theorem State.modCue_ecc (s : State) (f : Cue → Cue) : (s.modCue f).ecc = s.ecc := rfl
@[simp] theorem State.modCue_fls (s : State) (f : Cue → Cue) : (s.modCue f).fls = s.fls := rfl
@[simp] theorem State.modCue_pwm (s : State) (f : Cue → Cue) : (s.modCue f).pwm = s.pwm := rfl
@[simp] theorem State.modCue_enc (s : State) (f : Cue → Cue) : (s.modCue f).enc = s.enc := rfl
@[simp] theorem State.modCue_afe (s : State) (f : Cue → Cue) : (s.modCue f).afe = s.afe := rfl
@[simp] theorem State.modCue_mtrk (s : State) (f : Cue → Cue) : (s.modCue f).mtrk = s.mtrk := rfl
@[simp] theorem State.modCue_loop (s : State) (f : Cue → Cue) : (s.modCue f).loop = s.loop := rfl
@[simp] theorem State.modCue_gpio (s : State) (f : Cue → Cue) : (s.modCue f).gpio = s.gpio := rfl
@[simp] theorem State.modCue_pbs (s : State) (f : Cue → Cue) : (s.modCue f).pbs = s.pbs := rfl
@[simp] theorem State.modCue_byr (s : State) (f : Cue → Cue) : (s.modCue f).byr = s.byr := rfl
@[simp] theorem State.modCue_host (s : State) (f : Cue → Cue) : (s.modCue f).host = s.host := rfl
@[simp] theorem State.modCue_dma (s : State) (f : Cue → Cue) : (s.modCue f).dma = s.dma := rfl
@[simp] theorem State.modCue_drop (s : State) (f : Cue → Cue) : (s.modCue f).drop = s.drop := rfl
@[simp] theorem State.modCue_fire (s : State) (f : Cue → Cue) : (s.modCue f).fire = s.fire := rfl
@[simp] theorem State.modCue_jet (s : State) (f : Cue → Cue) : (s.modCue f).jet = s.jet := rfl
@[simp] theorem State.modCue_jrnl (s : State) (f : Cue → Cue) : (s.modCue f).jrnl = s.jrnl := rfl
@[simp] theorem State.modCue_nozzles (s : State) (f : Cue → Cue) : (s.modCue f).nozzles = s.nozzles := rfl
@[simp] theorem State.modCue_bbx (s : State) (f : Cue → Cue) : (s.modCue f).bbx = s.bbx := rfl
@[simp] theorem State.modCue_upd (s : State) (f : Cue → Cue) : (s.modCue f).upd = s.upd := rfl
@[simp] theorem State.modCue_drcLines (s : State) (f : Cue → Cue) : (s.modCue f).drcLines = s.drcLines := rfl
@[simp] theorem State.modCue_drcUeTimes (s : State) (f : Cue → Cue) : (s.modCue f).drcUeTimes = s.drcUeTimes := rfl
@[simp] theorem State.modCue_postedFlight (s : State) (f : Cue → Cue) : (s.modCue f).postedFlight = s.postedFlight := rfl
@[simp] theorem State.modCue_drcWaking (s : State) (f : Cue → Cue) : (s.modCue f).drcWaking = s.drcWaking := rfl
@[simp] theorem State.modCue_drcReadyClk (s : State) (f : Cue → Cue) : (s.modCue f).drcReadyClk = s.drcReadyClk := rfl
@[simp] theorem State.modCue_pmcQueue (s : State) (f : Cue → Cue) : (s.modCue f).pmcQueue = s.pmcQueue := rfl
@[simp] theorem State.modCue_regs0 (s : State) (f : Cue → Cue) : (s.modCue f).regs0 = s.regs0 := rfl

@[simp] theorem State.modPair_pending (s : State) (n : Nat) (f : Pair → Pair) : (s.modPair n f).pending = s.pending := rfl
@[simp] theorem State.modPair_clk (s : State) (n : Nat) (f : Pair → Pair) : (s.modPair n f).clk = s.clk := rfl
@[simp] theorem State.modPair_freeCtr (s : State) (n : Nat) (f : Pair → Pair) : (s.modPair n f).freeCtr = s.freeCtr := rfl
@[simp] theorem State.modPair_dramEpoch (s : State) (n : Nat) (f : Pair → Pair) : (s.modPair n f).dramEpoch = s.dramEpoch := rfl
@[simp] theorem State.modPair_romEpoch (s : State) (n : Nat) (f : Pair → Pair) : (s.modPair n f).romEpoch = s.romEpoch := rfl
@[simp] theorem State.modPair_regs (s : State) (n : Nat) (f : Pair → Pair) : (s.modPair n f).regs = s.regs := rfl
@[simp] theorem State.modPair_shadow (s : State) (n : Nat) (f : Pair → Pair) : (s.modPair n f).shadow = s.shadow := rfl
@[simp] theorem State.modPair_mem (s : State) (n : Nat) (f : Pair → Pair) : (s.modPair n f).mem = s.mem := rfl
@[simp] theorem State.modPair_cores (s : State) (n : Nat) (f : Pair → Pair) : (s.modPair n f).cores = s.cores := rfl
@[simp] theorem State.modPair_sys (s : State) (n : Nat) (f : Pair → Pair) : (s.modPair n f).sys = s.sys := rfl
@[simp] theorem State.modPair_boot (s : State) (n : Nat) (f : Pair → Pair) : (s.modPair n f).boot = s.boot := rfl
@[simp] theorem State.modPair_cue (s : State) (n : Nat) (f : Pair → Pair) : (s.modPair n f).cue = s.cue := rfl
@[simp] theorem State.modPair_call (s : State) (n : Nat) (f : Pair → Pair) : (s.modPair n f).call = s.call := rfl
@[simp] theorem State.modPair_irqMap (s : State) (n : Nat) (f : Pair → Pair) : (s.modPair n f).irqMap = s.irqMap := rfl
@[simp] theorem State.modPair_wmPart (s : State) (n : Nat) (f : Pair → Pair) : (s.modPair n f).wmPart = s.wmPart := rfl
@[simp] theorem State.modPair_bbxQueue (s : State) (n : Nat) (f : Pair → Pair) : (s.modPair n f).bbxQueue = s.bbxQueue := rfl
@[simp] theorem State.modPair_ecc (s : State) (n : Nat) (f : Pair → Pair) : (s.modPair n f).ecc = s.ecc := rfl
@[simp] theorem State.modPair_fls (s : State) (n : Nat) (f : Pair → Pair) : (s.modPair n f).fls = s.fls := rfl
@[simp] theorem State.modPair_pwm (s : State) (n : Nat) (f : Pair → Pair) : (s.modPair n f).pwm = s.pwm := rfl
@[simp] theorem State.modPair_enc (s : State) (n : Nat) (f : Pair → Pair) : (s.modPair n f).enc = s.enc := rfl
@[simp] theorem State.modPair_afe (s : State) (n : Nat) (f : Pair → Pair) : (s.modPair n f).afe = s.afe := rfl
@[simp] theorem State.modPair_mtrk (s : State) (n : Nat) (f : Pair → Pair) : (s.modPair n f).mtrk = s.mtrk := rfl
@[simp] theorem State.modPair_loop (s : State) (n : Nat) (f : Pair → Pair) : (s.modPair n f).loop = s.loop := rfl
@[simp] theorem State.modPair_gpio (s : State) (n : Nat) (f : Pair → Pair) : (s.modPair n f).gpio = s.gpio := rfl
@[simp] theorem State.modPair_pbs (s : State) (n : Nat) (f : Pair → Pair) : (s.modPair n f).pbs = s.pbs := rfl
@[simp] theorem State.modPair_byr (s : State) (n : Nat) (f : Pair → Pair) : (s.modPair n f).byr = s.byr := rfl
@[simp] theorem State.modPair_host (s : State) (n : Nat) (f : Pair → Pair) : (s.modPair n f).host = s.host := rfl
@[simp] theorem State.modPair_dma (s : State) (n : Nat) (f : Pair → Pair) : (s.modPair n f).dma = s.dma := rfl
@[simp] theorem State.modPair_drop (s : State) (n : Nat) (f : Pair → Pair) : (s.modPair n f).drop = s.drop := rfl
@[simp] theorem State.modPair_fire (s : State) (n : Nat) (f : Pair → Pair) : (s.modPair n f).fire = s.fire := rfl
@[simp] theorem State.modPair_jet (s : State) (n : Nat) (f : Pair → Pair) : (s.modPair n f).jet = s.jet := rfl
@[simp] theorem State.modPair_jrnl (s : State) (n : Nat) (f : Pair → Pair) : (s.modPair n f).jrnl = s.jrnl := rfl
@[simp] theorem State.modPair_nozzles (s : State) (n : Nat) (f : Pair → Pair) : (s.modPair n f).nozzles = s.nozzles := rfl
@[simp] theorem State.modPair_bbx (s : State) (n : Nat) (f : Pair → Pair) : (s.modPair n f).bbx = s.bbx := rfl
@[simp] theorem State.modPair_upd (s : State) (n : Nat) (f : Pair → Pair) : (s.modPair n f).upd = s.upd := rfl
@[simp] theorem State.modPair_drcLines (s : State) (n : Nat) (f : Pair → Pair) : (s.modPair n f).drcLines = s.drcLines := rfl
@[simp] theorem State.modPair_drcUeTimes (s : State) (n : Nat) (f : Pair → Pair) : (s.modPair n f).drcUeTimes = s.drcUeTimes := rfl
@[simp] theorem State.modPair_postedFlight (s : State) (n : Nat) (f : Pair → Pair) : (s.modPair n f).postedFlight = s.postedFlight := rfl
@[simp] theorem State.modPair_drcWaking (s : State) (n : Nat) (f : Pair → Pair) : (s.modPair n f).drcWaking = s.drcWaking := rfl
@[simp] theorem State.modPair_drcReadyClk (s : State) (n : Nat) (f : Pair → Pair) : (s.modPair n f).drcReadyClk = s.drcReadyClk := rfl
@[simp] theorem State.modPair_pmcQueue (s : State) (n : Nat) (f : Pair → Pair) : (s.modPair n f).pmcQueue = s.pmcQueue := rfl
@[simp] theorem State.modPair_regs0 (s : State) (n : Nat) (f : Pair → Pair) : (s.modPair n f).regs0 = s.regs0 := rfl

@[simp] theorem State.modSys_sys (s : State) (f : Sys → Sys) : (s.modSys f).sys = f s.sys := rfl
@[simp] theorem State.modCue_cue (s : State) (f : Cue → Cue) : (s.modCue f).cue = f s.cue := rfl

/-! ## The forms of a field write -/

@[simp] theorem State.raise_eq (s : State) (f : Fld) : s.raise f = s.setF f 1 := rfl
@[simp] theorem State.lower_eq (s : State) (f : Fld) : s.lower f = s.setF f 0 := rfl
@[simp] theorem State.raiseBit_eq (s : State) (f : Fld) (b : Nat) : s.raiseBit f b = s.setF f (s.getF f ||| 2 ^ b) := rfl
@[simp] theorem State.count_eq (s : State) (f : Fld) (n : Nat) :
    s.count f n = s.setF f (min (s.getF f + n) (2 ^ (f.hi + 1 - f.lo) - 1)) := rfl

end Sys2Proof.Machine
end

