-- ==== Sys2Proof/Laws/Store.lean ====
section
/-!
SUPPORT. What the operations of sparse maps do: reading after writing, and the canonical form.
-/

namespace Sys2Proof.Machine

theorem mfind_merase {α : Type} (m : SMap α) (k j : Nat) :
    mfind (merase m k) j = if j = k then none else mfind m j := by
  induction m with
  | nil => simp [merase, mfind]
  | cons e t ih =>
    obtain ⟨a, v⟩ := e
    simp only [merase, mfind]
    split <;> simp_all only [mfind] <;> grind

theorem mfind_minsert {α : Type} (m : SMap α) (k j : Nat) (v : α) (h : mfind m k = none) :
    mfind (minsert m k v) j = if j = k then some v else mfind m j := by
  induction m with
  | nil => simp only [minsert, mfind]; grind
  | cons e t ih =>
    obtain ⟨a, x⟩ := e
    simp only [minsert]
    simp only [mfind] at h
    split <;> simp only [mfind] <;> grind

theorem mfind_mset {α : Type} (m : SMap α) (k j : Nat) (v : α) :
    mfind (mset m k v) j = if j = k then some v else mfind m j := by
  rw [mset, mfind_minsert _ _ _ _ (by simp [mfind_merase]), mfind_merase]
  grind

/-- Reading after writing. -/
@[simp] theorem mget_mset {α : Type} (d : α) (m : SMap α) (k j : Nat) (v : α) :
    mget d (mset m k v) j = if j = k then v else mget d m j := by
  simp only [mget, mfind_mset]; split <;> rfl

theorem mget_merase {α : Type} (d : α) (m : SMap α) (k j : Nat) :
    mget d (merase m k) j = if j = k then d else mget d m j := by
  simp only [mget, mfind_merase]; split <;> rfl

theorem mfind_msetCanon {α : Type} (b : Bool) (m : SMap α) (k j : Nat) (v : α) :
    mfind (msetCanon b m k v) j = if j = k then (if b then none else some v) else mfind m j := by
  unfold msetCanon
  cases b <;> simp [mfind_merase, mfind_mset]

/-- Reading after writing a value that is listed only where it is not the default. -/
theorem mget_msetCanon {α : Type} [BEq α] [LawfulBEq α] (d : α) (m : SMap α) (k j : Nat) (v : α) :
    mget d (msetCanon (v == d) m k v) j = if j = k then v else mget d m j := by
  simp only [mget, mfind_msetCanon]
  by_cases h : (v == d) = true
  · rw [if_pos h]; have := eq_of_beq h; subst this; split <;> rfl
  · rw [if_neg h]; split <;> rfl

@[simp] theorem mget_mmod {α : Type} (d : α) (m : SMap α) (k j : Nat) (f : α → α) :
    mget d (mmod d m k f) j = if j = k then f (mget d m k) else mget d m j := by simp [mmod]

/-! ## The canonical form -/

/-- The canonical form: keys strictly rising, and no listed value is the default. -/
theorem mwf_iff {α : Type} (d : Nat → α → Bool) (m : SMap α) :
    mwf d m = true ↔ m.Pairwise (fun x y => x.1 < y.1) ∧ ∀ e ∈ m, d e.1 e.2 = false := by
  induction m with
  | nil => simp [mwf]
  | cons e t ih =>
    obtain ⟨a, v⟩ := e
    cases t with
    | nil => simp [mwf]
    | cons e2 t2 =>
      obtain ⟨b, w⟩ := e2
      simp only [mwf, Bool.and_eq_true, decide_eq_true_eq, Bool.not_eq_true', ih, List.pairwise_cons, List.mem_cons,
        forall_eq_or_imp]
      constructor
      · rintro ⟨⟨h1, h2⟩, ⟨h3, h4⟩, h5⟩
        exact ⟨⟨⟨h1, fun x hx => Nat.lt_trans h1 (h3 x hx)⟩, h3, h4⟩, h2, h5⟩
      · rintro ⟨⟨⟨h1, _⟩, h3, h4⟩, h2, h5⟩
        exact ⟨⟨h1, h2⟩, ⟨h3, h4⟩, h5⟩

theorem mem_merase {α : Type} (m : SMap α) (k : Nat) (e : Nat × α) : e ∈ merase m k ↔ e ∈ m ∧ e.1 ≠ k := by
  induction m with
  | nil => simp [merase]
  | cons x t ih =>
    obtain ⟨a, v⟩ := x
    simp only [merase]
    split <;> simp only [List.mem_cons, ih] <;> grind

theorem mem_minsert {α : Type} (m : SMap α) (k : Nat) (v : α) (e : Nat × α) :
    e ∈ minsert m k v ↔ e = (k, v) ∨ e ∈ m := by
  induction m with
  | nil => simp [minsert]
  | cons x t ih =>
    obtain ⟨a, w⟩ := x
    simp only [minsert]
    split <;> simp only [List.mem_cons, ih] <;> grind

theorem merase_wf {α : Type} {d : Nat → α → Bool} {m : SMap α} (h : mwf d m = true) (k : Nat) :
    mwf d (merase m k) = true := by
  rw [mwf_iff] at h ⊢
  refine ⟨?_, fun e he => h.2 e ((mem_merase m k e).1 he).1⟩
  have h1 := h.1
  clear h
  induction m with
  | nil => simp [merase]
  | cons x t ih =>
    obtain ⟨a, v⟩ := x
    simp only [merase]
    rw [List.pairwise_cons] at h1
    split
    · exact ih h1.2
    · rw [List.pairwise_cons]
      exact ⟨fun y hy => h1.1 y ((mem_merase t k y).1 hy).1, ih h1.2⟩

theorem minsert_wf {α : Type} {d : Nat → α → Bool} {m : SMap α} (h : mwf d m = true) {k : Nat} {v : α}
    (hk : ∀ e ∈ m, e.1 ≠ k) (hv : d k v = false) : mwf d (minsert m k v) = true := by
  rw [mwf_iff] at h ⊢
  refine ⟨?_, fun e he => ?_⟩
  · have h1 := h.1
    clear h
    induction m with
    | nil => simp [minsert]
    | cons x t ih =>
      obtain ⟨a, w⟩ := x
      simp only [minsert]
      rw [List.pairwise_cons] at h1
      split
      · rename_i hlt
        refine List.pairwise_cons.2 ⟨fun y hy => ?_, List.pairwise_cons.2 h1⟩
        rcases List.mem_cons.1 hy with rfl | hy
        · exact hlt
        · exact Nat.lt_trans hlt (h1.1 y hy)
      · rename_i hge
        refine List.pairwise_cons.2 ⟨fun y hy => ?_, ih (fun e he => hk e (List.mem_cons_of_mem _ he)) h1.2⟩
        rcases (mem_minsert t k v y).1 hy with rfl | hy
        · have := hk (a, w) List.mem_cons_self
          simp only at this hge ⊢
          omega
        · exact h1.1 y hy
  · rcases (mem_minsert m k v e).1 he with rfl | he
    · exact hv
    · exact h.2 e he

/-- A write keeps the canonical form. -/
theorem msetCanon_wf {α : Type} {d : Nat → α → Bool} {m : SMap α} (h : mwf d m = true) (k : Nat) (v : α) :
    mwf d (msetCanon (d k v) m k v) = true := by
  unfold msetCanon
  split
  · exact merase_wf h k
  · rename_i hd
    exact minsert_wf (merase_wf h k) (fun e he => ((mem_merase m k e).1 he).2) (by simpa using hd)

/-- Leaving entries out keeps the canonical form. -/
theorem filter_wf {α : Type} {d : Nat → α → Bool} {m : SMap α} (h : mwf d m = true) (p : Nat × α → Bool) :
    mwf d (m.filter p) = true := by
  rw [mwf_iff] at h ⊢
  exact ⟨h.1.filter p, fun e he => h.2 e (List.mem_filter.1 he).1⟩

end Sys2Proof.Machine
end

