-- ==== Sys2Proof/Laws/Ops.lean ====
section
/-!
SUPPORT. What the shared operations do: registers and fields, memory, cores, interrupt lines, events.
-/

namespace Sys2Proof.Machine

/-! ## Registers and fields -/

theorem State.getReg_setReg (s : State) (a b : Nat) (v : Word) :
    (s.setReg a v).getReg b = if b = a then v else s.getReg b := by
  simp only [State.getReg, State.setReg, mfind_msetCanon]
  by_cases h : b = a
  · subst h
    by_cases hv : (v == regReset b) = true
    · simp only [hv, if_true]; exact (eq_of_beq hv).symm
    · simp [hv]
  · simp [h]

@[simp] theorem State.getReg_setReg_same (s : State) (a : Nat) (v : Word) : (s.setReg a v).getReg a = v := by
  simp [State.getReg_setReg]

theorem State.getReg_setF (s : State) (f : Fld) (v b : Nat) :
    (s.setF f v).getReg b = if b = f.addr then putField (s.getReg f.addr) f.hi f.lo v else s.getReg b :=
  State.getReg_setReg ..

theorem maskOf_getLsbD (hi lo i : Nat) (h : hi < 32) :
    (maskOf hi lo).getLsbD i = (decide (lo ≤ i) && decide (i ≤ hi)) := by
  simp only [maskOf, BitVec.getLsbD_ofNat, Nat.testBit_mul_two_pow, Nat.testBit_two_pow_sub_one]
  grind

theorem fieldOf_testBit (w : Word) (hi lo i : Nat) :
    (fieldOf w hi lo).testBit i = (decide (i < hi + 1 - lo) && w.getLsbD (lo + i)) := by
  simp only [fieldOf, Nat.testBit_mod_two_pow, Nat.testBit_div_two_pow, BitVec.getLsbD]
  rw [Nat.add_comm i lo]

theorem putField_getLsbD (w : Word) (hi lo v i : Nat) (h : hi < 32) :
    (putField w hi lo v).getLsbD i =
      if lo ≤ i ∧ i ≤ hi then v.testBit (i - lo) else w.getLsbD i := by
  simp only [putField, BitVec.getLsbD_or, BitVec.getLsbD_and, BitVec.getLsbD_not, maskOf_getLsbD _ _ _ h,
    BitVec.getLsbD_ofNat, Nat.testBit_mul_two_pow]
  by_cases h1 : lo ≤ i ∧ i ≤ hi
  · have : i < 32 := by omega
    simp [h1.1, h1.2, this]
  · rw [if_neg h1]
    have : (decide (lo ≤ i) && decide (i ≤ hi)) = false := by
      simp only [Bool.and_eq_false_iff, decide_eq_false_iff_not]; omega
    rw [this]
    by_cases hi32 : i < 32
    · simp [hi32]
    · simp [hi32, BitVec.getLsbD_of_ge w i (by omega)]

/-- A field reads as what was put into it. -/
theorem fieldOf_putField_same (w : Word) (hi lo v : Nat) (h : lo ≤ hi) (h2 : hi < 32) :
    fieldOf (putField w hi lo v) hi lo = v % 2 ^ (hi + 1 - lo) := by
  apply Nat.eq_of_testBit_eq
  intro i
  rw [fieldOf_testBit, putField_getLsbD _ _ _ _ _ h2, Nat.testBit_mod_two_pow]
  by_cases hi' : i < hi + 1 - lo
  · rw [if_pos (by omega)]; simp [hi']
  · simp [hi']

/-- Another field of the register is unchanged. -/
theorem fieldOf_putField_other (w : Word) (hi lo v hi' lo' : Nat) (h : hi < 32) (hd : hi' < lo ∨ hi < lo') :
    fieldOf (putField w hi lo v) hi' lo' = fieldOf w hi' lo' := by
  apply Nat.eq_of_testBit_eq
  intro i
  rw [fieldOf_testBit, fieldOf_testBit, putField_getLsbD _ _ _ _ _ h]
  by_cases hi2 : i < hi' + 1 - lo'
  · rw [if_neg (by omega)]
  · simp [hi2]

theorem State.getF_setF_same (s : State) (f : Fld) (v : Nat) (h : f.lo ≤ f.hi) (h2 : f.hi < 32) :
    (s.setF f v).getF f = v % 2 ^ (f.hi + 1 - f.lo) := by
  simp only [State.getF, State.getReg_setF, if_true]
  exact fieldOf_putField_same _ _ _ _ h h2

theorem State.getF_setF_other (s : State) (f g : Fld) (v : Nat) (h : f.hi < 32)
    (hd : g.addr ≠ f.addr ∨ g.hi < f.lo ∨ f.hi < g.lo) : (s.setF f v).getF g = s.getF g := by
  simp only [State.getF, State.getReg_setF]
  split
  · rename_i ha
    rw [← ha]
    rcases hd with hd | hd
    · exact absurd ha hd
    · exact fieldOf_putField_other _ _ _ _ _ _ h hd
  · rfl

/-- A one-bit field that is set reads 1. -/
theorem State.flag_raise (s : State) (f : Fld) (h : f.hi = f.lo) (h2 : f.hi < 32) : (s.raise f).flag f = true := by
  rw [State.raise_eq, State.flag, State.getF_setF_same _ _ _ (by omega) h2, h]
  simp

theorem State.flag_lower (s : State) (f : Fld) (h : f.lo ≤ f.hi) (h2 : f.hi < 32) : (s.lower f).flag f = false := by
  rw [State.lower_eq, State.flag, State.getF_setF_same _ _ _ h h2]
  simp

/-! ## Memory -/

theorem State.rd8_wr8 (s : State) (a b : Nat) (v : Byte) : (s.wr8 a v).rd8 b = if b = a then v else s.rd8 b := by
  simp only [State.rd8, State.memEpoch, State.wr8_romEpoch, State.wr8_dramEpoch]
  simp only [State.wr8, mfind_msetCanon]
  by_cases h : b = a
  · subst h
    by_cases hv : isMemDefault b v = true
    · simp only [hv, if_true]
      simp only [isMemDefault] at hv
      rw [eq_of_beq hv]; rfl
    · simp [hv]
  · simp [h]

theorem State.rd8_congr {s t : State} (hm : t.mem = s.mem) (hr : t.romEpoch = s.romEpoch) (hd : t.dramEpoch = s.dramEpoch)
    (a : Nat) : t.rd8 a = s.rd8 a := by
  simp only [State.rd8, State.memEpoch, hm, hr, hd]

theorem State.wrBytes_regs (s : State) (a : Nat) (l : List Byte) : (s.wrBytes a l).regs = s.regs := by
  induction l generalizing s a with
  | nil => rfl
  | cons b t ih => rw [State.wrBytes, ih]; rfl

/-- What a store of bytes changes: exactly its bytes. -/
theorem State.rd8_wrBytes (s : State) (a b : Nat) (l : List Byte) :
    (s.wrBytes a l).rd8 b = if a ≤ b ∧ b < a + l.length then l.getD (b - a) 0 else s.rd8 b := by
  induction l generalizing s a with
  | nil => rw [if_neg (by simp only [List.length_nil]; omega)]; rfl
  | cons v t ih =>
    rw [State.wrBytes, ih, State.rd8_wr8]
    simp only [List.length_cons]
    by_cases h : b = a
    · subst h
      rw [if_neg (by omega), if_pos rfl, if_pos (by omega)]
      simp
    · by_cases h2 : a + 1 ≤ b ∧ b < a + 1 + t.length
      · rw [if_pos h2, if_pos (by omega)]
        have : b - a = (b - (a + 1)) + 1 := by omega
        rw [this, List.getD_cons_succ]
      · rw [if_neg h2, if_neg h, if_neg (by omega)]

theorem State.rdBytes_length (s : State) (a n : Nat) : (s.rdBytes a n).length = n := by
  induction n generalizing a with
  | zero => rfl
  | succ n ih => simp [State.rdBytes, ih]

/-- A write keeps the canonical form of memory. -/
theorem State.wr8_wf {s : State} (h : s.mem.wf = true) (a : Nat) (v : Byte) : (s.wr8 a v).mem.wf = true :=
  msetCanon_wf h a v

theorem State.wrBytes_wf {s : State} (h : s.mem.wf = true) (a : Nat) (l : List Byte) : (s.wrBytes a l).mem.wf = true := by
  induction l generalizing s a with
  | nil => exact h
  | cons b t ih => exact ih (State.wr8_wf h a b) _

/-! ## Cores -/

theorem State.core_setCore (s : State) (n k : Nat) (c : Core) : (s.setCore n c).core k = if k = n then c else s.core k := by
  simp [State.core, State.setCore]

/-- What a hart's core state reads as after it was set. -/
@[simp] theorem State.hart_setHart (s : State) (h : Hart) (c : Core) : (s.setHart h c).hart h = c := by
  unfold State.setHart State.hart
  simp only
  split <;> simp [State.core_setCore]

@[simp] theorem State.hart_modHart (s : State) (h : Hart) (f : Core → Core) : (s.modHart h f).hart h = f (s.hart h) := by
  simp [State.modHart]

/-- Setting a hart changes `cores` only. -/
theorem State.setHart_eq (s : State) (h : Hart) (c : Core) :
    ∃ l, s.setHart h c = { s with cores := l } := by
  unfold State.setHart
  simp only
  split
  · exact ⟨_, rfl⟩
  · exact ⟨_, rfl⟩

theorem State.modHart_eq (s : State) (h : Hart) (f : Core → Core) : ∃ l, s.modHart h f = { s with cores := l } :=
  s.setHart_eq h _

theorem State.eachCopy_eq (s : State) (h : Hart) (f : Core → Core) : ∃ k, s.eachCopy h f = { s with cores := k } := by
  unfold State.eachCopy
  simp only
  split
  · exact ⟨_, rfl⟩
  · exact ⟨_, rfl⟩

theorem State.latchLine_eq (s : State) (c l : Nat) : ∃ k, s.latchLine c l = { s with cores := k } := s.eachCopy_eq ..

/-! ## Interrupt lines: only the cores' pending bits move -/

theorem foldl_cores {β : Type} (f : State → β → State) (hf : ∀ s b, ∃ k, f s b = { s with cores := k }) (l : List β)
    (s : State) : ∃ k, l.foldl f s = { s with cores := k } := by
  induction l generalizing s with
  | nil => exact ⟨s.cores, rfl⟩
  | cons b t ih =>
    obtain ⟨k, hk⟩ := hf s b
    obtain ⟨m, hm⟩ := ih (f s b)
    exact ⟨m, by rw [List.foldl_cons, hm, hk]⟩

/-- A pulse on an interrupt output changes `cores` only. -/
theorem State.irqPulse_eq (s : State) (b o : Nat) : ∃ k, s.irqPulse b o = { s with cores := k } := by
  refine foldl_cores _ (fun s e => ?_) _ s
  split
  · exact s.latchLine_eq ..
  · exact ⟨s.cores, rfl⟩

theorem State.irqPulseIf_eq (s : State) (en : Fld) (b : Nat) : ∃ k, s.irqPulseIf en b = { s with cores := k } := by
  unfold State.irqPulseIf
  split
  · exact s.irqPulse_eq ..
  · exact ⟨s.cores, rfl⟩

/-- Latching the lines of asserted sources changes `cores` only. -/
theorem State.settle_eq (s : State) : ∃ k, s.settle = { s with cores := k } := by
  unfold State.settle
  refine foldl_cores _ (fun t e => ?_) _ s
  split
  · exact t.latchLine_eq ..
  · exact ⟨t.cores, rfl⟩

end Sys2Proof.Machine
end

