-- ==== Sys2Proof/Laws/Keep.lean ====
section
/-!
SUPPORT. The named operations keep the invariant of every state: the ones on registers and memory, and the rule by which any
other update keeps it.
-/

namespace Sys2Proof.Machine

/-- An update of other fields keeps the invariant. -/
theorem State.wellKept_congr {s t : State} (h : s.wellKept) (hm : t.mem = s.mem) (hr : t.regs = s.regs)
    (hb : t.bbxQueue = s.bbxQueue) (hd : t.drop.q.length = s.drop.q.length) : t.wellKept := by
  obtain ⟨h1, h2, h3, h4⟩ := h
  exact ⟨by unfold State.memWf at *; rw [hm]; exact h1, by unfold State.regsWf at *; rw [hr]; exact h2, by rw [hb]; exact h3,
    by rw [hd]; exact h4⟩

theorem State.wellKept_setReg {s : State} (h : s.wellKept) (a : Nat) (v : Word) : (s.setReg a v).wellKept :=
  ⟨h.1, msetCanon_wf h.2.1 a v, h.2.2⟩

theorem State.wellKept_setF {s : State} (h : s.wellKept) (f : Fld) (v : Nat) : (s.setF f v).wellKept := State.wellKept_setReg h _ _

theorem State.wellKept_raise {s : State} (h : s.wellKept) (f : Fld) : (s.raise f).wellKept := State.wellKept_setF h f 1

theorem State.wellKept_lower {s : State} (h : s.wellKept) (f : Fld) : (s.lower f).wellKept := State.wellKept_setF h f 0

theorem State.wellKept_count {s : State} (h : s.wellKept) (f : Fld) (n : Nat) : (s.count f n).wellKept := State.wellKept_setF h f _

theorem State.wellKept_wr8 {s : State} (h : s.wellKept) (a : Nat) (v : Byte) : (s.wr8 a v).wellKept :=
  ⟨State.wr8_wf h.1 a v, h.2.1, h.2.2⟩

theorem State.wellKept_wrBytes {s : State} (h : s.wellKept) (a : Nat) (l : List Byte) : (s.wrBytes a l).wellKept := by
  induction l generalizing s a with
  | nil => exact h
  | cons b t ih => exact ih (State.wellKept_wr8 h a b) (a + 1)

theorem State.wellKept_setCore {s : State} (h : s.wellKept) (n : Nat) (c : Core) : (s.setCore n c).wellKept := h

theorem State.wellKept_modHart {s : State} (h : s.wellKept) (x : Hart) (f : Core → Core) : (s.modHart x f).wellKept := by
  obtain ⟨l, e⟩ := State.modHart_eq s x f
  rw [e]
  exact h

theorem State.wellKept_settle {s : State} (h : s.wellKept) : s.settle.wellKept := by
  obtain ⟨l, e⟩ := State.settle_eq s
  rw [e]
  exact h

theorem State.wellKept_bbxEvent {s : State} (h : s.wellKept) (c : Nat) (l : List Word) : (s.bbxEvent c l).wellKept := by
  unfold State.bbxEvent
  extract_lets q
  split
  · rename_i hq
    exact ⟨h.1, h.2.1, hq, h.2.2.2⟩
  · have k := State.wellKept_count h R.BBX_STAT_LOST 1
    exact ⟨k.1, k.2.1, by simp, k.2.2.2⟩

/-- A fold of steps that each keep the invariant keeps it. -/
theorem wellKept_foldl {β : Type} {f : State → β → State} (hf : ∀ s b, s.wellKept → (f s b).wellKept) (l : List β) {s : State}
    (h : s.wellKept) : (l.foldl f s).wellKept := by
  induction l generalizing s with
  | nil => exact h
  | cons b t ih => exact ih (hf s b h)

end Sys2Proof.Machine
end

