-- ==== Sys2Proof/Laws/Lomer.lean ====
section
/-!
SUPPORT. What issuing an instruction does, and the register files of a core.
-/

namespace Sys2Proof.Machine

/-! ## Issue -/

/-- An instruction that issues, with no reserved encoding and no illegal place, has its own effect. -/
theorem State.issue_body {s t : State} {h : Hart} (hi : s.issuesTo t h) (w : Word) (inSlot atEnd : Bool)
    (hs : inSlot = false ∨ (t.hart h).delay = none) (he : atEnd = false ∨ (t.hart h).atLoopEnd = false)
    (body : State → State) : s.issue h w false inSlot atEnd body = body t := by
  obtain ⟨hc, ⟨l, hf⟩, hw⟩ := hi
  unfold State.issue
  simp only [hc, hf, hw, Bool.not_true, Bool.false_eq_true, if_false]
  rcases hs with rfl | hs <;> rcases he with rfl | he <;> simp_all

/-- An instruction whose encoding is reserved takes RSVD. -/
theorem State.issue_reserved {s t : State} {h : Hart} (hi : s.issuesTo t h) (w : Word) (inSlot atEnd : Bool)
    (body : State → State) : s.issue h w true inSlot atEnd body = t.rsvd h w := by
  obtain ⟨hc, ⟨l, hf⟩, hw⟩ := hi
  unfold State.issue
  simp only [hc, hf, hw, Bool.not_true, Bool.false_eq_true, if_false, if_true]

/-- An instruction that changes only its core's registers. -/
theorem State.simple_effect {s t : State} {h : Hart} (hi : s.issuesTo t h) (w : Word) (f : Core → Core) :
    s.simple h w false f = t.modHart h fun c => (f c).retire :=
  State.issue_body hi w false false (.inl rfl) (.inl rfl) _

/-! ## Register files -/

theorem Core.dr_setD (c : Core) (n k : Nat) (v : Word) : (c.setD n v).dr k = if k = n then v else c.dr k :=
  mget_msetCanon (0 : Word) c.d n k v

theorem Core.mr_setM (c : Core) (n k : Nat) (v : Word) : (c.setM n v).mr k = if k = n then v else c.mr k :=
  mget_msetCanon (0 : Word) c.m n k v

theorem Core.accr_setAcc (c : Core) (n k : Nat) (v : Acc) : (c.setAcc n v).accr k = if k = n then v else c.accr k :=
  mget_msetCanon (0 : Acc) c.acc n k v

theorem Core.ar_setA (c : Core) (n k : Nat) (v : Addr) : (c.setA n v).ar k = if k = n then v else c.ar k := by
  unfold Core.setA
  by_cases hn : n = 15
  · subst hn
    by_cases ht : c.tm = true <;> by_cases hk : k = 15 <;> simp [Core.ar, ht, hk]
  · simp only [hn, if_false, Core.ar]
    by_cases hk : k = 15
    · have : ¬ (15 = n) := fun h => hn h.symm
      simp [hk, this]
    · simp only [hk, if_false]
      exact mget_msetCanon (0 : Addr) c.a n k v

end Sys2Proof.Machine
end

