-- ==== Sys2Proof/WellFormed.lean ====
section
/-!
DEFINITION. Which commands are well formed: the bounds that the rules give operands beyond their types. Indices, register
fields and words are bounded by their types already.
-/

namespace Sys2Proof

/-- A host request's payload is at most 8,192 bytes (R489). -/
def Req.wf (q : Req) : Bool := decide (q.payload.length ≤ 8192)

/-- Whether a command is well formed (R83, R291, R367, R489, R498, R499, R505, R506, R512, R523). -/
def Instr.wf (i : Instr) : Bool :=
  match i with
  | .powerOnReset .. => true
  | .warmReset => true
  | .bootContinue => true
  | .cueBoundary => true
  | .cuePre => true
  | .cueDone .. => true
  | .cuePeriodWrite .. => true
  | .cueCtrlWrite .. => true
  | .cueFollowerLock _ _ _ phase _ => decide (phase < 50000)
  | .cueHoldover => true
  | .shadowedPairRead .. => true
  | .rcCounterRead _ _ inc => decide (inc < 2 ^ 32)
  | .registerWrite .. => true
  | .watchdogService .. => true
  | .watchdogExpiry .. => true
  | .curtainLimit => true
  | .dieTemperatureUpdate .. => true
  | .debugHalt .. => true
  | .debugResume => true
  | .go q => q.wf
  | .submit q => q.wf
  | .pause q => q.wf
  | .resume q => q.wf
  | .callCurtain q => q.wf
  | .clear q => q.wf
  | .enterWings q => q.wf
  | .wake q => q.wf
  | .shutdown q => q.wf
  | .activate q => q.wf
  | .enterRecovery q => q.wf
  | .restart q => q.wf
  | .recoveryDownload q => q.wf
  | .open _ partner _ _ _ => decide (partner < 2 ^ 96)
  | .close q => q.wf
  | .keepalive q => q.wf
  | .status q => q.wf
  | .readMem q => q.wf
  | .writeMem q => q.wf
  | .image q => q.wf
  | .fwCall q => q.wf
  | .hostFrameReceive _ partner _ frame => decide (partner < 2 ^ 96 ∧ frame.length ≤ 9218)
  | .longOperationComplete code payload => decide (code.toNat < 2 ^ 16 ∧ payload.length ≤ 8192)
  | .sessionIdleTimeout .. => true
  | .functionLevelReset => true
  | .usbDisconnect => true
  | .pcieDoorbell .. => true
  | .bar2Write off data => decide (off < 2 ^ 35 ∧ 1 ≤ data.length ∧ data.length ≤ 512)
  | .bar2Read off len => decide (off < 2 ^ 35 ∧ 1 ≤ len ∧ len ≤ 4096)
  | .arpRequest .. => true
  | .ethFrameToFirmware _ data => decide (64 ≤ data.length ∧ data.length ≤ 9218)
  | .ptpEventTimestamp .. => true
  | .hostTsRead .. => true
  | .hostCqPop .. => true
  | .hostRspGo .. => true
  | .hostRspNotify .. => true
  | .add .. => true
  | .addc .. => true
  | .sub .. => true
  | .subc .. => true
  | .and .. => true
  | .or .. => true
  | .xor .. => true
  | .andn .. => true
  | .shl .. => true
  | .shr .. => true
  | .sar .. => true
  | .shli .. => true
  | .shri .. => true
  | .sari .. => true
  | .mul .. => true
  | .mulhs .. => true
  | .mulhu .. => true
  | .adds .. => true
  | .subs .. => true
  | .abs .. => true
  | .neg .. => true
  | .min .. => true
  | .max .. => true
  | .clz .. => true
  | .mov .. => true
  | .cmp .. => true
  | .tst .. => true
  | .sel .. => true
  | .addi .. => true
  | .andi .. => true
  | .ori .. => true
  | .xori .. => true
  | .cmpi .. => true
  | .movi .. => true
  | .movhi .. => true
  | .mula .. => true
  | .mac .. => true
  | .msu .. => true
  | .mulu .. => true
  | .macu .. => true
  | .clra .. => true
  | .ext .. => true
  | .accadd .. => true
  | .accset .. => true
  | .guard .. => true
  | .addai .. => true
  | .mova .. => true
  | .addad .. => true
  | .subad .. => true
  | .movda .. => true
  | .movad .. => true
  | .movahd .. => true
  | .movm .. => true
  | .movmd .. => true
  | .setah .. => true
  | .lds .. => true
  | .ldz .. => true
  | .st .. => true
  | .lda .. => true
  | .sta .. => true
  | .ldacc .. => true
  | .stacc .. => true
  | .loadMissReturn .. => true
  | .bcc .. => true
  | .j .. => true
  | .call .. => true
  | .jr .. => true
  | .callr .. => true
  | .loop .. => true
  | .wfe .. => true
  | .wfeWake .. => true
  | .waitt .. => true
  | .waittTargetReached .. => true
  | .waittTimeout .. => true
  | .sev .. => true
  | .bmov _ _ _ _ _ elems => decide (elems < 2 ^ 32)
  | .vmac16 _ _ _ _ _ elems => decide (elems < 2 ^ 32)
  | .vmac32 _ _ _ _ _ elems => decide (elems < 2 ^ 32)
  | .vmac16m _ _ _ _ _ elems => decide (elems < 2 ^ 32)
  | .vmac32m _ _ _ _ _ elems => decide (elems < 2 ^ 32)
  | .crcb32 _ _ _ _ _ elems => decide (elems < 2 ^ 32)
  | .crcb16 _ _ _ _ _ elems => decide (elems < 2 ^ 32)
  | .nop .. => true
  | .mfs .. => true
  | .mts .. => true
  | .rfe .. => true
  | .trap .. => true
  | .ifence .. => true
  | .fence .. => true
  | .bpFlush .. => true
  | .bpBar .. => true
  | .invalidateDcacheLine .. => true
  | .invalidateIcacheLine .. => true
  | .invalidateDcache .. => true
  | .invalidateIcache .. => true
  | .pfstatPop .. => true
  | .holdcntWrite .. => true
  | .interruptEntry .. => true
  | .postedFaultArrival .. => true
  | .vectorHoldExpiry .. => true
  | .lockstepMismatch .. => true
  | .lockstepRelease .. => true
  | .lockstepHoldExpiry .. => true
  | .agreementBufferTimeout .. => true
  | .checkpointCapture .. => true
  | .checkpointCommit .. => true
  | .ustdInj .. => true
  | .patrolScrub unit _ => decide (unit < 2 ^ 37)
  | .dramRefresh .. => true
  | .drcReady => true
  | .drcPackageFailed .. => true
  | .pmemWriteComplete => true
  | .pmcLock .. => true
  | .flsKeyWrite .. => true
  | .programPage .. => true
  | .eraseBlock .. => true
  | .programOtp .. => true
  | .flsSequenceTimeout => true
  | .flsOperationDone .. => true
  | .flsSuspend .. => true
  | .flsSuspendDone => true
  | .flsResume .. => true
  | .flsWpLock .. => true
  | .swathPost .. => true
  | .swathCheck => true
  | .swathTableLatch => true
  | .dropFlush .. => true
  | .tileStaged _ _ tile => decide (tile < 2 ^ 24)
  | .tileReread _ _ tile => decide (tile < 2 ^ 24)
  | .dropRetry .. => true
  | .dropRrqPop .. => true
  | .observerTick => true
  | .fireObsenWrite .. => true
  | .armingCheckComplete => true
  | .fireRefresh => true
  | .scanRound => true
  | .jetBlockSlot .. => true
  | .jetCtrlEn .. => true
  | .jetTload .. => true
  | .jetCapsReceived .. => true
  | .jetEchoReceived _ rtt => decide (rtt < 2 ^ 32)
  | .jetStatReceived .. => true
  | .jetTrainTimeout .. => true
  | .jetLockLoss .. => true
  | .sensorFrame _ _ pixels _ _ _ => decide (pixels.length ≤ 4096)
  | .correlationResult .. => true
  | .mtrkResult => true
  | .mtrkPairTimeout .. => true
  | .fsyncPulse => true
  | .mtrkPreset .. => true
  | .mtrkCapture .. => true
  | .slotSample .. => true
  | .slotUpdate .. => true
  | .loopParamWrite .. => true
  | .rehearsalGo .. => true
  | .rehearsalStop .. => true
  | .pwmPeriodStart .. => true
  | .pwmLoadTransfer .. => true
  | .pwmLdall .. => true
  | .pwmEnable .. => true
  | .pwmDisable .. => true
  | .tripInput .. => true
  | .pwmTripClear .. => true
  | .peakCurrentReset _ steps => decide (steps < 2 ^ 20)
  | .pwmLock .. => true
  | .adcResult _ codes => decide (codes.length = 4)
  | .afeGtrig .. => true
  | .adcTriggerStart .. => true
  | .adcTriggerDrop .. => true
  | .deltaSigmaOutput .. => true
  | .afeDsloss .. => true
  | .comparatorEdge .. => true
  | .afeDacWrite .. => true
  | .afeCmpcfgWrite .. => true
  | .mainsZeroCrossing .. => true
  | .mainsCrossingTimeout => true
  | .mainsHalfCycleMissing => true
  | .powerFailWarning => true
  | .railsLost => true
  | .encoderTick => true
  | .quadratureEdge .. => true
  | .sincosResult .. => true
  | .serialFrameEnd .. => true
  | .indexEdge .. => true
  | .encPreset .. => true
  | .setpointStep .. => true
  | .eventDelivery => true
  | .callRunawayClear .. => true
  | .evinEdge .. => true
  | .evoutPulseEnd .. => true
  | .dmaGo .. => true
  | .dmaAbort .. => true
  | .dmaAbortComplete .. => true
  | .dmaReadBeat .. => true
  | .dmaReadReturn .. => true
  | .dmaWriteAck .. => true
  | .dmaDescriptorFetch .. => true
  | .gpioPcfgWrite .. => true
  | .gpioFunctionSwitch .. => true
  | .gpioMaskedWrite .. => true
  | .gpioOwnerWrite .. => true
  | .gpioLockMask .. => true
  | .gpioLkey .. => true
  | .gpioLockTimeout => true
  | .wakeDetect .. => true
  | .serdatWrite .. => true
  | .serdatRead .. => true
  | .serialTransferDone .. => true
  | .uartReceive .. => true
  | .i2cStretchTimeout .. => true
  | .pbsLatch => true
  | .memberReportTimeout .. => true
  | .shareLossTimeout => true
  | .jrnlAccept .. => true
  | .acceptComplete => true
  | .jrnlAbandon .. => true
  | .cvLineWrite .. => true
  | .finalSeal => true
  | .orderRetire => true
  | .byrCtrlWrite .. => true
  | .byrBlockSlot _ arrival => decide (arrival.length ≤ 257)
  | .byrMark .. => true
  | .byrEcho .. => true
  | .byrCaps .. => true
  | .byrTime .. => true
  | .byrCueinfo .. => true
  | .byrJoin .. => true
  | .byrTrainTimeout .. => true
  | .byrLockLoss .. => true
  | .byrWr _ _ _ data => decide (1 ≤ data.length ∧ data.length ≤ 256)
  | .byrRd .. => true
  | .byrRdr _ _ data => decide (data.length ≤ 256)
  | .byrWrack .. => true
  | .remoteAccessTimeout .. => true
  | .byrMsg _ data => decide (data.length ≤ 2040)
  | .byrPbsReport .. => true
  | .byrPbsShare .. => true
  | .byrEvt .. => true
  | .byrMtxGo .. => true
  | .byrMrxPop .. => true
  | .updVerify .. => true
  | .verifyComplete => true
  | .updAct .. => true
  | .activationComplete => true
  | .imgdata _ _ _ data => decide (data.length = 1024)
  | .chunkack .. => true
  | .actreq .. => true
  | .actdone .. => true
  | .bbxWr .. => true
  | .bbxRecordWrite => true
  | .bbxCalset .. => true
  | .calendarSecond => true
  | .nozzleCountFlush => true
  | .secDbgLock .. => true
  | .selvOverload .. => true
  | .selvThermalOff .. => true
  | .selvRestart .. => true
  | .clockStop => true
  | .alwaysOnRailCollapse => true
  | .deltaSigmaClockReturn .. => true
  | .allChannelsInSelfRefresh => true
  | .dmaWriteBeat .. => true

end Sys2Proof
end

