-- ==== Sys2Proof/Tests/Slice0.lean ====
section
/-!
SUPPORT. Tests: ill-formed commands, worked examples of spec/, and for each statement with hypotheses a witness that meets them.
A test's source stands in its comment; a witness only shows that the hypotheses of a statement can be met together.
-/

namespace Sys2Proof.Tests
open Sys2Proof Sys2Proof.Machine

set_option Elab.async false

/-! ## Helpers -/

/-- The state after one command. -/
def after (c : Instr) (s : State) : State := match exec c s with | .next t => t | _ => s

/-- `s` in device state `d`. -/
def dev (d : Dev) (s : State) : State := { s with sys := { s.sys with dev := d } }

/-- `s` with register fields set. -/
def put (l : List (Fld × Nat)) (s : State) : State :=
  let t := l.foldl (fun s e => s.setF e.1 e.2) s; { t with regs0 := t.regs }

/-- Reset, but that every core runs. -/
def awake : State := { State.reset with cores := [] }

/-- RUN/IDLE, PLACES and WINGS with every core running and every other field as reset leaves it. -/
def idle : State := dev (.run .idle) awake
def places : State := dev .places awake
def wings : State := dev .wings awake

/-- Core 12 (hart 8) runs in the ROM, changed by `f`. -/
def rom (f : Core → Core) : State := State.reset.modHart 8 f

/-- House core 12 as a writer. -/
def house : Writer := .core 8 0

/-- A data core as a writer. -/
def crew : Writer := .core 4 0

/-! ## Well-formedness: one ill-formed command for each check -/

def longReq : Req := ⟨0, 0, List.replicate 8193 0⟩

theorem test_wf_request : (Instr.go longReq).wf = false ∧ (Instr.fwCall longReq).wf = false ∧ (Instr.go ⟨0, 0, []⟩).wf = true := by decide +kernel
theorem test_wf_phase : (Instr.cueFollowerLock 0 0 0 50000 0).wf = false ∧ (Instr.cueFollowerLock 0 0 0 49999 0).wf = true := by decide
theorem test_wf_increment : (Instr.rcCounterRead house 0 (2 ^ 32)).wf = false := by decide
theorem test_wf_partner : (Instr.open 0 (2 ^ 96) 0 0 0).wf = false ∧ (Instr.hostFrameReceive 0 (2 ^ 96) 0 []).wf = false := by decide
theorem test_wf_frame : (Instr.hostFrameReceive 0 0 0 (List.replicate 9219 0)).wf = false := by decide +kernel
theorem test_wf_status : (Instr.longOperationComplete 0x10000 []).wf = false ∧ (Instr.longOperationComplete 0 (List.replicate 8193 0)).wf = false := by
  decide +kernel
theorem test_wf_bar2_write : (Instr.bar2Write (2 ^ 35) [0]).wf = false ∧ (Instr.bar2Write 0 []).wf = false ∧
    (Instr.bar2Write 0 (List.replicate 513 0)).wf = false := by decide +kernel
theorem test_wf_bar2_read : (Instr.bar2Read (2 ^ 35) 1).wf = false ∧ (Instr.bar2Read 0 0).wf = false ∧ (Instr.bar2Read 0 4097).wf = false := by decide
theorem test_wf_ethernet : (Instr.ethFrameToFirmware 0 (List.replicate 63 0)).wf = false ∧
    (Instr.ethFrameToFirmware 0 (List.replicate 9219 0)).wf = false := by decide +kernel
theorem test_wf_elements : ∀ i ∈ [Instr.bmov 8 0 2 1 0 (2 ^ 32), .vmac16 8 0 0 2 1 (2 ^ 32), .vmac32 8 0 0 2 1 (2 ^ 32),
    .vmac16m 8 0 0 2 1 (2 ^ 32), .vmac32m 8 0 0 2 1 (2 ^ 32), .crcb32 8 0 2 1 0 (2 ^ 32), .crcb16 8 0 2 1 0 (2 ^ 32)], i.wf = false := by decide
theorem test_wf_unit : (Instr.patrolScrub (2 ^ 37) 0).wf = false := by decide
theorem test_wf_tile : (Instr.tileStaged 0 0 (2 ^ 24)).wf = false ∧ (Instr.tileReread 0 0 (2 ^ 24)).wf = false := by decide
theorem test_wf_round_trip : (Instr.jetEchoReceived 0 (2 ^ 32)).wf = false := by decide
theorem test_wf_pixels : (Instr.sensorFrame 0 0 (List.replicate 4097 0) true 0 0).wf = false := by decide +kernel
theorem test_wf_steps : (Instr.peakCurrentReset 0 (2 ^ 20)).wf = false := by decide
theorem test_wf_codes : (Instr.adcResult 0 [0, 0, 0]).wf = false := by decide
theorem test_wf_blocks : (Instr.byrBlockSlot 0 (List.replicate 258 ⟨false, 0⟩)).wf = false := by decide +kernel
theorem test_wf_packets : (Instr.byrWr 0 0 0 []).wf = false ∧ (Instr.byrWr 0 0 0 (List.replicate 257 0)).wf = false ∧
    (Instr.byrRdr 0 0 (List.replicate 257 0)).wf = false := by decide +kernel
theorem test_wf_message : (Instr.byrMsg 0 (List.replicate 2041 0)).wf = false ∧ (Instr.imgdata 0 0 0 []).wf = false := by decide +kernel

/-! ## Lomer: values of spec/03 and spec/04 -/

/-- R88: the four words that the chapter writes out. -/
theorem test_words : wordReg 0 0 3 1 2 0 = 0x00611000#32 ∧ wordMem 0x11 5 2 1 2 4 = 0x44A46004#32 ∧ wordSys 0 0 0 0 = 0x88000000#32 ∧
    wordReg 0x1B 0 (14#4 ++ 0#1) 0 0 0 = 0x6F800000#32 := by decide

/-- R69: the ten-word circular buffer. -/
theorem test_modulo : addressing { a := [(1, 0x0010000124)], m := [(1, 40)] } 1 4 4 0 = (0x0010000124#40, some 0x0010000100#40) := by
  decide +kernel

/-- R70: 24 + 16 in reverse carry over 5 bits gives 4. -/
theorem test_bit_reverse : addressing { a := [(1, 0x1018)], m := [(1, 16)] } 1 5 0 0 = (0x1018#40, some 0x1004#40) := by decide +kernel

/-- R66: five products of 0.75 × 0.75, extracted with RND and SAT. -/
def filter : State := rom fun c => c.setAcc 0 0xB400000000000000
theorem test_ext_sat : let k := (after (.ext 8 4 0 3 31) filter).hart 8
    k.dr 4 = 0x7FFFFFFF ∧ k.flags.v = true ∧ k.flags.sv = true := by decide +kernel
theorem test_ext : let k := (after (.ext 8 4 0 1 31) filter).hart 8
    k.dr 4 = 0x68000000 ∧ k.flags.v = false := by decide +kernel
theorem test_guard : ((after (.guard 8 4 0 0 0) filter).hart 8).dr 4 = 0 := by decide +kernel

/-! ## Lomer: witnesses -/

/-- Hart 8 issues at reset, with no delay slot and no armed loop: the premises of the statements on arithmetic, moves, branches,
LOOP, waits, system registers, RFE, TRAP and barriers. -/
theorem witness_issues : State.reset.issuesTo State.reset 8 ∧ State.reset.plainPlace 8 :=
  ⟨⟨by decide +kernel, ⟨[], by decide +kernel⟩, by decide +kernel⟩, by decide +kernel, by decide +kernel⟩

/-- SaturatingArithmetic: Ds1 at 0x8000_0000, where ABS saturates (R89), and at another value. -/
def least : State := rom fun c => c.setD 1 0x80000000
theorem witness_saturating : least.issuesTo least 8 ∧ (least.hart 8).dr 1 = 0x80000000 ∧ (State.reset.hart 8).dr 1 ≠ 0x80000000 :=
  ⟨⟨by decide +kernel, ⟨[], by decide +kernel⟩, by decide +kernel⟩, by decide +kernel, by decide +kernel⟩
theorem test_abs_saturates : let k := (after (.abs 8 2 1 0 0) least).hart 8
    k.dr 2 = 0x7FFFFFFF ∧ k.flags.v = true ∧ k.flags.sv = true := by decide +kernel

/-- Accumulators: the option bits of EXT at each value. -/
theorem witness_ext : ∀ rnd sat : Bool, ∃ e : BitVec 5, e.getLsbD 0 = rnd ∧ e.getLsbD 1 = sat ∧ e.toNat < 4 := by decide

/-- R63: 0xFFFF_FFFF + 1 carries and gives 0. -/
theorem test_add_carry : let k := (after (.addi 8 2 1 1) (rom fun c => c.setD 1 0xFFFFFFFF)).hart 8
    k.dr 2 = 0 ∧ k.flags.c = true ∧ k.flags.z = true ∧ k.flags.v = false ∧ k.pc = 4 := by decide +kernel

/-- AddressingModes: L at 1 and at 2^24 − 1, and the reverse carry at k 0 and 31. -/
theorem witness_modulo : (1 ≤ (1 : Nat) ∧ 1 ≤ 2 ^ 0 ∧ (0x100 : Nat) = 0x100 * 2 ^ 0 + 0) ∧
    (2 ^ 24 - 1 ≤ 2 ^ 24 ∧ ∀ j < 24, ¬ 2 ^ 24 - 1 ≤ 2 ^ j) ∧ (2 ^ 31 ≤ (0x80000000 : Nat) ∧ 0x80000000 < 2 ^ 32) := by decide

/-- Loads and stores in the own local store: A1 holds 0x0831_0000, D3 a word. -/
def local_ : State := rom fun c => ((c.setA 1 0x08310000).setA 2 0x08310010).setD 3 0x89ABCDEF
theorem witness_store : local_.issuesTo local_ 8 ∧ memBad 1 0 0 = false ∧ local_.ecc = [] ∧ (local_.hart 8).tm = false ∧
    (let acc := (local_.hart 8).access 1 0 0 local_.fresh.1
     regionOf (ownAlias 12 acc.1.toNat) = .localStore (coreOf 8) ∧ acc.1.toNat % 8 + 4 ≤ 8 ∧
     (local_.fresh.2.coreStore 8 (wordMem 0x12 3 1 0 2 0) acc.1 (bytesLE 4 ((local_.hart 8).dr 3).toNat)).2 = true) :=
  ⟨⟨by decide +kernel, ⟨[], by decide +kernel⟩, by decide +kernel⟩, by decide +kernel⟩
theorem test_store : let s := after (.st 8 3 1 1 2 4) local_
    s.rdNat 0x08310000 4 = 0x89ABCDEF ∧ s.rdNat 0x08310004 4 = 0 ∧ (s.hart 8).ar 1 = 0x08310004 ∧ (s.hart 8).pc = 4 := by decide +kernel
def stored : State := after (.st 8 3 1 0 2 0) local_
theorem witness_load : stored.issuesTo stored 8 ∧ memBad 1 0 1 = false ∧
    (stored.fresh.2.loadGo 8 ⟨wordMem 0x10 4 1 0 0 1, dataDst 4 0 true, partsOf 0x08310001 1, [], none, false⟩ (partsOf 0x08310001 1) []).2 =
      some [0xCD#8] ∧
    (stored.fresh.2.loadGo 8 ⟨wordMem 0x15 0 1 0 3 0, .acc 0, partsOf 0x08310000 16, [], none, false⟩ (partsOf 0x08310000 16) []).2 ≠ none :=
  ⟨⟨by decide +kernel, ⟨[], by decide +kernel⟩, by decide +kernel⟩, by decide +kernel⟩

/-- R71: LDS extends the sign, LDZ does not. -/
theorem test_load : ((after (.lds 8 4 1 0 0 1) stored).hart 8).dr 4 = 0xFFFFFFCD ∧ ((after (.ldz 8 4 1 0 0 1) stored).hart 8).dr 4 = 0xCD := by
  decide +kernel

/-- MissedLoadCompletes: a load waits for one part in the LPDDR5X window. -/
def missed : State := { (rom fun c => { c with wait := .load ⟨0, .data 4 false, [(0x1000000000, 4)], [], none, false⟩ }).setF R.DRC_STAT_READY 1 with
  mem := [(0x1000000000, 7#8), (0x1000000001, 0#8), (0x1000000002, 0#8), (0x1000000003, 0#8)] }
theorem witness_missed : (missed.hart 8).wait = .load ⟨0, .data 4 false, [(0x1000000000, 4)], [], none, false⟩ ∧
    ((missed.missPart 8 0 0x1000000000 4).2 matches .ok _) = true := by decide +kernel

/-- Branches: both outcomes of a condition (R64), in the delay slot nothing else. -/
theorem witness_branch : (conditionTest (State.reset.hart 8).flags 0 = true ∨ conditionTest (State.reset.hart 8).flags 0 = false) ∧
    (∃ c : BitVec 4, conditionTest (State.reset.hart 8).flags c = true) ∧ ∃ c : BitVec 4, conditionTest (State.reset.hart 8).flags c = false := by
  decide +kernel

/-- R62, R72: CALL puts the address after its delay slot in A14. -/
theorem test_call : let k := (after (.call 8 false 4) (rom fun c => { c with bpTarget := [(0, 16)] })).hart 8
    k.pc = 4 ∧ k.ar 14 = 8 ∧ k.delay = some ⟨0, some 16, false⟩ := by decide +kernel

/-- Retirement: a taken branch's slot, and loop ends with count above 1, at 1, and none. -/
theorem witness_retire : (∃ c : Core, c.delay = some ⟨0, some 16, true⟩) ∧
    (let c : Core := { loop1 := ⟨0, 8, 2, true⟩, pc := 8 }; c.delay = none ∧ c.loop1.armed = true ∧ c.pc = c.loop1.last ∧ 1 < c.loop1.count.toNat) ∧
    (let c : Core := { loop0 := ⟨0, 8, 1, true⟩, pc := 8 }; ¬ (c.loop1.armed = true ∧ c.pc = c.loop1.last) ∧ c.loop0.armed = true ∧ c.loop0.count = 1) := by
  exact ⟨⟨{ delay := some ⟨0, some 16, true⟩ }, rfl⟩, by decide +kernel, by decide +kernel⟩

/-- LOOP: neither case of R78, and each of its two. -/
theorem witness_loop : (State.reset.hart 8).loop1.armed = false ∧
    (let c := (rom fun c => { c with loop1 := ⟨0, 64, 2, true⟩ }).hart 8; c.loop1.armed = true) ∧
    (let c := (rom fun c => { c with loop0 := ⟨0, 8, 2, true⟩ }).hart 8; c.loop0.armed = true ∧ c.loop0.last.toNat ≤ (c.pc + 2 * 4).toNat) := by
  decide +kernel

/-- R75: a count of 0 skips the body, R76: the level is armed otherwise. -/
theorem test_loop : ((after (.loop 8 false true 0 3) State.reset).hart 8).pc = 16 ∧
    ((after (.loop 8 false true 5 3) State.reset).hart 8).loop0 = ⟨4, 12, 5, true⟩ := by decide +kernel

/-- Waits: inputs latched or not, a wait for an event, target reached, no timeout, a timeout of 0. -/
def waiting : State := rom fun c => { c with wait := .wfe 1, inputs := 2 }
def until_ : State := rom fun c => ({ c with wait := .waitt 1 2 }.setD 1 5).setD 2 9
theorem witness_waits : (waiting.hart 8).wait = .wfe 1 ∧ (waiting.hart 8).inputs ≠ 0 ∧ (State.reset.hart 8).inputs = 0 ∧
    (State.reset.hart 8).intPending = false ∧ 0 ≤ (State.reset.cue.count.setWidth 32 - (State.reset.hart 8).dr 1).toInt ∧
    ¬ 0 ≤ (until_.cue.count.setWidth 32 - (until_.hart 8).dr 1).toInt ∧ (until_.hart 8).wait = .waitt 1 2 ∧ (until_.hart 8).dr 2 ≠ 0xFFFFFFFF := by
  decide +kernel

/-- Long instructions: a count of 0, a last element, elements in the own local store. -/
def long : State := rom fun c => ((c.setA 1 0x08310000).setA 2 0x08310010).setD 3 1
theorem witness_long : long.issuesTo long 8 ∧ long.plainPlace 8 ∧ (long.hart 8).dr 3 = 1 ∧ (State.reset.hart 8).dr 3 = 0 ∧
    (long.loadGo 8 { word := wordReg 0x20 0 2 4 3 0, dst := .elem, parts := [] } [(0x08310010, 1)] []).2 = some [0#8] ∧
    (long.loadGo 8 { word := wordReg 0x20 1 0 2 4 3, dst := .elem, parts := [] } (partsOf 0x08310000 2 ++ partsOf 0x08310010 2) []).2 ≠ none :=
  ⟨⟨by decide +kernel, ⟨[], by decide +kernel⟩, by decide +kernel⟩, ⟨by decide +kernel, by decide +kernel⟩, by decide +kernel⟩

/-- R83: BMOV moves the last byte and retires. -/
theorem test_bmov : let s := after (.bmov 8 2 4 3 0 8) { long with mem := [(0x08310010, 0x5A#8)] }
    s.rd8 0x08310000 = 0x5A ∧ (s.hart 8).dr 3 = 0 ∧ (s.hart 8).ar 1 = 0x08310001 ∧ (s.hart 8).pc = 4 := by decide +kernel

/-- System registers: one that is described, one that is not, task mode. -/
def task : State := rom fun c => { c with tm := true, spMachine := 0x08320000 }
theorem witness_system : (State.reset.hart 8).sysReg 0x001 = some 0x0204001F ∧ (State.reset.hart 8).sysReg 0x3FF = none ∧
    (task.hart 8).tm = true ∧ task.canIssue 8 = true ∧ (State.reset.hart 8).tm = false := by decide +kernel

/-- R124: MFS of a privileged register in task mode raises a privilege exception, vector 3. -/
theorem test_mfs_task : ((after (.mfs 8 1 0x021 0) task).hart 8).estat.toNat % 256 = 3 := by decide +kernel

/-- ExceptionEntry and RFE: the machine stack in the own local store. -/
def stacked : State := rom fun c => { c with spMachine := 0x08320000 }
theorem witness_entry : stacked.ecc = [] ∧ regionOf ((stacked.hart 8).spMachine - 16).toNat = .localStore (coreOf 8) ∧
    regionOf ((stacked.hart 8).spMachine - 16 + 15).toNat = .localStore (coreOf 8) := by decide +kernel
theorem test_trap : let k := (after (.trap 8 0 0 5) stacked).hart 8
    k.pc = 16 * 7 ∧ k.epc = 4 ∧ k.spMachine = 0x0831FFF0 ∧ k.estat.toNat / 2 ^ 24 = 5 := by decide +kernel
theorem witness_rfe : ((stacked.loadGo 8 { word := wordSys 3 0 0 0, dst := .frame, parts := partsOf 0x08320000 16 } (partsOf 0x08320000 16) []).2.map
    List.length) = some 16 := by decide +kernel
theorem test_trap_and_return : let k := (after (.rfe 8 0 0 0) (after (.trap 8 0 0 5) stacked)).hart 8
    k.pc = 4 ∧ k.spMachine = 0x08320000 := by decide +kernel

/-- FENCE: a remote store without its answer, none, and posted faults that fit in PFSTAT and that do not. -/
def fenced : State := { State.reset with byr := { remote := [⟨0, .hart 8, true, 0, 4⟩] } }
def faults (n : Nat) : State := { State.reset with postedFlight := List.replicate n (12, ⟨0, 4, true⟩) }
theorem witness_fence : fenced.canIssue 8 = true ∧ (∃ r ∈ fenced.byr.remote, r.wr = true ∧ r.by_ = .hart 8) ∧ State.reset.byr.remote = [] ∧
    ((faults 4).postedFlight.filter fun e => e.1 == coreOf 8).length = 4 ∧ 4 < ((faults 5).postedFlight.filter fun e => e.1 == coreOf 8).length := by
  decide +kernel

/-- Interrupts: a line that is takeable, a posted fault, nothing, and a posted fault on its way. -/
def irq : State := rom fun c => { c with ie := true, ien := 8, ipend := 8, iprio := [(0, 0x4000)], spMachine := 0x08320000 }
theorem witness_interrupt : (irq.hart 8).run = .running ∧ (irq.hart 8).delay = none ∧ irq.paused = false ∧ (irq.hart 8).ipend.getLsbD 3 = true ∧
    (irq.hart 8).cpl.toNat < (irq.hart 8).prio 3 ∧ (irq.hart 8).holdCnt = 0 ∧ (irq.hart 8).pf = [] ∧
    ((faults 1).postedFlight.find? fun e => e.1 == coreOf 8) = some (12, ⟨0, 4, true⟩) := by decide +kernel

/-- R109, R111: interrupt line 3 enters vector 16 + 3 at its priority. -/
theorem test_interrupt : let k := (after (.interruptEntry 8) irq).hart 8
    k.pc = 16 * 19 ∧ k.cpl = 4 ∧ k.epc = 0 := by decide +kernel

/-- Reserved and misplaced instructions: a delay slot, an armed loop end (R74, R78). -/
theorem witness_misplaced : ((rom fun c => { c with delay := some ⟨0, none, false⟩ }).hart 8).delay ≠ none ∧
    ((rom fun c => { c with loop0 := ⟨0, 0, 2, true⟩ }).hart 8).atLoopEnd = true ∧ listedWord 0xFC000000 = false := by decide +kernel

/-! ## The block's own commands: witnesses, with values of spec/ -/

def printing : State := dev (.run .printing) awake
def pausedRun : State := dev (.run .paused) awake
def curtain : State := dev .curtain awake
def recovery : State := dev .recovery awake
def dark : State := dev .dark awake

/-- The pause of a hot activation. -/
def activating (s : State) : State := { s with upd := { act := some { hot := true, bank := 1, origin := none, paused := true } } }

/-- RegisterWrites: no register, refused, accepted in SYS, DRC and SEC, a counter that clears on reading. -/
theorem witness_register_writes : (0x40FFFFFF : Nat) % 4 ≠ 0 ∧ (0x40FFFFFF : Nat) < 0x41000000 ∧ blockOf 0x40FF0000 = none ∧
    (∀ a ∈ [R.SYS_GOEN, R.DRC_STAT, R.SEC_DBG], 0x40000000 ≤ a ∧ a < 0x41000000 ∧ a % 4 = 0 ∧
      ((regAt a).any fun e => regPresent e.1 e.2.1) = true ∧ (blockOf a).isSome = true) ∧
    State.reset.regAccepts crew baseSYS .SYS_GOEN = false ∧ State.reset.regAccepts house baseSYS .SYS_GOEN = true ∧
    State.reset.regAccepts house baseDRC .DRC_STAT = true ∧ State.reset.regAccepts house baseSEC .SEC_DBG = true ∧
    ((regAt R.DROP_TILES).any fun e => e.1.fields.any fun f => f.ty == .rc) = true := by decide +kernel

/-- R24: a cue core that writes SYS_GOEN meets a bus error; house core 12 sets it. -/
theorem test_register_write : (after (.registerWrite house (BitVec.ofNat 40 R.SYS_GOEN) 1) State.reset).getF R.SYS_GOEN_EN = 1 ∧
    (after (.registerWrite crew (BitVec.ofNat 40 R.SYS_GOEN) 1) State.reset).getF R.SYS_GOEN_EN = 0 := by decide +kernel

/-- UnoccupiedOffsetsAndShadowedPairs. -/
theorem witness_unoccupied : (R.CUE_CTRL + 0xFFC) % 4 = 0 ∧ (blockOf (R.CUE_CTRL + 0xFFC)).isSome = true ∧
    regAt (R.CUE_CTRL + 0xFFC) = none ∧ (Writer.core 8 0).num = (Writer.core 8 1).num ∧
    shadowKey house R.CUE_CNTH = shadowKey (.core 8 1) R.CUE_CNTH := by decide +kernel

/-- R45: CUE_TIMEH read after CUE_TIMEL is the high word of the same time. -/
theorem test_shadow : ((after (.shadowedPairRead house (BitVec.ofNat 40 R.CUE_TIMEL))
    { State.reset with cue := { time := 0x123456789 } }).regRead house R.CUE_TIMEH).map (·.1) = some 1 := by decide +kernel

/-- CueRegisters: both writers, the three outcomes of CUE_PERIOD, the limits of R42, every case of CUE_CTRL. -/
theorem witness_cue_registers : crew.isHouse = false ∧ house.isHouse = true ∧ State.reset.sys.dev = .boot ∧ places.sys.dev = .places ∧
    places.loopSchedule 4000 (places.getF R.LOOP_CTRL_SUB) = true ∧ places.loopSchedule 50000 (places.getF R.LOOP_CTRL_SUB) = true ∧
    (4000 ≤ fieldOf (4000 : Word) 15 0 ∧ fieldOf (50000 : Word) 15 0 ≤ 50000 ∧ ¬ 4000 ≤ fieldOf (3999 : Word) 15 0) ∧
    idle.sys.dev ≠ .boot ∧ idle.sys.dev ≠ .places ∧ fieldOf (0x80 : Word) 7 6 = 2 := by decide +kernel

/-- R42: 3,999 and 50,001 set CFGREF, 4,000 and 50,000 are taken. -/
theorem test_cue_period : ∀ e ∈ [(3999, 0x2710, 1), (4000, 4000, 0), (50000, 50000, 0), (50001, 0x2710, 1)],
    let t := after (.cuePeriodWrite house (BitVec.ofNat 32 e.1)) State.reset
    t.getF ⟨R.CUE_PERIOD, 15, 0⟩ = e.2.1 ∧ t.getF R.CUE_STAT_CFGREF = e.2.2 := by decide +kernel

/-- CueEvents: a second CUE_DONE and a first one, a follower with the right period, with another, time stepped and not. -/
def follower : State := { places with cue := { disc := 2, count := 9, time := 50 } }
theorem witness_cue_events : places.cueRuns = true ∧ State.reset.cueRuns = false ∧
    ({ places with cue := { done := 1 } } : State).cue.done.getLsbD 0 = true ∧ places.cue.done.getLsbD 3 = false ∧
    follower.cueRuns = true ∧ follower.cue.disc = 2 ∧ (0x2710 : Word) = follower.getReg R.CUE_PERIOD ∧
    (4000 : Word) ≠ follower.getReg R.CUE_PERIOD ∧ follower.cue.time.toNat < (51 : BitVec 64).toNat ∧ places.cue.disc ≠ 2 := by decide +kernel

/-- R49, R54: the second write sets DUPDONE; the follower takes the greater count and time. -/
theorem test_cue_events : (after (.cueDone 0) { places with cue := { done := 1 } }).getF R.CUE_STAT_DUPDONE = 1 ∧
    ((after (.cueFollowerLock 12 51 0x2710 0 0) follower).cue.count = 12 ∧
      (after (.cueFollowerLock 12 51 0x2710 0 0) follower).cue.time = 51) := by decide +kernel

/-- CueBoundaryTurnsTheCue: quiet; pair 0 misses, pair 1 has no PAIREN; the third miss in RUN; the pause. -/
def missing (k : Nat) (d : Dev) : State := { dev d awake with cue := { pairen := 1, k := [(0, k)] } }
theorem witness_cue_boundary : (missing 2 (.run .idle)).cueRuns = true ∧ (missing 2 (.run .idle)).upd.act = none ∧
    (missing 2 (.run .idle)).paused = false ∧ (missing 2 (.run .idle)).cue.pairen.getLsbD 0 = true ∧
    (missing 2 (.run .idle)).cue.done.getLsbD 0 = false ∧ ((missing 2 (.run .idle)).getF R.USTD_STAT_RESTART).testBit 0 = false ∧
    (missing 2 (.run .idle)).inRun = true ∧ 2 ≤ mget 0 (missing 2 (.run .idle)).cue.k 0 ∧
    (missing 2 (.run .idle)).cue.pairen.getLsbD 1 = false ∧ (activating idle).paused = true ∧ (activating idle).cueRuns = true ∧
    (missing 2 (.run .idle)).sys.cmds = [] := by decide +kernel
theorem witness_quiet : (missing 2 (.run .idle)).quiet ∧ (activating idle).quiet :=
  ⟨⟨by decide +kernel, by decide +kernel, by decide +kernel, by decide +kernel, by decide +kernel, by decide +kernel, by decide +kernel⟩,
    ⟨by decide +kernel, by decide +kernel, by decide +kernel, by decide +kernel, by decide +kernel, by decide +kernel, by decide +kernel⟩⟩

/-- R50: the third miss in a row in RUN holds the outputs and requests CURTAIN. -/
theorem test_misses : let s := after .cueBoundary (missing 2 (.run .idle)); s.getF R.CUE_STAT_HOLD = 1 ∧ s.sys.faultDue = true := by
  decide +kernel

/-- StateTransitionsAtTheBoundary: each of its events. -/
def due (d : Dev) (f : Sys → Sys) : State := let s := dev d awake; { s with sys := f s.sys }
def ordered (d : Dev) (c : StateCmd) : State := due d fun y => { y with cmds := [⟨c, 0, 8, 0⟩] }
theorem witness_transitions :
    (let s := due (.run .idle) fun y => { y with mainsDue := true }; s.cueRuns = true ∧ s.sys.resetDue = false ∧ s.inRun = true) ∧
    (let s := due (.run .idle) fun y => { y with faultDue := true }; s.inRun = true ∧ s.sys.mainsDue = false ∧ s.sys.faultDue = true) ∧
    (let s := due (.run .idle) fun y => { y with callDue := some (0, 8) }; s.inRun = true ∧ s.sys.faultDue = false ∧ s.sys.callDue ≠ none) ∧
    (let s := ordered .places .go; s.cueRuns = true ∧ (s.sys.dev, StateCmd.go) ∈ acceptTable ∧ s.sys.cmds = [⟨.go, 0, 8, 0⟩]) ∧
    (let s := ordered (.run .idle) .shutdown; (s.sys.dev, StateCmd.shutdown) ∈ acceptTable) ∧
    (let s := { ordered .places .shutdown with jrnl := { dirty := [0] } }; s.draining = true ∧ s.sys.dev ≠ .run .idle) ∧
    (let s := ordered .places .resume; (s.sys.dev, StateCmd.resume) ∉ acceptTable) ∧
    (∀ f ∈ [Follow.dark, .boot, .recovery], (due .curtain fun y => { y with done := true, follow := some f }).sys.done = true) ∧
    (let s := due .wings fun y => { y with mainsDue := true }; s.sys.dev = .wings ∧ s.sys.mainsDue = true) ∧
    (let s := due .wings fun y => { y with faultDue := true }; s.sys.mainsDue = false ∧ s.sys.faultDue = true) ∧
    (let s := (due .wings fun y => { y with wakeDue := true }).setF R.DRC_STAT_READY 1; s.sys.faultDue = false ∧
      s.getF R.DRC_STAT_READY = 1) := by decide +kernel

/-- R30: SHUTDOWN leads from PLACES to DARK. -/
theorem test_transitions : (after .cueBoundary (ordered .places .shutdown)).sys.dev = .dark := by decide +kernel

/-- WatchdogsAndTheCurtainsEnd: a service in BOOT and elsewhere, right and wrong key; each plane; the curtain's limit and end. -/
def steps : State := put ([(R.LOOP_STAT_CURTAX, 1), (R.LOOP_STAT_CURTCV, 1)] ++ (List.range 48).map fun n => (R.PWM_CTRL_EN n, 0)) curtain
theorem witness_watchdogs : State.reset.sys.dev = .boot ∧ places.sys.dev ≠ .boot ∧ fieldOf (0xA5C3 : Word) 15 0 = 0xA5C3 ∧
    fieldOf (0 : Word) 15 0 ≠ 0xA5C3 ∧ places.paused = false ∧ State.reset.bbxQueue.length < 16 ∧ (activating idle).paused = true ∧
    curtain.sys.dev = .curtain ∧ curtain.sys.done = false ∧ curtain.sys.limitReached = false ∧ curtain.curtainSteps = false ∧
    steps.curtainSteps = true ∧ steps.draining = false ∧ steps.sys.done = false := by decide +kernel

/-- R27, R28: the wrong key sets BADKEY of the management plane and reloads nothing. -/
theorem test_watchdog : (after (.watchdogService house 0) places).getF R.SYS_WDSTAT_BADKEY = 4 ∧
    (after (.watchdogService house 0xA5C3) State.reset).sys.wdRemainNs = [(2, 2000000000)] ∧
    (after (.watchdogExpiry .control) idle).getF R.SYS_CURTAIN_WDOG = 1 ∧ (after .finalSeal steps).sys.done = true := by decide +kernel

/-- BootAndResets: DARK, a warm reset that is due, BOOT waiting at a step, at step 15. -/
def resetting : State := due .places fun y => { y with resetDue := true, recoveryReq := true }
theorem witness_boot : dark.sys.dev = .dark ∧ State.reset.sys.dev ≠ .dark ∧ resetting.sys.resetDue = true ∧ resetting.draining = false ∧
    resetting.sys.dev ≠ .dark ∧ resetting.sys.recoveryReq = true ∧ places.sys.resetDue = false ∧ State.reset.sys.dev = .boot ∧
    2 ≤ State.reset.boot.step ∧ State.reset.boot.step ≤ 15 ∧
    (let s := { State.reset with boot := { step := 15 } }; s.sys.dev = .boot ∧ s.boot.step = 15 ∧ (s.wdReload 2).pbHeld.2 = none) := by
  decide +kernel

/-- R195: RECOVER_N low at power-on leads to RECOVERY with code 0x21. -/
theorem test_recover : let s := after (.powerOnReset false true) dark; s.sys.dev = .recovery ∧ s.getF R.SYS_BOOT_CODE = 0x21 := by
  decide +kernel

/-- LockstepCheckpointsAndMismatches: pair 0 in each condition that the clauses name. -/
def paired (x : Pair) (s : State) : State := { s with pairs := [(0, x)] }
def cueUp (s : State) : State := { s with cores := [(0, { run := .running }), (1, { run := .running })] }
theorem witness_lockstep :
    (let s := paired { captureDue := true } (cueUp places)
     (s.pair 0).captureDue = true ∧ s.isSplit 0 = false ∧ (s.pair 0).blocked = false ∧ (s.core 0).delay = none ∧
      (s.core 0).wait = .none ∧ (s.core 0).run ≠ .inReset) ∧
    (let s := paired { captured := some {} } places; (s.pair 0).captured ≠ none ∧ (places.pair 0).captured = none) ∧
    (∀ r ∈ [0, 1], let s := put [(R.USTD_STAT_RESTART, r)] (cueUp idle)
      s.isSplit 0 = false ∧ (s.core 0).run ≠ .inReset ∧ (s.getF R.USTD_STAT_RESTART).testBit 0 = decide (r = 1) ∧ s.inRun = true) ∧
    (let s := paired { hold := true, holdB := 4 } { idle with cue := { count := 5 } }
     (s.pair 0).hold = true ∧ (s.pair 0).expired = false ∧ s.cue.done.getLsbD 0 = false ∧ s.cue.count = (s.pair 0).holdB + 1) ∧
    curtain.inRun = false ∧ (places.pair 3).blocked = false ∧ awake.mayWrite house R.USTD_INJ = true ∧
    (let s := put [(R.USTD_CTRL_TESTMODE, 1)] State.reset
     s.bootOrPlaces = true ∧ s.getF R.USTD_CTRL_TESTMODE = 1 ∧ fieldOf (0 : Word) 6 0 < groupLanes (fieldOf (0 : Word) 9 7)) ∧
    (put [(R.USTD_STAT_SPLIT, 1)] State.reset).isSplit 0 = true := by decide +kernel

/-- R136, R138: the captured state becomes the committed one, and a mismatch returns both cores to it. -/
theorem test_lockstep :
    let s := after (.checkpointCommit 0) (paired { captured := some { pc := 0x40 } } (cueUp idle))
    (s.pair 0).committed.pc = 0x40 ∧ ((after (.lockstepMismatch 0 1 2) s).core 1).pc = 0x40 ∧
    (after (.lockstepMismatch 0 1 2) s).getF R.USTD_STAT_RESTART = 1 := by decide +kernel

/-- DebugHaltAndClockStop. -/
def frozen : State := { put [(R.PWM_GSTAT_FROZEN, 1)] idle with pwm := { frozenAt := some 100 } }
theorem witness_debug : State.reset.sys.dev ≠ .dark ∧ State.reset.getF R.SEC_DBG_LOCK = 0 ∧ (State.reset.hart 8).run = .running ∧
    ((cueUp State.reset).hart 0).run = .running ∧ State.reset.getF R.PWM_GSTAT_FROZEN = 0 ∧ dark.sys.dev = .dark ∧
    State.reset.pwm.frozenAt = none ∧ frozen.pwm.frozenAt = some 100 ∧ frozen.pwm.deferred = [] := by decide +kernel

/-- R142: a halted cue core freezes the PWM units and its pair counts as split. -/
theorem test_debug : let s := after (.debugHalt 0) (cueUp idle)
    s.getF R.USTD_STAT_SPLIT = 1 ∧ s.getF R.PWM_GSTAT_FROZEN = 1 ∧ (s.core 1).run = .halted := by decide +kernel

/-- MemoryAgents: units of both memories, one error bit and two, a dead package and a live one. -/
theorem witness_memory : regionOf (8 * (0x10000000 / 8)) = .working ∧ (∃ a, regionOf (8 * a) = .stage) ∧
    ({ State.reset with ecc := [(0x2000000, 2)] } : State).eccAt 0x10000000 = 2 ∧ State.reset.drcWaking = true ∧ State.reset.sys.dev ≠ .dark ∧
    ({ places with drcWaking := false } : State).drcWaking = false ∧ (State.reset.getF R.DRC_STAT_PKGDEAD).testBit 1 = false ∧
    ((put [(R.DRC_STAT_PKGDEAD, 1)] State.reset).getF R.DRC_STAT_PKGDEAD).testBit 0 = true ∧ wings.sys.dev = .wings ∧
    ({ wings with drcWaking := false } : State).drcWaking = false ∧ house.isHouse = true ∧
    (put [(R.PMC_CTRL_LOCK, 1)] State.reset).getF R.PMC_CTRL_LOCK = 1 := by
  refine ⟨by decide +kernel, ⟨0x20000000 / 8, by decide +kernel⟩, by decide +kernel⟩

/-- R151: a second error bit in a unit is uncorrectable. -/
theorem test_patrol : let s := after (.patrolScrub 0x2000000 2) State.reset
    s.getF R.SYS_ECC_WMUE = 1 ∧ s.getF R.SYS_ECCADDRL_ADDR = 0x10000000 ∧
    (after (.patrolScrub 0x2000000 1) State.reset).getF R.SYS_ECC_CECNT = 1 := by decide +kernel

/-- ProgramStoreCommands: every cycle of the sequence (R174), legal and not, an operation that runs, one suspended. -/
def flashing (n : Nat) : State := { put [(R.FLS_CTRL_WEN, 1), (R.FLS_WP_WP, 0)] State.reset with
  fls := { steps := n, seqBy := house.num, pointer := [(flsBlock 0x0200400000, 3)] } }
def erasing (k : Nat) : State := { State.reset with fls := { op := some ⟨2, 0x0200400000, 0, k⟩, suspReq := true } }
theorem witness_flash : ((0x0200005550 : Nat) % 0x40000000 = 0x5550 ∧ (0x0200002AA8 : Nat) % 0x40000000 = 0x2AA8) ∧
    crew.isHouse = false ∧ house.isHouse = true ∧
    (erasing 0).flsBankBusy 0x0200005550 = true ∧ (flashing 0).flsBankBusy 0x0200005550 = false ∧
    (∀ n ∈ [0, 1, 2, 3], let s := flashing n
      s.fls.steps = n ∧ s.fls.seqClk + 256 ≥ s.clk ∧ s.fls.seqBy = house.num ∧ s.fls.seqBank = flsBank 0x0200005550) ∧
    (let s := flashing 2; s.fls.op = none ∧ s.fls.susp = none ∧ s.getF R.FLS_CTRL_WEN = 1 ∧ s.getF R.SYS_PWR_PFW = 0 ∧
      (s.getF R.FLS_WP_WP).testBit (flsBank 0x0200400000) = false ∧ (0x0200400000 : Nat) % 0x400000 = 0 ∧
      (0x0200400000 : Nat) % 0x4000 = 0 ∧ flsBank 0x0200005550 = 0 ∧ s.bootOrPlaces = true ∧ otpIntegrator (s.getF R.FLS_OTPOFF_UNIT) = false ∧
      otpIntegrator ((put [(R.FLS_OTPOFF_UNIT, 256)] s).getF R.FLS_OTPOFF_UNIT) = true ∧
      mget 0 s.fls.pointer (flsBlock 0x020040C000) ≤ flsPage 0x020040C000 % 256) ∧
    (∀ k ∈ [0, 63], ∃ o, (erasing k).fls.op = some o ∧ o.kind = 2 ∧ o.suspends < 64) ∧ (erasing 64).fls.suspReq = true ∧
    State.reset.fls.op = none ∧ ({ State.reset with fls := { susp := some ⟨2, 0x0200400000, 0, 1⟩ } } : State).fls.susp ≠ none ∧
    (put [(R.FLS_WP_LOCK, 1)] State.reset).getF R.FLS_WP_LOCK = 1 := by
  refine ⟨by decide +kernel, by decide +kernel, by decide +kernel, by decide +kernel, by decide +kernel, by decide +kernel, by decide +kernel,
    fun k hk => ?_, by decide +kernel⟩
  rcases List.mem_cons.1 hk with rfl | hk
  · exact ⟨⟨2, 0x0200400000, 0, 0⟩, by decide +kernel⟩
  · obtain rfl := List.mem_singleton.1 hk
    exact ⟨⟨2, 0x0200400000, 0, 63⟩, by decide +kernel⟩

/-- R174, R175: page 3 of a block whose pointer is at 3 programs, page 2 is refused with cause 0x6. -/
theorem test_program : (after (.programPage house 0x020040C000) (flashing 2)).getF R.FLS_STAT_BUSY = 1 ∧
    (after (.programPage house 0x0200408000) (flashing 2)).getF R.FLS_STAT_CMDREF = 1 := by decide +kernel

/-! ### Host interface and drop pipeline -/

/-- `s` with session 0 of a role on USB, its last sequence number 7, and a command that waits there or none. -/
def session (role : Nat) (pend : Option (Nat × Nat)) (s : State) : State :=
  { s with host := { sess := [(0, ⟨role, 3, 5, 7, pend, some [1#8]⟩)] } }
def next : Req := ⟨0, 8, []⟩
theorem witness_admits : (∀ d ∈ [Dev.boot, .places, .run .idle, .recovery], ∀ role ∈ [0, 1, 2],
    (session role none (dev d awake)).admits next ⟨role, 3, 5, 7, none, some [1#8]⟩) := by
  intro d hd role hr
  simp only [List.mem_cons, List.not_mem_nil, or_false] at hd hr
  rcases hd with rfl | rfl | rfl | rfl <;> rcases hr with rfl | rfl | rfl <;>
    exact ⟨by decide +kernel, by decide +kernel, by decide +kernel, by decide +kernel, by decide +kernel⟩

/-- HostStateCommands: right and wrong role, accepted and not, a long operation under way and none, GO enabled and not. -/
theorem witness_host_commands : (2 : Nat) ∉ [0, 1] ∧ (0 : Nat) ∈ [0, 1] ∧ (places.sys.dev, StateCmd.go) ∈ acceptTable ∧
    (places.sys.dev, StateCmd.clear) ∉ acceptTable ∧ (State.reset.sys.dev, StateCmd.enterRecovery) ∈ acceptTable ∧
    ({ places with host := { long := some (0, 0x20, 1) } } : State).host.long ≠ none ∧ places.host.long = none ∧
    places.getF R.SYS_GOEN_EN = 0 ∧ (put [(R.SYS_GOEN_EN, 1)] places).getF R.SYS_GOEN_EN = 1 ∧ places.inRun = false ∧ idle.inRun = true ∧
    idle.sys.dev = .run .idle ∧ places.sys.dev ≠ .run .idle := by decide +kernel

/-- R215: GO with the enable 0 is answered NOT_READY (4), with 1 the command waits for firmware. -/
theorem test_go : ((mget [] (after (.go next) (session 0 none places)).host.sent 0).getD 8 0) = 4 ∧
    (mfind (after (.go next) (session 0 none (put [(R.SYS_GOEN_EN, 1)] places))).host.sess 0).any (fun x => x.pend == some (0x10, 8)) = true := by
  decide +kernel

/-- HostServices: OPEN on both kinds of interface; memory of each kind; frames in every relation to the session. -/
def fullHost : State := { places with host := { sess := (List.range 64).map fun i => (i, ⟨0, 3, 5, 7, none, none⟩) } }
def frame : List Byte := hostFrame 0x03 0 0 8 0 []
def at_ (a : Nat) : Req := ⟨0, 8, bytesLE 8 a ++ bytesLE 4 8⟩
theorem witness_open : places.ifServed 3 = true ∧ places.ifServed 0 = true ∧ places.ifServed 1 = false ∧ (activating idle).paused = true ∧
    places.session 0 = none ∧ (∀ k < 64, fullHost.session k ≠ none) ∧ (∀ j < 64, State.reset.session j = none) ∧
    ¬ (3 : BitVec 8).toNat ≤ 2 ∧ (2 : BitVec 8).toNat ≤ 2 := by decide +kernel
def bar : State := put [(R.DRC_STAT_READY, 1)] places
theorem witness_services : regionOf (leAt (at_ 0x40000000).payload 0 8) = .peripheral ∧ regionOf (leAt (at_ 0x1000000000).payload 0 8) = .dram ∧
    regionOf (leAt (at_ 0x11FFFFF8).payload 0 8) = .working ∧ regionOf (0x11FFFFF8 + 8 - 1) = .working ∧ State.reset.ecc = [] ∧
    regionOf 0x20000000 = .stage ∧ bar.dramUsable 0x177FFFFFF8 8 = true ∧ bar.dramUsable 0x177FFFFFF9 8 = false ∧
    bar.dramAlive 0x177FFFFFF8 8 = true ∧ bar.cueRuns = true ∧ recovery.sys.dev = .recovery ∧ recovery.upd.item = none ∧
    (leAt (3#8 :: List.replicate 7 0#8) 0 1 = 3 ∧ leAt (3#8 :: List.replicate 7 0#8) 1 1 % 2 = 0 ∧ leAt (3#8 :: List.replicate 7 0#8) 4 4 = 0) := by
  decide +kernel
theorem witness_frames : frameOk frame = true ∧ frameOk [] = false ∧ leAt frame 2 1 = 3 ∧ leAt frame 4 2 = 0 ∧ leAt frame 6 2 = 8 ∧
    places.session 0 = none ∧ ((session 0 none places).session 0).map (fun x => (x.iface, x.partner, x.last, x.pend)) = some (3, 5, 7, none) ∧
    ((session 0 (some (0x10, 7)) places).session 0).any (fun x => x.pend.isSome && x.stored.isSome) = true ∧
    (9 : Nat) ≠ 7 ∧ (9 : Nat) ≠ (7 + 1) % 65536 := by decide +kernel

/-- R491: the next number is taken, the last one answered again, another one answered BAD_SEQ (7). -/
theorem test_sequence :
    (mfind (after (.hostFrameReceive 3 5 0 frame) (session 0 none places)).host.sess 0).map (·.last) = some 8 ∧
    mget [] (after (.hostFrameReceive 3 5 0 (hostFrame 3 0 0 7 0 [])) (session 0 none places)).host.sent 0 = [1#8] ∧
    (mget [] (after (.hostFrameReceive 3 5 0 (hostFrame 3 0 0 9 0 [])) (session 0 none places)).host.sent 0).getD 8 0 = 7 := by decide +kernel

/-- HostEvents: a long operation with and without its session, the doorbell's index, BAR2 at its limits, a MAC that is enabled. -/
def working : State := put [(R.HOST_BUFBASE_ADDR, 0x80)] (session 0 (some (0x10, 8)) places)
theorem witness_host_events : (let s := { session 0 none places with host := { (session 0 none places).host with long := some (0, 0x20, 3) } };
      s.host.long = some (0, 0x20, 3) ∧ s.session 0 ≠ none) ∧
    ({ places with host := { long := some (0, 0x20, 3) } } : State).session 0 = none ∧ places.host.long = none ∧
    (64 ≤ (64 : Word).toNat ∧ (63 : Word).toNat < 64) ∧ (working.hostBuf 63 0).isSome = true ∧ State.reset.hostBuf 0 0 = none ∧
    (places.getF R.HOST_CTRL_PCIE = 1 ∧ places.sys.dev ≠ .dark) ∧ dark.sys.dev = .dark ∧
    ¬ (0x7FFFFFFFF : Nat) + 2 ≤ 0x800000000 ∧ bar.dramUsable (0x1000000000 + 0x77FFFFFF8) 8 = true ∧ bar.dramAlive (0x1000000000 + 0x77FFFFFF8) 8 = true ∧
    ((put [(R.HOST_CTRL_ETH0, 1)] places).getReg R.HOST_CTRL).getLsbD 1 = true ∧ house.isHouse = true ∧
    (0 : Word).getLsbD 30 = false ∧ (working.session 0).any (fun x => x.pend == some (0x10, 8)) = true ∧ (working.fwFrame 0 0x2800).2.isSome = true ∧
    (working.fwFrame 0 0x5000).2.isSome = true := by decide +kernel

/-- A swath descriptor (R217) of `n` columns for context 0. -/
def descriptor (n base : Nat) : List Byte :=
  let mask := 1#8 :: List.replicate 511 0#8
  let head := bytesLE 4 0x53570944 ++ bytesLE 4 1 ++ bytesLE 2 2 ++ [0#8, 0#8] ++ bytesLE 4 0 ++ bytesLE 4 n ++ bytesLE 4 1 ++ bytesLE 8 base ++
    List.replicate 24 0#8 ++ bytesLE 4 (crc32cFull mask)
  head ++ bytesLE 4 (crc32cFull head) ++ mask
def swathAt : Nat := 0x10000000
def posted (n : Nat) : State := (put [(R.DROP_CFG_NCTX, 4096)] { printing with drop := { q := [{ uid := 0, addr := swathAt, resume := false }], uid := 1 } }).wrBytes
  swathAt (descriptor n 0x1000000000)
def desc : SwathDesc := ⟨swathAt, 1, 2, 0, 0, 256, 0x1000000000, 0, [0], false⟩
def swath (f : DropSwath → DropSwath) (resume : Bool) : State :=
  put [(R.DROP_CFG_WIN, 4), (R.DROP_CFG_NCTX, 4096), (R.DROP_MISSBASE_ADDR, swathAt / 64), (R.DROP_SKIPBASE_ADDR, swathAt / 64)]
    { printing with drop := { q := [f { uid := 0, addr := swathAt, resume := resume, desc := some { desc with resume := resume } }], uid := 1 } }

set_option maxRecDepth 100000 in
/-- SwathQueue: a queue that is full and one that is not; a descriptor that passes, one refused with reason 3, one at no place. -/
theorem witness_swath_queue : awake.mayWrite crew R.DROP_SWQH = true ∧ awake.mayWrite crew R.DROP_CTRL = true ∧
    awake.mayWrite crew R.DROP_RRQ2 = true ∧ idle.mayWrite house R.DROP_SWQH = false ∧ (swath id false).drop.q.length < 4 ∧
    4 ≤ ({ idle with drop := { q := List.replicate 4 { uid := 0, addr := 0, resume := false } } } : State).drop.q.length ∧
    ((posted 256).drop.q.find? fun x => x.desc.isNone) = some { uid := 0, addr := swathAt, resume := false } ∧
    (posted 256).descPlace swathAt = true ∧ idle.descPlace 0x20000000 = false ∧
    ((posted 256).memRead swathAt 576).2 = .ok (descriptor 256 0x1000000000) ∧
    ((swath id false).drop.q.find? fun x => x.desc.isSome && !x.latched).isSome = true ∧ ((swath id false).dropSw 0).isSome = true ∧
    ((swath id true).drop.q.all fun x => x.resume) = true := by decide +kernel
set_option maxRecDepth 100000 in
theorem witness_descriptor : (∀ p ∈ (posted 256).descriptorChecks (descriptor 256 0x1000000000), p) ∧
    ((posted 0).descriptorChecks (descriptor 0 0x1000000000))[2]? = some (1 ≤ leAt (descriptor 0 0x1000000000) 0x10 4 ∧
      leAt (descriptor 0 0x1000000000) 0x10 4 ≤ 1048576) ∧ ¬ 1 ≤ leAt (descriptor 0 0x1000000000) 0x10 4 := by
  refine ⟨?_, rfl, by decide +kernel⟩
  simp only [State.descriptorChecks, List.forall_mem_cons]
  exact ⟨by decide +kernel, by decide +kernel, by decide +kernel, by decide +kernel, by decide +kernel, by decide +kernel, by simp⟩

set_option maxRecDepth 100000 in
/-- R222: a right descriptor stays in the queue. -/
theorem test_swath_check : ((after .swathCheck (posted 256)).drop.q.map fun w => w.desc.map fun d => (d.n, d.ctxs)) = [some (256, [0])] := by decide +kernel

/-- TileStaging: no swath, a tile due with a place in its ring, tiles in each state. -/
def tiled (st : TileSt) : State := let s := swath (fun w => { w with latched := true }) false
  { s with drop := { s.drop with ring := [(0, [{ uid := 0, tile := 0, slot := 1, st := st }])], handles := [(3, some (0, 0, 0))] } }
theorem witness_tiles : idle.drop.q[0]? = none ∧ (posted 256).drop.q[0]?.any (fun w => w.desc.isNone) = true ∧
    (let s := swath (fun w => { w with latched := true }) false
     s.drop.q[0]?.any (fun w => w.desc.isSome && w.latched && desc.ctxs.contains 0) = true ∧ s.nextFill = some 0 ∧
      (s.dueTile 0).any (fun p => p.1.uid == 0 && p.2 == 0) = true ∧ s.freePos 0 = some 0 ∧
      s.dropTile 0 0 0 = none) ∧
    (∀ st ∈ [TileSt.staging, .reread, .passed, .failed], ((tiled st).dropTile 0 0 0).map (·.st) = some st) ∧
    (put [(R.DROP_CFG_WIN, 0)] idle).freePos 0 = none ∧ awake.mayWrite crew R.DROP_RETRY = true ∧
    awake.mayWrite (.core 0 0) R.DROP_RETRY = false ∧ mfind (tiled .failed).drop.handles 3 = some (some (0, 0, 0)) := by decide +kernel

/-- R227: DROP_RETRY returns the failed tile to staging. -/
theorem test_retry : ((after (.dropRetry crew 0x80000003) (tiled .failed)).dropTile 0 0 0).map (·.st) = some .staging := by decide +kernel

/-! ### Firing, jets, media -/

/-- A swath that FIRE holds, at 1 m/s (v = 2^24), in state `sw`. -/
def firing (sw v : Nat) : State :=
  let s := swath (fun w => { w with latched := true, ready := true, jsn := some 1 }) false
  put [(R.FIRE_STAT_SW, sw), (R.FIRE_CTRL_OBSEN, 1), (R.FIRE_STAT_GRANT, 1), (R.FIRE_VMIN_VMIN, 2 ^ 23), (R.FIRE_MAXRATE_RATE, 40000),
    (R.FIRE_PITCH_PITCH, 1000000 * 2 ^ 14), (R.FIRE_CFG_HORIZON, 65535)] { s with fire := { swath := some 0, obs := { v := v, p := -2560000 } } }

/-- CarriageObserver: OBSEN 0 and 1, start and run, stall and no stall; a motion at 1 m/s with no flight time. -/
theorem witness_observer : awake.mayWrite house R.FIRE_CTRL = true ∧ idle.mayWrite crew R.FIRE_CTRL = false ∧
    State.reset.getF R.FIRE_CTRL_OBSEN = 0 ∧ (firing 2 0).getF R.FIRE_CTRL_OBSEN ≠ 0 ∧ (firing 2 0).fire.init = false ∧
    (∀ sw ∈ [1, 2, 3], (firing sw 0).getF R.FIRE_STAT_SW = sw) ∧ (firing 2 0).fireSwath.isSome = true ∧ State.reset.fireSwath = none ∧
    (firing 1 0).fire.arm = none ∧ (firing 1 0).fire.blocked = false ∧ (firing 1 0).sys.dev = .run .printing ∧
    (firing 1 0).getF R.FIRE_STAT_GRANT ≠ 0 ∧ (ejection ⟨0, 0, 2 ^ 24, 0⟩ 256000 0 0).map (·.1) = some 16000 := by decide +kernel
theorem witness_velocity : (firing 2 (2 ^ 24)).velocityHolds desc ∧ ¬ (firing 2 0).velocityHolds desc := by
  constructor <;> unfold State.velocityHolds <;> decide +kernel
theorem witness_ejection : (1 : Rat) + 0 * 0 ≠ 0 ∧ (1 : Rat) + 0 * 1000 ≠ 0 := by decide +kernel

/-- ScanRoundsAndArming: nothing to do; a check that passes and one that fails; a refresh; columns due, late and not due. -/
theorem witness_scan : State.reset.fire.arm = none ∧ State.reset.cueRuns = false ∧ State.reset.fire.swath = none ∧
    ({ firing 1 (2 ^ 24) with fire := { (firing 1 (2 ^ 24)).fire with arm := some {} } } : State).fire.arm ≠ none ∧
    ((firing 1 (2 ^ 24)).fireTs { v := 2 ^ 24, p := -2560000 } desc 0 0).any (fun t => 16 * (4096 + 64 + 1200) ≤ t) = true ∧
    ((firing 1 (2 ^ 24)).fireTs { v := 2 ^ 24 } desc 0 0).any (fun t => 16 * (4096 + 64 + 1200) ≤ t) = false ∧
    (firing 2 0).cueRuns = true ∧ (firing 2 0).fire.setNo < 4 ∧
    ((firing 2 (2 ^ 24)).fireTs (firing 2 (2 ^ 24)).fire.prev desc 0 0).isSome = false := by decide +kernel

/-- `s` with port 0 in a link state, and changed by `f`. -/
def linked (k : Nat) (f : JetPort → JetPort) : State := { put [(R.JET_STAT_LINK 0, k)] idle with jet := [(0, f {})] }

/-- JetLinkStates: each link state; EN rising and falling; a CAPS that fits; the 64th ECHO; the fourth CRCERR; LOAD at its end. -/
theorem witness_jet_links : (∀ k ∈ [0, 1, 2, 3, 4], (linked k id).jlink 0 = k) ∧ awake.mayWrite crew (R.JET_CTRL 0) = true ∧
    idle.mayWrite (.core 0 0) (R.JET_CTRL 31) = false ∧ (linked 3 id).drop.q = [] ∧ State.reset.getF (R.JET_CTRL_EN 0) = 0 ∧
    (put [(R.JET_CTRL_EN 0, 1)] idle).getF (R.JET_CTRL_EN 0) = 1 ∧ (1 : Word).getLsbD 0 = true ∧ (0x20 : Word).getLsbD 5 = true ∧
    idle.inRun = true ∧ State.reset.ifLevel ≤ State.reset.ifLevel + 1 ∧ ¬ (255 ≤ State.reset.ifLevel + 1) ∧
    ((linked 1 fun x => { x with echos := 63 }).jport 0).echos < 64 ∧ 64 ≤ ((linked 1 fun x => { x with echos := 64 }).jport 0).echos ∧
    (2 ^ 54 : BitVec 56).getLsbD 54 = true ∧ (2 ^ 53 : BitVec 56).getLsbD 53 = true ∧ (2 ^ 55 : BitVec 56).getLsbD 54 = false ∧
    4 ≤ ((linked 3 fun x => { x with fails := 3 }).jport 0).fails + 1 ∧
    ((linked 2 id).jport 0).load = [] ∧ ((linked 2 id).jport 0).lane0.out = [] ∧ (2 ^ 55 : BitVec 56).getLsbD 55 = true ∧
    (linked 2 id).getF R.FIRE_STAT_SW = 0 ∧ (put [(R.FIRE_STAT_SW, 2)] (linked 2 id)).getF R.FIRE_STAT_SW ≠ 0 := by decide +kernel

/-- R286: the fourth failing superframe in a row leads from UP to FAULT with cause 5. -/
theorem test_jet_fault : let s := after (.jetStatReceived 0 (2 ^ 53)) (linked 3 fun x => { x with fails := 3, failSf := 8, lane0 := { sf := 9 } })
    s.jlink 0 = 4 ∧ s.getF (R.JET_STAT_CAUSE 0) = 5 := by decide +kernel

def column : JetCol := ⟨7, 0, 4200001924 * 16 + 12, List.replicate 32 0#8, 0, 1⟩

/-- JetBlockSlots: MARK, a wave slot, a frame to load, SWATH, FIRE, a frame that ends with a strobe. -/
theorem witness_jet_slots : ((linked 3 id).jport 0).lane0.slot = 0 ∧
    (let x := (linked 3 fun x => { x with wave := true, lane0 := { slot := 1 } }).jport 0; x.wave = true ∧ x.lane0.slot ≠ 0 ∧
      249 * 0 / 64 + 1 = x.lane0.slot) ∧ 249 * 63 / 64 + 1 = 246 ∧ (∀ j < 64, 249 * j / 64 + 1 ≠ 2) ∧
    State.reset.getF (R.JET_WLEN_LEN 0) = 0 ∧ (put [(R.JET_WLEN_LEN 0, 4)] idle).getF (R.JET_WLEN_LEN 0) ≠ 0 ∧
    (let x := (linked 2 fun x => { x with load := [[ctlBlk 0x33 0]], lane0 := { slot := 2 } }).jport 0; x.lane0.out = [] ∧ x.load ≠ []) ∧
    (let x := (linked 3 fun x => { x with queue := [column], lane0 := { slot := 2 } }).jport 0; x.load = [] ∧ x.queue = [column] ∧
      x.lane0.swath ≠ some column.uid ∧ ((swath id false).dropSw column.uid).any (fun w => w.desc.isSome) = true) ∧
    (let x := (linked 3 fun x => { x with queue := [column], lane0 := { slot := 2, swath := some 0 } }).jport 0; x.lane0.swath = some column.uid) ∧
    (let x := (linked 3 fun x => { x with lane0 := { slot := 249, out := [ctlBlk 0x1E 0], cols := [column] } }).jport 0
     x.lane0.out.length ≤ 1 ∧ x.lane0.cols ≠ []) := by decide +kernel

/-- The FIRE block that chapter 11 works out. -/
theorem test_fire_block : (fireFrame 0 column none).head?.map (fun b => b.payload.toNat) = some 0x000000087F184C4B := by decide +kernel

/-- `s` with media tracking in mode `m` on both ports, port 0 changed by `f`. -/
def tracking (m : Nat) (f : MtrkPort → MtrkPort) : State :=
  { put [(R.MTRK_CTRL_EN0, 1), (R.MTRK_CTRL_EN1, 1), (R.MTRK_CFG_MODE, m)] idle with mtrk := { ports := [(0, f {})] } }
def image : List Byte := List.replicate 4096 7#8

/-- MediaTracking: a tracker that runs and one that does not; a frame that is skipped, bad, good; no result, a discarded frame, a
first reference, a later one with and without a handover; a pair that waits; FSYNC; results that are due. -/
theorem witness_media : awake.mayWrite house R.MTRK_CTRL = true ∧ idle.mayWrite crew R.MTRK_CTRL = false ∧
    awake.mayWrite house (R.MTRK_CAP 1) = true ∧ (tracking 2 id).mtrkRuns 0 = true ∧ idle.mtrkRuns 0 = false ∧
    (tracking 2 id).getF (R.MTRK_PCFG_VC 0) = 0 ∧ ((tracking 2 fun x => { x with skip := true }).mtrkPort 0).skip = true ∧
    ((tracking 2 fun x => { x with capture := true }).mtrkPort 0).skip = false ∧
    ((tracking 2 fun x => { x with pend := [(none, 5)] }).mtrkPort 0).pend = [(none, 5)] ∧
    ((tracking 2 fun x => { x with pend := [(some [], 5)], ref := some [] }).mtrkPort 0).handOver = none ∧
    ((tracking 2 fun x => { x with pend := [(some [], 5)], ref := some [], handOver := some ⟨[], [1], [1], 2, 0, 0⟩ }).mtrkPort 0).handOver.any
      (fun h => 1 < h.left && h.offY != []) = true ∧
    (tracking 2 id).getF R.MTRK_CFG_MODE = 2 ∧ ((tracking 2 id).mtrkPort 1).pend = [] ∧ ((tracking 2 id).mtrkPort 1).res = none ∧
    State.reset.getF R.MTRK_CTRL_FSYNCEN = 0 ∧ (put [(R.MTRK_CTRL_FSYNCEN, 1)] idle).getF R.MTRK_CTRL_FSYNCEN ≠ 0 ∧
    idle.mtrk.due = false ∧ ({ idle with mtrk := { due := true } } : State).mtrk.due = true := by decide +kernel
theorem witness_media_registers : (tracking 2 id).regsWf ∧ (image.length = 4096) := by
  refine ⟨?_, List.length_replicate⟩
  unfold State.regsWf; decide +kernel

/-- Chapter 12's worked pair: 100.00 mm and 100.02 mm make 100.01 mm (a BASELINE of 0 leaves the skew out). -/
def skewed : State := { put [(R.MTRK_CFG_MODE, 2), (R.MTRK_SCALE_SCALE 0, 0x7D0000), (R.MTRK_SCALE_SCALE 1, 0x7D0000)] idle with
  mtrk := { due := true, ports := [(0, { y := 800000, res := some (true, 0) }), (1, { y := 800160, res := some (true, 0) })] } }
theorem test_pair_position : (after .mtrkResult skewed).mtrk.last.y = 100010000 * 256 := by decide +kernel

/-! ### Loops, PWM, analogue front end, encoders -/

/-- Slot 5 enabled with owner pair 1 and changed by `f`. -/
def slot5 (f : LoopSlot → LoopSlot) (d : Dev) : State := { put [(R.LOOP_SCFG_EN 5, 1), (R.LOOP_SCFG_OWNER 5, 1)] (dev d awake) with
  loop := { slots := [(5, f {})] } }

/-- LoopEngine: writes by a house core in PLACES, by the owner in RUN, by another pair; a rehearsal; a slot that runs. -/
theorem witness_loop_engine : (slot5 id .places).mayWrite house (R.LOOP_SP 5 36) = true ∧ (slot5 id .places).bootOrPlaces = true ∧
    idle.mayWrite crew (R.LOOP_SP 5 0) = false ∧ (slot5 id (.run .idle)).mayWrite (.core 1 0) (R.LOOP_SP 5 0) = true ∧
    (slot5 id (.run .idle)).getF (R.LOOP_SCFG_OWNER 5) = 1 ∧ (0 : Nat) ≠ (slot5 id (.run .idle)).getF (R.LOOP_SCFG_OWNER 5) ∧
    fieldOf (3 : Word) 3 0 = 3 ∧ awake.mayWrite house R.LOOP_RHCTRL = true ∧ State.reset.getF R.LOOP_RHCTRL_WAVE ≠ 3 ∧
    State.reset.getF R.LOOP_RHSTAT_BUSY = 0 ∧ (put [(R.LOOP_RHSTAT_BUSY, 1)] idle).getF R.LOOP_RHSTAT_BUSY ≠ 0 ∧
    (5 : Word).getLsbD 30 = false ∧ fieldOf (5 : Word) 13 12 ≠ 3 ∧ (slot5 id (.run .idle)).slotRuns (fieldOf (5 : Word) 5 0) = true ∧
    (slot5 id (.run .idle)).slotHeld 5 = false ∧ (slot5 id (.run .idle)).paused = false ∧ ((slot5 id (.run .idle)).slot 5).stopped = false ∧
    ((slot5 (fun x => { x with sampled := true }) (.run .idle)).slot 5).sampled = true ∧ idle.getF (R.LOOP_SCFG_EN 5) = 0 ∧
    ({ p := fun _ => 0, x := fun _ => 0, named := fun _ => false, r := 0, hi := 0, lo := 0, k6 := 0 } : RunIn).point = 4 := by decide +kernel

/-- Chapter 13's tuning example: LOOP_SCFG(5) = 0x84002000 and LOOP_SOUT(5) = 0x200C02CA. -/
theorem test_slot_words : let s := (State.reset.setReg (R.LOOP_SCFG 5) 0x84002000).setReg (R.LOOP_SOUT 5) 0x200C02CA
    s.getF (R.LOOP_SCFG_EN 5) = 1 ∧ s.getF (R.LOOP_SCFG_OWNER 5) = 1 ∧ s.getF (R.LOOP_SOUT_KIND 5) = 2 ∧ s.getF (R.LOOP_SOUT_A 5) = 10 := by
  decide +kernel

/-- Unit 12 of the worked edges in chapter 14, with a compare value. -/
def unit12 (cmp : Nat) (f : PwmUnit → PwmUnit) : State := { put [(R.PWM_CTRL_EN 12, 1), (R.PWM_STAT_RUN 12, 1), (R.PWM_PERIOD_ACTIVE 12, 3125),
  (R.PWM_DT_DTH 12, 640), (R.PWM_DT_DTL 12, 640), (R.PWM_MINP_MINP 12, 320), (R.PWM_ACTCMP_CMP 12, cmp), (R.PWM_CMPA_CMP 12, 0xFFFFF)] idle with
  pwm := { units := [(12, f {})] } }

/-- PwmUnits: frozen and not, enabled and not, tripped and not; each trip source; a period, a load and a reset of the OUTH interval. -/
theorem witness_pwm : awake.mayWrite house R.PWM_LDALLH = true ∧ awake.mayWrite house (R.PWM_CTRL 47) = true ∧
    awake.mayWrite house (R.PWM_STAT 0) = true ∧ awake.mayWrite house R.PWM_LOCK = true ∧ idle.mayWrite crew (R.PWM_CTRL 0) = false ∧
    frozen.getF R.PWM_GSTAT_FROZEN ≠ 0 ∧ idle.getF R.PWM_GSTAT_FROZEN = 0 ∧ (unit12 20000 id).getF (R.PWM_CTRL_EN 12) ≠ 0 ∧
    idle.getF (R.PWM_CTRL_EN 12) = 0 ∧ curtain.sys.dev = .curtain ∧ (put [(R.PWM_STAT_TRIPPED 12, 1)] idle).getF (R.PWM_STAT_TRIPPED 12) = 1 ∧
    (put [(R.GPIO_PCFG_FSEL 4 23, 2)] idle).getF (R.GPIO_PCFG_FSEL 4 23) = 2 ∧ idle.gpio.parked.contains (128 + 23) = false ∧
    idle.pwm.lands.getLsbD 23 = false ∧ (unit12 20000 id).getF (R.PWM_STAT_RUN 12) ≠ 0 ∧ (unit12 20000 id).getF (R.PWM_CFG_OUTM 12) = 0 ∧
    (0 < 20000 ∧ 20000 < 16 * 3125 ∧ 640 + 320 ≤ 20000 ∧ 640 + 320 ≤ 16 * 3125 - 20000) ∧
    (let s := put [(R.PWM_CFG_LDPT 12, 2), (R.PWM_CFG_MODE 12, 2)] (unit12 20000 fun x => { x with load := true, plan := { outH := some (640, 20000) } })
     (s.pwmUnit 12).load = true ∧ s.getF (R.PWM_CFG_LDPT 12) = 2 ∧ s.getF (R.PWM_CFG_MODE 12) = 2 ∧
      (s.pwmUnit 12).plan.outH = some (640, 20000) ∧ 640 + max (16 * s.getF (R.PWM_PCM_LEB 12)) (s.getF (R.PWM_MINP_MINP 12)) ≤ 960) := by decide +kernel
theorem witness_pwm_registers : idle.regsWf := by unfold State.regsWf; decide +kernel

/-- Chapter 14's worked edges, in 62.5 ps steps: d = 0.4, and d = 0.99 with MINPL drop, which counts one OUTL interval. -/
theorem test_edges : (let p := ((after (.pwmPeriodStart 12) (unit12 20000 id)).pwmUnit 12).plan; p.outH = some (640, 20000) ∧ p.outL = some (20640, 50000)) ∧
    (let s := after (.pwmPeriodStart 12) (unit12 49500 id); (s.pwmUnit 12).plan.outH = some (640, 49500) ∧ (s.pwmUnit 12).plan.outL = none ∧
      (after (.pwmPeriodStart 12) { s with clk := 3125 }).getF (R.PWM_DROPCNT_OUTL 12) = 1) := by decide +kernel

/-- AnalogueFrontEnd: conversions and triggers waiting or not, channels on, off and lost, a driven DAC, a refused CMPCFG. -/
def sampling (f : Afe → Afe) : State := { put [(R.AFE_DSCFG_EN 3, 1), (R.AFE_DSCFG_OSR 3, 64), (R.AFE_DSCFG_ORDER 3, 1)] idle with afe := f {} }
theorem witness_afe : ((sampling fun x => { x with groups := [(2, { convs := [(0, [5])] })] }).adcGroup 2).convs ≠ [] ∧
    (idle.adcGroup 0).convs = [] ∧ ((sampling fun x => { x with groups := [(5, { waiting := some 0 })] }).adcGroup 5).waiting ≠ none ∧
    ((sampling fun x => { x with groups := [(5, { waiting := some idle.clk })] }).adcGroup 5).waiting.any (fun w => w + 800 ≤ idle.clk) = false ∧
    ({ (sampling fun x => { x with groups := [(5, { waiting := some 0 })] }) with clk := 800 }.adcGroup 5).waiting.any (fun w => w + 800 ≤ 800) = true ∧
    idle.sys.dev ≠ .dark ∧ { idle with sys := { idle.sys with dev := .dark } }.sys.dev = .dark ∧
    idle.cueRuns = true ∧ idle.sys.dev ≠ .wings ∧ State.reset.cueRuns = false ∧ awake.mayWrite house R.AFE_GTRIG = true ∧
    idle.mayWrite crew R.AFE_GTRIG = false ∧ awake.mayWrite house (R.AFE_DAC 47) = true ∧ awake.mayWrite house (R.AFE_CMPCFG 0) = true ∧
    (sampling id).getF (R.AFE_DSCFG_EN 3) ≠ 0 ∧ (sampling id).getF (R.AFE_DSRES_LOSS 3) = 0 ∧ ((sampling id).dsFilter 3).flush = 0 ∧
    0 < (sampling id).getF (R.AFE_DSCFG_OSR 3) ∧ (sampling id).getF (R.AFE_DSCFG_ORDER 3) = 1 ∧ ((sampling id).dsFilter 3).c1 = ((sampling id).dsFilter 3).i1 ∧
    0 < ((sampling fun x => { x with ds := [(3, { flush := 1 })] }).dsFilter 3).flush ∧
    (put [(R.AFE_DSRES_LOSS 3, 1)] (sampling id)).getF (R.AFE_DSRES_LOSS 3) ≠ 0 ∧ idle.getF (R.AFE_DSCFG_EN 3) = 0 ∧
    (let s := put [(R.LOOP_SCFG_EN 0, 1), (R.LOOP_SOUT_KIND 0, 4), (R.LOOP_SOUT_A 0, 47)] idle
     s.getF (R.LOOP_SCFG_EN 0) ≠ 0 ∧ s.getF (R.LOOP_SOUT_KIND 0) = 4 ∧ s.getF (R.LOOP_SOUT_A 0) = 47) ∧
    24 ≤ fieldOf (24 * 2 ^ 20 : Word) 24 20 ∧ ¬ 24 ≤ fieldOf (23 * 2 ^ 20 : Word) 24 20 := by decide +kernel
theorem witness_claims : ¬ idle.claims 0 ∧ (put [(R.ENC_CFG_EN 7, 1), (R.ENC_CFG_MODE 7, 1), (R.ENC_CFG_SCGRP 7, 5)] idle).claims 5 := by
  constructor <;> unfold State.claims <;> decide +kernel

/-- R371: a filter output counts up; R381: a missing half-cycle is counted and sets PFW. -/
theorem test_afe : (after (.deltaSigmaOutput 3 (2 ^ 64 - 1)) { sampling id with gpio := {} }).getF (R.AFE_DSRES_CNT 3) = 1 ∧
    (after .mainsHalfCycleMissing idle).getF R.AFE_MAINS_MISS = 1 ∧ (after .mainsHalfCycleMissing idle).getF R.AFE_STAT_PFW = 1 := by decide +kernel

/-- Encoder 3 enabled in a mode and changed by `f`. -/
def enc3 (m : Nat) (f : EncUnit → EncUnit) : State := { put [(R.ENC_CFG_EN 3, 1), (R.ENC_CFG_MODE 3, m), (R.ENC_AMP_AMAX 3, 40000), (R.ENC_AMP_AMIN 3, 100)] idle with
  enc := { units := [(3, f {})] } }

/-- Encoders: counting or not in each mode; edges of one line, of both, of none; amplitudes, jumps; frames; an index; a preset; a step. -/
theorem witness_encoders : (enc3 2 fun x => { x with frame := true, seen := 2, t0 := 10, t1 := 20 }).enc.units ≠ [] ∧
    ((enc3 2 fun x => { x with frame := true, seen := 2, t0 := 10, t1 := 20 }).encUnit 3).t0 < 20 ∧
    ((enc3 1 id).encUnit 3).seen = 0 ∧ ((enc3 0 fun x => { x with newRef := false }).encUnit 3).newRef = false ∧
    (let s := put [(R.GPIO_PCFG_FSEL 5 9, 3), (R.GPIO_PCFG_FSEL 5 10, 3), (R.GPIO_PCFG_FSEL 5 11, 3)] (enc3 0 id)
     (true && s.carries 5 9 3) = true ∧ s.carries 5 (3 * 3 + 2) 3 = true ∧ s.encRuns 3 = true) ∧
    ((true && idle.carries 5 9 3) = false) ∧
    (let s := put [(R.AFE_ADCRES_VAL 0, 1000)] (enc3 1 fun x => { x with seen := 1, idxWait := true })
     ¬ ((s.getS (R.AFE_ADCRES_VAL 0)) ^ 2 < (s.getF (R.ENC_AMP_AMIN 3) : Int) ^ 2) ∧ phase4096 1000 0 = 1024 ∧ (s.encUnit 3).idxWait = true ∧
      ¬ (1024 < (BitVec.ofInt 12 ((1024 : Int) - 0)).toInt)) ∧
    (let s := put [(R.GPIO_PCFG_FSEL 5 6, 4), (R.GPIO_PCFG_FSEL 5 7, 4), (R.ENC_SCFG_CRCEN 3, 1)] (enc3 2 id)
     s.carries 5 (2 * 3) 4 = true ∧ s.carries 5 (2 * 3 + 1) 4 = true ∧ s.getF (R.ENC_SCFG_CRCEN 3) ≠ 0) ∧
    awake.mayWrite house (R.ENC_CFG 3) = true ∧ idle.mayWrite crew (R.ENC_CFG 7) = false ∧ State.reset.getReg (R.ENC_CFG 3) &&& 0x10FFF#32 = 0 ∧
    State.reset.getF R.FIRE_STAT_SW = 0 ∧ (put [(R.FIRE_STAT_SW, 1)] idle).getF R.FIRE_STAT_SW ≠ 0 ∧ State.reset.getF R.FIRE_CFG_ENC = 0 ∧
    (let s := put [(R.GPIO_PCFG_FSEL 4 30, 9), (R.ENC_SPCFG_EN 3, 1)] idle; s.carries 4 (24 + 2 * 3) 9 = true ∧ s.getF (R.ENC_SPCFG_EN 3) ≠ 0) := by
  decide +kernel
theorem witness_counts : (enc3 1 id).counts 3 ∧ ¬ idle.counts 3 ∧ (enc3 0 id).counts 3 := by
  refine ⟨?_, ?_, ?_⟩ <;> unfold State.counts <;> decide +kernel

/-- R386, R391: both lines changed at once is an illegal transition, cause 1. -/
theorem test_illegal : (after (.quadratureEdge 3 true true) (put [(R.GPIO_PCFG_FSEL 5 9, 3), (R.GPIO_PCFG_FSEL 5 10, 3)]
    (enc3 0 fun x => { x with newRef := false }))).getF (R.ENC_STAT_CAUSE 3) = 1 := by decide +kernel

/-- R387: the phase of equal sine and cosine codes is an eighth of a period. -/
theorem test_phase : phase4096 100 100 = 512 ∧ phase4096 100 0 = 1024 ∧ phase4096 0 (-100) = 2048 := by decide +kernel

/-! ### Call board, DMA, pins -/

/-- Channel 255 of the call board open to subscriber `sub`, with events on their way. -/
def board (sub : Nat) (l : List CallEvent) : State := { put [(R.CALL_CH_EN 255, 1), (R.CALL_CH_SUBV 255, 1), (R.CALL_CH_SUB 255, sub)] idle with
  call := { inflight := l } }

/-- EventsEnterTheCallBoard: published or not, merged once and twice, below its ceiling and at it, closed. -/
theorem witness_call_board : State.reset.getF (R.CALL_PUB_V 1) = 0 ∧ (put [(R.CALL_PUB_V 1, 1)] idle).getF (R.CALL_PUB_V 1) ≠ 0 ∧
    ((put [(R.CALL_CH_SEVMASK 0, 16)] idle).getF (R.CALL_CH_SEVMASK 0)).testBit 4 = true ∧ (0 : Nat).testBit 4 = false ∧
    (board 0x110 [⟨255, 0, false⟩]).call.inflight = [] ++ ⟨255, (board 0x110 []).clk, false⟩ :: [] ∧ (board 0x110 []).call.inflight = [] ∧
    (let s := put [(R.CALL_CEIL_MAX 255, 2), (R.CALL_CEIL_CNT 255, 2)] (board 0x110 [⟨255, 0, false⟩])
     0 < s.getF (R.CALL_CEIL_MAX 255) ∧ s.getF (R.CALL_CEIL_MAX 255) ≤ s.getF (R.CALL_CEIL_CNT 255)) ∧
    awake.mayWrite house (R.CALL_RUNAWAY 7) = true ∧ idle.mayWrite crew (R.CALL_RUNAWAY 0) = false ∧
    ((put [(⟨R.CALL_RUNAWAY 7, 31, 31⟩, 1)] idle).getReg (R.CALL_RUNAWAY 7)).getLsbD (255 % 32) = true ∧
    ({ idle with irqMap := [⟨baseJET, 0, 12, 7⟩] } : State).irqMap ≠ [] := by decide +kernel
theorem witness_channel : (board 0x110 []).channelOpen 255 ∧ ¬ idle.channelOpen 255 ∧ idle.copyOf 12 12 ∧ idle.copyOf 0 1 := by
  refine ⟨?_, ?_, Or.inl rfl, Or.inr ?_⟩
  · unfold State.channelOpen; decide +kernel
  · unfold State.channelOpen; decide +kernel
  · decide +kernel

/-- R401: an event raises EVOUT 0, and its pulse's end lowers it. -/
theorem test_evout : let s := after .eventDelivery { board 0x110 [⟨255, 0, false⟩] with clk := 1 }
    s.call.evout = 1 ∧ (after (.evoutPulseEnd 0) { s with clk := 5 }).call.evout = 0 := by decide +kernel

/-- Channel 63 of DMA in a state, changed by `f`, to copy 8 bytes from local store 12 to working memory. -/
def copying (st : Nat) (f : DmaChan → DmaChan) : State := { put [(R.DMA_STAT_STATE 63, st), (R.DMA_SRCL_ADDR 63, 0x08310000), (R.DMA_DSTL_ADDR 63, 0x10000000),
  (R.DMA_LEN_LEN 63, 8)] idle with dma := { ch := [(63, f { src := 0x08310000, dst := 0x10000000, left := 8 })] } }

/-- DmaChannels: each state; a transfer that fits and one that does not; a fetch from each kind of place; beats. -/
theorem witness_dma : (∀ st ∈ [0, 1, 2, 3], (copying st id).dmaState 63 = st) ∧ idle.mayWrite crew (R.DMA_CTRL 63) = true ∧
    idle.mayWrite (.core 0 0) (R.DMA_CTRL 0) = false ∧ (0x80000000 : Word).getLsbD 30 = false ∧ idle.inRun = true ∧ recovery.inRun = false ∧
    ((copying 1 fun x => { x with abort := true }).dch 63).abort = true ∧ ((copying 1 id).dch 63).rd = [] ∧ ((copying 1 id).dch 63).wr = [] ∧
    ((copying 1 fun x => { x with rd := [(0x08310000, 8)] }).dch 63).rd ≠ [] ∧ regionOf 0x08310000 ≠ .remote ∧
    ((copying 1 fun x => { x with wr := [(0x10000000, [1#8])] }).dch 63).wr = [(0x10000000, [1#8])] ∧ regionOf 0x8180001000 = .remote ∧
    ((copying 1 fun x => { x with fetch := true }).dch 63).fetch = true ∧ regionOf (64 * 0 + 2 ^ 32 * 0) ≠ .working ∧
    regionOf (64 * (0x10000000 / 64)) = .working ∧ (State.reset.memRead 0x10000000 32).2 = .ok (List.replicate 32 0) ∧
    (BitVec.ofNat 32 (2 ^ 31 + 2 ^ 30) : Word).getLsbD 31 = true := by decide +kernel
theorem witness_beats : (copying 1 id).mayRead 63 ∧ ¬ idle.mayRead 63 ∧ (copying 1 fun x => { x with queue := List.replicate 8 0 }).mayWriteBeat 63 ∧
    ¬ idle.mayWriteBeat 63 ∧ transferFits 0x08310000 0x10000000 7 ∧ ¬ transferFits 0x40000002 0 8 := by
  refine ⟨?_, ?_, ?_, ?_, ?_, ?_⟩ <;> first | unfold State.mayRead | unfold State.mayWriteBeat | unfold transferFits
  all_goals decide +kernel

/-- R410: the first read beat is as large as the source line and the transfer allow. -/
theorem test_beat : ((after (.dmaReadBeat 3) (copying 1 id)).dch 63).rd = [(0x08310000, 8)] := by decide +kernel

/-- PinsAndSerialEngines: owned by the writer or not, locked or not, each step of the lock sequence, FIFOs empty and full, each mode. -/
def owned (o : Nat) (s : State) : State := put [(⟨R.GPIO_PxOWN 7 3, 31, 28⟩, o)] s
def serial (m : Nat) (tx rx : List Word) : State := { put [(R.GPIO_SERCFG_EN 3, 1), (R.GPIO_SERCFG_MODE 3, m)] idle with gpio := { tx := [(3, tx)], rx := [(3, rx)] } }
def locking (k : Nat) : State := { put [(⟨R.GPIO_PxLCKM 7, 31, 0⟩, 0x80000000)] places with gpio := { lkStep := k, lkPort := 7, lkBy := house.num, lkClk := 0 } }
theorem witness_pins : places.mayWrite house (R.GPIO_PCFG 7 31) = true ∧ idle.mayWrite (.core 4 0) (R.GPIO_PxOWN 7 3) = false ∧
    (put [(R.GPIO_PCFG_LOCKED 7 31, 1)] idle).getF (R.GPIO_PCFG_LOCKED 7 31) ≠ 0 ∧ idle.getF (R.GPIO_PCFG_LOCKED 7 31) = 0 ∧
    fieldOf (3 * 2 ^ 26 : Word) 27 26 = 3 ∧ pinHas 7 31 0 = true ∧ pinHas 7 31 8 = false ∧ places.mayWrite house (R.GPIO_PxMWH 7) = true ∧
    places.mayWrite house (R.GPIO_PxOWN 7 3) = true ∧ fieldOf (2 ^ 28 : Word) 31 28 = 1 ∧ places.sys.dev ≠ .boot ∧ places.mayWrite house (R.GPIO_PxLCKM 7) = true ∧
    places.mayWrite house R.GPIO_LKEY = true ∧ (∀ k ∈ [1, 2], (locking k).gpio.lkStep = k ∧ (locking k).gpio.lkBy = house.num ∧
      (locking k).gpio.lkPort = fieldOf (0x7C35A : Word) 18 16 ∧ (locking k).clk ≤ (locking k).gpio.lkClk + 64) ∧
    (locking 1).gpio.lkStep ≠ 0 ∧ (locking 1).gpio.lkClk + 64 < { locking 1 with clk := 65 }.clk ∧
    fieldOf (0x7C35A : Word) 15 0 = 0xC35A ∧ fieldOf (0x73CA5 : Word) 15 0 = 0x3CA5 ∧ (locking 1).gpio.lkBy ≠ crew.num ∧ places.gpio.lkStep = 0 ∧
    ((locking 2).getReg (R.GPIO_PxLCKM 7)).getLsbD 31 = true ∧ places.mayWrite house (R.GPIO_SERDAT 3) = true ∧
    (∀ m ∈ [0, 1, 2], (serial m [] []).getF (R.GPIO_SERCFG_MODE 3) = m ∧ (serial m [] []).getF (R.GPIO_SERCFG_EN 3) ≠ 0) ∧
    16 ≤ (mget [] (serial 0 (List.replicate 16 0) []).gpio.tx 3).length ∧ mget [] (serial 0 [] [5]).gpio.rx 3 ≠ [] ∧
    (put [(R.GPIO_PCFG_FSEL 0 14, 8)] idle).carries 0 (2 + 4 * 3) 8 = true ∧
    (let s := put [(R.GPIO_SERSTAT_BUSY 3, 1)] (serial 0 [1] []); s.getF (R.GPIO_SERSTAT_BUSY 3) ≠ 0) := by decide +kernel
theorem witness_owners : State.reset.ownerPasses house 7 31 ∧ ¬ (owned 3 idle).ownerPasses house 7 31 ∧ places.enginePasses house 3 ∧
    ¬ places.enginePasses crew 3 := by
  have passes : ∀ s : State, fieldOf (s.getReg (R.GPIO_PxOWN 7 3)) 31 28 = 0 → s.sys.dev = .boot → s.ownerPasses house 7 31 := by
    intro s h d; unfold State.ownerPasses; simp only [show 31 / 8 = 3 from rfl, show 4 * (31 % 8) + 3 = 31 from rfl, show 4 * (31 % 8) = 28 from rfl, h, d]
    simp [show house.isHouse = true from by decide]
  have fails : ∀ s : State, fieldOf (s.getReg (R.GPIO_PxOWN 7 3)) 31 28 = 3 → s.sys.dev = .run .idle → ¬ s.ownerPasses house 7 31 := by
    intro s h d; unfold State.ownerPasses; simp only [show 31 / 8 = 3 from rfl, show 4 * (31 % 8) + 3 = 31 from rfl, show 4 * (31 % 8) = 28 from rfl, h, d]
    simp [show house = .core 8 0 from rfl, Writer.isCrew] <;> decide
  have engine : ∀ (s : State) w, s.carries 0 13 8 = false → (s.enginePasses w 3 ↔ w.isHouse = true) := by
    intro s w h; unfold State.enginePasses; rw [show 1 + 4 * 3 = 13 from rfl, h]; simp
  exact ⟨passes _ (by decide +kernel) (by decide +kernel), fails _ (by decide +kernel) (by decide +kernel),
    (engine _ _ (by decide +kernel)).2 (by decide), fun h => absurd ((engine _ _ (by decide +kernel)).1 h) (by decide)⟩

/-- R437: the third write locks pin 31 of port 7. -/
theorem test_lock : (after (.gpioLkey house 0x73CA5) (locking 2)).getF (R.GPIO_PCFG_LOCKED 7 31) = 1 ∧
    (after (.gpioLkey house 0x7C35A) (locking 1)).gpio.lkStep = 2 ∧ (after (.gpioLkey house 0) (locking 1)).getF R.GPIO_STAT_LKSEQ = 1 := by decide +kernel

/-! ### Power budget, journal, Byrov, images, records -/

/-- Chapter 20's worked latch: B = 6,060 W and 400 W for the heads over the five classes. -/
def classes : List PbsClass := [⟨1, 2500, 300, 1, false, false, 0, 0⟩, ⟨2, 1200, 600, 2, false, false, 0, 0⟩,
  ⟨3, 1500, 0, 3, true, false, 0, 0⟩, ⟨4, 1500, 0, 3, true, true, 12, 0⟩, ⟨5, 3000, 0, 4, false, false, 0, 0⟩]
theorem test_grants : (grantAll 6060 400 classes).map (fun c => (c.k, c.g)) = [(1, 2500), (2, 1200), (3, 0), (4, 1500), (5, 460)] := by decide +kernel

/-- PowerBudgetAndJournal: latch on and off, in a pause, members; ACCEPT while busy, each answer; a dirty line; an order that has ended. -/
def budget (role : Nat) : State := put [(R.PBS_CTRL_EN, 1), (R.PBS_SHARE_ROLE, role), (R.PBS_PH_EN 0, 1)] idle
theorem witness_budget : (budget 0).cueRuns = true ∧ (budget 0).getF R.PBS_CTRL_EN ≠ 0 ∧ (budget 0).getF R.PBS_SHARE_ROLE ≠ 1 ∧
    idle.getF R.PBS_CTRL_EN = 0 ∧ (activating (budget 0)).paused = true ∧ (budget 0).paused = false ∧
    0 < (mget {} ({ budget 0 with pbs := { phases := [(0, { n := 3 })] } } : State).pbs.phases 0).n ∧ (budget 0).inRun = true ∧ places.inRun = false ∧
    (classes.map (·.k)).Nodup ∧ (∀ c ∈ classes, c.g = 0 ∧ 0 ≤ c.floor ∧ c.floor ≤ c.want ∧ c.prio < 8) ∧
    ((classes.take 2).map (·.want)).sum ≤ 6060 - 400 ∧ (budget 2).getF R.PBS_SHARE_ROLE ≠ 0 ∧ (budget 0).getF R.PBS_SHARE_ROLE = 0 := by decide +kernel
def journal (f : Jrnl → Jrnl) : State := { idle with jrnl := f {} }
theorem witness_journal : idle.mayWrite house R.JRNL_CTRL = true ∧ idle.mayWrite (.core 0 0) R.JRNL_CTRL = false ∧
    idle.getF R.JRNL_STAT_ABUSY = 0 ∧ (put [(R.JRNL_STAT_ABUSY, 1)] idle).getF R.JRNL_STAT_ABUSY ≠ 0 ∧ idle.jrnl.acc = none ∧
    (journal fun j => { j with acc := some (1, 1, 0) }).jrnl.acc = some (1, 1, 0) ∧ (journal fun j => { j with dirty := [511] }).jrnl.dirty = [511] ∧
    (journal fun j => { j with ended := [(1, 1)] }).jrnl.ended = [] ++ (1, 1) :: [] ∧
    (∀ l ∈ (journal fun j => { j with ended := [(1, 1)] }).jrnl.dirty, ∀ i < 8, (mget (0, 0) (journal fun j => { j with ended := [(1, 1)] }).jrnl.cap (8 * l + i)).1 ≠ 1) ∧
    (∃ i < 8, (mget (0, 0) (journal fun j => { j with dirty := [0], cap := [(3, (1, 7))] }).jrnl.cap (8 * 0 + i)).1 = 1) := by decide +kernel

/-- R477: the line of context 3 holds JSN 1 and NEXT 7 once it is written. -/
theorem test_line : (after (.cvLineWrite 0) (journal fun j => { j with dirty := [0], cap := [(3, (1, 7))] })).pmRd (0x101000 + 24) 8 = 2 ^ 40 + 7 := by
  decide +kernel

/-- The node (2, 5, 17) of chapter 22 with its downstream port up. -/
def node (link up : Nat) : State := put [(R.BYR_ADDR_ADDR, 8529), (R.BYR_PORT_LINK 0, link), (R.BYR_PORT_LINK 1, link), (R.BYR_PORT_UPSTR 1, up)] idle

/-- ByrovFabric: ports going on and off, each link state, both directions, the tree at each level, packets, tags, slots, groups. -/
theorem witness_byrov : idle.mayWrite house R.BYR_CTRL = true ∧ idle.mayWrite crew R.BYR_CTRL = false ∧ (State.reset.getReg R.BYR_CTRL).getLsbD 0 = false ∧
    (1 : Word).getLsbD 0 = true ∧ ((put [(⟨R.BYR_CTRL, 3, 0⟩, 2)] idle).getReg R.BYR_CTRL).getLsbD 1 = true ∧
    (∀ k ∈ [0, 1, 2, 3, 4], (node k 1).getF (R.BYR_PORT_LINK 1) = k) ∧ (node 3 1).getF (R.BYR_PORT_UPSTR 1) ≠ 0 ∧ (node 3 0).getF (R.BYR_PORT_UPSTR 1) = 0 ∧
    (8529 / 64 % 64 ≠ 0 ∧ 8529 % 64 ≠ 0 ∧ 8515 ≠ 8529) ∧ (8512 / 64 % 64 ≠ 0 ∧ 8512 % 64 = 0) ∧ (8192 / 64 % 64 = 0) ∧
    ((node 3 1).byrPort 1).fails + 1 < 4 ∧ 4 ≤ (({ node 3 1 with byr := { ports := [(1, { fails := 3 })] } } : State).byrPort 1).fails + 1 ∧
    (({ node 1 0 with byr := { ports := [(1, { echos := 63 })] } } : State).byrPort 1).echos + 1 = 64 ∧ ((node 3 1).byrPort 1).slot = 0 ∧
    (({ node 3 1 with byr := { ports := [(1, { slot := 499 })] } } : State).byrPort 1).slot ≠ 0 ∧
    (put [(R.BYR_RACC_WM, 1)] idle).byrGranted 0x10000000 8 false = true ∧ idle.byrGranted 0x10000000 8 true = false ∧
    (State.reset.memRead 0x10000000 8).2 = .ok (List.replicate 8 0) ∧ fenced.byr.remote.find? (fun x => x.tag == 0 && x.wr == true) ≠ none ∧
    (put [(R.BYR_EVSRC_ANY 31, 1)] idle).getF (R.BYR_EVSRC_ANY 31) ≠ 0 ∧ idle.getF (R.BYR_EVSRC_V 0) = 0 ∧ idle.getF (R.BYR_EVOUT_V 0) = 0 ∧
    (∀ n < 64, ∀ e ∈ idle.byr.rx, e.1 ≠ n) ∧ (∀ n < 64, ∃ e ∈ ((List.range 64).map fun i => (i, 0)), e.1 = n) ∧ idle.mayWrite house R.BYR_MTX = true ∧
    idle.mayWrite house R.BYR_MRX = true ∧ fieldOf (64 * 2 ^ 24 : Word) 30 24 = 64 ∧ fieldOf (63 * 2 ^ 24 : Word) 30 24 = 63 ∧
    regionOf ((put [(R.BYR_MBASE_ADDR, 0x800)] idle).getF R.BYR_MBASE_ADDR * 2 ^ 17) = .working ∧ (budget 1).getF R.PBS_SHARE_ROLE = 1 ∧
    (budget 1).getF R.PBS_SHARE_GROUP = 0 ∧ (budget 2).getF R.PBS_SHARE_MEMBER = 0 := by decide +kernel
theorem witness_ring : idle.ringMember 0 4096 ∧ (put [(R.BYR_ADDR_ADDR, 8512)] idle).ringMember 2 8515 ∧ ¬ (node 3 1).ringMember 0 8529 := by
  refine ⟨?_, ?_, ?_⟩ <;> unfold State.ringMember <;> decide +kernel

/-- Chapter 22's examples: the address of (2, 5, 17); a report to it from (2, 5, 3) goes east; window 3 with BASE 0x020. -/
theorem test_byrov : 2 * 4096 + 5 * 64 + 17 = 8529 ∧ (put [(R.BYR_ADDR_ADDR, 8515)] idle).byrRoute 8529 = some 0 ∧
    (put [(R.BYR_WINL_OPEN 3, 1), (R.BYR_WINL_NODE 3, 8529), (R.BYR_WINH_BASE 3, 0x20)] idle).byrWindow 0x8180001000 = some (8529, 0x1000001000) := by decide +kernel

/-- ImagesAndActivation: the chunk's limit, busy and not, a bank to verify, a chain that waits, goes on and has failed; an activation's end. -/
def updating (f : Upd → Upd) : State := { put [(R.UPD_CHAIN_V, 1), (R.UPD_CHAIN_NODE, 9)] idle with upd := f {} }
theorem witness_images : idle.mayWrite house R.UPD_CTRL = true ∧ idle.mayWrite crew R.UPD_CTRL = false ∧ (1019 ≤ fieldOf (1019 : Word) 9 0 ∧ fieldOf (1018 : Word) 9 0 < 1019) ∧
    fieldOf (0x3FF : Word) 9 0 = 0x3FF ∧ idle.getF R.UPD_STAT_BUSY = 0 ∧ (put [(R.UPD_STAT_BUSY, 1)] idle).getF R.UPD_STAT_BUSY ≠ 0 ∧
    (0x40000000 : Word).getLsbD 30 = true ∧ idle.upd.verify = none ∧ (updating fun u => { u with verify := some (1, 0) }).upd.verify = some (1, 0) ∧
    0x3FF ∉ mget [] idle.upd.passed 1 ∧ 0x3FF ∈ mget [] (updating fun u => { u with passed := [(1, [0x3FF])] }).upd.passed 1 ∧
    (updating id).getF R.UPD_CHAIN_V ≠ 0 ∧ (updating id).upd.chainStop = false ∧ (updating id).upd.chainOut = none ∧ (updating id).chainNext = some 0x3FF ∧
    (updating fun u => { u with chainOut := some (4, 3) }).upd.chainOut = some (4, 3) ∧ (updating id).getF R.UPD_CHAIN_NODE = 9 ∧
    (updating fun u => { u with chainSrc := some (9, 4) }).upd.chainSrc = some (9, 4) ∧ recovery.sys.dev = .recovery ∧ idle.sys.dev ≠ .recovery ∧
    ((activating idle).upd.act.any fun a => a.paused) = true ∧ (activating idle).sys.resetDue = false ∧ (activating idle).inRun = true ∧
    (∀ a ∈ idle.upd.act, a.paused = false) ∧ (idle.actFree 1) = some 1 := by decide +kernel

/-- R525: reason 0x1 outside RUN/IDLE, 0x2 for a bank that has not passed. -/
theorem test_refused_activation : places.actReason 1 true none = 1 ∧ idle.actReason 1 true none = 2 := by decide +kernel

/-- BlackBoxLifetimeAndSupply: codes at their limit, an empty queue, one record, 16; each area; DARK, RUN, CURTAIN, WINGS. -/
def queued (n : Nat) : State := { idle with bbxQueue := List.replicate n ⟨9, [0], 0, 0, 0⟩ }
theorem witness_records : idle.mayWrite house R.BBX_CTRL = true ∧ idle.mayWrite crew R.BBX_CTRL = false ∧ fieldOf (0x7FFF : Word) 15 0 < 0x8000 ∧
    0x8000 ≤ fieldOf (0x8000 : Word) 15 0 ∧ (queued 16).bbxQueue.length = 16 ∧ (queued 15).bbxQueue.length < 16 ∧ idle.bbxQueue = [] ∧
    idle.bbx.pin < 1024 ∧ ¬ ({ idle with bbx := { pin := 1024 } } : State).bbx.pin < 1024 ∧ dark.sys.dev = .dark ∧ idle.sys.dev ≠ .dark ∧
    (let s := { idle with nozzles := { flush := some [(64 * 4095 + 63, 5)] } }; s.nozzles.flush = some [(64 * 4095 + 63, 5)] ∧ (([(64 * 4095 + 63, 5)] : SMap Nat).map (·.1)).Nodup) ∧
    idle.nozzles.flush = none ∧ idle.mayWrite house R.SEC_DBG = true ∧ curtain.sys.dev = .curtain ∧ wings.sys.dev = .wings ∧
    (1150 ≤ (1150 : BitVec 16).toInt ∧ (1149 : BitVec 16).toInt < 1150) ∧
    (put [(R.GPIO_WAKECFG_EN 15, 1)] wings).getF (R.GPIO_WAKECFG_EN 15) ≠ 0 ∧ wings.sys.wakeDue = false ∧ wings.getF (R.GPIO_WAKECFG_EN 0) = 0 ∧
    idle.draining = false ∧ (journal fun j => { j with dirty := [1] }).draining = true := by decide +kernel

/-- R33, R535: 115.0 °C calls a curtain in RUN, 114.9 °C does not; a record lost at 16 queued is counted. -/
theorem test_supply : (after (.dieTemperatureUpdate 1150) idle).sys.faultDue = true ∧ (after (.dieTemperatureUpdate 1149) idle).sys.faultDue = false ∧
    (after (.bbxWr house 0x80008000) (queued 16)).getF R.BBX_STAT_LOST = 1 := by decide +kernel

/-- SecondCueDoneIsIgnored. -/
theorem witness_second_done : places.cueRuns = true ∧ ({ places with cue := { done := 8 } } : State).cue.done.getLsbD 3 = true := by decide +kernel

/-- EveryStepKeepsTheInvariant: a state that steps by a command, and one that idles. -/
theorem witness_step : (∃ t, step { State.reset with pending := [.nop 8 0] } = .next t) ∧ (∃ t, step State.reset = .next t) ∧
    ({ State.reset with pending := [.nop 8 0] } : State).wellKept := by
  refine ⟨⟨_, rfl⟩, ⟨_, rfl⟩, by unfold State.memWf; decide +kernel, by unfold State.regsWf; decide +kernel, by decide, by decide⟩

/-! ## Further witnesses: a state for each clause that the ones above leave out -/

/-- StoresCompleteAndKeepOtherMemory: 16 bytes, the longest form, in the own local store, at a multiple of 8. -/
theorem witness_store_forms : (∀ i < 16, regionOf (ownAlias (coreOf 8) (0x08310000 + i)) = .localStore (coreOf 8)) ∧ 0x08310000 % 8 = 0 ∧
    (local_.hart 8).ar 1 = 0x08310000 ∧ memBad 1 0 0 = false := by decide +kernel

/-- R71: STA stores an address register as eight bytes, STACC an accumulator as sixteen, sign-filled. -/
theorem test_sta : (after (.sta 8 4 1 0 3 0) local_).rdNat 0x08310000 8 = 0x08310010 := by decide +kernel
theorem test_stacc : (after (.stacc 8 1 1 0 3 0) (local_.modHart 8 fun c => c.setAcc 1 (BitVec.ofInt 72 (-2)))).rdNat 0x08310000 16 = 2 ^ 128 - 2 := by
  decide +kernel

/-- R88: the words that the chapter writes out, read back. -/
theorem test_word_meanings : decodeLomer 8 0x00611000 0 = .add 8 3 1 2 0 ∧ decodeLomer 8 0x44A46004 0 = .ldz 8 5 2 1 2 4 ∧
    decodeLomer 8 0x88000000 0 = .nop 8 0x88000000 ∧ decodeLomer 8 0x6F800000 0 = .jr 8 28 0 0 0 := by decide +kernel

/-- BranchesTakeTheirDelaySlot: a path that was predicted, one that was not, and frozen tables. -/
theorem witness_branch_paths : (State.reset.hart 8).bpWrong 0 (.cond false) false 16 = none ∧
    (State.reset.hart 8).bpWrong 0 (.cond false) true 16 ≠ none ∧ ((rom fun c => { c with bpFreeze := true }).hart 8).bpFreeze = true ∧
    (State.reset.hart 8).bpFreeze = false := by decide +kernel

/-- SystemRegisterCommands: each operation code of CMOP. -/
theorem witness_cache_codes : ∀ k ∈ [1, 2, 3, 4], let s := rom fun c => c.setD 5 (BitVec.ofNat 32 k)
    s.canIssue 8 = true ∧ (s.hart 8).dr 5 = BitVec.ofNat 32 k ∧ (s.hart 8).tm = false := by decide +kernel

/-- BarriersAndNop: a PMEM store of the core that is not complete. -/
theorem witness_fence_pmem : coreOf 8 ∈ ({ State.reset with pmcQueue := [12] } : State).pmcQueue ∧ coreOf 8 ∉ State.reset.pmcQueue ∧
    ((State.reset.hart 8).pf.length ≤ 4) := by decide +kernel

/-- InterruptsPostedFaultsAndHolds: in a WAITT; TrapsAndIllegalInstructions: TRAP in a slot, a reserved word of a known command and one
that no command spells. -/
theorem witness_illegal : (until_.hart 8).run = .running ∧ (∃ t m, (until_.hart 8).wait = .waitt t m) ∧ (until_.hart 8).delay = none ∧
    ((rom fun c => { c with delay := some ⟨0, none, false⟩ }).hart 8).delay = some ⟨0, none, false⟩ ∧
    lomerWord (.add 8 3 1 2 5) = some (8, 0x00611005, 0) ∧ fieldOf (0x00611005 : Word) 5 0 ≠ 0 ∧
    lomerWord (.nop 8 0xFC000000) = some (8, 0xFC000000, 0) ∧
    lomerWord (.j 8 false 4) = some (8, wordJump 0x19 false 4, 0) := by
  refine ⟨by decide +kernel, ⟨1, 2, by decide +kernel⟩, by decide +kernel⟩

/-- R74, R86: a jump in a delay slot raises ILLDS, ADD with an aux raises RSVD. -/
theorem test_misplaced : ((after (.j 8 false 4) (stacked.modHart 8 fun c => { c with delay := some ⟨0, none, false⟩ })).hart 8).estat.toNat % 256 = 2 ∧
    ((after (.add 8 3 1 2 5) stacked).hart 8).estat.toNat % 256 = 1 := by decide +kernel

/-- RegisterWrites: a core that makes no access, one that TACC does not grant, a bit set in the cycle of the write. -/
theorem witness_access : State.reset.masterActs crew = false ∧ State.reset.masterActs house = true ∧ task.masterActs house = true ∧
    task.deniedTo house R.SYS_GOEN = true ∧ State.reset.deniedTo house R.SYS_GOEN = false ∧
    (State.reset.raise R.DRC_STAT_CE).stoodAt R.DRC_STAT R.DRC_STAT_CE.lo = false ∧ (put [(R.DRC_STAT_CE, 1)] State.reset).stoodAt R.DRC_STAT R.DRC_STAT_CE.lo = true := by
  decide +kernel

/-- R12: of a hardware set and a W1C write in one cycle the set wins; a bit that stood before is cleared. -/
theorem test_write_one_to_clear : let c := Instr.registerWrite house (BitVec.ofNat 40 R.DRC_STAT) (BitVec.ofNat 32 (2 ^ R.DRC_STAT_CE.lo))
    (after c (State.reset.raise R.DRC_STAT_CE)).getF R.DRC_STAT_CE = 1 ∧ (after c (put [(R.DRC_STAT_CE, 1)] State.reset)).getF R.DRC_STAT_CE = 0 := by
  decide +kernel

/-- CueRegisters, CueEvents: a house core with access; a pair that cannot issue and one that can. -/
theorem witness_cue_masters : State.reset.masterActs house = true ∧ State.reset.deniedTo house R.CUE_CTRL = false ∧
    places.canIssue (hartOfPair 0) = true ∧ (paired { blocked := true } places).canIssue (hartOfPair 0) = false := by decide +kernel

/-- CueBoundaryTurnsTheCue: a CUE_DONE of this cycle, a second one of this cycle, a follower whose phase is being corrected. -/
theorem witness_cue_late : (let s : State := { idle with cue := { done := 1, doneClk := [(0, (0, 0))], pairen := 1 } }
      s.doneNow 0 = true ∧ s.cue.pairen.getLsbD 0 = true) ∧
    (let s : State := { idle with cue := { done := 1, again := [(0, (0, false))] } }; s.againNow 0 = true ∧ s.doneNow 0 = false) ∧
    (let s : State := { put [(R.CUE_DISC_PHERR, 100)] idle with cue := { phasing := true } }
     s.cue.phasing = true ∧ s.phaseLimit < (s.getS R.CUE_DISC_PHERR).natAbs) ∧ idle.cue.phasing = false ∧
    (let s := put [(R.USTD_STAT_RESTART, 1)] idle; (s.getF R.USTD_STAT_RESTART).testBit 0 = true ∧ (State.reset.core 0).run = .inReset) := by
  decide +kernel

/-- R47: a CUE_DONE in the boundary's own cycle counts for the cue that begins. -/
theorem test_late_done : let s := after .cueBoundary (after (.cueDone 0) { missing 0 (.run .idle) with clk := 7 })
    s.cue.done.getLsbD 0 = true ∧ s.getF R.CUE_STAT_OVR = 1 := by decide +kernel

/-- StateTransitionsAtTheBoundary: READY for one event-clock cycle, and not yet. -/
def ready (clk : Nat) : State := { (due .wings fun y => { y with wakeDue := true }).setF R.DRC_STAT_READY 1 with drcReadyClk := 5, clk := clk }
theorem witness_ready : (ready 6).drcReadyClk < (ready 6).clk ∧ ¬ (ready 5).drcReadyClk < (ready 5).clk ∧ (ready 6).getF R.DRC_STAT_READY = 1 ∧
    (ready 6).sys.wakeDue = true ∧ (ready 6).sys.resetDue = false := by decide +kernel
theorem test_ready : (after .cueBoundary (ready 6)).sys.dev = .places ∧ (after .cueBoundary (ready 5)).sys.dev = .wings := by decide +kernel

/-- WatchdogsAndTheCurtainsEnd: a core that makes no access; a limit after the mains; frozen units; a column that is being emitted. -/
theorem witness_curtain_end : State.reset.masterActs (.core 4 0) = false ∧ State.reset.masterActs house = true ∧
    (due .curtain fun y => { y with mainsElapsed := some 100, elapsed := 300 }).sys.mainsElapsed ≠ none ∧ curtain.sys.mainsElapsed = none ∧
    (put [(R.PWM_GSTAT_FROZEN, 1)] curtain).getF R.PWM_GSTAT_FROZEN ≠ 0 ∧ (due .curtain fun y => { y with emitting := true }).sys.emitting = true := by
  decide +kernel

/-- LockstepCheckpointsAndMismatches: a lane that does not compare, a log that has overflowed, a hold that expires outside RUN. -/
theorem witness_lockstep_more : ((paired { dead := [(1, 2)] } (cueUp idle)).pair 0).dead.contains (1, 2) = true ∧ (cueUp idle).isSplit 0 = false ∧
    ((put [(R.USTD_STAT_LOGOVF, 1)] idle).getF R.USTD_STAT_LOGOVF).testBit 0 = true ∧ ((cueUp idle).core 0).run = .running ∧
    (paired { hold := true, holdB := 0 } { curtain with cue := { count := 1 } }).cue.count = ((paired { hold := true, holdB := 0 } curtain).pair 0).holdB + 1 ∧
    ((paired { blocked := true } idle).pair 0).blocked = true ∧ awake.mayWrite house R.USTD_INJ = true := by decide +kernel

/-- ProgramStoreCommands: a master that is no house core at a busy bank; an operation of each kind that ends; what waits for its end. -/
def operating (kind target : Nat) : State := { idle with fls := { op := some ⟨kind, target, 0, 0⟩ }, upd := { recWait := [.packet 9 0 0 []] } }
theorem witness_operations : crew.isHouse = false ∧ State.reset.masterActs house = true ∧ (erasing 0).deniedTo house 0x0200005550 = false ∧
    (operating 1 0x0200004000).fls.op = some ⟨1, 0x0200004000, 0, 0⟩ ∧ 0x0200004000 % 0x4000 = 0 ∧ 0x0200400000 % 0x400000 = 0 ∧
    (0x0200000000 < 0x0200400000 ∧ 0x0200400000 < 0x0300000000 ∧ 0x0200400000 ≠ 0x0240000000) ∧ (operating 3 0).upd.recWait ≠ [] ∧
    awake.masterActs crew = true ∧ State.reset.masterActs crew = false := by decide +kernel

/-- HostServices: a chunk that waits for the program store; LPDDR5X with no error in the lines written in part. -/
theorem witness_downloads : ({ recovery with fls := { op := some ⟨2, 0x0200400000, 0, 0⟩ } } : State).fls.op ≠ none ∧ recovery.host.long = none ∧
    recovery.fls.op = none ∧ leAt (0#8 :: List.replicate 3 0#8 ++ [1#8, 0, 0, 0]) 4 4 ≠ 0 ∧
    (∀ y ∈ partialLines 0x1000000000 8, ∀ k < 8, bar.eccAt (64 * y + 8 * k) = 0) ∧ (∀ y ∈ halvesOf 0x1000000000 8, ∀ k < 4, bar.eccAt (y + 8 * k) = 0) ∧
    (∀ y ∈ unitsOf 0x11FFFFF8 8, State.reset.eccAt y = 0) ∧ 64 ≤ (List.replicate 64 0#8).length := by decide +kernel

/-- SwathQueue, TileStaging: no swath is checked or staged in CURTAIN; a slot that was released while a tile was due goes first. -/
def released : State := let s := swath (fun w => { w with latched := true, desc := some { desc with ctxs := [0, 1] } }) false
  { s with drop := { s.drop with freed := [1] } }
theorem witness_staging : (dev .curtain (swath id false)).sys.dev = .curtain ∧ (tiled .staging).sys.dev ≠ .curtain ∧
    released.drop.freed.find? released.mayFill = some 1 ∧ released.nextFill = some 1 ∧
    ({ released with drop := { released.drop with freed := [] } } : State).nextFill = some 0 ∧
    ({ released with drop := { released.drop with freed := [] } } : State).drop.freed.find? released.mayFill = none ∧ idle.nextFill = none ∧
    released.mayFill 0 = true ∧ idle.mayFill 0 = false := by decide +kernel

/-- CarriageObserver: a tick with and without a new sample, a fault that is reported, a slot of no moving type. -/
theorem witness_samples : ((enc3 0 fun x => { x with newOut := true, faultOut := true }).encUnit 3).newOut = true ∧ (idle.encUnit 0).newOut = false ∧
    (idle.encUnit 0).faultOut = false ∧ idle.slotType 0 ≠ 2 ∧ ({ idle with fire := { init := true } } : State).fire.init = true ∧
    (put [(R.FIRE_STAT_OBSFLT, 1)] (firing 1 (2 ^ 24))).getF R.FIRE_STAT_OBSFLT ≠ 0 := by decide +kernel

/-- ScanRoundsAndArming: a round under way, one that begins, a visit at which a column is due in time and one at which it is late. -/
theorem witness_visits : ({ firing 2 (2 ^ 24) with fire := { (firing 2 (2 ^ 24)).fire with round := some (0, 5) } } : State).fire.round = some (0, 5) ∧
    5 < (firing 2 (2 ^ 24)).getF R.DROP_CFG_NCTX ∧ (firing 2 (2 ^ 24)).fire.round = none ∧ (put [(R.DROP_CFG_NCTX, 0)] idle).getF R.DROP_CFG_NCTX = 0 ∧
    (let s := firing 2 (2 ^ 24)
     let o : Obs := if s.fire.obs.tick + 60 ≤ 100 then s.fire.obs else s.fire.prev
     o = s.fire.obs ∧ (s.fireTs o desc 0 0).any (fun t => t - 16 * 100 ≤ 16 * (s.getF R.FIRE_CFG_HORIZON : Int)) = true) ∧
    (let s := { firing 2 (2 ^ 24) with fire := { (firing 2 (2 ^ 24)).fire with obs := { v := 2 ^ 24, p := -1000 } } }
     (s.fireTs s.fire.obs desc 0 0).any (fun t => t - 16 * 100 < 16 * 1200) = true) ∧
    (firing 3 (2 ^ 24)).getF R.FIRE_STAT_SW = 3 := by decide +kernel

/-- R258: a visit issues the column that is due, and only one. -/
theorem test_visit : ((after .scanRound { firing 2 (2 ^ 24) with cue := { time := 100 } }).dropSw 0).map (fun w => w.at 0) = some 1 := by decide +kernel

/-- JetLinkStates: a failing superframe right after a failing one, in the same one, and after a gap. -/
theorem witness_failures : let x : JetPort := { fails := 3, failSf := 8, lane0 := { sf := 9 } }
    (x.fails ≠ 0 ∧ x.failSf + 1 = x.lane0.sf ∧ 4 ≤ x.fails + 1) ∧ (let y := { x with failSf := 9 }; y.failSf = y.lane0.sf) ∧
    (let y := { x with failSf := 5 }; y.failSf ≠ y.lane0.sf ∧ y.failSf + 1 ≠ y.lane0.sf) ∧ (linked 0 id).jlink 0 = 0 ∧
    (linked 3 fun y => { y with queue := [column] }).jlink 0 = 3 ∧ 0 ≤ (((64 * 5000 : Nat) : Rat) / 64 - 0 + 0) := by decide +kernel

/-- JetBlockSlots: SWATH has gone on this lane only, and on both. -/
theorem witness_both_lanes : (let x := (linked 3 fun x => { x with queue := [column], lane0 := { slot := 2, swath := some 0 } }).jport 0
      x.lane0.swath = some 0 ∧ x.lane1.swath ≠ some 0) ∧
    (let x := (linked 3 fun x => { x with queue := [column], lane0 := { slot := 2, swath := some 0 }, lane1 := { swath := some 0 } }).jport 0
     x.lane1.swath = some 0) := by decide +kernel

/-- R273: the first block of a scrambler at rest leaves unchanged up to the first tap. -/
theorem test_scrambler : (({} : JetLane).send ⟨true, 0x1E#64⟩).bits % 2 ^ 41 = 0x1E * 4 + 2 := by decide +kernel

/-- MediaTracking: a preset in the cycle of a result and in another; a frame too early; a hand-over that misses, goes on and ends; a frame
begun at the other port; FSYNC in a cue of FDIV, in another and in WINGS; both ports good, one, none. -/
def result (clk : Nat) (f g : Option (Bool × Nat)) : State :=
  { tracking 2 id with clk := 7, mtrk := { due := true, last := { valid := true, clk := clk }, ports := [(0, { res := f }), (1, { res := g })] } }
theorem witness_results : (result 7 none none).mtrk.last.valid = true ∧ (result 7 none none).mtrk.last.clk = (result 7 none none).clk ∧
    (result 6 none none).mtrk.last.clk ≠ (result 6 none none).clk ∧ idle.mtrk.last.valid = false ∧
    ((tracking 2 fun x => { x with lastFe := some 0 }).mtrkPort 0).lastFe = some 0 ∧ (tracking 2 id).cue.time.toNat < 0 + 25000 ∧
    ((tracking 2 fun x => { x with pend := [(none, 5)], handOver := some ⟨[], [1], [1], 2, 0, 0⟩ }).mtrkPort 0).handOver.isSome = true ∧
    ((tracking 2 fun x => { x with handOver := some ⟨[], [1], [1], 1, 0, 0⟩ }).mtrkPort 0).handOver.any (fun h => h.left ≤ 1) = true ∧
    (let s := result 7 none (some (true, 9)); (s.mtrkPort 0).res = none ∧ (s.mtrkPort 0).pend = [] ∧ (s.mtrkPort 1).res = some (true, 9) ∧ s.mtrkRuns 0 = true) ∧
    (let s := put [(R.MTRK_CTRL_FSYNCEN, 1), (R.MTRK_CFG_FDIV, 2)] idle
     s.cueRuns = true ∧ s.sys.dev ≠ .wings ∧ s.cue.count.toNat % s.getF R.MTRK_CFG_FDIV = 0 ∧
      ({ s with cue := { s.cue with count := 1 } } : State).cue.count.toNat % s.getF R.MTRK_CFG_FDIV ≠ 0) ∧ wings.sys.dev = .wings ∧
    (∀ e ∈ [(some (true, 1), some (true, 1)), (some (true, 1), none), (none, some (false, 1))],
      ((result 7 e.1 e.2).mtrkPort 0).res = e.1 ∧ ((result 7 e.1 e.2).mtrkPort 1).res = e.2) := by decide +kernel

/-- LoopEngine: the slot's own cycle and another; a slot that reads another slot's output; a rehearsal at the slot; the PI law. -/
theorem witness_loop_cycles : (let s := slot5 id (.run .idle); s.cue.count.toNat * max 1 (s.getF R.LOOP_CTRL_SUB) % 2 ^ s.getF (R.LOOP_SCFG_DIV 5) = s.getF (R.LOOP_SCFG_DOFS 5)) ∧
    (let s := put [(R.LOOP_SCFG_DIV 5, 1), (R.LOOP_SCFG_DOFS 5, 1)] (slot5 id (.run .idle))
     s.cue.count.toNat * max 1 (s.getF R.LOOP_CTRL_SUB) % 2 ^ s.getF (R.LOOP_SCFG_DIV 5) ≠ s.getF (R.LOOP_SCFG_DOFS 5)) ∧
    (slot5 id (.run .idle)).slotType 5 ≠ 4 ∧ (slot5 id (.run .idle)).loop.rh.armed = false ∧ (slot5 id (.run .idle)).loop.rh.running = false ∧
    merase ((slot5 (fun x => { x with staged := [(3, 7)] }) .places).slot 5).staged 3 = [] ∧ selOk (fieldOf (0x60000000 : Word) 31 16) = true ∧
    ({ p := fun _ => 0, x := fun _ => 0, named := fun _ => false, r := 0, hi := 0, lo := 0, k6 := 0 } : RunIn).named 2 = false := by decide +kernel

/-- PwmUnits: a bit that is set and one that is not; a unit in a group; follower units; a load that is old enough and one of this cycle; a
compare at 16P; OUTM 1; a load point before b and after it; a reset with room for OUTL and without. -/
theorem witness_pwm_clauses : idle.getF (ldallBit 40) = 0 ∧ (put [(ldallBit 40, 1)] idle).getF (ldallBit 40) = 1 ∧ (0x100 : Word).getLsbD (40 - 32) = true ∧
    (unit12 20000 id).tripCur 12 = false ∧ (put [(R.PWM_STAT_TRIPPED 12, 1)] idle).stoodAt (R.PWM_STAT 12) (R.PWM_STAT_TRIPPED 12).lo = true ∧
    (idle.raise (R.PWM_STAT_TRIPPED 12)).stoodAt (R.PWM_STAT 12) (R.PWM_STAT_TRIPPED 12).lo = false ∧
    (∀ m < 48, ¬ (m ≠ 12 ∧ (unit12 20000 id).getF (R.PWM_CFG_SYNC m) ≠ 0)) ∧
    (let s := put [(R.PWM_CFG_SYNC 13, 1), (R.PWM_CFG_SYNCUNIT 13, 12), (R.PWM_STAT_RUN 13, 1)] (unit12 20000 id)
     s.getF (R.PWM_CFG_SYNC 13) ≠ 0 ∧ s.getF (R.PWM_CFG_SYNCUNIT 13) = 12 ∧ s.getF (R.PWM_STAT_RUN 13) ≠ 0) ∧
    (let s := { unit12 20000 (fun x => { x with load := true }) with cue := { time := 5 } }
     (s.pwmUnit 12).load = true ∧ s.getF (R.PWM_CFG_LDPT 12) ≠ 2 ∧ (s.pwmUnit 12).loadNs < s.cue.time.toNat) ∧
    ¬ (unit12 20000 fun x => { x with load := true }).cue.time.toNat > ((unit12 20000 fun x => { x with load := true }).pwmUnit 12).loadNs ∧
    (50000 ≤ 50000 ∧ 50000 ≠ 0 ∧ 50000 ≠ 0xFFFFF) ∧ (put [(R.PWM_CFG_OUTM 12, 1)] (unit12 20000 id)).getF (R.PWM_CFG_OUTM 12) ≠ 0 ∧
    (let s := { put [(R.PWM_CFG_LDPT 12, 2)] (unit12 20000 fun x => { x with load := true, plan := { b := 20000, outH := some (640, 20000) } }) with cue := { time := 1000 } }
     (s.pwmUnit 12).plan.a ≤ s.pwmHere 12 ∧ s.pwmHere 12 < (s.pwmUnit 12).plan.b ∧ (s.pwmUnit 12).loadNs + 2 ≤ s.cue.time.toNat ∧
      (s.pwmUnit 12).plan.b ≤ ({ s with cue := { time := 1250 } } : State).pwmHere 12) ∧
    (640 + 320 ≤ 16 * 3125 - 2000 ∧ 16 * 3125 - 49900 < 640 + 320) := by decide +kernel

/-- R346: a compare of 16P or more is clamped and shown. -/
theorem test_clamp : (after (.pwmPeriodStart 12) (unit12 50000 id)).getF (R.PWM_STAT_CMPCLAMP 12) = 1 := by decide +kernel

/-- AnalogueFrontEnd: a group still in its conversion, a slot about to sample the group, a channel whose clock does not arrive, a filter
that settles, one that samples the mains. -/
theorem witness_conversions : ((sampling fun x => { x with groups := [(2, { freeAt := 9 })] }).adcGroup 2).freeAt > (sampling id).clk ∧
    (idle.adcGroup 2).freeAt ≤ idle.clk ∧ idle.converts ∧ ¬ State.reset.converts ∧ (∀ k < 64, idle.slotRuns k = false) ∧
    (put [(R.AFE_DSCFG_CLKSRC 3, 1)] (sampling id)).getF (R.AFE_DSCFG_CLKSRC 3) ≠ 0 ∧ (sampling id).carries 6 7 5 = false ∧
    (sampling id).getF (R.AFE_DSCFG_CLKSRC 3) = 0 ∧ (sampling id).getF R.PBS_CTRL_EN = 0 ∧ (budget 0).getF R.PBS_CTRL_EN ≠ 0 ∧
    idle.getF (R.AFE_CMPCFG_EN 0) = 0 ∧ (put [(R.AFE_CMPCFG_EN 0, 1)] idle).getF (R.AFE_CMPCFG_EN 0) ≠ 0 ∧
    (0x80000000 : Word).getLsbD 31 = true ∧ (0 : Word).getLsbD 31 = false := by
  refine ⟨by decide +kernel, by decide +kernel, ?_, ?_, by decide +kernel⟩ <;> unfold State.converts <;> decide +kernel

/-- R373: a disabled comparator drives 0. -/
theorem test_disabled_comparator : (after (.tripInput 24 true) idle).cmpOut 0 = false ∧
    (after (.tripInput 24 true) (put [(R.AFE_CMPCFG_EN 0, 1)] idle)).cmpOut 0 = true := by decide +kernel

/-- Encoders: an interface that has not stood, one whose frame ends, one that is due a frame and one that is not. -/
theorem witness_serial : (enc3 2 fun x => { x with frame := true }).counts 3 ∧ 1 < (enc3 2 id).getF (R.ENC_CFG_MODE 3) ∧
    ((enc3 2 fun x => { x with frame := true, seen := 1 }).encUnit 3).seen < 2 ∧
    (let s := put [(R.ENC_SCFG_FDIV 3, 4)] (enc3 2 id); (s.encUnit 3).toFrame + 1 < s.getF (R.ENC_SCFG_FDIV 3)) ∧
    (let s := put [(R.ENC_SCFG_FDIV 3, 4)] (enc3 2 fun x => { x with toFrame := 3 }); s.getF (R.ENC_SCFG_FDIV 3) ≤ (s.encUnit 3).toFrame + 1) := by
  refine ⟨?_, by decide +kernel⟩
  unfold State.counts; decide +kernel

/-- EventsEnterTheCallBoard: an event of an earlier cycle, one of this cycle, a channel that has delivered in this cycle; a pulse that is
not over and one that is. -/
theorem witness_deliveries : (let s := { board 0x110 [⟨255, 0, false⟩] with clk := 1 }; ∀ e ∈ s.call.inflight, e.cycle < s.clk) ∧
    ¬ (board 0x110 [⟨255, 0, false⟩]).clk > 0 ∧
    (let s := { board 0x110 [] with call := { out := [(255, false)], outClk := 0 } }; s.call.outClk = s.clk ∧ s.call.out ≠ []) ∧
    idle.clk < mget 0 idle.call.evoutClk 3 + 4 ∧ mget 0 ({ idle with clk := 4 } : State).call.evoutClk 3 + 4 ≤ ({ idle with clk := 4 } : State).clk ∧
    (put [(⟨R.CALL_RUNAWAY 7, 31, 31⟩, 1)] idle).stoodAt (R.CALL_RUNAWAY 7) 31 = true := by decide +kernel

/-- DmaChannels: a port that has sent a beat in this cycle; an abort in the cycle of the last acknowledgement. -/
theorem witness_beat_cycles : (let s := { copying 1 id with dma := { (copying 1 id).dma with rdNext := [(3, 1)], wrNext := [(3, 1)] } }
      s.clk < mget 0 s.dma.rdNext 3 ∧ s.clk < mget 0 s.dma.wrNext 3) ∧ mget 0 (copying 1 id).dma.rdNext 3 ≤ (copying 1 id).clk ∧
    (let x := (copying 1 fun x => { x with abort := true, abortClk := 0, left := 1, wr := [(0x10000000, [1#8])] }).dch 63
     x.abort = true ∧ x.abortClk = (copying 1 id).clk ∧ x.left ≤ 1 ∧ x.dsc = none) := by decide +kernel
theorem witness_served : (copying 1 id).served 63 15 (copying 1 id).mayRead := by
  have only : ∀ k < 64, (copying 1 id).dmaState k = 1 → k = 63 := by decide +kernel
  refine ⟨?_, fun k hk hm => ?_⟩
  · unfold State.mayRead; decide +kernel
  · have := only k (by omega) hm.1
    subst this; exact Or.inr ⟨rfl, Nat.le_refl _⟩

/-- PinsAndSerialEngines: a pin that is parked for its switch; a locked pin with its own owner code; a master without the engine. -/
theorem witness_switch : ({ idle with gpio := { parked := [5] } } : State).gpio.parked.contains 5 = true ∧ 5 ∉ idle.gpio.parked ∧
    (fieldOf ((owned 3 idle).getReg (R.GPIO_PxOWN 7 3)) 31 28 = 3 ∧ fieldOf (0x30000000 : Word) 31 28 = 3) ∧
    (∀ n ∈ [0, 1, 2, 3], fieldOf (0x7FFFF : Word) 15 0 ≠ 0xC35A) ∧
    (let s := put [(R.GPIO_PCFG_FSEL 0 14, 8)] (serial 0 [0x100] []); s.carries 0 14 8 = true ∧ (0x100 : Word).getLsbD 8 = true) := by decide +kernel

/-- PowerBudgetAndJournal: inputs that a command of the same cycle has changed, and a node that is not the owner; rails lost while the
journal drains; each device state for ABANDON. -/
theorem witness_latch : (let s := (budget 0).setF R.PBS_HEAD_PHEAD 5
      R.PBS_HEAD ∈ latchInputs ∧ (mfind s.regs0 R.PBS_HEAD).getD (regReset R.PBS_HEAD) ≠ s.getReg R.PBS_HEAD) ∧
    (budget 0).getF R.PBS_SHARE_ROLE ≠ 1 ∧ (budget 1).getF R.PBS_SHARE_ROLE = 1 ∧
    (let s := { journal (fun j => { j with dirty := [3] }) with sys := { dev := .run .idle, railsDue := true } }; s.sys.railsDue = true ∧ 3 ∈ s.jrnl.dirty) ∧
    printing.sys.dev = .run .printing ∧ pausedRun.sys.dev = .run .paused ∧ idle.jrnlOrderList.head? = none := by decide +kernel

/-- R475: the last line written while the rails are lost leads to DARK. -/
theorem test_rails : (after (.cvLineWrite 3) (after .railsLost (journal fun j => { j with dirty := [3] }))).sys.dev = .dark := by decide +kernel

/-- ByrovFabric: a follower whose upstream port is taken away; a packet for another node; one that admits a node; blocks of no listed
type; a lock lost in UP. -/
theorem witness_fabric : (let s := { node 3 1 with cue := { disc := 2 } }; s.getF (R.BYR_PORT_UPSTR 1) ≠ 0 ∧ s.getF (R.BYR_PORT_LINK 1) = 3 ∧ s.cue.disc = 2) ∧
    (∀ b ∈ pktBlks 8515 8529 7 0 [2], b.ctl = true → b.payload.toNat % 256 = 0x4B ∧ b.payload.toNat / 2 ^ 46 = 8515 ∧ b.payload.toNat / 2 ^ 24 % 16 = 7) ∧
    (((pktBlks 8515 8529 7 0 [2]).tail.head?.map fun x => x.payload.toNat % 256) = some 2) ∧
    ((ctlBlk 0x99 0).ctl = true ∧ ¬ [0x1E, 0x2D, 0x33, 0x4B, 0x55, 0x66, 0x78, 0x87].contains ((ctlBlk 0x99 0).payload.toNat % 256)) ∧
    (node 2 0).getF (R.BYR_PORT_LINK 1) = 2 ∧ (node 3 0).getF (R.BYR_PORT_LINK 0) = 3 ∧
    ({ node 3 0 with byr := { members := [8515] } } : State).byr.members = [8515] ∧ idle.eccAt (0x10000000 + 1) ≠ 2 ∧
    idle.byrRoute 0 = none ∧ (put [(R.BYR_ADDR_ADDR, 8512)] idle).byrRoute 8515 = some 2 ∧ idle.byrRoute 64 = some 2 := by decide +kernel
theorem witness_other_way : ¬ (node 3 0).otherWay 2 ∧ ¬ (node 0 0).otherWay 0 := by
  refine ⟨fun h => h.1 rfl, fun h => absurd h.2.2 (by decide +kernel)⟩

/-- ImagesAndActivation: a packet that waits for the program store in RECOVERY, the last packet of a chunk, a bank whose manifest cannot
be read. -/
theorem witness_chunks : recovery.fls.op = none ∧ (operating 2 0x0200400000).fls.op ≠ none ∧ (1023 : Fin 1024).val = 1023 ∧ (0 : Fin 1024).val ≠ 1023 ∧
    (idle.manifestRead 1).2.isSome = true ∧ idle.actFree 1 ≠ none := by decide +kernel

/-- BlackBoxLifetimeAndSupply: a calendar set in this cycle; records of one cycle, firmware's before a module's; rails lost while the
journal drains. -/
theorem witness_supply : ({ idle with bbx := { calClk := some 0 } } : State).bbx.calClk = some idle.clk ∧ idle.bbx.calClk ≠ some idle.clk ∧
    (({ idle with bbxQueue := [⟨0x8001, [], 0, 0, 0⟩] } : State).queuedRecord 9 []).map (·.code) = [9, 0x8001] ∧
    (({ idle with bbxQueue := [⟨9, [], 0, 0, 0⟩] } : State).queuedRecord 0x8001 []).map (·.code) = [9, 0x8001] ∧
    (journal fun j => { j with dirty := [3] }).draining = true ∧ idle.sys.dev ≠ .dark := by decide +kernel

/-- SecondCueDoneIsIgnored: the pair can issue. -/
theorem witness_second_done_issues : places.canIssue (hartOfPair 3) = true ∧ ({ places with cue := { done := 8 } } : State).canIssue (hartOfPair 3) = true := by
  decide +kernel

/-! ## Checksums of chapters 03 and 18: the check values of CRC-32C and of the 16-bit CRC over "123456789" -/

def digits : List Byte := [0x31#8, 0x32#8, 0x33#8, 0x34#8, 0x35#8, 0x36#8, 0x37#8, 0x38#8, 0x39#8]
theorem test_crc32c_check : crc32cFull digits = 0xE3069283 := by decide +kernel
theorem test_crc16_check : crc16 0xFFFF digits = 0x29B1 := by decide +kernel

end Sys2Proof.Tests
end

section
/-!
# Registers on the bus: statements O25 and O26

A REGISTER_WRITE, an RC_COUNTER_READ and a SHADOWED_PAIR_READ each are one access in peripheral space. The lemmas go from
the address map over the row tables and the field types to one equation for each form of access; the two statements are
assembled from those.
-/

namespace Sys2Proof.Machine

/-! ## Commands as accesses -/

theorem exec_registerWrite (w : Writer) (addr : Addr) (v : Word) (s : State) :
    exec (.registerWrite w addr v) s =
      .next (if regionOf addr.toNat = .peripheral then s.write32 w addr.toNat v else s) := rfl

theorem exec_rcCounterRead (w : Writer) (addr : Addr) (inc : Nat) (s : State) :
    exec (.rcCounterRead w addr inc) s = .next (s.rcRead w addr.toNat inc) := rfl

theorem exec_shadowedPairRead (w : Writer) (addr : Addr) (s : State) :
    exec (.shadowedPairRead w addr) s = .next (s.read32 w addr.toNat) := rfl

/-! ## The address map and the row tables -/

/-- Peripheral space (R145). -/
def inPeripheral (a : Nat) : Prop := 0x40000000 ≤ a ∧ a < 0x41000000

theorem inPeripheral.regionOf_eq {a : Nat} (h : inPeripheral a) : regionOf a = .peripheral := by
  obtain ⟨hlo, hhi⟩ := h
  unfold regionOf
  repeat rw [if_neg (by omega)]
  rw [if_pos ⟨hlo, hhi⟩]

theorem inPeripheral.ownAlias_eq {a : Nat} (h : inPeripheral a) (n : Nat) : ownAlias n a = a :=
  if_neg (by unfold inPeripheral at h; omega)

/-- A core's second window on its own store is outside peripheral space: every master reaches the address it names. -/
theorem inPeripheral.physOf_eq {a : Nat} (h : inPeripheral a) (w : Writer) : physOf w a = a := by
  unfold physOf
  split
  · exact h.ownAlias_eq _
  · rfl

theorem mem_blockTable_of_blockOf {a : Nat} {b : Nat × List RegDesc} (h : blockOf a = some b) : b ∈ blockTable :=
  List.mem_of_find?_eq_some h

theorem blockTable_base_bounds : ∀ b ∈ blockTable, 0x40000000 ≤ b.1 ∧ b.1 + 0x10000 ≤ 0x41000000 := by decide +kernel

theorem inPeripheral_of_blockOf {a : Nat} {b : Nat × List RegDesc} (h : blockOf a = some b) : inPeripheral a := by
  have hb := blockTable_base_bounds b (mem_blockTable_of_blockOf h)
  have ha := List.find?_some h
  simp only [Bool.and_eq_true, decide_eq_true_eq] at ha
  unfold inPeripheral
  split at ha <;> omega

/-- An occupied address lies in a block, and its row is one of that block's. -/
theorem exists_blockOf_of_regAt {a i j : Nat} {d : RegDesc} (h : regAt a = some (d, i, j)) :
    ∃ b, blockOf a = some b ∧ d ∈ b.2 := by
  unfold regAt at h
  split at h
  · exact absurd h (by simp)
  · rename_i b hb
    obtain ⟨e, he, hmap⟩ := List.exists_of_findSome?_eq_some h
    obtain ⟨p, -, hp⟩ := Option.map_eq_some_iff.1 hmap
    exact ⟨b, hb, (Prod.mk.inj hp).1 ▸ he⟩

/-- Fields `f` and `g` share no bit. -/
abbrev FieldDesc.apart (f g : FieldDesc) : Prop := f.hi < g.lo ∨ g.hi < f.lo

/-- The fields of a row lie within the word and share no bit. -/
def RegDesc.disjointFields (d : RegDesc) : Prop := (∀ f ∈ d.fields, f.hi < 32) ∧ d.fields.Pairwise FieldDesc.apart

theorem blockTable_disjointFields : ∀ b ∈ blockTable, ∀ d ∈ b.2, d.disjointFields := by
  unfold RegDesc.disjointFields
  decide +kernel

/-! ## Field types by the bit (R11, R12) -/

/-- Whether bit `k` is one of field `f`. -/
def FieldDesc.covers (f : FieldDesc) (k : Nat) : Bool := decide (f.lo ≤ k) && decide (k ≤ f.hi)

theorem FieldDesc.covers_iff {f : FieldDesc} {k : Nat} : f.covers k = true ↔ f.lo ≤ k ∧ k ≤ f.hi := by
  simp [FieldDesc.covers]

theorem FieldDesc.apart.not_covers {f g : FieldDesc} (h : f.apart g) {k : Nat} (hf : f.covers k = true) : g.covers k = false := by
  rw [FieldDesc.covers_iff] at hf
  rw [← Bool.not_eq_true, FieldDesc.covers_iff]
  unfold FieldDesc.apart at h
  omega

theorem RegDesc.disjointFields.eq_of_covers {d : RegDesc} (hd : d.disjointFields) {f g : FieldDesc} (hf : f ∈ d.fields)
    (hg : g ∈ d.fields) {k : Nat} (hfk : f.covers k = true) (hgk : g.covers k = true) : f = g := by
  by_contra hne
  have hsymm : Std.Symm FieldDesc.apart := ⟨fun _ _ h => h.symm⟩
  have hap : f.apart g := hd.2.forall hf hg hne
  simp [hap.not_covers hfk] at hgk

/-- Whether bit `k` belongs to a field of type `ty`. -/
def hasBit (ty : FieldTy) (k : Nat) (l : List FieldDesc) : Bool := l.any fun f => decide (f.ty = ty) && f.covers k

@[simp] theorem hasBit_nil (ty : FieldTy) (k : Nat) : hasBit ty k [] = false := rfl

@[simp] theorem hasBit_cons (ty : FieldTy) (k : Nat) (f : FieldDesc) (l : List FieldDesc) :
    hasBit ty k (f :: l) = (decide (f.ty = ty) && f.covers k || hasBit ty k l) := List.any_cons

theorem hasBit_iff {ty : FieldTy} {k : Nat} {l : List FieldDesc} :
    hasBit ty k l = true ↔ ∃ f ∈ l, f.ty = ty ∧ f.covers k = true := by
  simp [hasBit]

/-- In a row whose fields share no bit, the field that covers a bit gives the bit its type. -/
theorem RegDesc.disjointFields.hasBit_eq {d : RegDesc} (hd : d.disjointFields) {f : FieldDesc} (hf : f ∈ d.fields) {k : Nat}
    (hk : f.covers k = true) (ty : FieldTy) : hasBit ty k d.fields = decide (f.ty = ty) := by
  rw [Bool.eq_iff_iff, hasBit_iff, decide_eq_true_iff]
  constructor
  · rintro ⟨g, hg, hgt, hgk⟩
    exact hd.eq_of_covers hf hg hk hgk ▸ hgt
  · exact fun ht => ⟨f, hf, ht, hk⟩

theorem maskOf_getLsbD_eq_covers {f : FieldDesc} (hf : f.hi < 32) (k : Nat) :
    (maskOf f.hi f.lo).getLsbD k = f.covers k := maskOf_getLsbD _ _ _ hf

theorem and_not_maskOf_getLsbD {f : FieldDesc} (hf : f.hi < 32) (w : Word) (k : Nat) :
    (w &&& ~~~ maskOf f.hi f.lo).getLsbD k = (w.getLsbD k && !f.covers k) := by
  rw [BitVec.getLsbD_and, BitVec.getLsbD_not, maskOf_getLsbD_eq_covers hf]
  by_cases h : k < 32
  · simp only [h, decide_true, Bool.true_and]
  · simp only [BitVec.getLsbD_of_ge w k (by omega), Bool.false_and]

/-- One field of a write: the covered bits act by the field's type, the others stay. -/
theorem fieldWrite_getLsbD {f : FieldDesc} (hf : f.hi < 32) (v w : Word) (k : Nat) :
    (fieldWrite false v w f).getLsbD k =
      if f.covers k then writtenBit f.ty (v.getLsbD k) (w.getLsbD k) true else w.getLsbD k := by
  have hm : (maskOf f.hi f.lo).getLsbD k = f.covers k := maskOf_getLsbD_eq_covers hf k
  have hput : ((w &&& ~~~ maskOf f.hi f.lo) ||| (v &&& maskOf f.hi f.lo)).getLsbD k =
      if f.covers k then v.getLsbD k else w.getLsbD k := by
    rw [BitVec.getLsbD_or, and_not_maskOf_getLsbD hf, BitVec.getLsbD_and, hm]
    cases f.covers k <;> simp
  unfold fieldWrite
  cases f.ty with
  | rw | rwl => exact hput
  | w1c =>
    by_cases h : k < 32
    · simp only [BitVec.getLsbD_and, BitVec.getLsbD_not, hm, h, writtenBit]
      cases f.covers k <;> simp
    · simp [BitVec.getLsbD_of_ge w k (by omega), writtenBit]
  | w1s =>
    rw [BitVec.getLsbD_or, BitVec.getLsbD_and, hm]
    cases f.covers k <;> simp [writtenBit]
  | ro | rc | wo => exact (ite_self _).symm

theorem foldl_fieldWrite_getLsbD_of_not_covers {l : List FieldDesc} {k : Nat} (hl : ∀ f ∈ l, f.hi < 32)
    (hk : ∀ f ∈ l, f.covers k = false) (v w : Word) : (l.foldl (fieldWrite false v) w).getLsbD k = w.getLsbD k := by
  induction l generalizing w with
  | nil => rfl
  | cons f t ih =>
    rw [List.forall_mem_cons] at hl hk
    rw [List.foldl_cons, ih hl.2 hk.2, fieldWrite_getLsbD hl.1, hk.1]
    rfl

theorem foldl_fieldWrite_getLsbD_of_mem {l : List FieldDesc} {k : Nat} (hl : ∀ f ∈ l, f.hi < 32)
    (hp : l.Pairwise FieldDesc.apart) {f : FieldDesc} (hf : f ∈ l) (hk : f.covers k = true) (v w : Word) :
    (l.foldl (fieldWrite false v) w).getLsbD k = writtenBit f.ty (v.getLsbD k) (w.getLsbD k) true := by
  induction l generalizing w with
  | nil => exact absurd hf List.not_mem_nil
  | cons g t ih =>
    rw [List.forall_mem_cons] at hl
    rw [List.pairwise_cons] at hp
    rw [List.foldl_cons]
    rcases List.mem_cons.1 hf with rfl | hft
    · rw [foldl_fieldWrite_getLsbD_of_not_covers hl.2 fun x hx => (hp.1 x hx).not_covers hk, fieldWrite_getLsbD hl.1,
        if_pos hk]
    · have hg : g.covers k = false := FieldDesc.apart.not_covers (hp.1 f hft).symm hk
      rw [ih hl.2 hp.2 hft, fieldWrite_getLsbD hl.1, hg]
      rfl

theorem foldl_w1cMask_getLsbD {l : List FieldDesc} (hl : ∀ f ∈ l, f.hi < 32) (m : Word) (k : Nat) :
    (l.foldl (fun m f => if f.ty = .w1c then m ||| maskOf f.hi f.lo else m) m).getLsbD k =
      (m.getLsbD k || hasBit .w1c k l) := by
  induction l generalizing m with
  | nil => rw [List.foldl_nil, hasBit_nil, Bool.or_false]
  | cons f t ih =>
    rw [List.forall_mem_cons] at hl
    rw [List.foldl_cons, ih hl.2, hasBit_cons]
    by_cases ht : f.ty = .w1c <;> simp [ht, maskOf_getLsbD_eq_covers hl.1, Bool.or_assoc]

theorem foldl_readClear_getLsbD {l : List FieldDesc} (hl : ∀ f ∈ l, f.hi < 32) (w : Word) (k : Nat) :
    (l.foldl (fun w f => if f.ty = .rc then w &&& ~~~ maskOf f.hi f.lo else w) w).getLsbD k =
      (w.getLsbD k && !hasBit .rc k l) := by
  induction l generalizing w with
  | nil => rw [List.foldl_nil, hasBit_nil, Bool.not_false, Bool.and_true]
  | cons f t ih =>
    rw [List.forall_mem_cons] at hl
    rw [List.foldl_cons, ih hl.2, hasBit_cons]
    by_cases ht : f.ty = .rc
    · rw [if_pos ht, and_not_maskOf_getLsbD hl.1, decide_eq_true ht, Bool.true_and, Bool.not_or, Bool.and_assoc]
    · rw [if_neg ht, decide_eq_false ht, Bool.false_and, Bool.false_or]

theorem foldl_rcIncrement_getLsbD {l : List FieldDesc} (hl : ∀ f ∈ l, f.hi < 32) (n w : Word) (k : Nat) :
    (l.foldl (fun w f => if f.ty = .rc then w ||| (n &&& maskOf f.hi f.lo) else w) w).getLsbD k =
      (w.getLsbD k || n.getLsbD k && hasBit .rc k l) := by
  induction l generalizing w with
  | nil => rw [List.foldl_nil, hasBit_nil, Bool.and_false, Bool.or_false]
  | cons f t ih =>
    rw [List.forall_mem_cons] at hl
    rw [List.foldl_cons, ih hl.2, hasBit_cons]
    by_cases ht : f.ty = .rc <;>
      simp [ht, maskOf_getLsbD_eq_covers hl.1, Bool.or_assoc, Bool.and_or_distrib_left]

theorem RegDesc.w1cMask_getLsbD {d : RegDesc} (hd : d.disjointFields) (k : Nat) :
    d.w1cMask.getLsbD k = hasBit .w1c k d.fields := by
  rw [RegDesc.w1cMask, foldl_w1cMask_getLsbD hd.1, BitVec.getLsbD_zero, Bool.false_or]

theorem typedReadClear_getLsbD {d : RegDesc} (hd : d.disjointFields) (w : Word) (k : Nat) :
    (typedReadClear d w).getLsbD k = (w.getLsbD k && !hasBit .rc k d.fields) := foldl_readClear_getLsbD hd.1 w k

theorem rcIncrement_getLsbD {d : RegDesc} (hd : d.disjointFields) (n k : Nat) :
    (rcIncrement d n).getLsbD k = ((BitVec.ofNat 32 n).getLsbD k && hasBit .rc k d.fields) := by
  rw [rcIncrement, foldl_rcIncrement_getLsbD hd.1, BitVec.getLsbD_zero, Bool.false_or]

/-! ## A write by field types -/

theorem fieldOf_congr {w x : Word} {hi lo : Nat} (h : ∀ k, lo ≤ k → k ≤ hi → w.getLsbD k = x.getLsbD k) :
    fieldOf w hi lo = fieldOf x hi lo := by
  apply Nat.eq_of_testBit_eq
  intro i
  rw [fieldOf_testBit, fieldOf_testBit]
  by_cases hi' : i < hi + 1 - lo
  · rw [h (lo + i) (by omega) (by omega)]
  · rw [decide_eq_false hi', Bool.false_and, Bool.false_and]

/-- No bit of a field that is apart from a register's field lies in it. -/
theorem FieldDesc.not_covers_of_apart {g : Fld} {f : FieldDesc} {a k : Nat} (h : g.apart ⟨a, f.hi, f.lo⟩) (ha : g.addr = a)
    (hlo : g.lo ≤ k) (hhi : k ≤ g.hi) : f.covers k = false := by
  rw [← Bool.not_eq_true, FieldDesc.covers_iff]
  unfold Fld.apart at h
  simp only [ha] at h
  omega

theorem State.setNow_getLsbD (s : State) (a : Nat) {k : Nat} (hk : k < 32) :
    (s.setNow a).getLsbD k = ((s.getReg a).getLsbD k && !s.stoodAt a k) := by
  rw [State.setNow, BitVec.getLsbD_and, BitVec.getLsbD_not, decide_eq_true hk, Bool.true_and, State.stoodAt]

/-- What a write by field types leaves in the register, bit by bit. The write proper clears every W1C bit written 1; R12 comes
from the mask that takes the bits set within the cycle out of the operand. -/
theorem State.writeTyped_getLsbD {d : RegDesc} (hd : d.disjointFields) {f : FieldDesc} (hf : f ∈ d.fields) {k : Nat}
    (hk : f.covers k = true) (s : State) (a : Nat) (v : Word) :
    ((s.writeTyped d a false v).getReg a).getLsbD k =
      writtenBit f.ty (v.getLsbD k) ((s.getReg a).getLsbD k) (s.stoodAt a k) := by
  have hk32 : k < 32 := Nat.lt_of_le_of_lt (FieldDesc.covers_iff.1 hk).2 (hd.1 f hf)
  have hw1c : d.w1cMask.getLsbD k = decide (f.ty = .w1c) := (RegDesc.w1cMask_getLsbD hd k).trans (hd.hasBit_eq hf hk .w1c)
  rw [State.writeTyped, State.getReg_setReg_same, typedWrite, foldl_fieldWrite_getLsbD_of_mem hd.1 hd.2 hf hk]
  simp only [BitVec.getLsbD_and, BitVec.getLsbD_not, hw1c, State.setNow_getLsbD s a hk32, hk32, decide_true, Bool.true_and]
  cases f.ty with
  | w1c => cases v.getLsbD k <;> cases (s.getReg a).getLsbD k <;> cases s.stoodAt a k <;> rfl
  | rw | rwl | w1s => simp [writtenBit]
  | ro | rc | wo => rfl

/-- A write by field types changes the fields of its register and nothing else. -/
theorem State.writeTyped_onlyFields {d : RegDesc} (hd : d.disjointFields) (s : State) (a : Nat) (v : Word) :
    s.onlyFields (s.writeTyped d a false v) (d.fields.map fun f => ⟨a, f.hi, f.lo⟩) := by
  refine ⟨rfl, fun g hg => ?_⟩
  rw [State.getF, State.getF, State.writeTyped, State.getReg_setReg]
  split
  · rename_i ha
    rw [ha]
    refine fieldOf_congr fun k hlo hhi => ?_
    refine foldl_fieldWrite_getLsbD_of_not_covers hd.1 (fun f hf => ?_) _ _
    exact FieldDesc.not_covers_of_apart (hg _ (List.mem_map_of_mem hf)) ha hlo hhi
  · rfl

/-- The blocks whose registers (but SYS_WDSVC) have no effect of their own: a write acts by the field types. -/
theorem State.regEffect_eq_writeTyped {b : Nat} {d : RegDesc}
    (h : b = baseSYS ∧ d.id ≠ .SYS_WDSVC ∨ b = baseDRC ∨ b = baseSEC) (s : State) (w : Writer) (i j a : Nat) (v : Word) :
    s.regEffect w b d i j a v = (s.writeTyped d a false v, true) := by
  rcases h with ⟨rfl, hid⟩ | rfl | rfl
  · have hsys : s.sysRegWrite w d a v = s.writeTyped d a false v := by
      unfold State.sysRegWrite
      split
      · exact absurd ‹_› hid
      · rfl
    exact (show s.regEffect w baseSYS d i j a v = (s.sysRegWrite w d a v, true) from rfl).trans (by rw [hsys])
  · rfl
  · rfl

/-! ## Register accesses by address (R10, R23, R24, R106, R146) -/

theorem natLE_bytesLE (n v : Nat) : natLE (bytesLE n v) = v % 256 ^ n := by
  induction n generalizing v with
  | zero => rw [Nat.pow_zero, Nat.mod_one]; rfl
  | succ n ih =>
    rw [bytesLE, natLE, ih, BitVec.toNat_ofNat, show 256 ^ (n + 1) = 256 * 256 ^ n from Nat.pow_succ', Nat.mod_mul]

theorem bytesLE_length (n v : Nat) : (bytesLE n v).length = n := by
  induction n generalizing v with
  | zero => rfl
  | succ n ih => rw [bytesLE, List.length_cons, ih]

/-- A word survives its way over the bus as four bytes. -/
theorem ofNat_natLE_bytesLE (v : Word) : BitVec.ofNat 32 (natLE (bytesLE 4 v.toNat)) = v := by
  rw [natLE_bytesLE, Nat.mod_eq_of_lt (show v.toNat < 256 ^ 4 from v.isLt), BitVec.ofNat_toNat, BitVec.setWidth_eq]

theorem exec_registerWrite_peripheral {addr : Addr} (hp : inPeripheral addr.toNat) (w : Writer) (v : Word) (s : State) :
    exec (.registerWrite w addr v) s = .next (s.write32 w addr.toNat v) := by
  rw [exec_registerWrite, if_pos hp.regionOf_eq]

theorem State.write32_of_not_acts {s : State} {w : Writer} (h : s.masterActs w = false) (a : Nat) (v : Word) :
    s.write32 w a v = s := by
  rw [State.write32, h]
  rfl

theorem State.write32_of_denied {s : State} {w : Writer} {a : Nat} (hact : s.masterActs w = true)
    (hden : s.deniedTo w (physOf w a) = true) (v : Word) :
    s.write32 w a v = s.accessFault w 0x11 true (BitVec.ofNat 40 a) := by
  rw [State.write32, hact, hden]
  rfl

/-- A write that TACC grants is what the bus makes of it; one that the bus does not take is a bus error of the master. -/
theorem State.write32_of_mayAccess {s : State} {w : Writer} {a : Nat} (h : s.mayAccess w a) (hp : inPeripheral a) (v : Word) :
    s.write32 w a v =
      let r := if a % 4 = 0 then s.regWrite w a v else (s, false)
      if r.2 then r.1 else r.1.accessFault w 0x10 true (BitVec.ofNat 40 a) := by
  rw [State.write32, h.1, h.2, hp.physOf_eq, State.busWrite, hp.regionOf_eq, bytesLE_length, ofNat_natLE_bytesLE]
  simp

theorem State.regWrite_of_no_block {a : Nat} (h : blockOf a = none) (s : State) (w : Writer) (v : Word) :
    s.regWrite w a v = (s, false) := by
  rw [State.regWrite, h]

theorem State.regWrite_of_unoccupied {a : Nat} {b : Nat × List RegDesc} (hb : blockOf a = some b) (hr : regAt a = none)
    (s : State) (w : Writer) (v : Word) : s.regWrite w a v = (s, true) := by
  rw [State.regWrite, hb, hr]

/-- A write to a register that stands: turned away where R22 to R24 do not accept it, else the register's effect. -/
theorem State.regWrite_of_present {a i j : Nat} {b : Nat × List RegDesc} {d : RegDesc} (hb : blockOf a = some b)
    (hr : regAt a = some (d, i, j)) (hp : regPresent d i = true) (s : State) (w : Writer) (v : Word) :
    s.regWrite w a v =
      if s.regAccepts w b.1 d.id then ((s.regEffect w b.1 d i j a v).1.settle, (s.regEffect w b.1 d i j a v).2)
      else (s, false) := by
  rw [State.regWrite, hb, hr]
  simp only [hp]
  cases s.regAccepts w b.1 d.id <;> rfl

/-- A granted read of a word is what the bus makes of it. -/
theorem State.read32_of_regRead {s t : State} {w : Writer} {a : Nat} {v : Word} (h : s.mayAccess w a) (hp : inPeripheral a)
    (ha : a % 4 = 0) (hr : s.regRead w a = some (v, t)) : s.read32 w a = t := by
  have hden : s.deniedTo w a = false := hp.physOf_eq w ▸ h.2
  simp only [State.read32, h.1, hp.physOf_eq, hden, State.busRead, hp.regionOf_eq, ha, hr, Bool.not_true, Bool.false_eq_true,
    if_false, and_self, if_true]

/-- A read of register `id` does nothing but fill the reader's shadows and clear RC fields, and does not come from a shadow. -/
def RegId.readsPlainly (id : RegId) : Prop :=
  shadowed id = false ∧ id ≠ .GPIO_PxIN ∧ id ≠ .GPIO_SERDAT ∧ id ≠ .HOST_TS0

/-- `s` after a plain read by `w` of the register of row `d` at `a`: the shadows filled (R45), the RC fields cleared (R11). -/
def State.plainRead (s : State) (w : Writer) (d : RegDesc) (a : Nat) : State :=
  { s with shadow := (shadowFill d.id).foldl (fun m o => mset m (shadowKey w (a + o)) (s.regLook (a + o))) s.shadow }.setReg a
    (typedReadClear d (s.getReg a))

theorem State.regRead_of_plain {a i j : Nat} {b : Nat × List RegDesc} {d : RegDesc} (hb : blockOf a = some b)
    (hr : regAt a = some (d, i, j)) (hp : regPresent d i = true) (hid : d.id.readsPlainly) (s : State) (w : Writer) :
    s.regRead w a = some (typedRead d (s.regValue b.1 d i a), (s.plainRead w d a).settle) := by
  obtain ⟨hsh, hin, hser, hts⟩ := hid
  rw [State.regRead, hb, hr]
  simp only [hp, hsh, hts, Bool.not_true, Bool.false_eq_true, if_false]
  rfl

theorem State.regRead_of_unoccupied {a : Nat} {b : Nat × List RegDesc} (hb : blockOf a = some b) (hr : regAt a = none)
    (s : State) (w : Writer) : s.regRead w a = some (0, s) := by
  rw [State.regRead, hb, hr]

theorem State.regRead_of_shadowed {a i j : Nat} {b : Nat × List RegDesc} {d : RegDesc} (hb : blockOf a = some b)
    (hr : regAt a = some (d, i, j)) (hp : regPresent d i = true) (hid : shadowed d.id = true) (s : State) (w : Writer) :
    s.regRead w a = some (typedRead d (mget 0 s.shadow (shadowKey w a)), s) := by
  rw [State.regRead, hb, hr]
  simp only [hp, hid, Bool.not_true, Bool.false_eq_true, if_false, if_true]

@[simp] theorem State.getReg_settle (s : State) (a : Nat) : s.settle.getReg a = s.getReg a := by
  obtain ⟨c, hc⟩ := s.settle_eq
  rw [hc]
  rfl

/-! ## REGISTER_WRITE (R9, R11, R23, R24, R106, R146) -/

theorem ofNat_toNat_addr (addr : Addr) : BitVec.ofNat 40 addr.toNat = addr := by
  rw [BitVec.ofNat_toNat, BitVec.setWidth_eq]

/-- A granted REGISTER_WRITE that is not aligned or reaches no block is a bus error. -/
theorem exec_registerWrite_of_no_register {s : State} {w : Writer} {addr : Addr} (hp : inPeripheral addr.toNat)
    (h : s.mayAccess w addr.toNat) (hno : addr.toNat % 4 ≠ 0 ∨ blockOf addr.toNat = none) (v : Word) :
    exec (.registerWrite w addr v) s = .next (s.accessFault w 0x10 true addr) := by
  have hbus : (if addr.toNat % 4 = 0 then s.regWrite w addr.toNat v else (s, false)) = (s, false) := by
    split
    · rename_i ha
      exact State.regWrite_of_no_block (hno.resolve_left (absurd ha)) s w v
    · rfl
  rw [exec_registerWrite_peripheral hp, State.write32_of_mayAccess h hp, hbus, ofNat_toNat_addr]
  rfl

/-- A granted REGISTER_WRITE to an unoccupied offset of a block changes nothing. -/
theorem exec_registerWrite_of_unoccupied {s : State} {w : Writer} {addr : Addr} {b : Nat × List RegDesc}
    (h : s.mayAccess w addr.toNat) (ha : addr.toNat % 4 = 0) (hb : blockOf addr.toNat = some b)
    (hr : regAt addr.toNat = none) (v : Word) : exec (.registerWrite w addr v) s = .next s := by
  have hp := inPeripheral_of_blockOf hb
  rw [exec_registerWrite_peripheral hp, State.write32_of_mayAccess h hp, if_pos ha, State.regWrite_of_unoccupied hb hr]
  rfl

section
variable {s : State} {w : Writer} {addr : Addr} {i j : Nat} {b : Nat × List RegDesc} {d : RegDesc}
  (h : s.mayAccess w addr.toNat) (ha : addr.toNat % 4 = 0) (hb : blockOf addr.toNat = some b)
  (hr : regAt addr.toNat = some (d, i, j)) (hpr : regPresent d i = true)
include h ha hb hr hpr

/-- A granted REGISTER_WRITE that R22 to R24 do not accept is a bus error. -/
theorem exec_registerWrite_of_not_accepted (hacc : s.regAccepts w b.1 d.id = false) (v : Word) :
    exec (.registerWrite w addr v) s = .next (s.accessFault w 0x10 true addr) := by
  have hp := inPeripheral_of_blockOf hb
  rw [exec_registerWrite_peripheral hp, State.write32_of_mayAccess h hp, if_pos ha,
    State.regWrite_of_present hb hr hpr, hacc, ofNat_toNat_addr]
  rfl

/-- An accepted REGISTER_WRITE whose effect the bus takes. -/
theorem exec_registerWrite_of_accepted (hacc : s.regAccepts w b.1 d.id = true) (v : Word) {u : State}
    (heff : s.regEffect w b.1 d i j addr.toNat v = (u, true)) :
    exec (.registerWrite w addr v) s = .next u.settle := by
  have hp := inPeripheral_of_blockOf hb
  rw [exec_registerWrite_peripheral hp, State.write32_of_mayAccess h hp, if_pos ha,
    State.regWrite_of_present hb hr hpr, hacc, heff]
  rfl

end

/-! ## RC_COUNTER_READ (R11, R12) -/

theorem disjointFields_of_regAt {a i j : Nat} {d : RegDesc} (h : regAt a = some (d, i, j)) : d.disjointFields := by
  obtain ⟨b, hb, hd⟩ := exists_blockOf_of_regAt h
  exact blockTable_disjointFields b (mem_blockTable_of_blockOf hb) d hd

theorem blockTable_rc_readsPlainly :
    ∀ b ∈ blockTable, ∀ d ∈ b.2, (∃ f ∈ d.fields, f.ty = .rc) → d.id.readsPlainly := by
  unfold RegId.readsPlainly
  decide +kernel

/-- `s` after a read of an RC register in whose cycle hardware counts `inc`. -/
def State.countedRead (s : State) (w : Writer) (d : RegDesc) (a inc : Nat) : State :=
  let t := (s.plainRead w d a).settle
  t.setReg a (t.getReg a ||| rcIncrement d inc)

theorem State.rcRead_eq_countedRead {s : State} {w : Writer} {a i j : Nat} {d : RegDesc} (ha : a % 4 = 0)
    (hr : regAt a = some (d, i, j)) (hpr : regPresent d i = true) (hrc : ∃ f ∈ d.fields, f.ty = .rc) (h : s.mayAccess w a)
    (inc : Nat) : s.rcRead w a inc = s.countedRead w d a inc := by
  obtain ⟨b, hb, hd⟩ := exists_blockOf_of_regAt hr
  have hplain := blockTable_rc_readsPlainly b (mem_blockTable_of_blockOf hb) d hd hrc
  have hread := State.read32_of_regRead h (inPeripheral_of_blockOf hb) ha (State.regRead_of_plain hb hr hpr hplain s w)
  rw [State.rcRead, hread, hr]
  simp only [h.1, h.2]
  rfl

theorem State.getReg_plainRead (s : State) (w : Writer) (d : RegDesc) (a k : Nat) :
    (s.plainRead w d a).getReg k = if k = a then typedReadClear d (s.getReg a) else s.getReg k :=
  State.getReg_setReg ..

/-- What an RC read leaves in its register: the increments of the cycle in the RC fields, every other bit as it was. -/
theorem State.countedRead_getLsbD {d : RegDesc} (hd : d.disjointFields) (s : State) (w : Writer) (a inc k : Nat) :
    ((s.countedRead w d a inc).getReg a).getLsbD k =
      if hasBit .rc k d.fields then (BitVec.ofNat 32 inc).getLsbD k else (s.getReg a).getLsbD k := by
  rw [State.countedRead, State.getReg_setReg_same, State.getReg_settle, State.getReg_plainRead, if_pos rfl,
    BitVec.getLsbD_or, typedReadClear_getLsbD hd, rcIncrement_getLsbD hd]
  cases hasBit .rc k d.fields <;> simp

theorem State.countedRead_getF_rc {d : RegDesc} (hd : d.disjointFields) (s : State) (w : Writer) (a inc : Nat) {f : FieldDesc}
    (hf : f ∈ d.fields) (ht : f.ty = .rc) :
    (s.countedRead w d a inc).getF ⟨a, f.hi, f.lo⟩ = fieldOf (BitVec.ofNat 32 inc) f.hi f.lo := by
  refine fieldOf_congr fun k hlo hhi => ?_
  have hrc : hasBit .rc k d.fields = true := hasBit_iff.2 ⟨f, hf, ht, FieldDesc.covers_iff.2 ⟨hlo, hhi⟩⟩
  rw [State.countedRead_getLsbD hd, if_pos hrc]

theorem State.countedRead_getF_apart {d : RegDesc} (hd : d.disjointFields) (s : State) (w : Writer) (a inc : Nat) {g : Fld}
    (hg : ∀ f ∈ d.fields, f.ty = .rc → g.apart ⟨a, f.hi, f.lo⟩) : (s.countedRead w d a inc).getF g = s.getF g := by
  by_cases ha : g.addr = a
  · refine fieldOf_congr fun k hlo hhi => ?_
    have hrc : hasBit .rc k d.fields = false := by
      rw [← Bool.not_eq_true, hasBit_iff]
      rintro ⟨f, hf, ht, hk⟩
      exact absurd hk (Bool.eq_false_iff.1 (FieldDesc.not_covers_of_apart (hg f hf ht) ha hlo hhi))
    rw [ha, State.countedRead_getLsbD hd, hrc]
    rfl
  · rw [State.getF, State.countedRead, State.getReg_setReg, if_neg ha, State.getReg_settle, State.getReg_plainRead,
      if_neg ha, State.getF]

/-! ## O25 -/

/-- Settles O25: the forms of a write above, and for a counter that clears on reading the read and the increments after it. -/
theorem registerWrites : Obligations.RegisterWrites := by
  unfold Obligations.RegisterWrites
  refine ⟨fun w addr v s => ?_, fun w addr inc s d i j => ?_⟩
  · intro a cmd hlo hhi
    have hp : inPeripheral addr.toNat := ⟨hlo, hhi⟩
    refine ⟨fun hact => ?_, fun hact hden => ?_, fun h hno => exec_registerWrite_of_no_register hp h hno v, ?_⟩
    · rw [exec_registerWrite_peripheral hp, State.write32_of_not_acts hact]
    · rw [exec_registerWrite_peripheral hp, State.write32_of_denied hact (by rwa [hp.physOf_eq]), ofNat_toNat_addr]
    · intro h ha b d i j hb hr hpr
      refine ⟨fun hacc => exec_registerWrite_of_not_accepted h ha hb hr hpr hacc v, fun hacc hblock => ?_⟩
      have hd := disjointFields_of_regAt hr
      refine ⟨s.writeTyped d a false v, ?_, State.writeTyped_onlyFields hd s a v, fun f hf k hlo hhi => ?_⟩
      · exact exec_registerWrite_of_accepted h ha hb hr hpr hacc v (State.regEffect_eq_writeTyped hblock ..)
      · exact State.writeTyped_getLsbD hd hf (FieldDesc.covers_iff.2 ⟨hlo, hhi⟩) s a v
  · intro a ha hr hpr hrc h
    have hd := disjointFields_of_regAt hr
    refine ⟨s.plainRead w d a, s.countedRead w d a inc, ?_, rfl, rfl, fun f hf ht => State.countedRead_getF_rc hd s w a inc hf ht,
      fun g hg => State.countedRead_getF_apart hd s w a inc hg⟩
    rw [exec_rcCounterRead, State.rcRead_eq_countedRead ha hr hpr hrc h]

/-! ## Shadows (R45) -/

theorem coreOf_injective {h k : Hart} (e : coreOf h = coreOf k) : h = k := by
  unfold coreOf at e
  apply Fin.ext
  split at e <;> split at e <;> omega

theorem shadowKey_inj {w x : Writer} {a b : Nat} (ha : a < 2 ^ 40) (hb : b < 2 ^ 40) (e : shadowKey w a = shadowKey x b) :
    w.num = x.num ∧ a = b := by
  unfold shadowKey at e
  omega

/-- The row of a register that is one read-only word. -/
def wordRow (id : RegId) (a : Nat) : RegDesc := ⟨id, a, 1, 0, 1, 0, [⟨31, 0, .ro, 0⟩]⟩

theorem typedRead_wordRow (id : RegId) (a : Nat) (v : Word) : typedRead (wordRow id a) v = v := by
  change 0#32 ||| (v &&& maskOf 31 0) = v
  rw [BitVec.zero_or, show maskOf 31 0 = BitVec.allOnes 32 from rfl, BitVec.and_allOnes]

theorem typedReadClear_wordRow (id : RegId) (a : Nat) (v : Word) : typedReadClear (wordRow id a) v = v := rfl

/-- A pair of counter words in CUE: a read of the low one, at `a`, fills the reader's shadow of the high one above it. -/
structure ShadowPair (lowId highId : RegId) (a : Nat) : Prop where
  aligned : a % 4 = 0
  lowBlock : blockOf a = some (baseCUE, regsCUE)
  highBlock : blockOf (a + 4) = some (baseCUE, regsCUE)
  lowRow : regAt a = some (wordRow lowId a, 0, 0)
  highRow : regAt (a + 4) = some (wordRow highId (a + 4), 0, 0)
  lowPresent : regPresent (wordRow lowId a) 0 = true
  highPresent : regPresent (wordRow highId (a + 4)) 0 = true
  lowPlain : lowId.readsPlainly
  lowFills : shadowFill lowId = [4]
  highShadowed : shadowed highId = true

theorem cueCount_shadowPair : ShadowPair .CUE_CNTL .CUE_CNTH R.CUE_CNTL :=
  ⟨rfl, rfl, rfl, rfl, rfl, rfl, rfl, ⟨rfl, by decide, by decide, by decide⟩, rfl, rfl⟩

theorem cueTime_shadowPair : ShadowPair .CUE_TIMEL .CUE_TIMEH R.CUE_TIMEL :=
  ⟨rfl, rfl, rfl, rfl, rfl, rfl, rfl, ⟨rfl, by decide, by decide, by decide⟩, rfl, rfl⟩

namespace ShadowPair
variable {lowId highId : RegId} {a : Nat} (p : ShadowPair lowId highId a) (s : State) (w : Writer)
include p

theorem read_low (h : s.mayAccess w a) : s.read32 w a = (s.plainRead w (wordRow lowId a) a).settle :=
  State.read32_of_regRead h (inPeripheral_of_blockOf p.lowBlock) p.aligned
    (State.regRead_of_plain p.lowBlock p.lowRow p.lowPresent p.lowPlain s w)

theorem regLook_high : s.regLook (a + 4) = s.cueRegRead highId (s.getReg (a + 4)) := by
  rw [State.regLook, p.highBlock, p.highRow]
  simp only [p.highPresent, if_true]
  rfl

theorem plainRead_shadow (k : Nat) : mget (0 : Word) (s.plainRead w (wordRow lowId a) a).shadow k =
    if k = shadowKey w (a + 4) then s.cueRegRead highId (s.getReg (a + 4)) else mget (0 : Word) s.shadow k := by
  have hsh : (s.plainRead w (wordRow lowId a) a).shadow =
      (shadowFill lowId).foldl (fun m o => mset m (shadowKey w (a + o)) (s.regLook (a + o))) s.shadow := rfl
  rw [hsh, p.lowFills, List.foldl_cons, List.foldl_nil, mget_mset, p.regLook_high]

theorem read_high : s.regRead w (a + 4) = some (mget (0 : Word) s.shadow (shadowKey w (a + 4)), s) := by
  rw [State.regRead_of_shadowed p.highBlock p.highRow p.highPresent p.highShadowed, typedRead_wordRow]

/-- A SHADOWED_PAIR_READ changes the reader's shadow of the high word, and nothing else. -/
theorem exec_shadowedPairRead (h : s.mayAccess w a) : ∃ u : State,
    exec (.shadowedPairRead w (BitVec.ofNat 40 a)) s = .next u.settle ∧
    u = { s with regs := u.regs, shadow := u.shadow } ∧ (∀ r, u.getReg r = s.getReg r) ∧
    ∀ k, mget (0 : Word) u.shadow k =
      if k = shadowKey w (a + 4) then s.cueRegRead highId (s.getReg (a + 4)) else mget (0 : Word) s.shadow k := by
  have ha : (BitVec.ofNat 40 a).toNat = a := by
    have := (inPeripheral_of_blockOf p.lowBlock).2
    rw [BitVec.toNat_ofNat]
    omega
  refine ⟨s.plainRead w (wordRow lowId a) a, ?_, rfl, fun r => ?_, p.plainRead_shadow s w⟩
  · rw [Machine.exec_shadowedPairRead, ha, p.read_low s w h]
  · rw [State.getReg_plainRead, typedReadClear_wordRow]
    split
    · rw [‹r = a›]
    · rfl

end ShadowPair

/-! ## O26 -/

/-- Settles O26: an unoccupied offset takes no access, each of the two pairs is a `ShadowPair`, and the shadows' keys differ by
master and register. -/
theorem unoccupiedOffsetsAndShadowedPairs : Obligations.UnoccupiedOffsetsAndShadowedPairs := by
  unfold Obligations.UnoccupiedOffsetsAndShadowedPairs
  refine ⟨fun w addr v s b ha hb hr => ⟨State.regRead_of_unoccupied hb hr s w, fun h => ?_⟩, fun w s => ?_,
    fun w x a b ha hb e => shadowKey_inj ha hb e, fun h k x y e => coreOf_injective e⟩
  · exact exec_registerWrite_of_unoccupied h ha hb hr v
  · rw [List.forall_mem_cons, List.forall_mem_singleton]
    exact ⟨⟨cueCount_shadowPair.exec_shadowedPairRead s w, cueCount_shadowPair.read_high s w⟩,
      cueTime_shadowPair.exec_shadowedPairRead s w, cueTime_shadowPair.read_high s w⟩

end Sys2Proof.Machine
end

section
/-!
# Device states, BOOT, supply: statements of the architecture chapter
-/
namespace Sys2Proof.Machine

/-! ## The reset state (O59) -/

theorem State.reset_wellKept : State.reset.wellKept :=
  ⟨rfl, by unfold State.regsWf; decide +kernel, Nat.zero_le _, Nat.zero_le _⟩

/-- SEC_KEYSTAT is the one register that reset leaves away from its table. -/
theorem State.reset_getReg {a : Nat} (h : a ≠ R.SEC_KEYSTAT) : State.reset.getReg a = regReset a := by
  have hf : mfind State.reset.regs a = none := if_neg (Ne.symm h)
  rw [State.getReg, hf]
  rfl

/-- Settles O59: the registers by `State.reset_getReg`, the rest by evaluating the reset state. -/
theorem resetState : Obligations.ResetState := by
  unfold Obligations.ResetState
  refine ⟨State.reset_wellKept, rfl, rfl, rfl, rfl, rfl, ?_, rfl, rfl, rfl, fun a ha => State.reset_getReg ha, ?_⟩
  · decide +kernel
  · decide +kernel

end Sys2Proof.Machine
end

section
/-!
# Which fields an operation changes
-/

namespace Sys2Proof.Machine

/-! ## Field writes and the fields apart from them -/

theorem State.getF_lt (s : State) (f : Fld) : s.getF f < 2 ^ (f.hi + 1 - f.lo) := Nat.mod_lt _ (Nat.two_pow_pos _)

theorem State.flag_eq_true_iff (s : State) (f : Fld) : s.flag f = true ↔ s.getF f ≠ 0 := by simp [State.flag]

/-- A field that is set to a value it has room for reads as that value. -/
theorem State.getF_setF_of_lt (s : State) {f : Fld} {v : Nat} (hlo : f.lo ≤ f.hi) (hhi : f.hi < 32)
    (hv : v < 2 ^ (f.hi + 1 - f.lo)) : (s.setF f v).getF f = v := by
  rw [State.getF_setF_same _ _ _ hlo hhi, Nat.mod_eq_of_lt hv]

theorem State.getF_setF_apart (s : State) {f g : Fld} (v : Nat) (hhi : g.hi < 32) (h : f.apart g) :
    (s.setF g v).getF f = s.getF f := State.getF_setF_other _ _ _ _ hhi h

theorem State.getReg_setF_of_ne (s : State) {a : Nat} {f : Fld} (v : Nat) (h : a ≠ f.addr) :
    (s.setF f v).getReg a = s.getReg a := by
  rw [State.getReg_setF, if_neg h]

theorem State.getF_modSys (s : State) (g : Sys → Sys) (f : Fld) : (s.modSys g).getF f = s.getF f := rfl

theorem State.flag_eq_decide (s : State) (f : Fld) : s.flag f = decide (s.getF f ≠ 0) := by
  rw [Bool.eq_iff_iff, State.flag_eq_true_iff, decide_eq_true_iff]

/-- A counter that counts one more saturates at the field's greatest value. -/
theorem State.getF_count (s : State) {f : Fld} (n : Nat) (hlo : f.lo ≤ f.hi) (hhi : f.hi < 32) :
    (s.count f n).getF f = min (s.getF f + n) (2 ^ (f.hi + 1 - f.lo) - 1) := by
  have := Nat.two_pow_pos (f.hi + 1 - f.lo)
  rw [State.count_eq, State.getF_setF_of_lt _ hlo hhi (by omega)]

/-- Setting a bit of a field that has room for it. -/
theorem State.getF_raiseBit (s : State) {f : Fld} {b : Nat} (hlo : f.lo ≤ f.hi) (hhi : f.hi < 32) (hb : b < f.hi + 1 - f.lo) :
    (s.raiseBit f b).getF f = s.getF f ||| 2 ^ b := by
  rw [State.raiseBit_eq, State.getF_setF_of_lt _ hlo hhi
    (Nat.or_lt_two_pow (s.getF_lt f) (Nat.pow_lt_pow_right (by decide) hb))]

theorem State.onlyFields_refl (s : State) (l : List Fld) : s.onlyFields s l := ⟨rfl, fun _ _ => rfl⟩

/-- One more field of the list is set. -/
theorem State.onlyFields.setF {s t : State} {l : List Fld} (h : s.onlyFields t l) {f : Fld} (hf : f ∈ l) (hhi : f.hi < 32)
    (v : Nat) : s.onlyFields (t.setF f v) l := by
  refine ⟨by rw [h.1]; rfl, fun g hg => ?_⟩
  rw [State.getF_setF_apart _ _ hhi (hg f hf), h.2 g hg]

/-! ## Black-box events (R535) -/

theorem bbxInsert_eq (r : BbxRec) (l : List BbxRec) :
    bbxInsert r l =
      l.takeWhile (fun x => decide (0x8000 ≤ r.code ∨ x.code < 0x8000 ∨ x.clk ≠ r.clk)) ++
        r :: l.dropWhile (fun x => decide (0x8000 ≤ r.code ∨ x.code < 0x8000 ∨ x.clk ≠ r.clk)) := by
  induction l with
  | nil => rfl
  | cons x t ih =>
    rw [bbxInsert, List.takeWhile_cons, List.dropWhile_cons]
    by_cases h : r.code < 0x8000 ∧ 0x8000 ≤ x.code ∧ x.clk = r.clk
    · have hd : ¬ (0x8000 ≤ r.code ∨ x.code < 0x8000 ∨ x.clk ≠ r.clk) := by omega
      rw [if_pos h, decide_eq_false hd]
      rfl
    · have hd : 0x8000 ≤ r.code ∨ x.code < 0x8000 ∨ x.clk ≠ r.clk := by omega
      rw [if_neg h, decide_eq_true hd, ih]
      rfl

theorem bbxInsert_length (r : BbxRec) (l : List BbxRec) : (bbxInsert r l).length = l.length + 1 := by
  rw [bbxInsert_eq, List.length_append, List.length_cons, ← Nat.add_assoc, ← List.length_append, List.takeWhile_append_dropWhile]

theorem State.queuedRecord_eq (s : State) (code : Nat) (data : List Word) :
    s.queuedRecord code data = (bbxInsert ⟨code, data, s.cue.count, s.cue.time, s.clk⟩ s.bbxQueue).take 16 := by
  rw [bbxInsert_eq]
  rfl

/-- An event that finds room in the queue. -/
theorem State.bbxEvent_of_room {s : State} (h : s.bbxQueue.length < 16) (code : Nat) (data : List Word) :
    s.bbxEvent code data = { s with bbxQueue := s.queuedRecord code data } := by
  have hl : (bbxInsert ⟨code, data, s.cue.count, s.cue.time, s.clk⟩ s.bbxQueue).length ≤ 16 := by
    rw [bbxInsert_length]
    omega
  rw [State.bbxEvent, if_pos hl, State.queuedRecord_eq, List.take_of_length_le hl]

/-- An event that finds the queue full. -/
theorem State.bbxEvent_of_full {s : State} (h : 16 ≤ s.bbxQueue.length) (code : Nat) (data : List Word) :
    s.bbxEvent code data =
      { (s.count R.BBX_STAT_LOST 1) with bbxQueue := s.queuedRecord code data, bbx := { s.bbx with lost := s.bbx.lost + 1 } } := by
  have hl : ¬ (bbxInsert ⟨code, data, s.cue.count, s.cue.time, s.clk⟩ s.bbxQueue).length ≤ 16 := by
    rw [bbxInsert_length]
    omega
  rw [State.bbxEvent, if_neg hl, State.queuedRecord_eq]

/-- What an event changes: the queue, and where that is full the count of lost records. -/
theorem State.bbxEvent_eq (s : State) (code : Nat) (data : List Word) :
    s.bbxEvent code data = { s with
      regs := (s.bbxEvent code data).regs, bbxQueue := s.queuedRecord code data
      bbx := { s.bbx with lost := s.bbx.lost + if s.bbxQueue.length < 16 then 0 else 1 } } := by
  by_cases h : s.bbxQueue.length < 16
  · rw [if_pos h, State.bbxEvent_of_room h]
    rfl
  · rw [if_neg h, State.bbxEvent_of_full (Nat.le_of_not_lt h)]
    rfl

theorem State.getF_bbxEvent_lost (s : State) (code : Nat) (data : List Word) :
    (s.bbxEvent code data).getF R.BBX_STAT_LOST =
      if s.bbxQueue.length < 16 then s.getF R.BBX_STAT_LOST else min (s.getF R.BBX_STAT_LOST + 1) 65535 := by
  by_cases h : s.bbxQueue.length < 16
  · rw [if_pos h, State.bbxEvent_of_room h]
    rfl
  · rw [if_neg h, State.bbxEvent_of_full (Nat.le_of_not_lt h)]
    exact s.getF_count 1 (by decide) (by decide)

theorem State.getF_bbxEvent_apart (s : State) (code : Nat) (data : List Word) {f : Fld} (h : f.apart R.BBX_STAT_LOST) :
    (s.bbxEvent code data).getF f = s.getF f := by
  by_cases hq : s.bbxQueue.length < 16
  · rw [State.bbxEvent_of_room hq]
    rfl
  · rw [State.bbxEvent_of_full (Nat.le_of_not_lt hq)]
    exact s.getF_setF_apart _ (by decide) h

end Sys2Proof.Machine
end

section
/-!
# Stores in PMEM
-/

namespace Sys2Proof.Machine

/-! ## Reading bytes -/

theorem State.rdBytes_eq_map (s : State) (a n : Nat) : s.rdBytes a n = (List.range n).map fun i => s.rd8 (a + i) := by
  induction n generalizing a with
  | zero => rfl
  | succ n ih =>
    rw [State.rdBytes, ih, List.range_succ_eq_map, List.map_cons, List.map_map]
    simp only [Function.comp_def, Nat.add_zero, Nat.succ_eq_add_one, Nat.add_right_comm, Nat.add_assoc]

theorem State.rdBytes_congr {s t : State} {a n : Nat} (h : ∀ b, a ≤ b → b < a + n → t.rd8 b = s.rd8 b) :
    t.rdBytes a n = s.rdBytes a n := by
  rw [State.rdBytes_eq_map, State.rdBytes_eq_map]
  refine List.map_congr_left fun i hi => h _ (Nat.le_add_right _ _) ?_
  have := List.mem_range.1 hi
  omega

theorem State.rdNat_congr {s t : State} {a n : Nat} (h : ∀ b, a ≤ b → b < a + n → t.rd8 b = s.rd8 b) :
    t.rdNat a n = s.rdNat a n := congrArg natLE (State.rdBytes_congr h)

/-- Bytes that a store has just put there, read back from offset `i` on. -/
theorem State.rdBytes_of_stored {s : State} {a i n : Nat} {l : List Byte} (hn : i + n ≤ l.length)
    (h : ∀ b, a ≤ b → b < a + l.length → s.rd8 b = l.getD (b - a) 0) : s.rdBytes (a + i) n = (l.drop i).take n := by
  rw [State.rdBytes_eq_map]
  refine List.ext_getElem (by simp; omega) fun j hj _ => ?_
  have hj' : j < n := by simpa using hj
  rw [List.getElem_map, List.getElem_range, h _ (by omega) (by omega), List.getElem_take, List.getElem_drop,
    List.getD_eq_getElem _ _ (by omega)]
  congr 1
  omega

/-- The `n`-byte number `v` stored as the middle part of a store. -/
theorem State.rdNat_of_stored {s : State} {a : Nat} (p q : List Byte) (n v : Nat) (hv : v < 256 ^ n)
    (h : ∀ b, a ≤ b → b < a + (p ++ bytesLE n v ++ q).length → s.rd8 b = (p ++ bytesLE n v ++ q).getD (b - a) 0) :
    s.rdNat (a + p.length) n = v := by
  have hlen : p.length + n ≤ (p ++ bytesLE n v ++ q).length := by
    simp only [List.length_append, bytesLE_length]
    omega
  rw [State.rdNat, State.rdBytes_of_stored hlen h, List.append_assoc, List.drop_left, List.take_left' (bytesLE_length n v),
    natLE_bytesLE, Nat.mod_eq_of_lt hv]

/-! ## Memory and the fields that a block's store changes (R164, R166) -/

theorem State.freshEcc_eq (s : State) (a n : Nat) : s.freshEcc a n = { s with ecc := (s.freshEcc a n).ecc } := by
  unfold State.freshEcc
  induction unitsOf a n generalizing s with
  | nil => rfl
  | cons u t ih =>
    rw [List.foldl_cons, ih]
    rfl

theorem State.wrBytes_eq (s : State) (a : Nat) (l : List Byte) : s.wrBytes a l = { s with mem := (s.wrBytes a l).mem } := by
  induction l generalizing s a with
  | nil => rfl
  | cons b t ih =>
    rw [State.wrBytes, ih]
    rfl

theorem State.putFresh_eq (s : State) (a : Nat) (l : List Byte) :
    s.putFresh a l = { s with mem := (s.putFresh a l).mem, ecc := (s.putFresh a l).ecc } := by
  rw [State.putFresh, State.wrBytes_eq, State.freshEcc_eq]

theorem State.rd8_putFresh (s : State) (a b : Nat) (l : List Byte) :
    (s.putFresh a l).rd8 b = if a ≤ b ∧ b < a + l.length then l.getD (b - a) 0 else s.rd8 b := by
  rw [State.putFresh, State.rd8_wrBytes, State.freshEcc_eq]
  rfl

theorem State.pmemStore_eq (s : State) (o : Nat) (l : List Byte) : s.pmemStore o l = { s with
    regs := (s.pmemStore o l).regs, mem := (s.pmemStore o l).mem, ecc := (s.pmemStore o l).ecc
    pmcQueue := (s.pmemStore o l).pmcQueue } := by
  rw [State.pmemStore, State.putFresh_eq]
  rfl

theorem State.rd8_pmemStore (s : State) (o b : Nat) (l : List Byte) :
    (s.pmemStore o l).rd8 b =
      if pmemBase + o ≤ b ∧ b < pmemBase + o + l.length then l.getD (b - (pmemBase + o)) 0 else s.rd8 b :=
  s.rd8_putFresh ..

theorem State.rd8_pmemStore_of_out (s : State) {o b : Nat} {l : List Byte}
    (h : ¬ (pmemBase + o ≤ b ∧ b < pmemBase + o + l.length)) : (s.pmemStore o l).rd8 b = s.rd8 b := by
  rw [State.rd8_pmemStore, if_neg h]

theorem State.getReg_pmemStore (s : State) (o : Nat) (l : List Byte) {a : Nat} (h : a ≠ R.PMC_STAT) :
    (s.pmemStore o l).getReg a = s.getReg a := by
  rw [State.pmemStore, State.pmemAccept, State.pmcShow, State.getReg_setF_of_ne _ _ h, State.putFresh_eq]
  rfl

theorem State.getF_pmemStore (s : State) (o : Nat) (l : List Byte) {f : Fld} (h : f.apart R.PMC_STAT_DEPTH) :
    (s.pmemStore o l).getF f = s.getF f := by
  rw [State.pmemStore, State.pmemAccept, State.pmcShow, State.getF_setF_apart _ _ (by decide) h, State.putFresh_eq]
  rfl

/-! ## Runs of stores -/

/-- `u` is `s` but for stores that blocks have made in PMEM. -/
def State.afterStores (s u : State) : Prop :=
  { s with mem := u.mem, ecc := u.ecc, pmcQueue := u.pmcQueue }.onlyFields u [R.PMC_STAT_DEPTH]

theorem State.afterStores_refl (s : State) : s.afterStores s := State.onlyFields_refl ..

theorem State.afterStores.store {s t : State} (h : s.afterStores t) (o : Nat) (l : List Byte) : s.afterStores (t.pmemStore o l) := by
  refine ⟨?_, fun f hf => ?_⟩
  · rw [t.pmemStore_eq, h.1]
  · rw [t.getF_pmemStore o l (hf _ List.mem_cons_self)]
    exact h.2 f hf

theorem State.afterStores.foldl {β : Type} {f : State → β → State} {s : State}
    (hf : ∀ t b, s.afterStores t → s.afterStores (f t b)) (l : List β) {t : State} (h : s.afterStores t) :
    s.afterStores (l.foldl f t) := by
  induction l generalizing t with
  | nil => exact h
  | cons b l ih => exact ih (hf t b h)

theorem State.afterStores.getF {s u : State} (h : s.afterStores u) {f : Fld} (hf : f.apart R.PMC_STAT_DEPTH) :
    u.getF f = s.getF f := h.2 f fun g hg => by rw [List.mem_singleton.1 hg]; exact hf

end Sys2Proof.Machine
end

section
/-!
# Counters kept in PMEM and the lifetime records
-/

namespace Sys2Proof.Machine

/-! ## Counters of 8 bytes -/

/-- `s` with the 8-byte counter at PMEM offset `e.1` changed by `g`, `e.2` being what has to be added. -/
def State.bump (g : Nat → Nat → Nat) (s : State) (e : Nat × Nat) : State :=
  s.pmemStore e.1 (bytesLE 8 (g (s.pmRd e.1 8) e.2))

/-- The counters at the offsets of a list do not overlap. -/
def countersApart (l : List (Nat × Nat)) : Prop := l.Pairwise fun e f => e.1 + 8 ≤ f.1 ∨ f.1 + 8 ≤ e.1

theorem State.pmRd_congr {s t : State} {o n : Nat} (h : ∀ b, pmemBase + o ≤ b → b < pmemBase + o + n → t.rd8 b = s.rd8 b) :
    t.pmRd o n = s.pmRd o n := State.rdNat_congr h

theorem State.pmRd_pmemStore_same (s : State) (o n v : Nat) (hv : v < 256 ^ n) : (s.pmemStore o (bytesLE n v)).pmRd o n = v := by
  refine State.rdNat_of_stored (a := pmemBase + o) [] [] n v hv fun b h1 h2 => ?_
  rw [List.nil_append, List.append_nil] at h2 ⊢
  rw [State.rd8_pmemStore, if_pos ⟨h1, h2⟩]

theorem State.pmRd_pmemStore_apart (s : State) {o x n : Nat} {l : List Byte} (h : o + l.length ≤ x ∨ x + n ≤ o) :
    (s.pmemStore o l).pmRd x n = s.pmRd x n :=
  State.pmRd_congr fun b h1 h2 => State.rd8_pmemStore_of_out s (by omega)

theorem State.rd8_foldl_bump (g : Nat → Nat → Nat) (l : List (Nat × Nat)) (s : State) {b : Nat}
    (h : ∀ e ∈ l, ¬ (pmemBase + e.1 ≤ b ∧ b < pmemBase + e.1 + 8)) : (l.foldl (State.bump g) s).rd8 b = s.rd8 b := by
  induction l generalizing s with
  | nil => rfl
  | cons e l ih =>
    rw [List.forall_mem_cons] at h
    rw [List.foldl_cons, ih _ h.2]
    exact State.rd8_pmemStore_of_out s (by rw [bytesLE_length]; exact h.1)

theorem State.pmRd_foldl_bump_apart (g : Nat → Nat → Nat) (l : List (Nat × Nat)) (s : State) {x n : Nat}
    (h : ∀ e ∈ l, e.1 + 8 ≤ x ∨ x + n ≤ e.1) : (l.foldl (State.bump g) s).pmRd x n = s.pmRd x n :=
  State.pmRd_congr fun b h1 h2 => State.rd8_foldl_bump g l s fun e he => by have := h e he; omega

/-- Each counter of the list is changed once. -/
theorem State.pmRd_foldl_bump {g : Nat → Nat → Nat} (hg : ∀ v n, g v n < 256 ^ 8) {l : List (Nat × Nat)} (hl : countersApart l)
    (s : State) {e : Nat × Nat} (he : e ∈ l) : (l.foldl (State.bump g) s).pmRd e.1 8 = g (s.pmRd e.1 8) e.2 := by
  induction l generalizing s with
  | nil => exact absurd he List.not_mem_nil
  | cons f l ih =>
    obtain ⟨hf, hl⟩ := List.pairwise_cons.1 hl
    rw [List.foldl_cons]
    rcases List.mem_cons.1 he with rfl | he
    · rw [State.pmRd_foldl_bump_apart g l _ fun k hk => (hf k hk).symm]
      exact State.pmRd_pmemStore_same s _ _ _ (hg _ _)
    · rw [ih hl _ he]
      have := hf e he
      rw [State.bump, State.pmRd_pmemStore_apart s (by rw [bytesLE_length]; omega)]

theorem State.afterStores.bumps {s t : State} (h : s.afterStores t) (g : Nat → Nat → Nat) (l : List (Nat × Nat)) :
    s.afterStores (l.foldl (State.bump g) t) := State.afterStores.foldl (fun _ _ ht => ht.store _ _) l h

/-! ## The lifetime records (R537) -/

/-- What a rewrite adds to a lifetime counter. -/
def lifeSum (v n : Nat) : Nat := (v + n) % 2 ^ 64

theorem lifeSum_lt (v n : Nat) : lifeSum v n < 256 ^ 8 := Nat.mod_lt _ (by decide)

theorem State.lifeAdd_eq_bump (s : State) (x n : Nat) : s.lifeAdd x n = s.bump lifeSum (lifeRec x, n) := rfl

/-- The counters of a rewrite `secs` seconds after the last one: travels, supply classes, operating time, missing half-cycles,
warnings. -/
def State.lifeTravels (s : State) : List (Nat × Nat) :=
  (List.range 8).map fun i => (lifeRec (0x1000 + 8 * i), (s.encUnit i).travel)

def State.lifeClasses (s : State) (secs : Nat) : List (Nat × Nat) :=
  (List.range 31).map fun k => (lifeRec (0x1040 + 8 * k), if s.getF (R.PBS_GNT_G (k + 1)) = 0 then 0 else secs)

def State.lifeTotals (s : State) (secs : Nat) : List (Nat × Nat) :=
  [(lifeRec 0x1200, secs), (lifeRec 0x1208, s.bbx.halves), (lifeRec 0x1210, s.bbx.warns)]

/-- A fold of stores whose increments come from what stores leave alone. -/
theorem State.afterStores.foldl_bump_map {s t : State} (h : s.afterStores t) (g : Nat → Nat → Nat) (o : Nat → Nat)
    (n : State → Nat → Nat) (hn : ∀ u i, s.afterStores u → n u i = n s i) (l : List Nat) :
    l.foldl (fun u i => u.bump g (o i, n u i)) t = (l.map fun i => (o i, n s i)).foldl (State.bump g) t := by
  induction l generalizing t with
  | nil => rfl
  | cons i l ih =>
    rw [List.foldl_cons, List.map_cons, List.foldl_cons, ← hn t i h]
    exact ih (h.store _ _)

theorem State.afterStores.enc {s u : State} (h : s.afterStores u) : u.enc = s.enc := by rw [h.1]

theorem State.afterStores.bbx {s u : State} (h : s.afterStores u) : u.bbx = s.bbx := by rw [h.1]

/-- Every counter that a rewrite changes. -/
def State.lifeCounters (s : State) (secs : Nat) : List (Nat × Nat) := s.lifeTravels ++ s.lifeClasses secs ++ s.lifeTotals secs

/-- `s` with the head of the lifetime records written: magic and boot count, calendar. -/
def State.lifeHead (s : State) : State :=
  (s.pmemStore (lifeRec 0) (bytesLE 4 0x4546494C ++ bytesLE 4 s.bbx.boots)).pmemStore (lifeRec 8) (bytesLE 8 s.calNow)

/-- `s` with its lifetime records as a rewrite leaves them. -/
def State.lifeStored (s : State) (secs : Nat) : State := (s.lifeCounters secs).foldl (State.bump lifeSum) s.lifeHead

/-- A unit of ENC whose travel has been taken over. -/
def EncUnit.travelled (u : EncUnit) : EncUnit := { u with travel := 0 }

/-- ENC with the travels of its units taken over. -/
def Enc.travelled (x : Enc) : Enc := { x with units := x.units.map fun e => (e.1, e.2.travelled) }

theorem State.afterStores_lifeHead (s : State) : s.afterStores s.lifeHead := (s.afterStores_refl.store _ _).store _ _

theorem State.afterStores_lifeStored (s : State) (secs : Nat) : s.afterStores (s.lifeStored secs) :=
  s.afterStores_lifeHead.bumps _ _

/-! Stores do not depend on the encoders. -/

/-- `s` with the encoders `x`. -/
def State.withEnc (s : State) (x : Enc) : State := { s with enc := x }

@[simp] theorem State.withEnc_bbx (s : State) (x : Enc) : (s.withEnc x).bbx = s.bbx := rfl

theorem State.freshEcc_withEnc (s : State) (x : Enc) (a n : Nat) : (s.withEnc x).freshEcc a n = (s.freshEcc a n).withEnc x := by
  unfold State.freshEcc
  induction unitsOf a n generalizing s with
  | nil => rfl
  | cons u l ih => exact ih (s.setEcc u 0)

theorem State.wrBytes_withEnc (s : State) (x : Enc) (a : Nat) (l : List Byte) :
    (s.withEnc x).wrBytes a l = (s.wrBytes a l).withEnc x := by
  induction l generalizing s a with
  | nil => rfl
  | cons b l ih => exact ih (s.wr8 a b) (a + 1)

theorem State.pmemStore_withEnc (s : State) (x : Enc) (o : Nat) (l : List Byte) :
    (s.withEnc x).pmemStore o l = (s.pmemStore o l).withEnc x := by
  rw [State.pmemStore, State.putFresh, State.freshEcc_withEnc, State.wrBytes_withEnc]
  rfl

theorem State.pmRd_withEnc (s : State) (x : Enc) (o n : Nat) : (s.withEnc x).pmRd o n = s.pmRd o n := State.pmRd_congr fun _ _ _ => rfl

theorem State.foldl_bump_withEnc (g : Nat → Nat → Nat) (l : List (Nat × Nat)) (t : State) (x : Enc) :
    l.foldl (State.bump g) (t.withEnc x) = (l.foldl (State.bump g) t).withEnc x := by
  induction l generalizing t with
  | nil => rfl
  | cons e l ih => rw [List.foldl_cons, List.foldl_cons, ← ih, State.bump, State.pmemStore_withEnc, State.pmRd_withEnc, State.bump]

theorem State.afterStores.withEnc {s t : State} (h : s.afterStores t) (x : Enc) : (s.withEnc x).afterStores (t.withEnc x) :=
  ⟨by rw [State.withEnc, State.withEnc, h.1], h.2⟩

/-- What supply class `k + 1` has been on for. -/
def State.grantTime (secs : Nat) (s : State) (k : Nat) : Nat := if s.flag (R.PBS_GNT_G (k + 1)) then secs else 0

theorem State.afterStores.grantTime {s u : State} (h : s.afterStores u) (secs k : Nat) : u.grantTime secs k = s.grantTime secs k := by
  have hne : (R.PBS_GNT_G (k + 1)).addr ≠ R.PMC_STAT_DEPTH.addr := by
    show 0x4080100C + 0x10 * (k + 1) ≠ 0x40C10004
    omega
  rw [State.grantTime, State.grantTime, State.flag, State.flag, h.getF (Or.inl hne)]

theorem State.lifeClasses_eq (s : State) (secs : Nat) :
    s.lifeClasses secs = (List.range 31).map fun k => (lifeRec (0x1040 + 8 * k), s.grantTime secs k) := by
  refine List.map_congr_left fun k _ => ?_
  rw [State.grantTime, State.flag_eq_decide]
  simp

theorem State.lifeTravels_stored (s : State) :
    (List.range 8).foldl (fun u i => u.lifeAdd (0x1000 + 8 * i) (u.encUnit i).travel) s.lifeHead =
      s.lifeTravels.foldl (State.bump lifeSum) s.lifeHead :=
  s.afterStores_lifeHead.foldl_bump_map lifeSum (fun i => lifeRec (0x1000 + 8 * i)) (fun u i => (u.encUnit i).travel)
    (fun u i hu => by rw [State.encUnit, hu.enc]; rfl) _

theorem State.lifeClasses_stored {s t : State} (h : s.afterStores t) (secs : Nat) (x : Enc) :
    (List.range 31).foldl (fun u k => u.lifeAdd (0x1040 + 8 * k) (u.grantTime secs k)) (t.withEnc x) =
      ((s.lifeClasses secs).foldl (State.bump lifeSum) t).withEnc x := by
  rw [← State.foldl_bump_withEnc, s.lifeClasses_eq]
  exact (h.withEnc x).foldl_bump_map lifeSum (fun k => lifeRec (0x1040 + 8 * k)) (State.grantTime secs)
    (fun u k hu => hu.grantTime secs k) _

theorem State.lifeTotals_stored {s t : State} (h : s.afterStores t) (secs : Nat) (x : Enc) :
    (((t.withEnc x).lifeAdd 0x1200 secs).lifeAdd 0x1208 t.bbx.halves).lifeAdd 0x1210 t.bbx.warns =
      ((s.lifeTotals secs).foldl (State.bump lifeSum) t).withEnc x := by
  rw [← State.foldl_bump_withEnc, h.bbx]
  simp only [State.lifeTotals, List.foldl_cons, List.foldl_nil, State.lifeAdd_eq_bump]

/-- A rewrite stores the records, and begins new counts of what it has stored. -/
theorem State.lifeRewrite_eq (s : State) (secs : Nat) :
    s.lifeRewrite secs = ((s.lifeStored secs).withEnc s.enc.travelled).modBbx fun b => { b with halves := 0, warns := 0 } := by
  have ht : s.afterStores (s.lifeTravels.foldl (State.bump lifeSum) s.lifeHead) := s.afterStores_lifeHead.bumps _ _
  have hc := ht.bumps lifeSum (s.lifeClasses secs)
  unfold State.lifeRewrite
  extract_lets s1 s2 s3 enc3 s4 s5 s6
  have hcal : s1.calNow = s.calNow := by rw [State.calNow, State.calNow, (s.afterStores_refl.store _ _).bbx]
  have h2 : s2 = s.lifeHead := by rw [State.lifeHead, ← hcal]
  have h3 : s3 = s.lifeTravels.foldl (State.bump lifeSum) s.lifeHead := by rw [← s.lifeTravels_stored, ← h2]; rfl
  rw [← h3] at ht hc
  have h4 : s4 = s3.withEnc s.enc.travelled := by rw [← ht.enc]; rfl
  have h5 : s5 = ((s.lifeClasses secs).foldl (State.bump lifeSum) s3).withEnc s.enc.travelled := by
    rw [← State.lifeClasses_stored ht, ← h4]
    rfl
  have h6 : s6 = (s.lifeStored secs).withEnc s.enc.travelled := by
    have hbbx : s5.bbx = ((s.lifeClasses secs).foldl (State.bump lifeSum) s3).bbx := by rw [h5, State.withEnc_bbx]
    rw [State.lifeStored, State.lifeCounters, List.foldl_append, List.foldl_append, ← h3, ← State.lifeTotals_stored hc, ← h5,
      ← hbbx]
  rw [h6]

/-! ## What a rewrite leaves -/

theorem mfind_map_val {α β : Type} (f : α → β) (m : SMap α) (k : Nat) :
    mfind (m.map fun e => (e.1, f e.2)) k = (mfind m k).map f := by
  induction m with
  | nil => rfl
  | cons e t ih =>
    simp only [List.map_cons, mfind, ih]
    split <;> rfl

theorem Enc.travelled_unit (x : Enc) (i : Nat) : mget {} x.travelled.units i = (mget {} x.units i).travelled := by
  rw [mget, Enc.travelled, mfind_map_val, mget]
  cases mfind x.units i <;> rfl

theorem lifeCounters_apart (s : State) (secs : Nat) : countersApart (s.lifeCounters secs) := by
  have hkeys : ((s.lifeCounters secs).map Prod.fst).Pairwise fun x y => x + 8 ≤ y ∨ y + 8 ≤ x := by
    have : (s.lifeCounters secs).map Prod.fst = (List.range 8).map (fun i => lifeRec (0x1000 + 8 * i)) ++
        (List.range 31).map (fun k => lifeRec (0x1040 + 8 * k)) ++ [lifeRec 0x1200, lifeRec 0x1208, lifeRec 0x1210] := by
      simp only [State.lifeCounters, State.lifeTravels, State.lifeClasses, State.lifeTotals, List.map_append, List.map_map,
        List.map_cons, List.map_nil]
      rfl
    rw [this]
    decide +kernel
  exact List.pairwise_map.1 hkeys

end Sys2Proof.Machine
end

section
/-!
# Watchdogs and the limit of a curtain
-/

namespace Sys2Proof.Machine

/-! ## WATCHDOG_SERVICE (R28) -/

/-- A service is a write of SYS_WDSVC. -/
theorem exec_watchdogService (w : Writer) (v : Word) (s : State) :
    exec (.watchdogService w v) s = exec (.registerWrite w (BitVec.ofNat 40 R.SYS_WDSVC) v) s := rfl

/-- A core that may not act services nothing. -/
theorem exec_watchdogService_of_not_acts {s : State} {w : Writer} (h : s.masterActs w = false) (v : Word) :
    exec (.watchdogService w v) s = .next s := congrArg Host.Outcome.next (State.write32_of_not_acts h _ v)

theorem exec_watchdogService_of_mayAccess {s : State} {h : Hart} {x : Word} (ha : s.mayAccess (.core h x) R.SYS_WDSVC) (v : Word) :
    exec (.watchdogService (.core h x) v) s = .next (s.wdService (planeOfHart h).num v).settle := by
  rw [exec_watchdogService]
  exact exec_registerWrite_of_accepted (b := (baseSYS, regsSYS)) (i := 0) (j := 0)
    (d := ⟨.SYS_WDSVC, R.SYS_WDSVC, 1, 0, 1, 0, [⟨15, 0, .wo, 0⟩]⟩) ha rfl rfl rfl rfl rfl v rfl

theorem State.wdPeriod_eq (s : State) (p : Nat) :
    s.wdPeriod p = if s.sys.dev = .boot ∨ s.sys.dev = .recovery then 2000000 else mget 0 s.sys.wdPeriodUs p := by
  unfold State.wdPeriod
  cases s.sys.dev <;> simp

theorem planeOfHart_num (h : Hart) : (planeOfHart h).num = if h.val < 4 then 0 else if h.val < 8 then 1 else 2 := by
  unfold planeOfHart
  split
  · rfl
  · split <;> rfl

theorem Plane.num_lt (pl : Plane) : pl.num < 3 := by cases pl <;> decide

/-- The right key reloads the watchdog. -/
theorem State.wdService_of_key {s : State} {v : Word} (h : fieldOf v 15 0 = 0xA5C3) (p : Nat) :
    s.wdService p v = { s with sys := { s.sys with wdRemainNs := mset s.sys.wdRemainNs p (1000 * s.wdPeriod p) } } := if_pos h

theorem State.wdService_of_bad_key {s : State} {v : Word} (h : fieldOf v 15 0 ≠ 0xA5C3) (p : Nat) :
    s.wdService p v = s.raiseBit R.SYS_WDSTAT_BADKEY p := if_neg h

/-! ## WATCHDOG_EXPIRY (R27, R28, R30) -/

theorem State.wdRuns_iff (s : State) (pl : Plane) :
    s.wdRuns pl.num = true ↔ s.paused = false ∧ s.sys.dev ≠ .dark ∧
      (pl.num ≠ 2 → s.inRun = true ∨ s.sys.dev = .places ∨ s.sys.dev = .curtain) := by
  unfold State.wdRuns State.inRun
  cases s.paused <;> cases s.sys.dev <;> simp

/-- What a watchdog that expires asks for. -/
def Sys.wdExpired (y : Sys) : Sys :=
  match y.dev with
  | .boot | .recovery => { y with resetDue := true }
  | .curtain => { y with follow := some (y.follow.getD .boot) }
  | _ => { y with faultDue := true, follow := some .boot }

theorem Sys.wdExpired_eq (y : Sys) :
    y.wdExpired = if y.dev = .boot ∨ y.dev = .recovery then { y with resetDue := true }
      else if y.dev = .curtain then { y with follow := some (y.follow.getD .boot) }
      else { y with faultDue := true, follow := some .boot } := by
  unfold Sys.wdExpired
  cases y.dev <;> simp

/-- `s` with the expiry of plane `p`'s watchdog shown and recorded. -/
def State.wdShown (s : State) (p : Nat) : State :=
  ((s.raiseBit R.SYS_WDSTAT_EXP p).raise R.SYS_CURTAIN_WDOG).bbxEvent 9 [BitVec.ofNat 32 p]

theorem State.wdShown_eq (s : State) (p : Nat) : s.wdShown p = { s with
    regs := (s.wdShown p).regs, bbxQueue := s.queuedRecord 9 [BitVec.ofNat 32 p]
    bbx := { s.bbx with lost := s.bbx.lost + if s.bbxQueue.length < 16 then 0 else 1 } } := State.bbxEvent_eq ..

theorem State.wdExpire_of_runs {s : State} {p : Nat} (h : s.wdRuns p = true) :
    s.wdExpire p = { s.wdShown p with sys := s.sys.wdExpired } := by
  have hs : (s.wdShown p).sys = s.sys := by rw [s.wdShown_eq]
  have he : s.wdExpire p = (s.wdShown p).modSys Sys.wdExpired := by
    simp only [State.wdExpire, h, Bool.not_true, Bool.false_eq_true, if_false, State.wdShown, State.modSys, Sys.wdExpired]
    cases (State.bbxEvent _ _ _).sys.dev <;> rfl
  rw [he, State.modSys, hs]

/-! ## CURTAIN_LIMIT (R35) -/

/-- `u` is `s` but for registers, PWM units and ramps. -/
def State.pwmOnly (s u : State) : Prop := u = { s with regs := u.regs, pwm := u.pwm, afe := { s.afe with ramps := u.afe.ramps } }

theorem State.pwmOnly.trans {s t u : State} (h : s.pwmOnly t) (k : t.pwmOnly u) : s.pwmOnly u := by
  unfold State.pwmOnly at *
  rw [k, h]

theorem State.pwmOnly.foldl {f : State → Nat → State} (hf : ∀ (s : State) n, s.pwmOnly (f s n)) (l : List Nat) (s : State) :
    s.pwmOnly (l.foldl f s) := by
  induction l generalizing s with
  | nil => rfl
  | cons n l ih => exact (hf s n).trans (ih _)

theorem State.pwmOnly.setF {s t : State} (h : s.pwmOnly t) (f : Fld) (v : Nat) : s.pwmOnly (t.setF f v) := by
  unfold State.pwmOnly at *
  rw [h]
  rfl

theorem State.pwmOnly.modUnit {s t : State} (h : s.pwmOnly t) (n : Nat) (f : PwmUnit → PwmUnit) : s.pwmOnly (t.modUnit n f) := by
  unfold State.pwmOnly at *
  rw [h]
  rfl

theorem State.pwmOnly.rampStop {s t : State} (h : s.pwmOnly t) (n : Nat) : s.pwmOnly (t.rampStop n) := by
  unfold State.pwmOnly at *
  rw [h]
  rfl

theorem State.pwmCount_pwmOnly (s : State) (n : Nat) (h l : Bool) : s.pwmOnly (s.pwmCount n h l) := by
  unfold State.pwmCount
  extract_lets p nh nl t
  have ht : s.pwmOnly t := rfl
  split
  · rfl
  · exact ((ht.setF _ _).setF _ _).setF _ _

theorem State.settleGroup_pwmOnly (s : State) (g : Nat) : s.pwmOnly (s.settleGroup g) := by
  unfold State.settleGroup
  split <;> rfl

theorem State.pwmPark_pwmOnly (s : State) (n : Nat) : s.pwmOnly (s.pwmPark n) := by
  have h : s.pwmOnly s := rfl
  exact (h.setF _ 1).modUnit n _

theorem State.pwmDisableUnit_pwmOnly (s : State) (n : Nat) : s.pwmOnly (s.pwmDisableUnit n) := by
  have hcount : s.pwmOnly (s.pwmCountTo n (s.pwmHere n)) := s.pwmCount_pwmOnly n _ _
  have hoff := ((hcount.setF (R.PWM_CTRL_EN n) 0).setF (R.PWM_STAT_JOINPEND n) 0).setF (R.PWM_STAT_RUN n) 0
  have hpark := hoff.trans (State.pwmPark_pwmOnly _ n)
  exact ((hpark.rampStop n).modUnit n _).trans (State.settleGroup_pwmOnly _ _)

theorem State.pwmOff_pwmOnly (s : State) (n : Nat) : s.pwmOnly (s.pwmOff n) := by
  unfold State.pwmOff
  split
  · rfl
  · exact s.pwmDisableUnit_pwmOnly n

/-- `s` with unit `n` disabled, if it is enabled. -/
def State.pwmOffIfOn (s : State) (n : Nat) : State := if s.flag (R.PWM_CTRL_EN n) then s.pwmOff n else s

theorem State.pwmDisableAll_eq (s : State) : s.pwmDisableAll = (List.range 48).foldl State.pwmOffIfOn s := rfl

theorem State.pwmDisableAll_pwmOnly (s : State) : s.pwmOnly s.pwmDisableAll := by
  refine State.pwmOnly.foldl (fun t n => ?_) _ s
  split
  · exact t.pwmOff_pwmOnly n
  · rfl

theorem State.getReg_pwmCount (s : State) (n : Nat) (h l : Bool) {a : Nat} (h1 : a ≠ R.PWM_DROPCNT n) (h2 : a ≠ R.PWM_STAT n) :
    (s.pwmCount n h l).getReg a = s.getReg a := by
  unfold State.pwmCount
  extract_lets p nh nl
  split
  · rfl
  · rw [State.raise_eq, State.count_eq, State.count_eq, State.getReg_setF_of_ne _ _ h2, State.getReg_setF_of_ne _ _ h1,
      State.getReg_setF_of_ne _ _ h1]
    rfl

theorem State.getReg_settleGroup (s : State) (g : Nat) {a : Nat} (h1 : a ≠ R.PWM_LDALL) (h2 : a ≠ R.PWM_LDALLH) :
    (s.settleGroup g).getReg a = s.getReg a := by
  unfold State.settleGroup
  split
  · rfl
  · refine State.getReg_setF_of_ne _ _ ?_
    unfold ldallBit
    split
    · exact h1
    · exact h2

@[simp] theorem State.getReg_modUnit (s : State) (n : Nat) (f : PwmUnit → PwmUnit) (a : Nat) :
    (s.modUnit n f).getReg a = s.getReg a := rfl

@[simp] theorem State.getReg_rampStop (s : State) (n a : Nat) : (s.rampStop n).getReg a = s.getReg a := rfl

theorem State.getReg_pwmPark (s : State) (n : Nat) {a : Nat} (h : a ≠ R.PWM_STAT n) : (s.pwmPark n).getReg a = s.getReg a :=
  State.getReg_setF_of_ne s _ h

/-- A unit that is disabled: of the registers but its status, counters and the load-all bits, its control register loses EN. -/
theorem State.getReg_pwmDisableUnit (s : State) (n : Nat) {a : Nat} (h1 : a ≠ R.PWM_DROPCNT n) (h2 : a ≠ R.PWM_STAT n)
    (h3 : a ≠ R.PWM_LDALL) (h4 : a ≠ R.PWM_LDALLH) :
    (s.pwmDisableUnit n).getReg a = if a = R.PWM_CTRL n then putField (s.getReg a) 0 0 0 else s.getReg a := by
  have hstat : R.PWM_CTRL n ≠ R.PWM_STAT n := by unfold R.PWM_CTRL R.PWM_STAT; omega
  have hdrop : R.PWM_CTRL n ≠ R.PWM_DROPCNT n := by unfold R.PWM_CTRL R.PWM_DROPCNT; omega
  rw [State.pwmDisableUnit, State.getReg_settleGroup _ _ h3 h4, State.getReg_modUnit, State.getReg_rampStop,
    State.getReg_pwmPark _ _ h2, State.lower_eq, State.lower_eq, State.lower_eq, State.getReg_setF_of_ne _ _ h2,
    State.getReg_setF_of_ne _ _ h2, State.pwmCountTo]
  by_cases h : a = R.PWM_CTRL n
  · subst h
    rw [if_pos rfl, State.getReg_setF, R.PWM_CTRL_EN, if_pos rfl, State.getReg_pwmCount _ _ _ _ h1 h2]
  · rw [if_neg h, State.getReg_setF_of_ne _ _ h, State.getReg_pwmCount _ _ _ _ h1 h2]

/-- Of the control registers and the freeze, disabling unit `n` changes EN of `n`. -/
theorem State.getReg_ctrl_pwmDisableUnit (s : State) (n m : Nat) :
    (s.pwmDisableUnit n).getReg (R.PWM_CTRL m) =
      if m = n then putField (s.getReg (R.PWM_CTRL m)) 0 0 0 else s.getReg (R.PWM_CTRL m) := by
  rw [State.getReg_pwmDisableUnit]
  · congr 1
    unfold R.PWM_CTRL
    apply propext
    omega
  all_goals
    unfold R.PWM_CTRL
  · unfold R.PWM_DROPCNT; omega
  · unfold R.PWM_STAT; omega
  · unfold R.PWM_LDALL; omega
  · unfold R.PWM_LDALLH; omega

theorem State.pwmFrozen_pwmDisableUnit (s : State) (n : Nat) : (s.pwmDisableUnit n).pwmFrozen = s.pwmFrozen := by
  have h : (s.pwmDisableUnit n).getReg R.PWM_GSTAT = s.getReg R.PWM_GSTAT := by
    rw [State.getReg_pwmDisableUnit, if_neg]
    all_goals
      unfold R.PWM_GSTAT
    · unfold R.PWM_CTRL; omega
    · unfold R.PWM_DROPCNT; omega
    · unfold R.PWM_STAT; omega
    · decide
    · decide
  rw [State.pwmFrozen, State.pwmFrozen, State.flag, State.flag, State.getF, State.getF, R.PWM_GSTAT_FROZEN, h]

/-- A unit that is not frozen is disabled at once. -/
theorem State.flag_en_pwmOffIfOn {s : State} (hs : s.pwmFrozen = false) (n m : Nat) :
    (s.pwmOffIfOn n).flag (R.PWM_CTRL_EN m) = (s.flag (R.PWM_CTRL_EN m) && decide (m ≠ n)) := by
  unfold State.pwmOffIfOn State.pwmOff
  rw [hs]
  by_cases hmn : m = n
  · subst hmn
    rw [decide_eq_false (not_not_intro rfl), Bool.and_false]
    split
    · rw [State.flag, State.getF, R.PWM_CTRL_EN, if_neg Bool.false_ne_true, State.getReg_ctrl_pwmDisableUnit, if_pos rfl,
        fieldOf_putField_same _ _ _ _ (Nat.le_refl _) (by decide)]
      rfl
    · exact Bool.eq_false_iff.2 ‹_›
  · rw [decide_eq_true hmn, Bool.and_true]
    split
    · rw [State.flag, State.getF, R.PWM_CTRL_EN, if_neg Bool.false_ne_true, State.getReg_ctrl_pwmDisableUnit, if_neg hmn]
      rfl
    · rfl

theorem State.pwmFrozen_pwmOffIfOn (s : State) (n : Nat) : (s.pwmOffIfOn n).pwmFrozen = s.pwmFrozen := by
  unfold State.pwmOffIfOn State.pwmOff
  split
  · split
    · rfl
    · exact s.pwmFrozen_pwmDisableUnit n
  · rfl

theorem State.flag_en_foldl_pwmOffIfOn {s : State} (hs : s.pwmFrozen = false) (l : List Nat) (m : Nat) :
    (l.foldl State.pwmOffIfOn s).flag (R.PWM_CTRL_EN m) = (s.flag (R.PWM_CTRL_EN m) && decide (m ∉ l)) := by
  induction l generalizing s with
  | nil => simp
  | cons n l ih =>
    rw [List.foldl_cons, ih (by rw [s.pwmFrozen_pwmOffIfOn, hs]), State.flag_en_pwmOffIfOn hs, Bool.and_assoc]
    simp only [List.mem_cons, not_or, Bool.decide_and]

/-- With the units frozen, disabling them waits for the end of the freeze (R353, R362). -/
theorem State.foldl_pwmOffIfOn_of_frozen {s : State} (hs : s.pwmFrozen = true) (l : List Nat) :
    l.foldl State.pwmOffIfOn s = { s with pwm := { s.pwm with
      deferred := s.pwm.deferred ++ (l.filter fun n => s.flag (R.PWM_CTRL_EN n)).map fun n => (R.PWM_CTRL n, none) } } := by
  induction l generalizing s with
  | nil => simp
  | cons n l ih =>
    have hn : s.pwmOffIfOn n = if s.flag (R.PWM_CTRL_EN n) then
        { s with pwm := { s.pwm with deferred := s.pwm.deferred ++ [(R.PWM_CTRL n, none)] } } else s := by
      rw [State.pwmOffIfOn, State.pwmOff, if_pos hs]
    rw [List.foldl_cons, List.filter_cons, hn]
    split
    · rw [ih (by exact hs)]
      simp only [List.map_cons, List.append_assoc]
      rfl
    · exact ih hs

/-! ## O31, the limit -/

theorem State.curtainForce_of_not_runs {s : State} (h : ¬ (s.sys.dev = .curtain ∧ s.sys.done = false ∧ s.sys.limitReached = false)) :
    s.curtainForce = s := by
  refine if_pos ?_
  simp only [Bool.or_eq_true, bne_iff_ne, ne_eq]
  grind

/-- `s` at the limit of its curtain. -/
def State.forced (s : State) : State :=
  (s.pwmDisableAll.raise R.SYS_CURTAIN_FORCED).modSys fun y =>
    { y with limitReached := true, elapsed := y.elapsed + (s.curtainLimitCycles - s.sys.elapsed),
             mainsElapsed := y.mainsElapsed.map (· + (s.curtainLimitCycles - s.sys.elapsed)) }

theorem State.curtainForce_of_runs {s : State} (hd : s.sys.dev = .curtain) (hc : s.sys.done = false)
    (hl : s.sys.limitReached = false) : s.curtainForce = s.forced := by
  rw [State.curtainForce, hd, hc, hl]
  rfl

theorem State.forced_eq (s : State) : s.forced = { s with
    regs := s.forced.regs, pwm := s.forced.pwm, afe := { s.afe with ramps := s.forced.afe.ramps }
    sys := { s.sys with
      limitReached := true, elapsed := s.sys.elapsed + (s.curtainLimitCycles - s.sys.elapsed)
      mainsElapsed := s.sys.mainsElapsed.map (· + (s.curtainLimitCycles - s.sys.elapsed)) } } := by
  have h : s.pwmOnly (s.pwmDisableAll.raise R.SYS_CURTAIN_FORCED) := s.pwmDisableAll_pwmOnly.setF _ _
  rw [State.pwmOnly] at h
  rw [State.forced, State.modSys, h]

theorem State.forced_en {s : State} (hs : s.getF R.PWM_GSTAT_FROZEN = 0) {n : Nat} (hn : n < 48) :
    s.forced.getF (R.PWM_CTRL_EN n) = 0 := by
  have hf : s.pwmFrozen = false := by simp [State.pwmFrozen, State.flag, hs]
  have hen := State.flag_en_foldl_pwmOffIfOn hf (List.range 48) n
  rw [← State.pwmDisableAll_eq, decide_eq_false (not_not_intro (List.mem_range.2 hn)), Bool.and_false] at hen
  have hap : (R.PWM_CTRL_EN n).apart R.SYS_CURTAIN_FORCED := Or.inl (by
    show 0x40100100 + 0x400 * n ≠ 0x40E00004
    omega)
  rw [State.forced, State.getF_modSys, State.raise_eq, State.getF_setF_apart _ 1 (by decide) hap]
  simpa [State.flag] using hen

theorem State.forced_shown (s : State) : s.forced.getF R.SYS_CURTAIN_FORCED = 1 := by
  rw [State.forced, State.getF_modSys, State.raise_eq, State.getF_setF_of_lt _ (by decide) (by decide) (by decide)]

theorem State.forced_deferred {s : State} (hs : s.getF R.PWM_GSTAT_FROZEN ≠ 0) :
    s.forced.pwm = { s.pwm with deferred := s.pwm.deferred ++
      ((List.range 48).filter fun n => s.getF (R.PWM_CTRL_EN n) ≠ 0).map fun n => (R.PWM_CTRL n, none) } := by
  have hf : s.pwmFrozen = true := (s.flag_eq_true_iff _).2 hs
  rw [State.forced, State.modSys_pwm, State.raise_eq, State.setF_pwm, State.pwmDisableAll_eq,
    State.foldl_pwmOffIfOn_of_frozen hf]
  simp only [State.flag_eq_decide]

end Sys2Proof.Machine
end

section
/-!
# The end of a curtain
-/

namespace Sys2Proof.Machine

/-! ## DROP in a curtain (R240) -/

theorem State.unhandle_eq (s : State) (u k t : Nat) : s.unhandle u k t = { s with drop := (s.unhandle u k t).drop } := by
  unfold State.unhandle
  split <;> rfl

/-- A fold of operations on DROP alone. -/
theorem foldl_drop {β : Type} (f : State → β → State) (hf : ∀ t b, f t b = { t with drop := (f t b).drop }) (l : List β) (s : State) :
    l.foldl f s = { s with drop := (l.foldl f s).drop } := by
  induction l generalizing s with
  | nil => rfl
  | cons b l ih => rw [List.foldl_cons, ih, hf s b]

theorem State.release_eq (s : State) (k : Nat) (gone : DropTile → Bool) :
    s.release k gone = { s with drop := (s.release k gone).drop } := by
  unfold State.release
  extract_lets out t
  split
  · rfl
  · rw [show t = _ from foldl_drop _ (fun t x => t.unhandle_eq x.uid k x.tile) out s]
    rfl

theorem State.releaseSwath_eq (s : State) (u : Nat) : s.releaseSwath u = { s with drop := (s.releaseSwath u).drop } :=
  foldl_drop _ (fun t e => t.release_eq e.1 _) _ s

theorem State.dropCurtain_eq (s : State) : s.dropCurtain = { s with drop := s.dropCurtain.drop } := by
  unfold State.dropCurtain
  extract_lets t
  rw [show t = _ from foldl_drop _ (fun t w => t.releaseSwath_eq w.uid) s.drop.q s]
  rfl

/-! ## The seal (R479) -/

/-- The PMEM offset of the seal of the present cue. -/
def State.sealOffset (s : State) : Nat := jrnlSeals + s.cue.count.toNat % 63488 * 64

/-- The swath that a seal names, and its smallest captured NEXT. -/
def State.sealSwath (s : State) : Nat × Nat :=
  match s.jrnl.opens.head? with
  | some p => (2 ^ 31 + p.1, s.minNext p.1)
  | none => (0, 0)

/-- The fields of a seal between its time and its kind. -/
def State.sealMiddle (s : State) : List Byte :=
  bytesLE 8 s.cue.last.toNat ++ bytesLE 4 s.sealSwath.1 ++ bytesLE 4 s.sealSwath.2 ++ bytesLE 4 (s.getF R.JRNL_LASTACC_SEQ) ++
    bytesLE 4 (s.getF R.JRNL_LASTRET_SEQ)

def State.sealBody (s : State) (final : Bool) : List Byte :=
  bytesLE 8 0x4A534C01 ++ bytesLE 8 s.cue.count.toNat ++ s.sealMiddle ++ bytesLE 4 final.toNat ++ bytesLE 16 0

def State.sealBytes (s : State) (final : Bool) : List Byte := s.sealBody final ++ bytesLE 4 (crc32cFull (s.sealBody final))

theorem State.sealMiddle_length (s : State) : s.sealMiddle.length = 24 := by
  simp only [State.sealMiddle, List.length_append, bytesLE_length]

theorem State.sealBytes_length (s : State) (final : Bool) : (s.sealBytes final).length = 64 := by
  simp only [State.sealBytes, State.sealBody, List.length_append, bytesLE_length, s.sealMiddle_length]

theorem State.sealWrite_eq (s : State) (final : Bool) :
    s.sealWrite final = (s.pmemStore s.sealOffset (s.sealBytes final)).setF R.JRNL_SEALCNT_CUE s.cue.count.toNat := by
  unfold State.sealWrite State.sealBytes State.sealBody State.sealMiddle State.sealOffset State.sealSwath
  simp only [List.append_assoc] <;> rfl

theorem State.finalSeal_eq (s : State) : s.finalSeal =
    (s.sealWrite true).modSys fun y => { y with resumeP := y.resumeP || !s.jrnl.opens.isEmpty } := by
  have hj : (s.sealWrite true).jrnl = s.jrnl := by rw [State.sealWrite_eq, State.setF_jrnl, State.pmemStore_eq]
  simp only [State.finalSeal, hj]
  generalize s.sealWrite true = t
  cases s.jrnl.opens.isEmpty
  · simp only [Bool.false_eq_true, if_false, Bool.not_false, Bool.or_true]
  · simp only [if_true, Bool.not_true, Bool.or_false]
    rfl

/-! ## FINAL_SEAL (R34, R479) -/

theorem State.curtainEnd_of_not_ends {s : State} (h : ¬ (s.sys.dev = .curtain ∧ s.sys.done = false ∧ s.draining = false ∧
    (s.curtainSteps = true ∨ s.sys.limitReached = true))) : s.curtainEnd = s := by
  refine if_pos ?_
  simp only [Bool.or_eq_true, Bool.not_eq_true', bne_iff_ne, ne_eq, Bool.or_eq_false_iff]
  grind

/-- `s` with step 1 of its curtain cut short, if a column is still being emitted. -/
def State.emissionCut (s : State) : State :=
  if s.sys.emitting then ((s.modSys fun y => { y with emitting := false }).dropCurtain).jrnlCurtain else s

/-- `s` with its FINAL seal and lifetime records written, and the curtain done. -/
def State.curtainSealed (s : State) : State := (s.finalSeal.lifeRewrite 0).modSys fun y => { y with done := true }

theorem State.curtainEnd_of_ends {s : State} (hd : s.sys.dev = .curtain) (hc : s.sys.done = false) (hj : s.draining = false)
    (hs : s.curtainSteps = true ∨ s.sys.limitReached = true) : s.curtainEnd =
      s.emissionCut.curtainSealed.bbxEvent 3
        [s.emissionCut.curtainSealed.getReg R.SYS_CURTAIN, BitVec.ofNat 32 (s.emissionCut.curtainSealed.sys.elapsed / 400)] := by
  have hcond : (s.curtainSteps || s.sys.limitReached) = true := by simpa using hs
  unfold State.curtainEnd
  rw [if_neg (by simp only [hd, hc, hj, hcond]; decide)]
  extract_lets a b
  have ha : a = s.emissionCut := rfl
  have hb : b = a.curtainSealed := rfl
  rw [hb, ha]

theorem State.emissionCut_eq (s : State) : s.emissionCut = { s with
    drop := s.emissionCut.drop, jrnl := s.emissionCut.jrnl, sys := { s.sys with emitting := false } } := by
  unfold State.emissionCut
  split
  · unfold State.jrnlCurtain State.modJrnl
    rw [State.dropCurtain_eq]
    rfl
  · have h : s.sys.emitting = false := Bool.eq_false_iff.2 ‹_›
    rw [← h]

theorem State.emissionCut_of_not_emitting {s : State} (h : s.sys.emitting = false) : s.emissionCut = s := by
  rw [State.emissionCut, h]
  rfl

theorem State.emissionCut_opens (s : State) : s.emissionCut.jrnl.opens.isEmpty = s.jrnl.opens.isEmpty := by
  unfold State.emissionCut
  split
  · rw [State.dropCurtain_eq]
    exact List.isEmpty_map
  · rfl

theorem State.finalSeal_onlySeal (s : State) : s.finalSeal = { s with
    regs := s.finalSeal.regs, mem := s.finalSeal.mem, ecc := s.finalSeal.ecc, pmcQueue := s.finalSeal.pmcQueue
    sys := { s.sys with resumeP := s.sys.resumeP || !s.jrnl.opens.isEmpty } } := by
  have h := s.pmemStore_eq s.sealOffset (s.sealBytes true)
  rw [State.finalSeal_eq, State.sealWrite_eq]
  generalize s.pmemStore s.sealOffset (s.sealBytes true) = t at h
  rw [h]
  rfl

end Sys2Proof.Machine
end

section
/-!
# What an expiry and the end of a curtain leave: statement O31
-/

namespace Sys2Proof.Machine

/-! ## What FINAL_SEAL leaves -/

/-- Below the lifetime records a rewrite changes no byte. -/
theorem State.rd8_lifeStored_of_below (s : State) (secs : Nat) {b : Nat} (h : b < pmemBase + lifeRec 0) :
    (s.lifeStored secs).rd8 b = s.rd8 b := by
  have hl : ∀ e ∈ s.lifeCounters secs, lifeRec 0 ≤ e.1 := by
    unfold lifeRec
    simp only [State.lifeCounters, State.lifeTravels, State.lifeClasses, State.lifeTotals, lifeRec, List.forall_mem_append,
      List.forall_mem_map, List.forall_mem_cons]
    simp
  rw [State.lifeStored, State.rd8_foldl_bump _ _ _ fun e he => by have := hl e he; omega, State.lifeHead,
    State.rd8_pmemStore_of_out _ (by unfold lifeRec at *; omega), State.rd8_pmemStore_of_out _ (by omega)]

/-- What sealing changes outside the seal's own blocks. -/
theorem State.curtainSealed_eq (s : State) : s.curtainSealed = { s with
    regs := s.curtainSealed.regs, mem := s.curtainSealed.mem, ecc := s.curtainSealed.ecc, pmcQueue := s.curtainSealed.pmcQueue
    enc := s.curtainSealed.enc, bbx := s.curtainSealed.bbx
    sys := { s.sys with done := true, resumeP := s.sys.resumeP || !s.jrnl.opens.isEmpty } } := by
  have hl := (s.finalSeal.afterStores_lifeStored 0).1
  have hf := s.finalSeal_onlySeal
  rw [State.curtainSealed, State.lifeRewrite_eq]
  generalize s.finalSeal.lifeStored 0 = t at hl
  generalize s.finalSeal = f at hf hl
  rw [hl, hf]
  rfl

theorem State.rd8_modSys (s : State) (f : Sys → Sys) (b : Nat) : (s.modSys f).rd8 b = s.rd8 b := rfl

theorem State.rd8_modBbx (s : State) (f : Bbx → Bbx) (b : Nat) : (s.modBbx f).rd8 b = s.rd8 b := rfl

theorem State.rd8_withEnc (s : State) (x : Enc) (b : Nat) : (s.withEnc x).rd8 b = s.rd8 b := rfl

theorem State.rd8_setF (s : State) (f : Fld) (v b : Nat) : (s.setF f v).rd8 b = s.rd8 b := rfl

theorem State.rd8_curtainSealed_of_below (s : State) {b : Nat} (h : b < pmemBase + lifeRec 0) :
    s.curtainSealed.rd8 b = (s.pmemStore s.sealOffset (s.sealBytes true)).rd8 b := by
  calc s.curtainSealed.rd8 b = (s.finalSeal.lifeStored 0).rd8 b := by
        rw [State.curtainSealed, State.lifeRewrite_eq, State.rd8_modSys, State.rd8_modBbx, State.rd8_withEnc]
    _ = s.finalSeal.rd8 b := State.rd8_lifeStored_of_below _ 0 h
    _ = _ := by rw [State.finalSeal_eq, State.sealWrite_eq, State.rd8_modSys, State.rd8_setF]

/-- The seal's bytes stand in PMEM after a curtain's end. -/
theorem State.rd8_sealed (s : State) {b : Nat} (h1 : pmemBase + s.sealOffset ≤ b)
    (h2 : b < pmemBase + s.sealOffset + (s.sealBytes true).length) :
    s.curtainSealed.rd8 b = (s.sealBytes true).getD (b - (pmemBase + s.sealOffset)) 0 := by
  have hb : b < pmemBase + lifeRec 0 := by
    rw [State.sealBytes_length] at h2
    unfold State.sealOffset jrnlSeals jrnlBase at h2
    unfold lifeRec
    have := Nat.mod_lt s.cue.count.toNat (show 63488 > 0 by decide)
    omega
  rw [State.rd8_curtainSealed_of_below s hb, State.rd8_pmemStore, if_pos ⟨h1, h2⟩]

theorem State.sealed_count (s : State) : s.curtainSealed.rdNat (pmemBase + s.sealOffset + 8) 8 = s.cue.count.toNat := by
  have hv : s.cue.count.toNat < 256 ^ 8 := by
    have := s.cue.count.isLt
    omega
  have hl : (bytesLE 8 0x4A534C01).length = 8 := bytesLE_length ..
  have hb : s.sealBytes true = bytesLE 8 0x4A534C01 ++ bytesLE 8 s.cue.count.toNat ++
      (s.sealMiddle ++ bytesLE 4 1 ++ bytesLE 16 0 ++ bytesLE 4 (crc32cFull (s.sealBody true))) := by
    rw [State.sealBytes, State.sealBody]
    simp only [List.append_assoc, Bool.toNat_true]
  rw [← hl]
  exact State.rdNat_of_stored _ _ 8 _ hv fun b h1 h2 => by rw [← hb] at h2 ⊢; exact s.rd8_sealed h1 h2

theorem State.sealed_final (s : State) : s.curtainSealed.rdNat (pmemBase + s.sealOffset + 40) 4 = 1 := by
  have hb : s.sealBytes true = (bytesLE 8 0x4A534C01 ++ bytesLE 8 s.cue.count.toNat ++ s.sealMiddle) ++ bytesLE 4 1 ++
      (bytesLE 16 0 ++ bytesLE 4 (crc32cFull (s.sealBody true))) := by
    rw [State.sealBytes, State.sealBody]
    simp only [List.append_assoc, Bool.toNat_true]
  have hl : (bytesLE 8 0x4A534C01 ++ bytesLE 8 s.cue.count.toNat ++ s.sealMiddle).length = 40 := by
    simp only [List.length_append, bytesLE_length, State.sealMiddle_length]
  rw [← hl]
  exact State.rdNat_of_stored _ _ 4 1 (by decide) fun b h1 h2 => by rw [← hb] at h2 ⊢; exact s.rd8_sealed h1 h2

theorem State.rdNat_bbxEvent (s : State) (code : Nat) (data : List Word) (a n : Nat) :
    (s.bbxEvent code data).rdNat a n = s.rdNat a n :=
  State.rdNat_congr fun b _ _ => by rw [State.bbxEvent_eq]; rfl

/-- The end of a curtain, emission cut, seal and event together. -/
theorem State.curtainEnd_eq_of_ends {s : State} (hd : s.sys.dev = .curtain) (hc : s.sys.done = false) (hj : s.draining = false)
    (hs : s.curtainSteps = true ∨ s.sys.limitReached = true) : s.curtainEnd = { s with
      regs := s.curtainEnd.regs, mem := s.curtainEnd.mem, ecc := s.curtainEnd.ecc, pmcQueue := s.curtainEnd.pmcQueue
      enc := s.curtainEnd.enc, bbx := s.curtainEnd.bbx, bbxQueue := s.curtainEnd.bbxQueue
      jrnl := s.emissionCut.jrnl, drop := s.emissionCut.drop
      sys := { s.sys with done := true, resumeP := s.sys.resumeP || !s.jrnl.opens.isEmpty, emitting := false } } := by
  have ho := s.emissionCut_opens
  have he := s.emissionCut_eq
  rw [State.curtainEnd_of_ends hd hc hj hs, State.bbxEvent_eq]
  generalize s.emissionCut = t at he ho
  rw [t.curtainSealed_eq, ho]
  generalize t.curtainSealed = c
  rw [he]

theorem State.curtainEnd_rdNat {s : State} (hd : s.sys.dev = .curtain) (hc : s.sys.done = false) (hj : s.draining = false)
    (hs : s.curtainSteps = true ∨ s.sys.limitReached = true) (a n : Nat) :
    s.curtainEnd.rdNat a n = s.emissionCut.curtainSealed.rdNat a n := by
  rw [State.curtainEnd_of_ends hd hc hj hs, State.rdNat_bbxEvent]

/-! ## What an expiry leaves -/

theorem State.getF_wdShown_apart (s : State) {p : Nat} {f : Fld} (h1 : f.apart R.SYS_WDSTAT_EXP) (h2 : f.apart R.SYS_CURTAIN_WDOG)
    (h3 : f.apart R.BBX_STAT_LOST) : (s.wdShown p).getF f = s.getF f := by
  rw [State.wdShown, State.getF_bbxEvent_apart _ _ _ h3, State.raise_eq, State.getF_setF_apart _ _ (by decide) h2,
    State.raiseBit_eq, State.getF_setF_apart _ _ (by decide) h1]

theorem State.wdExpire_spec {s : State} {p : Nat} (h : s.wdRuns p = true) (hp : p < 3) :
    let u := s.wdExpire p
    { s with sys := u.sys, bbxQueue := u.bbxQueue, bbx := { s.bbx with lost := u.bbx.lost } }.onlyFields u
          [R.SYS_WDSTAT_EXP, R.SYS_CURTAIN_WDOG, R.BBX_STAT_LOST] ∧
        u.getF R.SYS_WDSTAT_EXP = s.getF R.SYS_WDSTAT_EXP ||| 2 ^ p ∧ u.getF R.SYS_CURTAIN_WDOG = 1 ∧
        u.bbxQueue = s.queuedRecord 9 [BitVec.ofNat 32 p] ∧
        (s.bbxQueue.length < 16 → u.bbx = s.bbx ∧ u.getF R.BBX_STAT_LOST = s.getF R.BBX_STAT_LOST) ∧
        u.sys = if s.sys.dev = .boot ∨ s.sys.dev = .recovery then { s.sys with resetDue := true }
          else if s.sys.dev = .curtain then { s.sys with follow := some (s.sys.follow.getD .boot) }
          else { s.sys with faultDue := true, follow := some .boot } := by
  intro u
  have hu : u = { s.wdShown p with sys := s.sys.wdExpired } := State.wdExpire_of_runs h
  have hf : ∀ f, u.getF f = (s.wdShown p).getF f := fun f => by rw [hu]; rfl
  rw [hf, hf, hf, ← Sys.wdExpired_eq]
  refine ⟨⟨?_, fun f hl => ?_⟩, ?_, ?_, ?_, fun hq => ⟨?_, ?_⟩, ?_⟩
  · rw [hu, s.wdShown_eq]
  · rw [hf, s.getF_wdShown_apart (hl _ (by simp)) (hl _ (by simp)) (hl _ (by simp))]
    rfl
  · rw [State.wdShown, State.getF_bbxEvent_apart _ _ _ (Or.inl (by decide)), State.raise_eq, State.getF_setF_apart _ _ (by decide) (Or.inl (by decide)),
      State.getF_raiseBit _ (by decide) (by decide) hp]
  · rw [State.wdShown, State.getF_bbxEvent_apart _ _ _ (Or.inl (by decide)), State.raise_eq,
      State.getF_setF_of_lt _ (by decide) (by decide) (by decide)]
  · rw [hu, s.wdShown_eq]
  · rw [hu, s.wdShown_eq, if_pos hq]
    rfl
  · rw [State.wdShown, State.getF_bbxEvent_lost, if_pos (by exact hq), State.raise_eq,
      State.getF_setF_apart _ _ (by decide) (Or.inl (by decide)), State.raiseBit_eq, State.getF_setF_apart _ _ (by decide) (Or.inl (by decide))]
  · rw [hu]

/-- The seal that a curtain's end writes. -/
theorem State.curtainEnd_spec {s : State} (hd : s.sys.dev = .curtain) (hc : s.sys.done = false) (hj : s.draining = false)
    (hs : s.curtainSteps = true ∨ s.sys.limitReached = true) :
    let at_ := pmemBase + jrnlSeals + s.cue.count.toNat % 63488 * 64
    s.curtainEnd.rdNat (at_ + 8) 8 = s.cue.count.toNat ∧ s.curtainEnd.rdNat (at_ + 40) 4 = 1 := by
  intro at_
  have hcue : s.emissionCut.cue = s.cue := by rw [s.emissionCut_eq]
  have hat : at_ = pmemBase + s.emissionCut.sealOffset := by rw [State.sealOffset, hcue, ← Nat.add_assoc]
  rw [hat, State.curtainEnd_rdNat hd hc hj hs, State.curtainEnd_rdNat hd hc hj hs, State.sealed_count, State.sealed_final, hcue]
  exact ⟨rfl, rfl⟩

/-! ## O31 -/

/-- Settles O31: a service writes SYS_WDSVC, an expiry by what it shows and asks for, the limit by `State.forced`, the end of a
curtain by its seal. -/
theorem watchdogsAndTheCurtainsEnd : Obligations.WatchdogsAndTheCurtainsEnd := by
  unfold Obligations.WatchdogsAndTheCurtainsEnd
  refine ⟨fun h x v s => ⟨fun hm => exec_watchdogService_of_not_acts hm v, fun ha => ?_⟩, fun pl s => ?_, fun s => ?_, fun s => ?_⟩
  · refine ⟨_, exec_watchdogService_of_mayAccess ha v, fun hk => ?_, fun hk => ?_⟩
    · rw [State.wdService_of_key hk, State.wdPeriod_eq, planeOfHart_num]
    · rw [State.wdService_of_bad_key hk, ← planeOfHart_num]
      exact ⟨(State.onlyFields_refl s _).setF List.mem_cons_self (by decide) _,
        s.getF_raiseBit (by decide) (by decide) (Plane.num_lt _)⟩
  · refine ⟨s.wdExpire pl.num, rfl, fun hr => ?_, fun hr => ?_⟩
    · exact if_pos (by simpa using mt (s.wdRuns_iff pl).1 hr)
    · exact State.wdExpire_spec ((s.wdRuns_iff pl).2 hr) (Plane.num_lt pl)
  · refine ⟨s.curtainForce, rfl, fun ⟨hd, hc, hl⟩ => ?_, State.curtainForce_of_not_runs⟩
    rw [State.curtainForce_of_runs hd hc hl]
    exact ⟨s.forced_eq, s.forced_shown, fun hf n hn => State.forced_en hf hn, State.forced_deferred⟩
  · refine ⟨s.curtainEnd, rfl, State.curtainEnd_of_not_ends, fun ⟨hd, hc, hj, hs⟩ => ?_⟩
    have hu := State.curtainEnd_eq_of_ends hd hc hj hs
    refine ⟨by rw [hu], State.curtainEnd_spec hd hc hj hs, by rw [hu], by rw [hu], by rw [hu], by rw [hu], fun he => ?_⟩
    rw [hu, State.emissionCut_of_not_emitting he]
    exact ⟨rfl, rfl⟩

end Sys2Proof.Machine
end

section
/-!
# Register writes that a command names
-/

namespace Sys2Proof.Machine

section
variable {s : State} {w : Writer} {a i j : Nat} {b : Nat × List RegDesc} {d : RegDesc}
  (hb : blockOf a = some b) (hr : regAt a = some (d, i, j)) (hp : regPresent d i = true) (ha : a % 4 = 0)
include hb hr hp

theorem State.mayWrite_iff : s.mayWrite w a = true ↔ s.mayAccess w a ∧ s.regAccepts w b.1 d.id = true := by
  simp only [State.mayWrite, hb, hr, hp, State.mayAccess, Bool.true_and, Bool.and_eq_true, Bool.not_eq_true']

include ha

/-- A write that the master may make has the register's effect. -/
theorem State.write32_of_mayWrite (h : s.mayWrite w a = true) {v : Word} {u : State} (he : s.regEffect w b.1 d i j a v = (u, true)) :
    s.write32 w a v = u.settle := by
  obtain ⟨hacc, hreg⟩ := (State.mayWrite_iff hb hr hp).1 h
  rw [State.write32_of_mayAccess hacc (inPeripheral_of_blockOf hb), if_pos ha, State.regWrite_of_present hb hr hp, hreg, he]
  rfl

/-- Any other write is turned away. -/
theorem State.write32_of_not_mayWrite (h : s.mayWrite w a = false) (v : Word) : s.write32 w a v = s.turnedAway w a := by
  have hper := inPeripheral_of_blockOf hb
  cases hm : s.masterActs w with
  | false => rw [State.write32_of_not_acts hm, State.turnedAway, if_pos hm]
  | true =>
    rw [State.turnedAway, hm, if_neg (by decide)]
    cases hden : s.deniedTo w (physOf w a) with
    | true => exact State.write32_of_denied hm hden v
    | false =>
      have hreg : s.regAccepts w b.1 d.id = false := by
        have := mt (State.mayWrite_iff hb hr hp).2 (Bool.eq_false_iff.1 h)
        simpa [State.mayAccess, hm, hden] using this
      rw [State.write32_of_mayAccess ⟨hm, hden⟩ hper, if_pos ha, State.regWrite_of_present hb hr hp, hreg]
      rfl

end

/-- A write by field types changes the listed fields only, if it leaves every other field's bits as they were. -/
theorem State.writeTyped_onlyFields_of_kept {d : RegDesc} (hd : d.disjointFields) {s : State} {a : Nat} {v : Word} {l : List Fld}
    (hl : ∀ f ∈ d.fields, ⟨a, f.hi, f.lo⟩ ∈ l ∨
      ∀ k, writtenBit f.ty (v.getLsbD k) ((s.getReg a).getLsbD k) (s.stoodAt a k) = (s.getReg a).getLsbD k ∨ f.covers k = false) :
    s.onlyFields (s.writeTyped d a false v) l := by
  refine ⟨rfl, fun g hg => ?_⟩
  by_cases hga : g.addr = a
  · rw [State.getF, State.getF, hga]
    refine fieldOf_congr fun k hlo hhi => ?_
    by_cases hk : ∃ f ∈ d.fields, f.covers k = true
    · obtain ⟨f, hf, hk⟩ := hk
      rw [State.writeTyped_getLsbD hd hf hk]
      rcases hl f hf with hmem | hkept
      · exact absurd hk (by rw [FieldDesc.not_covers_of_apart (hg _ hmem) hga hlo hhi]; decide)
      · exact (hkept k).resolve_right (by rw [hk]; decide)
    · rw [State.writeTyped, State.getReg_setReg_same]
      exact foldl_fieldWrite_getLsbD_of_not_covers hd.1 (fun f hf => Bool.eq_false_iff.2 fun hc => hk ⟨f, hf, hc⟩) _ _
  · rw [State.getF, State.getF, State.writeTyped, State.getReg_setReg, if_neg hga]

/-- An RW field holds what a write by field types writes there. -/
theorem State.getF_writeTyped_rw {d : RegDesc} (hd : d.disjointFields) (s : State) (a : Nat) (v : Word) {f : FieldDesc}
    (hf : f ∈ d.fields) (ht : f.ty = .rw) : (s.writeTyped d a false v).getF ⟨a, f.hi, f.lo⟩ = fieldOf v f.hi f.lo :=
  fieldOf_congr fun k hlo hhi => by
    rw [State.writeTyped_getLsbD hd hf (FieldDesc.covers_iff.2 ⟨hlo, hhi⟩), ht]
    rfl

/-- A field of one bit. -/
theorem fieldOf_bit (w : Word) (k : Nat) : fieldOf w k k = (w.getLsbD k).toNat := by
  rw [fieldOf, Nat.add_sub_cancel_left, BitVec.getLsbD, Nat.toNat_testBit, pow_one]

theorem getLsbD_or_bit (v : Word) {b k : Nat} (hb : b < 32) : (v ||| maskOf b b).getLsbD k = (v.getLsbD k || decide (k = b)) := by
  rw [BitVec.getLsbD_or, maskOf_getLsbD _ _ _ hb]
  grind

/-! ## SEC_DBG.LOCK (R540) -/

/-- The row of SEC_DBG. -/
def secDbgRow : RegDesc := ⟨.SEC_DBG, R.SEC_DBG, 1, 0, 1, 0, [⟨31, 31, .w1s, 0⟩, ⟨1, 1, .w1c, 0⟩, ⟨0, 0, .ro, 0⟩]⟩

theorem blockOf_SEC_DBG : blockOf R.SEC_DBG = some (baseSEC, regsSEC) := rfl

theorem regAt_SEC_DBG : regAt R.SEC_DBG = some (secDbgRow, 0, 0) := rfl

theorem secDbgRow_disjointFields : secDbgRow.disjointFields := disjointFields_of_regAt regAt_SEC_DBG

theorem State.rwLook_SEC_DBG (s : State) : s.rwLook R.SEC_DBG = 0#32 := by
  rw [State.rwLook, regAt_SEC_DBG]
  rfl

/-- A write of 1 to LOCK and 0 elsewhere sets LOCK alone. -/
theorem State.writeTyped_secDbgLock (s : State) :
    s.onlyFields (s.writeTyped secDbgRow R.SEC_DBG false R.SEC_DBG_LOCK.mask) [R.SEC_DBG_LOCK] ∧
      (s.writeTyped secDbgRow R.SEC_DBG false R.SEC_DBG_LOCK.mask).getF R.SEC_DBG_LOCK = 1 := by
  have hmask : ∀ k, R.SEC_DBG_LOCK.mask.getLsbD k = decide (k = 31) := fun k => by
    rw [Fld.mask, maskOf_getLsbD _ _ _ (by decide)]
    simp only [R.SEC_DBG_LOCK]
    grind
  refine ⟨State.writeTyped_onlyFields_of_kept secDbgRow_disjointFields ?_, ?_⟩
  · rw [secDbgRow, List.forall_mem_cons, List.forall_mem_cons, List.forall_mem_singleton]
    refine ⟨Or.inl List.mem_cons_self, Or.inr fun k => ?_, Or.inr fun k => Or.inl rfl⟩
    by_cases hk : k = 1
    · rw [hmask, hk]
      exact Or.inl (by simp [writtenBit])
    · exact Or.inr (Bool.eq_false_iff.2 fun hc => by have := FieldDesc.covers_iff.1 hc; simp at this; omega)
  · have h : ((s.writeTyped secDbgRow R.SEC_DBG false R.SEC_DBG_LOCK.mask).getReg R.SEC_DBG).getLsbD 31 = true := by
      rw [State.writeTyped_getLsbD secDbgRow_disjointFields List.mem_cons_self rfl, hmask]
      exact Bool.or_true _
    show fieldOf (State.getReg _ R.SEC_DBG) 31 31 = 1
    rw [fieldOf_bit, h]
    rfl

theorem secDbgLock_clause (w : Writer) (s : State) :
    (s.mayWrite w R.SEC_DBG = false → exec (.secDbgLock w) s = .next (s.turnedAway w R.SEC_DBG)) ∧
    (s.mayWrite w R.SEC_DBG = true → ∃ u : State, exec (.secDbgLock w) s = .next u.settle ∧
      s.onlyFields u [R.SEC_DBG_LOCK] ∧ u.getF R.SEC_DBG_LOCK = 1) := by
  have he : exec (.secDbgLock w) s = .next (s.write32 w R.SEC_DBG R.SEC_DBG_LOCK.mask) := by
    rw [show exec (.secDbgLock w) s = .next (s.write32 w R.SEC_DBG (s.rwLook R.SEC_DBG ||| R.SEC_DBG_LOCK.mask)) from rfl,
      State.rwLook_SEC_DBG, BitVec.zero_or]
  rw [he]
  refine ⟨fun h => ?_, fun h => ⟨_, ?_, s.writeTyped_secDbgLock⟩⟩
  · rw [State.write32_of_not_mayWrite blockOf_SEC_DBG regAt_SEC_DBG rfl rfl h]
  · rw [State.write32_of_mayWrite blockOf_SEC_DBG regAt_SEC_DBG rfl rfl h (State.regEffect_eq_writeTyped (Or.inr (Or.inr rfl)) ..)]

/-! ## BBX_CTRL (R535, R538) -/

/-- The row of BBX_CTRL. -/
def bbxCtrlRow : RegDesc :=
  ⟨.BBX_CTRL, R.BBX_CTRL, 1, 0, 1, 0, [⟨31, 31, .wo, 0⟩, ⟨30, 30, .wo, 0⟩, ⟨16, 16, .rw, 0⟩, ⟨15, 0, .rw, 0x8000⟩]⟩

theorem blockOf_BBX_CTRL : blockOf R.BBX_CTRL = some (baseBBX, regsBBX) := rfl

theorem regAt_BBX_CTRL : regAt R.BBX_CTRL = some (bbxCtrlRow, 0, 0) := rfl

theorem bbxCtrlRow_disjointFields : bbxCtrlRow.disjointFields := disjointFields_of_regAt regAt_BBX_CTRL

theorem State.regEffect_BBX_CTRL (s : State) (w : Writer) (v : Word) :
    s.regEffect w baseBBX bbxCtrlRow 0 0 R.BBX_CTRL v = (s.bbxCtrlWrite bbxCtrlRow R.BBX_CTRL v, true) := rfl

/-- A write of BBX_CTRL keeps CODE and LOSTIRQ. -/
theorem State.writeTyped_bbxCtrl (s : State) (v : Word) :
    s.onlyFields (s.writeTyped bbxCtrlRow R.BBX_CTRL false v) [R.BBX_CTRL_CODE, R.BBX_CTRL_LOSTIRQ] ∧
      (s.writeTyped bbxCtrlRow R.BBX_CTRL false v).getF R.BBX_CTRL_CODE = fieldOf v 15 0 ∧
      (s.writeTyped bbxCtrlRow R.BBX_CTRL false v).getF R.BBX_CTRL_LOSTIRQ = fieldOf v 16 16 := by
  refine ⟨State.writeTyped_onlyFields_of_kept bbxCtrlRow_disjointFields ?_,
    State.getF_writeTyped_rw bbxCtrlRow_disjointFields s _ v (f := ⟨15, 0, .rw, 0x8000⟩) (by simp [bbxCtrlRow]) rfl,
    State.getF_writeTyped_rw bbxCtrlRow_disjointFields s _ v (f := ⟨16, 16, .rw, 0⟩) (by simp [bbxCtrlRow]) rfl⟩
  rw [bbxCtrlRow, List.forall_mem_cons, List.forall_mem_cons, List.forall_mem_cons, List.forall_mem_singleton]
  exact ⟨Or.inr fun k => Or.inl rfl, Or.inr fun k => Or.inl rfl, Or.inl (List.mem_cons_of_mem _ List.mem_cons_self),
    Or.inl List.mem_cons_self⟩

/-- `s` after the typed write and the queueing that an accepted write of `x` to BBX_CTRL makes. -/
def State.bbxCtrlQueued (s : State) (x : Word) : State :=
  let t := s.writeTyped bbxCtrlRow R.BBX_CTRL false x
  if x.getLsbD 31 then t.bbxEvent (fieldOf x 15 0) ((List.range 6).map fun i => s.getReg (R.BBX_WDATA i)) else t

/-- The seconds that a load of the calendar takes. -/
def State.calSet (s : State) : BitVec 40 := BitVec.ofNat 40 (s.getF R.BBX_CALSETH_SEC * 2 ^ 32 + s.getF R.BBX_CALSETL_SEC)

/-- `s` with the calendar loaded with `c`. -/
def State.calLoaded (s : State) (c : BitVec 40) : State :=
  s.modBbx fun b => { b with cal := c, calValid := true, calClk := some s.clk }

theorem State.calLoaded_if (s : State) (y : BitVec 40) (c : Prop) [Decidable c] :
    (if c then s.calLoaded y else s) = { s with bbx := (if c then s.calLoaded y else s).bbx } := by
  split <;> rfl

theorem State.calLoaded_if_lost (s : State) (y : BitVec 40) (c : Prop) [Decidable c] : (if c then s.calLoaded y else s).bbx.lost = s.bbx.lost := by
  split <;> rfl

theorem State.bbxCtrlWrite_of_reserved {s : State} {x : Word} (h : fieldOf x 15 0 < 0x8000) (d : RegDesc) (a : Nat) :
    s.bbxCtrlWrite d a x = s.raise R.BBX_STAT_CFGREF := if_pos h

theorem State.bbxCtrlWrite_of_accepted {s : State} {x : Word} (h : 0x8000 ≤ fieldOf x 15 0) :
    s.bbxCtrlWrite bbxCtrlRow R.BBX_CTRL x =
      if x.getLsbD 30 then (s.bbxCtrlQueued x).calLoaded (s.bbxCtrlQueued x).calSet else s.bbxCtrlQueued x := by
  have hdata : (List.range 6).map (fun i => (s.writeTyped bbxCtrlRow R.BBX_CTRL false x).getReg (R.BBX_WDATA i)) =
      (List.range 6).map fun i => s.getReg (R.BBX_WDATA i) :=
    List.map_congr_left fun i _ => by
      rw [State.writeTyped, State.getReg_setReg, if_neg]
      show 0x40F00010 + 4 * i ≠ 0x40F00000
      omega
  rw [State.bbxCtrlWrite, if_neg (Nat.not_lt.2 h), State.bbxCtrlQueued, ← hdata]
  rfl

/-- What the typed write and the queueing change. -/
theorem State.bbxCtrlQueued_onlyFields (s : State) (x : Word) :
    { s with bbxQueue := (s.bbxCtrlQueued x).bbxQueue, bbx := (s.bbxCtrlQueued x).bbx }.onlyFields (s.bbxCtrlQueued x)
      [R.BBX_CTRL_CODE, R.BBX_CTRL_LOSTIRQ, R.BBX_STAT_LOST] := by
  obtain ⟨hw, hf⟩ := (s.writeTyped_bbxCtrl x).1
  have hfields : ∀ f : Fld, (∀ g ∈ [R.BBX_CTRL_CODE, R.BBX_CTRL_LOSTIRQ, R.BBX_STAT_LOST], f.apart g) →
      (s.writeTyped bbxCtrlRow R.BBX_CTRL false x).getF f = s.getF f := fun f h =>
    hf f fun g hg => h g (List.mem_append_left [R.BBX_STAT_LOST] hg)
  unfold State.bbxCtrlQueued
  extract_lets t
  split
  · refine ⟨?_, fun f h => ?_⟩
    · rw [t.bbxEvent_eq, show t = _ from hw]
    · rw [State.getF_bbxEvent_apart _ _ _ (h _ (by simp))]
      exact hfields f h
  · exact ⟨hw, hfields⟩

theorem State.bbxEvent_bbxQueue (s : State) (code : Nat) (data : List Word) :
    (s.bbxEvent code data).bbxQueue = s.queuedRecord code data := by
  rw [State.bbxEvent_eq]

theorem State.queuedRecord_writeTyped (s : State) (d : RegDesc) (a : Nat) (l : Bool) (v : Word) (code : Nat) (data : List Word) :
    (s.writeTyped d a l v).queuedRecord code data = s.queuedRecord code data := rfl

/-- The event that the write of `x` queues, if it queues one. -/
theorem State.bbxCtrlQueued_spec (s : State) (x : Word) :
    (s.bbxCtrlQueued x).getF R.BBX_CTRL_CODE = fieldOf x 15 0 ∧ (s.bbxCtrlQueued x).getF R.BBX_CTRL_LOSTIRQ = fieldOf x 16 16 ∧
      (s.bbxCtrlQueued x).bbxQueue = (if x.getLsbD 31 then
        s.queuedRecord (fieldOf x 15 0) ((List.range 6).map fun i => s.getReg (R.BBX_WDATA i)) else s.bbxQueue) ∧
      (s.bbxCtrlQueued x).bbx = { s.bbx with lost := (s.bbxCtrlQueued x).bbx.lost } ∧
      (s.bbxCtrlQueued x).bbx.lost = s.bbx.lost + (if x.getLsbD 31 = true ∧ 16 ≤ s.bbxQueue.length then 1 else 0) ∧
      (s.bbxCtrlQueued x).getF R.BBX_STAT_LOST =
        if x.getLsbD 31 = true ∧ 16 ≤ s.bbxQueue.length then min (s.getF R.BBX_STAT_LOST + 1) 65535 else s.getF R.BBX_STAT_LOST := by
  obtain ⟨⟨hw, hf⟩, hcode, hirq⟩ := s.writeTyped_bbxCtrl x
  have hlost := hf R.BBX_STAT_LOST (by simp only [List.forall_mem_cons]; exact ⟨Or.inl (by decide), Or.inl (by decide), by simp⟩)
  unfold State.bbxCtrlQueued
  extract_lets t
  have hq : t.bbxQueue = s.bbxQueue := by rw [show t = _ from hw]
  have hb : t.bbx = s.bbx := by rw [show t = _ from hw]
  by_cases h31 : x.getLsbD 31 = true
  · rw [if_pos h31, if_pos h31]
    refine ⟨?_, ?_, ?_, ?_, ?_, ?_⟩
    · rw [State.getF_bbxEvent_apart _ _ _ (Or.inl (by decide)), hcode]
    · rw [State.getF_bbxEvent_apart _ _ _ (Or.inl (by decide)), hirq]
    · rw [State.bbxEvent_bbxQueue, show t.queuedRecord _ _ = _ from s.queuedRecord_writeTyped ..]
    · rw [t.bbxEvent_eq, hb]
    · rw [t.bbxEvent_eq, hb, hq]
      simp only [h31, true_and, ← Nat.not_lt, ite_not]
    · rw [State.getF_bbxEvent_lost, hq, hlost]
      simp only [h31, true_and, ← Nat.not_lt, ite_not]
  · rw [if_neg h31, if_neg h31, if_neg fun h => h31 h.1, if_neg fun h => h31 h.1]
    exact ⟨hcode, hirq, hq, by rw [hb], by rw [hb]; rfl, hlost⟩

theorem State.getF_bbxCtrlQueued_apart (s : State) (x : Word) {f : Fld} (h1 : f.addr ≠ R.BBX_CTRL) (h2 : f.addr ≠ R.BBX_STAT) :
    (s.bbxCtrlQueued x).getF f = s.getF f := by
  refine (s.bbxCtrlQueued_onlyFields x).2 f ?_
  simp only [List.forall_mem_cons]
  exact ⟨Or.inl h1, Or.inl h1, Or.inl h2, by simp⟩

/-- What an accepted write of `x` to BBX_CTRL leaves. -/
theorem State.bbxCtrlWrite_spec {s : State} {x : Word} (h : 0x8000 ≤ fieldOf x 15 0) :
    let u := s.bbxCtrlWrite bbxCtrlRow R.BBX_CTRL x
    let full := x.getLsbD 31 = true ∧ 16 ≤ s.bbxQueue.length
    { s with bbxQueue := u.bbxQueue, bbx := u.bbx }.onlyFields u [R.BBX_CTRL_CODE, R.BBX_CTRL_LOSTIRQ, R.BBX_STAT_LOST] ∧
      u.getF R.BBX_CTRL_CODE = fieldOf x 15 0 ∧ u.getF R.BBX_CTRL_LOSTIRQ = fieldOf x 16 16 ∧
      u.bbxQueue = (if x.getLsbD 31 then
        s.queuedRecord (fieldOf x 15 0) ((List.range 6).map fun i => s.getReg (R.BBX_WDATA i)) else s.bbxQueue) ∧
      (full → u.bbx.lost = s.bbx.lost + 1 ∧ u.getF R.BBX_STAT_LOST = min (s.getF R.BBX_STAT_LOST + 1) 65535) ∧
      (¬ full → u.bbx.lost = s.bbx.lost ∧ u.getF R.BBX_STAT_LOST = s.getF R.BBX_STAT_LOST) ∧
      u.bbx = (if x.getLsbD 30 then
        { s.bbx with lost := u.bbx.lost, calValid := true, calClk := some s.clk, cal := BitVec.ofNat 40 (s.getF R.BBX_CALSETH_SEC * 2 ^ 32 + s.getF R.BBX_CALSETL_SEC) }
        else { s.bbx with lost := u.bbx.lost }) := by
  intro u full
  obtain ⟨hcode, hirq, hqueue, hbbx, hlost, hstat⟩ := s.bbxCtrlQueued_spec x
  have honly := s.bbxCtrlQueued_onlyFields x
  have hh := s.getF_bbxCtrlQueued_apart x (f := R.BBX_CALSETH_SEC) (by decide) (by decide)
  have hl := s.getF_bbxCtrlQueued_apart x (f := R.BBX_CALSETL_SEC) (by decide) (by decide)
  have hu : u = { (s.bbxCtrlQueued x) with bbx := u.bbx } := by
    rw [show u = _ from State.bbxCtrlWrite_of_accepted h, State.calLoaded_if]
  have hul : u.bbx.lost = (s.bbxCtrlQueued x).bbx.lost := by
    rw [show u = _ from State.bbxCtrlWrite_of_accepted h, State.calLoaded_if_lost]
  have hub : u.bbx = if x.getLsbD 30 then
      { s.bbx with lost := u.bbx.lost, calValid := true, calClk := some s.clk, cal := BitVec.ofNat 40 (s.getF R.BBX_CALSETH_SEC * 2 ^ 32 + s.getF R.BBX_CALSETL_SEC) }
      else { s.bbx with lost := u.bbx.lost } := by
    have hclk : (s.bbxCtrlQueued x).clk = s.clk := by rw [honly.1]
    rw [hul, show u = _ from State.bbxCtrlWrite_of_accepted h]
    split
    · rw [State.calLoaded, State.modBbx, State.calSet, hh, hl, hclk, hbbx]
    · exact hbbx
  have huf : ∀ f, u.getF f = (s.bbxCtrlQueued x).getF f := fun f => by rw [hu]; rfl
  have huq : u.bbxQueue = (s.bbxCtrlQueued x).bbxQueue := by rw [hu]
  rw [huf, huf, huf, huq, hul, hlost, hstat]
  refine ⟨⟨?_, fun f hf => ?_⟩, hcode, hirq, hqueue, fun hfull => ?_, fun hfull => ?_, ?_⟩
  · rw [hu, honly.1]
  · rw [huf, honly.2 f hf]
    rfl
  · rw [if_pos hfull, if_pos hfull]
    exact ⟨rfl, rfl⟩
  · rw [if_neg hfull, if_neg hfull]
    exact ⟨rfl, rfl⟩
  · rw [← hlost, ← hul]
    exact hub

theorem fieldOf_or_above (v : Word) {b hi lo : Nat} (hb : b < 32) (h : hi < b) :
    fieldOf (v ||| maskOf b b) hi lo = fieldOf v hi lo :=
  fieldOf_congr fun k _ hk => by
    rw [getLsbD_or_bit v hb, decide_eq_false (by omega), Bool.or_false]

/-- The bit of BBX_CTRL that a command writes: WR or CALSET. -/
def bbxCtrlBit (wr : Bool) : Nat := if wr then 31 else 30

/-- A BBX command is a write of BBX_CTRL. -/
theorem exec_bbxCtrl (b : Bool) (w : Writer) (v : Word) (s : State) :
    exec (if b then Instr.bbxWr w v else Instr.bbxCalset w v) s =
      .next (s.write32 w R.BBX_CTRL (v ||| maskOf (bbxCtrlBit b) (bbxCtrlBit b))) := by
  cases b
  · rfl
  · rfl

theorem bbxCtrl_clause (b : Bool) (w : Writer) (v : Word) (s : State) :
    let cmd := if b then Instr.bbxWr w v else Instr.bbxCalset w v
    let wr := b || v.getLsbD 31
    let cal := !b || v.getLsbD 30
    let code := fieldOf v 15 0
    let full := wr = true ∧ 16 ≤ s.bbxQueue.length
    let data := (List.range 6).map fun i => s.getReg (R.BBX_WDATA i)
    (s.mayWrite w R.BBX_CTRL = false → exec cmd s = .next (s.turnedAway w R.BBX_CTRL)) ∧
    (s.mayWrite w R.BBX_CTRL = true → ∃ u : State, exec cmd s = .next u.settle ∧
      (code < 0x8000 → s.onlyFields u [R.BBX_STAT_CFGREF] ∧ u.getF R.BBX_STAT_CFGREF = 1) ∧
      (0x8000 ≤ code →
        { s with bbxQueue := u.bbxQueue, bbx := u.bbx }.onlyFields u [R.BBX_CTRL_CODE, R.BBX_CTRL_LOSTIRQ, R.BBX_STAT_LOST] ∧
        u.getF R.BBX_CTRL_CODE = code ∧ u.getF R.BBX_CTRL_LOSTIRQ = fieldOf v 16 16 ∧
        u.bbxQueue = (if wr then s.queuedRecord code data else s.bbxQueue) ∧
        (full → u.bbx.lost = s.bbx.lost + 1 ∧ u.getF R.BBX_STAT_LOST = min (s.getF R.BBX_STAT_LOST + 1) 65535) ∧
        (¬ full → u.bbx.lost = s.bbx.lost ∧ u.getF R.BBX_STAT_LOST = s.getF R.BBX_STAT_LOST) ∧
        u.bbx = (if cal then { s.bbx with lost := u.bbx.lost, calValid := true, calClk := some s.clk, cal := BitVec.ofNat 40 (s.getF R.BBX_CALSETH_SEC * 2 ^ 32 + s.getF R.BBX_CALSETL_SEC) }
          else { s.bbx with lost := u.bbx.lost }))) := by
  intro cmd wr cal code full data
  obtain ⟨x, hx⟩ : ∃ x, x = v ||| maskOf (bbxCtrlBit b) (bbxCtrlBit b) := ⟨_, rfl⟩
  have hbit : 16 < bbxCtrlBit b ∧ bbxCtrlBit b < 32 := by cases b <;> decide
  have h31 : x.getLsbD 31 = wr := by
    rw [hx, getLsbD_or_bit v hbit.2]
    cases b <;> simp [wr, bbxCtrlBit]
  have h30 : x.getLsbD 30 = cal := by
    rw [hx, getLsbD_or_bit v hbit.2]
    cases b <;> simp [cal, bbxCtrlBit]
  have hcode : fieldOf x 15 0 = code := by rw [hx, fieldOf_or_above v hbit.2 (by omega)]
  have hirq : fieldOf x 16 16 = fieldOf v 16 16 := by rw [hx, fieldOf_or_above v hbit.2 hbit.1]
  rw [show exec cmd s = _ from exec_bbxCtrl b w v s, ← hx]
  refine ⟨fun h => ?_, fun h => ⟨s.bbxCtrlWrite bbxCtrlRow R.BBX_CTRL x, ?_, fun hc => ?_, fun hc => ?_⟩⟩
  · rw [State.write32_of_not_mayWrite blockOf_BBX_CTRL regAt_BBX_CTRL rfl rfl h]
  · rw [State.write32_of_mayWrite blockOf_BBX_CTRL regAt_BBX_CTRL rfl rfl h (s.regEffect_BBX_CTRL w x)]
  · rw [State.bbxCtrlWrite_of_reserved (by rw [hcode]; exact hc), State.raise_eq]
    exact ⟨(s.onlyFields_refl _).setF List.mem_cons_self (by decide) _, s.getF_setF_of_lt (by decide) (by decide) (by decide)⟩
  · have hspec := State.bbxCtrlWrite_spec (s := s) (x := x) (by rw [hcode]; exact hc)
    rw [h31, h30, hcode, hirq] at hspec
    exact hspec

end Sys2Proof.Machine
end

section
/-!
# Black-box records, the calendar second and the nozzle counts
-/

namespace Sys2Proof.Machine

/-! ## BBX_RECORD_WRITE (R532 to R535) -/

theorem State.bbxBytes_length (s : State) (r : BbxRec) : (s.bbxBytes r).length = 60 := by
  simp only [State.bbxBytes, List.length_append, bytesLE_length, List.length_take, List.length_replicate]
  omega

/-- The record of `r`, its check included. -/
def State.bbxImage (s : State) (r : BbxRec) : List Byte := s.bbxBytes r ++ bytesLE 4 (crc32cFull (s.bbxBytes r))

theorem State.bbxImage_length (s : State) (r : BbxRec) : (s.bbxImage r).length = 64 := by
  rw [State.bbxImage, List.length_append, State.bbxBytes_length, bytesLE_length]

/-- The number of the record that is written next. -/
def Bbx.slot (x : Bbx) : Nat := if x.pin < 1024 then 1024 * x.area + x.pin else x.wrap

/-- BBX once a record is written. -/
def Bbx.written (x : Bbx) : Bbx :=
  { x with serial := x.serial + 1, lost := 0, pin := if x.pin < 1024 then x.pin + 1 else x.pin,
           wrap := if x.pin < 1024 then x.wrap else if x.wrap = 65535 then 2048 else x.wrap + 1 }

theorem State.bbxWrite_of_nil {s : State} (h : s.bbxQueue = []) : s.bbxWrite = s := by
  rw [State.bbxWrite, h]

theorem State.bbxWrite_of_cons {s : State} {r : BbxRec} {t : List BbxRec} (h : s.bbxQueue = r :: t) :
    s.bbxWrite = (({ s with bbxQueue := t } : State).pmemStore (bbxRec s.bbx.slot) (s.bbxImage r)).modBbx Bbx.written := by
  rw [State.bbxWrite, h]
  rfl

theorem bbxRecordWrite_clause (s : State) :
    (s.bbxQueue = [] → exec .bbxRecordWrite s = .next s.settle) ∧
    (∀ r t, s.bbxQueue = r :: t → ∃ u : State, exec .bbxRecordWrite s = .next u.settle ∧
      u.rdBytes (pmemBase + bbxRec s.bbx.slot) 64 = s.bbxImage r ∧
      (∀ y, ¬ (pmemBase + bbxRec s.bbx.slot ≤ y ∧ y < pmemBase + bbxRec s.bbx.slot + 64) → u.rd8 y = s.rd8 y) ∧
      { s with mem := u.mem, ecc := u.ecc, pmcQueue := u.pmcQueue, bbxQueue := t, bbx := s.bbx.written }.onlyFields u
        [R.PMC_STAT_DEPTH]) := by
  refine ⟨fun h => ?_, fun r t h => ⟨s.bbxWrite, rfl, ?_, fun y hy => ?_, ?_⟩⟩
  · rw [show exec .bbxRecordWrite s = .next s.bbxWrite.settle from rfl, State.bbxWrite_of_nil h]
  · have hl := s.bbxImage_length r
    have hrd := State.rdBytes_of_stored (s := s.bbxWrite) (a := pmemBase + bbxRec s.bbx.slot) (i := 0) (n := 64) (l := s.bbxImage r)
      (by omega) fun b h1 h2 => by
        rw [State.bbxWrite_of_cons h, State.rd8_modBbx, State.rd8_pmemStore, if_pos ⟨h1, h2⟩]
    rw [Nat.add_zero] at hrd
    rw [hrd, List.drop_zero, ← hl, List.take_length]
  · rw [State.bbxWrite_of_cons h, State.rd8_modBbx, State.rd8_pmemStore_of_out _ (by rw [State.bbxImage_length]; exact hy)]
    rfl
  · rw [State.bbxWrite_of_cons h]
    obtain ⟨hs, hf⟩ := (State.afterStores_refl { s with bbxQueue := t }).store (bbxRec s.bbx.slot) (s.bbxImage r)
    generalize State.pmemStore _ _ _ = p at hs hf
    exact ⟨by rw [hs]; rfl, hf⟩

/-! ## CALENDAR_SECOND (R537, R538) -/

/-- `s` with its calendar one second on, unless it has been loaded in this cycle. -/
def State.calStepped (s : State) : State :=
  { s with bbx := { s.bbx with cal := if s.bbx.calClk = some s.clk then s.bbx.cal else s.bbx.cal + 1 } }

theorem State.calendarSecond_eq (s : State) :
    s.calendarSecond = if s.sys.dev = .dark then s.calStepped else s.calStepped.lifeRewrite 1 := rfl

/-- Where the lifetime records hold what a rewrite changes: the head and the counters. -/
def lifeKept : List Nat :=
  [0, 8, 0x1200, 0x1208, 0x1210] ++ (List.range 8).map (fun i => 0x1000 + 8 * i) ++ (List.range 31).map fun k => 0x1040 + 8 * k

theorem State.lifeRewrite_rd8 (s : State) (secs b : Nat) : (s.lifeRewrite secs).rd8 b = (s.lifeStored secs).rd8 b := by
  rw [State.lifeRewrite_eq, State.rd8_modBbx, State.rd8_withEnc]

theorem State.lifeRewrite_pmRd (s : State) (secs o n : Nat) : (s.lifeRewrite secs).pmRd o n = (s.lifeStored secs).pmRd o n :=
  State.pmRd_congr fun b _ _ => s.lifeRewrite_rd8 secs b

/-- The counters stand where `lifeKept` says. -/
theorem lifeCounters_kept {s : State} {secs : Nat} {e : Nat × Nat} (h : e ∈ s.lifeCounters secs) :
    ∃ x ∈ lifeKept, e.1 = lifeRec x ∧ 0x1000 ≤ x := by
  simp only [State.lifeCounters, State.lifeTravels, State.lifeClasses, State.lifeTotals, List.mem_append, List.mem_map,
    List.mem_range, List.mem_cons, List.not_mem_nil, or_false] at h
  simp only [lifeKept, List.mem_append, List.mem_map, List.mem_range, List.mem_cons, List.not_mem_nil, or_false]
  rcases h with (⟨i, hi, rfl⟩ | ⟨k, hk, rfl⟩) | rfl | rfl | rfl
  · exact ⟨_, Or.inl (Or.inr ⟨i, hi, rfl⟩), rfl, by omega⟩
  · exact ⟨_, Or.inr ⟨k, hk, rfl⟩, rfl, by omega⟩
  · exact ⟨0x1200, by simp, rfl, by decide⟩
  · exact ⟨0x1208, by simp, rfl, by decide⟩
  · exact ⟨0x1210, by simp, rfl, by decide⟩

/-- Every counter of the list stands behind the head. -/
theorem lifeCounters_behind {s : State} {secs x n : Nat} (h : x + n ≤ lifeRec 0x1000) :
    ∀ e ∈ s.lifeCounters secs, e.1 + 8 ≤ x ∨ x + n ≤ e.1 := fun e he => by
  obtain ⟨y, -, hy, hge⟩ := lifeCounters_kept he
  unfold lifeRec at h hy
  omega

theorem bytesLE_mod (n v : Nat) : bytesLE n (v % 256 ^ n) = bytesLE n v := by
  induction n generalizing v with
  | zero => rfl
  | succ n ih =>
    have hd : v % 256 ^ (n + 1) / 256 = v / 256 % 256 ^ n := by
      rw [pow_succ, Nat.mul_comm, Nat.mod_mul_right_div_self]
    have hm : BitVec.ofNat 8 (v % 256 ^ (n + 1)) = BitVec.ofNat 8 v := by
      apply BitVec.eq_of_toNat_eq
      rw [BitVec.toNat_ofNat, BitVec.toNat_ofNat]
      exact Nat.mod_mod_of_dvd v (Dvd.intro_left (256 ^ n) (pow_succ ..).symm)
    rw [bytesLE, bytesLE, hd, hm, ih]

theorem State.calNow_lt (s : State) : s.calNow < 256 ^ 8 := by
  have := s.bbx.cal.isLt
  unfold State.calNow
  split <;> omega

/-- The first store of the head: magic number and boot count. -/
theorem State.pmRd_lifeHead_first (s : State) {i n : Nat} (h : i + n ≤ 8) :
    s.lifeHead.pmRd (lifeRec i) n =
      (s.pmemStore (lifeRec 0) (bytesLE 4 0x4546494C ++ bytesLE 4 s.bbx.boots)).pmRd (lifeRec i) n :=
  State.pmRd_pmemStore_apart _ (Or.inr (by unfold lifeRec; omega))

theorem State.lifeHead_magic (s : State) : s.lifeHead.pmRd (lifeRec 0) 4 = 0x4546494C := by
  rw [s.pmRd_lifeHead_first (by decide)]
  refine State.rdNat_of_stored (a := pmemBase + lifeRec 0) [] (bytesLE 4 s.bbx.boots) 4 0x4546494C (by decide) fun b h1 h2 => ?_
  rw [State.rd8_pmemStore, if_pos ⟨h1, h2⟩]
  rfl

theorem State.lifeHead_boots (s : State) : s.lifeHead.pmRd (lifeRec 4) 4 = s.bbx.boots % 2 ^ 32 := by
  have hl : (bytesLE 4 0x4546494C).length = 4 := bytesLE_length ..
  have hat : pmemBase + lifeRec 4 = pmemBase + lifeRec 0 + (bytesLE 4 0x4546494C).length := by
    rw [hl]
    rfl
  rw [s.pmRd_lifeHead_first (by decide), State.pmRd, hat]
  refine State.rdNat_of_stored _ [] 4 _ (Nat.mod_lt _ (by decide)) fun b h1 h2 => ?_
  rw [List.append_nil, show bytesLE 4 (s.bbx.boots % 2 ^ 32) = _ from bytesLE_mod 4 s.bbx.boots] at *
  rw [State.rd8_pmemStore, if_pos ⟨h1, h2⟩]

theorem State.lifeHead_cal (s : State) : s.lifeHead.pmRd (lifeRec 8) 8 = s.calNow :=
  State.pmRd_pmemStore_same _ _ _ _ s.calNow_lt

/-- What a rewrite leaves in the head. -/
theorem State.lifeRewrite_head (s : State) (secs : Nat) :
    (s.lifeRewrite secs).pmRd (lifeRec 0) 4 = 0x4546494C ∧ (s.lifeRewrite secs).pmRd (lifeRec 4) 4 = s.bbx.boots % 2 ^ 32 ∧
      (s.lifeRewrite secs).pmRd (lifeRec 8) 8 = s.calNow := by
  simp only [State.lifeRewrite_pmRd, State.lifeStored]
  rw [State.pmRd_foldl_bump_apart _ _ _ (lifeCounters_behind (by decide)),
    State.pmRd_foldl_bump_apart _ _ _ (lifeCounters_behind (by decide)),
    State.pmRd_foldl_bump_apart _ _ _ (lifeCounters_behind (by decide))]
  exact ⟨s.lifeHead_magic, s.lifeHead_boots, s.lifeHead_cal⟩

/-- Outside the head and the counters a rewrite changes no byte. -/
theorem State.lifeRewrite_rd8_of_apart (s : State) (secs : Nat) {a : Nat}
    (h : ∀ x ∈ lifeKept, ¬ (pmemBase + lifeRec x ≤ a ∧ a < pmemBase + lifeRec x + 8)) : (s.lifeRewrite secs).rd8 a = s.rd8 a := by
  have hl : ∀ e ∈ s.lifeCounters secs, ¬ (pmemBase + e.1 ≤ a ∧ a < pmemBase + e.1 + 8) := fun e he => by
    obtain ⟨x, hx, hex, -⟩ := lifeCounters_kept he
    rw [hex]
    exact h x hx
  rw [State.lifeRewrite_rd8, State.lifeStored, State.rd8_foldl_bump _ _ _ hl, State.lifeHead,
    State.rd8_pmemStore_of_out _ (by rw [bytesLE_length]; exact h 8 (by simp [lifeKept])),
    State.rd8_pmemStore_of_out _ (by rw [List.length_append, bytesLE_length, bytesLE_length]; exact h 0 (by simp [lifeKept]))]

/-- A rewrite adds to each counter what the state has for it. -/
theorem State.lifeRewrite_counter (s : State) (secs : Nat) {x n : Nat} (h : (lifeRec x, n) ∈ s.lifeCounters secs) (hx : 0x1000 ≤ x) :
    (s.lifeRewrite secs).pmRd (lifeRec x) 8 = (s.pmRd (lifeRec x) 8 + n) % 2 ^ 64 := by
  have hhead : s.lifeHead.pmRd (lifeRec x) 8 = s.pmRd (lifeRec x) 8 := by
    rw [State.lifeHead, State.pmRd_pmemStore_apart _ (Or.inl (by rw [bytesLE_length]; unfold lifeRec; omega)),
      State.pmRd_pmemStore_apart _ (Or.inl (by rw [List.length_append, bytesLE_length, bytesLE_length]; unfold lifeRec; omega))]
  rw [State.lifeRewrite_pmRd, State.lifeStored,
    State.pmRd_foldl_bump lifeSum_lt (lifeCounters_apart s secs) _ h, hhead]
  rfl

/-- What a rewrite changes outside PMEM. -/
theorem State.lifeRewrite_onlyFields (s u : State) (secs : Nat) (hu : s.lifeRewrite secs = u) :
    { s with mem := u.mem, ecc := u.ecc, pmcQueue := u.pmcQueue, enc := { s.enc with units := u.enc.units },
             bbx := { s.bbx with halves := 0, warns := 0 } }.onlyFields u [R.PMC_STAT_DEPTH] ∧
      ∀ i, u.encUnit i = { s.encUnit i with travel := 0 } := by
  obtain ⟨h1, h2⟩ := s.afterStores_lifeStored secs
  rw [State.lifeRewrite_eq] at hu
  generalize s.lifeStored secs = t at h1 h2 hu
  rw [h1, State.withEnc, State.modBbx] at hu
  subst hu
  exact ⟨⟨rfl, h2⟩, fun i => s.enc.travelled_unit i⟩

theorem calendarSecond_clause (s : State) :
    let now := if s.bbx.calClk = some s.clk then s.bbx.cal else s.bbx.cal + 1
    let p : State := { s with bbx := { s.bbx with cal := now } }
    let at_ := fun (t : State) (x : Nat) => t.pmRd (0xB00000 + x) 8
    let adds := fun (t : State) (x n : Nat) => at_ t x = (at_ s x + n) % 2 ^ 64
    let kept := [0, 8, 0x1200, 0x1208, 0x1210] ++ (List.range 8).map (fun i => 0x1000 + 8 * i) ++
      (List.range 31).map fun k => 0x1040 + 8 * k
    (s.sys.dev = .dark → exec .calendarSecond s = .next p.settle) ∧
    (s.sys.dev ≠ .dark → ∃ u : State, exec .calendarSecond s = .next u.settle ∧
      { p with mem := u.mem, ecc := u.ecc, pmcQueue := u.pmcQueue, enc := { s.enc with units := u.enc.units }, bbx := { p.bbx with halves := 0, warns := 0 } }.onlyFields u
        [R.PMC_STAT_DEPTH] ∧
      (∀ i, u.encUnit i = { s.encUnit i with travel := 0 }) ∧
      (∀ a, (∀ x ∈ kept, ¬ (pmemBase + 0xB00000 + x ≤ a ∧ a < pmemBase + 0xB00000 + x + 8)) → u.rd8 a = s.rd8 a) ∧
      u.pmRd 0xB00000 4 = 0x4546494C ∧ u.pmRd 0xB00004 4 = s.bbx.boots % 2 ^ 32 ∧
      at_ u 8 = (if s.bbx.calValid then now.toNat else 0) ∧
      (∀ i < 8, adds u (0x1000 + 8 * i) (s.encUnit i).travel) ∧
      (∀ k < 31, adds u (0x1040 + 8 * k) (if s.getF (R.PBS_GNT_G (k + 1)) = 0 then 0 else 1)) ∧
      adds u 0x1200 1 ∧ adds u 0x1208 s.bbx.halves ∧ adds u 0x1210 s.bbx.warns) := by
  intro now p at_ adds kept
  have hexec : exec .calendarSecond s = .next s.calendarSecond.settle := rfl
  have hp : s.calStepped = p := rfl
  rw [hexec, State.calendarSecond_eq, hp]
  refine ⟨fun hd => by rw [if_pos hd], fun hd => ⟨p.lifeRewrite 1, by rw [if_neg hd], ?_⟩⟩
  obtain ⟨honly, henc⟩ := p.lifeRewrite_onlyFields _ 1 rfl
  obtain ⟨hmagic, hboots, hcal⟩ := p.lifeRewrite_head 1
  have hadd : ∀ x n, (lifeRec x, n) ∈ p.lifeCounters 1 → 0x1000 ≤ x → adds (p.lifeRewrite 1) x n := fun x n h hx =>
    p.lifeRewrite_counter 1 h hx
  refine ⟨honly, henc, fun a ha => ?_, hmagic, hboots, hcal, fun i hi => ?_, fun k hk => ?_, ?_, ?_, ?_⟩
  · refine p.lifeRewrite_rd8_of_apart 1 fun x hx => ?_
    rw [lifeRec, ← Nat.add_assoc]
    exact ha x hx
  · refine hadd _ _ (List.mem_append_left _ (List.mem_append_left _ ?_)) (by omega)
    exact List.mem_map.2 ⟨i, List.mem_range.2 hi, rfl⟩
  · refine hadd _ _ (List.mem_append_left _ (List.mem_append_right _ ?_)) (by omega)
    exact List.mem_map.2 ⟨k, List.mem_range.2 hk, rfl⟩
  · exact hadd _ _ (List.mem_append_right _ (by simp [State.lifeTotals])) (by decide)
  · exact hadd _ _ (List.mem_append_right _ (by simp [State.lifeTotals, p])) (by decide)
  · exact hadd _ _ (List.mem_append_right _ (by simp [State.lifeTotals, p])) (by decide)

/-! ## NOZZLE_COUNT_FLUSH (R536) -/

/-- A nozzle count of `v` with `n` more. -/
def nozzleSum (v n : Nat) : Nat := min (2 ^ 40 - 1) (v + n)

theorem nozzleSum_lt (v n : Nat) : nozzleSum v n < 256 ^ 8 := Nat.lt_of_le_of_lt (Nat.min_le_left _ _) (by decide)

/-- The counters of bank `m`, with what it adds. -/
def nozzleCounters (m : SMap Nat) : List (Nat × Nat) := m.map fun e => (nozzleOffset e.1, e.2)

/-- The banks of nozzle counts once a flush has ended. -/
def Nozzles.flushed (x : Nozzles) : Nozzles :=
  if x.due then { bank := [], flush := some x.bank, due := false } else { x with flush := none }

theorem State.nozzleFlush_of_none {s : State} (h : s.nozzles.flush = none) : s.nozzleFlush = s := by
  rw [State.nozzleFlush, h]

theorem foldl_nozzleCounters (m : SMap Nat) (s : State) :
    m.foldl (fun s e => s.pmemStore (nozzleOffset e.1)
      (bytesLE 8 (min (2 ^ 40 - 1) (s.pmRd (nozzleOffset e.1) 8 + e.2)))) s = (nozzleCounters m).foldl (State.bump nozzleSum) s := by
  rw [nozzleCounters, List.foldl_map]
  rfl

theorem State.nozzleFlush_of_some {s : State} {m : SMap Nat} (h : s.nozzles.flush = some m) :
    s.nozzleFlush = { (nozzleCounters m).foldl (State.bump nozzleSum) s with nozzles := s.nozzles.flushed } := by
  have hn : ((nozzleCounters m).foldl (State.bump nozzleSum) s).nozzles = s.nozzles := by
    rw [(s.afterStores_refl.bumps nozzleSum (nozzleCounters m)).1]
  rw [State.nozzleFlush, h]
  simp only [foldl_nozzleCounters]
  generalize (nozzleCounters m).foldl (State.bump nozzleSum) s = t at hn
  rw [Nozzles.flushed, ← hn]
  cases hd : t.nozzles.due with
  | false => rfl
  | true => rfl

theorem nozzleCounters_apart {m : SMap Nat} (h : (m.map (·.1)).Nodup) : countersApart (nozzleCounters m) := by
  rw [countersApart, nozzleCounters, List.pairwise_map]
  refine (List.pairwise_map.1 h).imp fun hne => ?_
  unfold nozzleOffset
  omega

theorem State.rd8_foldl_bump_withNozzles (l : List (Nat × Nat)) (s : State) (x : Nozzles) (b : Nat) :
    ({ l.foldl (State.bump nozzleSum) s with nozzles := x } : State).rd8 b = (l.foldl (State.bump nozzleSum) s).rd8 b := rfl

theorem nozzleCountFlush_clause (s : State) :
    (s.nozzles.flush = none → exec .nozzleCountFlush s = .next s.settle) ∧
    (∀ m, s.nozzles.flush = some m → (m.map (·.1)).Nodup → ∃ u : State, exec .nozzleCountFlush s = .next u.settle ∧
      { s with mem := u.mem, ecc := u.ecc, pmcQueue := u.pmcQueue, nozzles := if s.nozzles.due then { bank := [], flush := some s.nozzles.bank, due := false } else { s.nozzles with flush := none } }.onlyFields u
        [R.PMC_STAT_DEPTH] ∧
      (∀ e ∈ m, u.pmRd (0x900000 + 8 * e.1) 8 = min (2 ^ 40 - 1) (s.pmRd (0x900000 + 8 * e.1) 8 + e.2)) ∧
      (∀ a, (∀ e ∈ m, ¬ (pmemBase + 0x900000 + 8 * e.1 ≤ a ∧ a < pmemBase + 0x900000 + 8 * e.1 + 8)) → u.rd8 a = s.rd8 a)) := by
  have hexec : exec .nozzleCountFlush s = .next s.nozzleFlush.settle := rfl
  rw [hexec]
  refine ⟨fun h => by rw [State.nozzleFlush_of_none h], fun m h hm => ⟨_, rfl, ?_, fun e he => ?_, fun a ha => ?_⟩⟩
  · obtain ⟨h1, h2⟩ := s.afterStores_refl.bumps nozzleSum (nozzleCounters m)
    rw [State.nozzleFlush_of_some h]
    generalize (nozzleCounters m).foldl (State.bump nozzleSum) s = t at h1 h2
    rw [h1]
    exact ⟨rfl, h2⟩
  · have hc := State.pmRd_foldl_bump nozzleSum_lt (nozzleCounters_apart hm) s (List.mem_map.2 ⟨e, he, rfl⟩)
    rw [State.nozzleFlush_of_some h]
    exact (State.pmRd_congr fun b _ _ => State.rd8_foldl_bump_withNozzles ..).trans hc
  · rw [State.nozzleFlush_of_some h, State.rd8_foldl_bump_withNozzles]
    refine State.rd8_foldl_bump _ _ _ fun e he => ?_
    obtain ⟨x, hx, rfl⟩ := List.mem_map.1 he
    rw [nozzleOffset, ← Nat.add_assoc]
    exact ha x hx

end Sys2Proof.Machine
end

section
/-!
# The supply, the die temperature and the wake lands
-/

namespace Sys2Proof.Machine

/-! ## SELV rails (R548) -/

/-- A command that sets field `f` to the value `n` it has room for. -/
theorem exec_setF_spec {c : Instr} {s : State} {f : Fld} {n : Nat} (h : exec c s = .next (s.setF f n).settle) (hlo : f.lo ≤ f.hi)
    (hhi : f.hi < 32) (hn : n < 2 ^ (f.hi + 1 - f.lo)) : ∃ u : State, exec c s = .next u.settle ∧ s.onlyFields u [f] ∧ u.getF f = n :=
  ⟨_, h, (s.onlyFields_refl _).setF List.mem_cons_self hhi n, s.getF_setF_of_lt hlo hhi hn⟩

theorem exec_selvRestart (rail12 : Bool) (s : State) :
    exec (.selvRestart rail12) s = .next (State.settle (s.setF (if rail12 then R.SYS_PWR_OFF12 else R.SYS_PWR_OFF5) 0)) := rfl

theorem exec_selvOverload (rail12 : Bool) (s : State) : exec (.selvOverload rail12) s =
    .next (State.settle (if s.sys.dev = .dark then s else s.setF (if rail12 then R.SYS_PWR_OL12 else R.SYS_PWR_OL5) 1)) := rfl

theorem exec_selvThermalOff (rail12 : Bool) (s : State) : exec (.selvThermalOff rail12) s =
    .next (State.settle (if s.sys.dev = .dark then s else s.setF (if rail12 then R.SYS_PWR_OFF12 else R.SYS_PWR_OFF5) 1)) := rfl

theorem selv_clause (rail12 : Bool) (s : State) :
    let ol := if rail12 then R.SYS_PWR_OL12 else R.SYS_PWR_OL5
    let off := if rail12 then R.SYS_PWR_OFF12 else R.SYS_PWR_OFF5
    let becomes := fun (c : Instr) (f : Fld) (n : Nat) => ∃ u : State, exec c s = .next u.settle ∧ s.onlyFields u [f] ∧ u.getF f = n
    becomes (.selvRestart rail12) off 0 ∧
    (s.sys.dev ≠ .dark → becomes (.selvOverload rail12) ol 1 ∧ becomes (.selvThermalOff rail12) off 1) ∧
    (s.sys.dev = .dark → exec (.selvOverload rail12) s = .next s.settle ∧ exec (.selvThermalOff rail12) s = .next s.settle) := by
  intro ol off becomes
  have hol : ol.lo = ol.hi ∧ ol.hi < 32 := by cases rail12 <;> decide
  have hoff : off.lo = off.hi ∧ off.hi < 32 := by cases rail12 <;> decide
  have hbit : ∀ f : Fld, f.lo = f.hi → 2 ^ (f.hi + 1 - f.lo) = 2 := fun f h => by rw [h, Nat.add_sub_cancel_left, pow_one]
  refine ⟨exec_setF_spec (exec_selvRestart rail12 s) (Nat.le_of_eq hoff.1) hoff.2 (by rw [hbit _ hoff.1]; decide), fun hd => ?_, fun hd => ?_⟩
  · exact ⟨exec_setF_spec (by rw [exec_selvOverload, if_neg hd]) (Nat.le_of_eq hol.1) hol.2 (by rw [hbit _ hol.1]; decide),
      exec_setF_spec (by rw [exec_selvThermalOff, if_neg hd]) (Nat.le_of_eq hoff.1) hoff.2 (by rw [hbit _ hoff.1]; decide)⟩
  · rw [exec_selvOverload, exec_selvThermalOff, if_pos hd, if_pos hd]
    exact ⟨rfl, rfl⟩

/-! ## POWER_FAIL_WARNING (R33, R381) -/

/-- `s` with the warning shown, counted and recorded. -/
def State.pfwShown (s : State) : State :=
  ((s.raise R.SYS_PWR_PFW).modBbx fun b => { b with warns := b.warns + 1 }).bbxEvent 8 [s.getReg R.AFE_MMEAS]

theorem State.pfwShown_eq (s : State) : s.pfwShown = { s with
    regs := s.pfwShown.regs, bbxQueue := s.queuedRecord 8 [s.getReg R.AFE_MMEAS]
    bbx := { s.bbx with warns := s.bbx.warns + 1, lost := s.bbx.lost + if s.bbxQueue.length < 16 then 0 else 1 } } :=
  State.bbxEvent_eq ..

/-- A warning as a curtain trigger, or as what ends WINGS. -/
def State.mainsCalled (s : State) : State :=
  match s.sys.dev with
  | .run _ | .curtain => (s.raise R.SYS_CURTAIN_MAINS).modSys fun y => { y with mainsDue := true }
  | .wings => s.modSys fun y => { y with mainsDue := true }
  | _ => s

theorem State.powerFail_eq (s : State) : s.powerFail = if s.sys.dev = .dark then s else s.pfwShown.mainsCalled := rfl

theorem State.mainsCalled_of_curtains {s : State} (h : s.inRun = true ∨ s.sys.dev = .curtain) :
    s.mainsCalled = (s.setF R.SYS_CURTAIN_MAINS 1).modSys fun y => { y with mainsDue := true } := by
  unfold State.inRun at h
  unfold State.mainsCalled
  cases hd : s.sys.dev <;> simp_all [State.raise_eq]

theorem State.mainsCalled_of_wings {s : State} (h : s.sys.dev = .wings) :
    s.mainsCalled = s.modSys fun y => { y with mainsDue := true } := by
  rw [State.mainsCalled, h]

theorem State.mainsCalled_of_other {s : State} (h : ¬ ((s.inRun = true ∨ s.sys.dev = .curtain) ∨ s.sys.dev = .wings)) :
    s.mainsCalled = s := by
  unfold State.inRun at h
  unfold State.mainsCalled
  cases hd : s.sys.dev <;> simp_all

/-- What a called trigger changes. -/
theorem State.mainsCalled_spec (s : State) :
    let u := s.mainsCalled
    let curtains := s.inRun = true ∨ s.sys.dev = .curtain
    { s with sys := u.sys }.onlyFields u [R.SYS_CURTAIN_MAINS] ∧
      (curtains → u.getF R.SYS_CURTAIN_MAINS = 1) ∧ (¬ curtains → u.getF R.SYS_CURTAIN_MAINS = s.getF R.SYS_CURTAIN_MAINS) ∧
      (curtains ∨ s.sys.dev = .wings → u.sys = { s.sys with mainsDue := true }) ∧
      (¬ (curtains ∨ s.sys.dev = .wings) → u.sys = s.sys) := by
  intro u curtains
  by_cases hc : curtains
  · rw [show u = _ from State.mainsCalled_of_curtains hc]
    exact ⟨⟨rfl, ((s.onlyFields_refl [R.SYS_CURTAIN_MAINS]).setF List.mem_cons_self (by decide) 1).2⟩,
      fun _ => s.getF_setF_of_lt (f := R.SYS_CURTAIN_MAINS) (by decide) (by decide) (by decide),
      fun h => absurd hc h, fun _ => rfl, fun h => absurd (Or.inl hc) h⟩
  · by_cases hw : s.sys.dev = .wings
    · rw [show u = _ from State.mainsCalled_of_wings hw]
      exact ⟨⟨rfl, fun _ _ => rfl⟩, fun h => absurd h hc, fun _ => rfl, fun _ => rfl, fun h => absurd (Or.inr hw) h⟩
    · have ho : ¬ (curtains ∨ s.sys.dev = .wings) := not_or.2 ⟨hc, hw⟩
      rw [show u = _ from State.mainsCalled_of_other ho]
      exact ⟨⟨rfl, fun _ _ => rfl⟩, fun h => absurd h hc, fun _ => rfl, fun h => absurd h ho, fun _ => rfl⟩

theorem State.pfwShown_spec (s : State) :
    s.pfwShown.getF R.SYS_PWR_PFW = 1 ∧
      s.pfwShown.getF R.BBX_STAT_LOST =
        (if s.bbxQueue.length < 16 then s.getF R.BBX_STAT_LOST else min (s.getF R.BBX_STAT_LOST + 1) 65535) ∧
      ∀ f : Fld, f.apart R.SYS_PWR_PFW → f.apart R.BBX_STAT_LOST → s.pfwShown.getF f = s.getF f := by
  obtain ⟨t, ht⟩ : ∃ t, t = (s.raise R.SYS_PWR_PFW).modBbx fun b => { b with warns := b.warns + 1 } := ⟨_, rfl⟩
  have hf : ∀ f, t.getF f = (s.setF R.SYS_PWR_PFW 1).getF f := fun f => by rw [ht, State.raise_eq]; rfl
  have hq : t.bbxQueue = s.bbxQueue := by rw [ht]; rfl
  rw [State.pfwShown, ← ht]
  refine ⟨?_, ?_, fun f h1 h2 => ?_⟩
  · rw [State.getF_bbxEvent_apart _ _ _ (Or.inl (by decide)), hf, State.getF_setF_of_lt _ (by decide) (by decide) (by decide)]
  · rw [State.getF_bbxEvent_lost, hq, hf, State.getF_setF_apart _ _ (by decide) (Or.inl (by decide))]
  · rw [State.getF_bbxEvent_apart _ _ _ h2, hf, State.getF_setF_apart _ _ (by decide) h1]

theorem powerFailWarning_clause (s : State) :
    let curtains := s.inRun = true ∨ s.sys.dev = .curtain
    (s.sys.dev = .dark → exec .powerFailWarning s = .next s.settle) ∧
    (s.sys.dev ≠ .dark → ∃ u : State, exec .powerFailWarning s = .next u.settle ∧
      { s with sys := u.sys, bbxQueue := s.queuedRecord 8 [s.getReg R.AFE_MMEAS], bbx := { s.bbx with warns := s.bbx.warns + 1, lost := s.bbx.lost + if s.bbxQueue.length < 16 then 0 else 1 } }.onlyFields u
        [R.SYS_PWR_PFW, R.SYS_CURTAIN_MAINS, R.BBX_STAT_LOST] ∧
      u.getF R.SYS_PWR_PFW = 1 ∧
      u.getF R.BBX_STAT_LOST = (if s.bbxQueue.length < 16 then s.getF R.BBX_STAT_LOST else min (s.getF R.BBX_STAT_LOST + 1) 65535) ∧
      (curtains → u.getF R.SYS_CURTAIN_MAINS = 1) ∧ (¬ curtains → u.getF R.SYS_CURTAIN_MAINS = s.getF R.SYS_CURTAIN_MAINS) ∧
      (curtains ∨ s.sys.dev = .wings → u.sys = { s.sys with mainsDue := true }) ∧
      (¬ (curtains ∨ s.sys.dev = .wings) → u.sys = s.sys)) := by
  intro curtains
  have hexec : exec .powerFailWarning s = .next s.powerFail.settle := rfl
  rw [hexec, State.powerFail_eq]
  refine ⟨fun hd => by rw [if_pos hd], fun hd => ⟨s.pfwShown.mainsCalled, by rw [if_neg hd], ?_⟩⟩
  have hsys : s.pfwShown.sys = s.sys := by rw [s.pfwShown_eq]
  have hrun : s.pfwShown.inRun = s.inRun := by rw [State.inRun, State.inRun, hsys]
  obtain ⟨hpfw, hlost, hother⟩ := s.pfwShown_spec
  obtain ⟨⟨heq, hfields⟩, hc, hnc, hs, hns⟩ := s.pfwShown.mainsCalled_spec
  rw [hsys, hrun] at hc hnc hs hns
  have hmains := hother R.SYS_CURTAIN_MAINS (Or.inl (by decide)) (Or.inl (by decide))
  have hap : ∀ f : Fld, f.addr ≠ R.SYS_CURTAIN → s.pfwShown.mainsCalled.getF f = s.pfwShown.getF f := fun f h =>
    hfields f (by simp only [List.forall_mem_singleton]; exact Or.inl h)
  refine ⟨⟨?_, fun f h => ?_⟩, ?_, ?_, hc, fun h => (hnc h).trans hmains, hs, hns⟩
  · rw [heq, s.pfwShown_eq]
  · simp only [List.forall_mem_cons] at h
    obtain ⟨h1, h2, h3, -⟩ := h
    exact (hfields f (by simp only [List.forall_mem_singleton]; exact h2)).trans (hother f h1 h3)
  · rw [hap _ (by decide), hpfw]
  · rw [hap _ (by decide), hlost]

/-! ## DIE_TEMPERATURE_UPDATE (R33, R553) -/

theorem State.trigger_of_run {s : State} (h : s.inRun = true) (f : Fld) :
    s.trigger f = (s.setF f 1).modSys fun y => { y with faultDue := true } := by
  unfold State.inRun at h
  unfold State.trigger
  cases hd : s.sys.dev <;> simp_all [State.raise_eq]

theorem State.trigger_of_curtain {s : State} (h : s.sys.dev = .curtain) (f : Fld) : s.trigger f = s.setF f 1 := by
  rw [State.trigger, h]
  rfl

theorem State.trigger_of_other {s : State} (h : ¬ (s.inRun = true ∨ s.sys.dev = .curtain)) (f : Fld) : s.trigger f = s := by
  unfold State.inRun at h
  unfold State.trigger
  cases hd : s.sys.dev <;> simp_all

/-- What a curtain trigger with a cause bit of its own changes. -/
theorem State.trigger_spec (s : State) {f : Fld} (hlo : f.lo ≤ f.hi) (hhi : f.hi < 32) :
    let u := s.trigger f
    { s with sys := u.sys }.onlyFields u [f] ∧
      u.getF f = (if s.inRun = true ∨ s.sys.dev = .curtain then 1 else s.getF f) ∧
      u.sys = if s.inRun = true then { s.sys with faultDue := true } else s.sys := by
  intro u
  have hset := (s.onlyFields_refl [f]).setF List.mem_cons_self hhi 1
  have hone : (s.setF f 1).getF f = 1 := s.getF_setF_of_lt hlo hhi (Nat.one_lt_two_pow (by omega))
  by_cases hr : s.inRun = true
  · rw [show u = _ from State.trigger_of_run hr f, if_pos hr, if_pos (Or.inl hr)]
    exact ⟨⟨rfl, hset.2⟩, hone, rfl⟩
  · rw [if_neg hr]
    by_cases hc : s.sys.dev = .curtain
    · rw [show u = _ from State.trigger_of_curtain hc f, if_pos (Or.inr hc)]
      exact ⟨hset, hone, rfl⟩
    · have ho := not_or.2 ⟨hr, hc⟩
      rw [show u = _ from State.trigger_of_other ho f, if_neg ho]
      exact ⟨s.onlyFields_refl _, rfl, rfl⟩

theorem State.dieTemp_eq (s : State) (t : BitVec 16) : s.dieTemp t = if s.sys.dev = .dark then s
    else if 1150 ≤ t.toInt then (s.setF R.SYS_TEMP_T t.toNat).trigger R.SYS_CURTAIN_THERMAL else s.setF R.SYS_TEMP_T t.toNat := rfl

theorem dieTemperatureUpdate_clause (t : BitVec 16) (s : State) :
    (s.sys.dev = .dark → exec (.dieTemperatureUpdate t) s = .next s.settle) ∧
    (s.sys.dev ≠ .dark → ∃ u : State, exec (.dieTemperatureUpdate t) s = .next u.settle ∧
      let hot := 1150 ≤ t.toInt ∧ (s.inRun = true ∨ s.sys.dev = .curtain)
      { s with sys := u.sys }.onlyFields u [R.SYS_TEMP_T, R.SYS_CURTAIN_THERMAL] ∧ u.getF R.SYS_TEMP_T = t.toNat ∧
      u.getF R.SYS_CURTAIN_THERMAL = (if hot then 1 else s.getF R.SYS_CURTAIN_THERMAL) ∧
      (hot ∧ s.inRun = true → u.sys = { s.sys with faultDue := true }) ∧ (¬ (hot ∧ s.inRun = true) → u.sys = s.sys)) := by
  have hexec : exec (.dieTemperatureUpdate t) s = .next (s.dieTemp t).settle := rfl
  rw [hexec, State.dieTemp_eq]
  refine ⟨fun hd => by rw [if_pos hd], fun hd => ?_⟩
  have hset := (s.onlyFields_refl [R.SYS_TEMP_T, R.SYS_CURTAIN_THERMAL]).setF List.mem_cons_self (by decide) t.toNat
  have htemp : (s.setF R.SYS_TEMP_T t.toNat).getF R.SYS_TEMP_T = t.toNat :=
    s.getF_setF_of_lt (f := R.SYS_TEMP_T) (by decide) (by decide) t.isLt
  have htherm : (s.setF R.SYS_TEMP_T t.toNat).getF R.SYS_CURTAIN_THERMAL = s.getF R.SYS_CURTAIN_THERMAL :=
    s.getF_setF_apart (f := R.SYS_CURTAIN_THERMAL) _ (by decide) (Or.inl (by decide))
  rw [if_neg hd]
  by_cases hot : 1150 ≤ t.toInt
  · obtain ⟨⟨hu, hf⟩, hflag, hsys⟩ :=
      (s.setF R.SYS_TEMP_T t.toNat).trigger_spec (f := R.SYS_CURTAIN_THERMAL) (by decide) (by decide)
    rw [htherm] at hflag
    refine ⟨_, by rw [if_pos hot], ⟨?_, fun f h => ?_⟩, ?_, ?_, fun h => ?_, fun h => ?_⟩
    · rw [hu]
      rfl
    · simp only [List.forall_mem_cons] at h
      obtain ⟨h1, h2, -⟩ := h
      exact (hf f (by simp only [List.forall_mem_singleton]; exact h2)).trans (s.getF_setF_apart _ (by decide) h1)
    · exact (hf _ (by simp only [List.forall_mem_singleton]; exact Or.inl (by decide))).trans htemp
    · simp only [hot, true_and]
      exact hflag
    · exact hsys.trans (if_pos h.2)
    · exact hsys.trans (if_neg fun hr => h ⟨⟨hot, Or.inl hr⟩, hr⟩)
  · refine ⟨_, by rw [if_neg hot], hset, htemp, ?_, fun h => absurd h.1.1 hot, fun _ => rfl⟩
    rw [if_neg fun h => hot h.1, htherm]

/-! ## WAKE_DETECT (R160, R442) -/

theorem State.wakeStart_of_leaves {s : State} (h : s.sys.dev = .wings ∧ s.sys.wakeDue = false) :
    s.wakeStart = { (s.setF R.DRC_STAT_SREF 0) with drcWaking := true, sys := { s.sys with wakeDue := true } } := by
  rw [State.wakeStart, if_pos ⟨h.1, by rw [h.2]; decide⟩, State.lower_eq]

theorem State.wakeStart_of_not_leaves {s : State} (h : ¬ (s.sys.dev = .wings ∧ s.sys.wakeDue = false)) : s.wakeStart = s :=
  if_neg fun k => h ⟨k.1, Bool.eq_false_iff.2 k.2⟩

theorem exec_wakeDetect (land : Fin 16) (s : State) : exec (.wakeDetect land) s =
    .next (State.settle (if (s.sys.dev = .wings ∨ s.sys.dev = .dark) ∧ s.flag (R.GPIO_WAKECFG_EN land) = true then
      (s.raiseBit R.GPIO_STAT_WAKESRC land).wakeStart else s)) := rfl

theorem wakeDetect_clause (land : Fin 16) (s : State) :
    let wakes := (s.sys.dev = .wings ∨ s.sys.dev = .dark) ∧ s.getF (R.GPIO_WAKECFG_EN land) ≠ 0
    let leaves := s.sys.dev = .wings ∧ s.sys.wakeDue = false
    (¬ wakes → exec (.wakeDetect land) s = .next s.settle) ∧
    (wakes → ∃ u : State, exec (.wakeDetect land) s = .next u.settle ∧
      u.getF R.GPIO_STAT_WAKESRC = s.getF R.GPIO_STAT_WAKESRC ||| 2 ^ land.val ∧
      (¬ leaves → s.onlyFields u [R.GPIO_STAT_WAKESRC]) ∧
      (leaves → { s with drcWaking := true, sys := { s.sys with wakeDue := true } }.onlyFields u [R.GPIO_STAT_WAKESRC, R.DRC_STAT_SREF] ∧
        u.getF R.DRC_STAT_SREF = 0)) := by
  intro wakes leaves
  simp only [exec_wakeDetect, State.flag_eq_true_iff]
  refine ⟨fun h => by rw [if_neg h], fun h => ⟨_, by rw [if_pos h], ?_⟩⟩
  obtain ⟨t, ht⟩ : ∃ t, t = s.raiseBit R.GPIO_STAT_WAKESRC land := ⟨_, rfl⟩
  have hsrc : t.getF R.GPIO_STAT_WAKESRC = s.getF R.GPIO_STAT_WAKESRC ||| 2 ^ land.val := by
    rw [ht, s.getF_raiseBit (by decide) (by decide) land.isLt]
  have hsys : t.sys = s.sys := by rw [ht, State.raiseBit_eq]; rfl
  have honly : ∀ l, R.GPIO_STAT_WAKESRC ∈ l → s.onlyFields t l := fun l hl => by
    rw [ht, State.raiseBit_eq]
    exact (s.onlyFields_refl l).setF hl (by decide) _
  rw [← ht]
  by_cases hw : leaves
  · have hset := (honly [R.GPIO_STAT_WAKESRC, R.DRC_STAT_SREF] List.mem_cons_self).setF (f := R.DRC_STAT_SREF) (by simp) (by decide) 0
    rw [State.wakeStart_of_leaves (by rw [hsys]; exact hw), hsys]
    refine ⟨(t.getF_setF_apart 0 (by decide) (Or.inl (by decide))).trans hsrc, fun h => absurd hw h, fun _ => ⟨⟨?_, hset.2⟩, ?_⟩⟩
    · rw [hset.1]
    · exact t.getF_setF_of_lt (f := R.DRC_STAT_SREF) (by decide) (by decide) (by decide)
  · rw [State.wakeStart_of_not_leaves (by rw [hsys]; exact hw)]
    exact ⟨hsrc, fun _ => honly _ List.mem_cons_self, fun h => absurd h hw⟩

end Sys2Proof.Machine
end

section
/-!
# What the resets and the loss of supply keep, and the entry to DARK
-/

namespace Sys2Proof.Machine

/-! ## Memory without some bytes -/

theorem mfind_filter {α : Type} (p : Nat → Bool) (m : SMap α) (k : Nat) :
    mfind (m.filter fun c => !p c.1) k = if p k then none else mfind m k := by
  induction m with
  | nil => simp [mfind]
  | cons c t ih =>
    rw [List.filter_cons]
    by_cases hk : c.1 = k
    · by_cases hp : p k <;> simp [mfind, hk, hp, ih]
    · by_cases hp : p c.1 <;> simp [mfind, hk, hp, ih]

theorem State.dropMem_eq (s : State) (p : Nat → Bool) : s.dropMem p = { s with mem := (s.dropMem p).mem } := rfl

theorem State.mfind_dropMem (s : State) (p : Nat → Bool) (a : Nat) :
    mfind (s.dropMem p).mem a = if p a then none else mfind s.mem a := mfind_filter p s.mem a

/-! ## Registers put over -/

theorem State.keepReg_eq (s0 s : State) (a : Nat) (m : Word) : s0.keepReg s a m = { s with regs := (s0.keepReg s a m).regs } := rfl

theorem State.getReg_keepReg (s0 s : State) (a : Nat) (m : Word) (b : Nat) :
    (s0.keepReg s a m).getReg b = if b = a then (s.getReg a &&& ~~~ m) ||| (s0.getReg a &&& m) else s.getReg b := by
  rw [State.keepReg, State.getReg_setReg]

theorem State.getReg_keepReg_of_ne (s0 s : State) {a : Nat} (m : Word) {b : Nat} (h : b ≠ a) :
    (s0.keepReg s a m).getReg b = s.getReg b := by
  rw [State.getReg_keepReg, if_neg h]

theorem State.getF_keepReg_of_ne (s0 s : State) {a : Nat} (m : Word) {f : Fld} (h : f.addr ≠ a) :
    (s0.keepReg s a m).getF f = s.getF f := by
  rw [State.getF, State.getReg_keepReg_of_ne _ _ _ h, State.getF]

theorem keepMask_foldl_getLsbD {l : List Fld} (hl : ∀ f ∈ l, f.hi < 32) (m : Word) (k : Nat) :
    (l.foldl (fun m f => m ||| maskOf f.hi f.lo) m).getLsbD k =
      (m.getLsbD k || l.any fun f => decide (f.lo ≤ k) && decide (k ≤ f.hi)) := by
  induction l generalizing m with
  | nil => simp
  | cons f l ih =>
    rw [List.forall_mem_cons] at hl
    rw [List.foldl_cons, ih hl.2, BitVec.getLsbD_or, maskOf_getLsbD _ _ _ hl.1, List.any_cons, Bool.or_assoc]

theorem keepMask_getLsbD {l : List Fld} (hl : ∀ f ∈ l, f.hi < 32) {f : Fld} (hf : f ∈ l) {k : Nat} (h1 : f.lo ≤ k) (h2 : k ≤ f.hi) :
    (keepMask l).getLsbD k = true := by
  rw [keepMask, keepMask_foldl_getLsbD hl, Bool.or_eq_true, List.any_eq_true]
  exact Or.inr ⟨f, hf, by simp [h1, h2]⟩

/-- A field that is put over. -/
theorem State.getF_keepReg_of_mem (s0 s : State) {l : List Fld} (hl : ∀ f ∈ l, f.hi < 32) {f : Fld} (hf : f ∈ l) :
    (s0.keepReg s f.addr (keepMask l)).getF f = s0.getF f :=
  fieldOf_congr fun k h1 h2 => by
    rw [State.getReg_keepReg, if_pos rfl, BitVec.getLsbD_or, BitVec.getLsbD_and, BitVec.getLsbD_and, BitVec.getLsbD_not,
      keepMask_getLsbD hl hf h1 h2]
    simp

theorem State.keepRegs_eq (s0 s : State) (l : List Nat) : s0.keepRegs s l = { s with regs := (s0.keepRegs s l).regs } := by
  unfold State.keepRegs
  induction l generalizing s with
  | nil => rfl
  | cons a l ih => rw [List.foldl_cons, ih, State.keepReg_eq]

theorem State.getReg_keepRegs (s0 s : State) (l : List Nat) (b : Nat) :
    (s0.keepRegs s l).getReg b = if b ∈ l then s0.getReg b else s.getReg b := by
  unfold State.keepRegs
  induction l generalizing s with
  | nil => simp
  | cons a l ih =>
    have hall : ∀ x y : Word, (x &&& ~~~ 0xFFFFFFFF#32) ||| (y &&& 0xFFFFFFFF#32) = y := fun x y => by
      rw [show 0xFFFFFFFF#32 = BitVec.allOnes 32 from rfl, BitVec.and_allOnes, BitVec.not_allOnes, BitVec.and_zero, BitVec.zero_or]
    rw [List.foldl_cons, ih, State.getReg_keepReg, hall]
    by_cases hb : b = a
    · subst hb
      simp
    · simp [hb]

/-! ## What the always-on domain keeps (R443, R548) -/

/-- The registers that the always-on domain and the supply keep, or parts of which they keep. -/
def alwaysKept : List Nat := R.GPIO_STAT :: R.SYS_PWR :: (List.range 16).map R.GPIO_WAKECFG

/-- The fields of SYS_PWR that stay. -/
def pwrKept : List Fld := [R.SYS_PWR_PFW, R.SYS_PWR_VBATLOW, R.SYS_PWR_OFF12, R.SYS_PWR_OFF5]

theorem pwrKept_hi : ∀ f ∈ pwrKept, f.hi < 32 := by decide

theorem pwrKept_addr : ∀ f ∈ pwrKept, f.addr = R.SYS_PWR := by
  simp only [pwrKept, List.forall_mem_cons]
  exact ⟨rfl, rfl, rfl, rfl, by simp⟩

theorem wakecfg_mem {b : Nat} : b ∈ (List.range 16).map R.GPIO_WAKECFG ↔ ∃ n < 16, R.GPIO_WAKECFG n = b := by
  simp [List.mem_map]

theorem wakecfg_ne_stat (n : Nat) : R.GPIO_WAKECFG n ≠ R.GPIO_STAT := by
  unfold R.GPIO_WAKECFG R.GPIO_STAT
  omega

theorem wakecfg_ne_pwr {n : Nat} (h : n < 16) : R.GPIO_WAKECFG n ≠ R.SYS_PWR := by
  unfold R.GPIO_WAKECFG R.SYS_PWR
  omega

theorem State.keepAlways_eq (s0 s : State) : s0.keepAlways s = { s with regs := (s0.keepAlways s).regs } := by
  rw [State.keepAlways, State.keepReg_eq, State.keepReg_eq s0 (s0.keepRegs s _), State.keepRegs_eq]

theorem State.getReg_keepAlways_of_not_mem (s0 s : State) {a : Nat} (h : a ∉ alwaysKept) : (s0.keepAlways s).getReg a = s.getReg a := by
  obtain ⟨h1, h23⟩ := not_or.1 (mt List.mem_cons.2 h)
  obtain ⟨h2, h3⟩ := not_or.1 (mt List.mem_cons.2 h23)
  rw [State.keepAlways, State.getReg_keepReg_of_ne _ _ _ h2, State.getReg_keepReg_of_ne _ _ _ h1, State.getReg_keepRegs, if_neg h3]

theorem State.getReg_keepAlways_wakecfg (s0 s : State) {n : Nat} (h : n < 16) :
    (s0.keepAlways s).getReg (R.GPIO_WAKECFG n) = s0.getReg (R.GPIO_WAKECFG n) := by
  rw [State.keepAlways, State.getReg_keepReg_of_ne _ _ _ (wakecfg_ne_pwr h), State.getReg_keepReg_of_ne _ _ _ (wakecfg_ne_stat n),
    State.getReg_keepRegs, if_pos (wakecfg_mem.2 ⟨n, h, rfl⟩)]

theorem State.getF_keepAlways_wakesrc (s0 s : State) : (s0.keepAlways s).getF R.GPIO_STAT_WAKESRC = s0.getF R.GPIO_STAT_WAKESRC := by
  rw [State.keepAlways, State.getF_keepReg_of_ne _ _ _ (by decide)]
  exact s0.getF_keepReg_of_mem _ (f := R.GPIO_STAT_WAKESRC) (l := [R.GPIO_STAT_WAKESRC]) (by decide) List.mem_cons_self

theorem State.getF_keepAlways_pwr (s0 s : State) {f : Fld} (hf : f ∈ pwrKept) : (s0.keepAlways s).getF f = s0.getF f := by
  have ha := pwrKept_addr f hf
  have h := fun t : State => s0.getF_keepReg_of_mem t pwrKept_hi hf
  rw [ha] at h
  rw [State.keepAlways, ← pwrKept]
  exact h _

/-! ## DARK (R160, R443, R545) -/

/-- `u` is `s` but for the flash unit and the free values. -/
def State.flsOnly (s u : State) : Prop := u = { s with fls := u.fls, freeCtr := u.freeCtr }

theorem State.flsOnly.trans {s t u : State} (h : s.flsOnly t) (k : t.flsOnly u) : s.flsOnly u := by
  unfold State.flsOnly at *
  rw [k, h]

theorem State.setUndef_flsOnly (s : State) (bad : Bool) (p n : Nat) : s.flsOnly (s.setUndef bad p n) := by
  cases bad <;> rfl

theorem State.flsCut_flsOnly (s : State) : s.flsOnly s.flsCut := by
  unfold State.flsCut
  extract_lets cut s1 s2
  have hcut : ∀ (t : State) o, t.flsOnly (cut t o) := fun t o => by
    unfold cut
    split
    · extract_lets t1
      split
      · exact t.setUndef_flsOnly ..
      · exact (t.setUndef_flsOnly ..).trans (State.setUndef_flsOnly ..)
    · exact t.setUndef_flsOnly ..
    · rfl
  have h1 : s.flsOnly s1 := by
    unfold s1
    split
    · rfl
    · exact hcut s _
  have h2 : s1.flsOnly s2 := by
    unfold s2
    split
    · rfl
    · exact hcut s1 _
  exact (h1.trans h2).trans rfl

theorem State.flsCut_op (s : State) : s.flsCut.fls.op = none := rfl

/-- What DARK leaves of `s` apart from the always-on domain. -/
def State.darkKept (s : State) : State :=
  { s.kept.dropMem volatileMem with
    dramEpoch := s.dramEpoch + 1, bbxQueue := [], ecc := s.ecc.filter fun e => !volatileMem (8 * e.1) }

theorem State.enterDark_eq (s : State) : s.enterDark =
    (((s.flsCut.keepAlways s.flsCut.darkKept).setCore 12 { run := RunState.inReset }).modSys fun y => { y with dev := .dark }).setF
      R.SYS_PWR_PFW 0 := rfl

/-- Everything but registers that the entry to DARK sets. -/
theorem State.enterDark_spec (s : State) :
    s.enterDark.sys.dev = .dark ∧ s.enterDark.pending = s.pending ∧ s.enterDark.bbx = s.bbx ∧ s.enterDark.bbxQueue = [] ∧
      s.enterDark.fls.op = none ∧ s.enterDark.dramEpoch = s.dramEpoch + 1 ∧ s.enterDark.romEpoch = s.romEpoch + 1 ∧
      s.enterDark.mem = (s.dropMem volatileMem).mem ∧
      s.enterDark.cores = mset State.reset.cores 12 { run := RunState.inReset } := by
  have hop := s.flsCut_op
  have hcut := s.flsCut_flsOnly
  rw [State.enterDark_eq, State.keepAlways_eq]
  generalize State.regs (s.flsCut.keepAlways _) = r
  generalize s.flsCut = c at hop hcut
  rw [State.flsOnly] at hcut
  rw [hcut]
  exact ⟨rfl, rfl, rfl, rfl, hop, rfl, rfl, rfl, rfl⟩

end Sys2Proof.Machine
end

section
/-!
# RAILS_LOST, the always-on rail and statement O57
-/

namespace Sys2Proof.Machine

/-! ## RAILS_LOST (R160, R475, R545) -/

theorem State.getReg_modSys (s : State) (f : Sys → Sys) (a : Nat) : (s.modSys f).getReg a = s.getReg a := rfl

theorem State.getReg_setCore (s : State) (n : Nat) (c : Core) (a : Nat) : (s.setCore n c).getReg a = s.getReg a := rfl

theorem State.getF_setCore (s : State) (n : Nat) (c : Core) (f : Fld) : (s.setCore n c).getF f = s.getF f := rfl

theorem State.getReg_enterDark_of_ne (s : State) {a : Nat} (h : a ≠ R.SYS_PWR) :
    s.enterDark.getReg a = (s.flsCut.keepAlways s.flsCut.darkKept).getReg a := by
  rw [State.enterDark_eq, State.getReg_setF_of_ne _ _ h, State.getReg_modSys, State.getReg_setCore]

theorem State.getReg_flsCut (s : State) (a : Nat) : s.flsCut.getReg a = s.getReg a := by
  rw [show s.flsCut = _ from s.flsCut_flsOnly]
  rfl

/-- What DARK forgets reads its reset value. -/
theorem State.getReg_enterDark_of_not_kept (s : State) {a : Nat} (h : a ∉ alwaysKept) : s.enterDark.getReg a = regReset a := by
  have hpwr : a ≠ R.SYS_PWR := fun he => h (by rw [he]; exact List.mem_cons_of_mem _ List.mem_cons_self)
  rw [s.getReg_enterDark_of_ne hpwr, State.getReg_keepAlways_of_not_mem _ _ h]
  rfl

theorem State.getReg_enterDark_wakecfg (s : State) {n : Nat} (h : n < 16) :
    s.enterDark.getReg (R.GPIO_WAKECFG n) = s.getReg (R.GPIO_WAKECFG n) := by
  rw [s.getReg_enterDark_of_ne (wakecfg_ne_pwr h), State.getReg_keepAlways_wakecfg _ _ h, State.getReg_flsCut]

theorem State.getF_enterDark_wakesrc (s : State) : s.enterDark.getF R.GPIO_STAT_WAKESRC = s.getF R.GPIO_STAT_WAKESRC := by
  have h := s.flsCut.getF_keepAlways_wakesrc s.flsCut.darkKept
  rw [State.getF, s.getReg_enterDark_of_ne (a := R.GPIO_STAT_WAKESRC.addr) (by decide), ← State.getF, h, State.getF, State.getF,
    State.getReg_flsCut]

theorem State.getF_enterDark_pwr (s : State) {f : Fld} (hf : f ∈ pwrKept) (ha : f.apart R.SYS_PWR_PFW) :
    s.enterDark.getF f = s.getF f := by
  have h := s.flsCut.getF_keepAlways_pwr s.flsCut.darkKept hf
  rw [State.enterDark_eq, State.getF_setF_apart _ _ (by decide) ha, State.getF_modSys, State.getF_setCore, h, State.getF, State.getF,
    State.getReg_flsCut]

theorem State.getF_enterDark_pfw (s : State) : s.enterDark.getF R.SYS_PWR_PFW = 0 := by
  rw [State.enterDark_eq, State.getF_setF_of_lt _ (by decide) (by decide) (by decide)]

theorem memDefault_of_not_volatile {a : Nat} (h : volatileMem a = false) : ∃ v, memDefault a = some v := by
  simp only [volatileMem, decide_eq_false_iff_not] at h
  unfold memDefault
  rw [if_neg (by omega)]
  split
  · exact ⟨_, rfl⟩
  · exact ⟨_, rfl⟩

theorem State.rd8_enterDark (s : State) {a : Nat} (h : volatileMem a = false) : s.enterDark.rd8 a = s.rd8 a := by
  obtain ⟨v, hv⟩ := memDefault_of_not_volatile h
  obtain ⟨-, -, -, -, -, -, -, hmem, -⟩ := s.enterDark_spec
  rw [State.rd8, State.rd8, hmem, State.mfind_dropMem, h, hv]
  rfl

theorem State.core_enterDark (s : State) {n : Nat} (h : n < 16) : (s.enterDark.core n).run = .inReset := by
  obtain ⟨-, -, -, -, -, -, -, -, hcores⟩ := s.enterDark_spec
  rw [State.core, hcores]
  have hall : ∀ n < 16, (mget ({} : Core) (mset State.reset.cores 12 { run := RunState.inReset }) n).run = .inReset := by
    decide +kernel
  exact hall n h

/-- `s` with the loss of the rails noted. -/
def State.railsNoted (s : State) : State := { s with sys := { s.sys with railsDue := true } }

theorem exec_railsLost (s : State) :
    exec .railsLost s = .next (State.settle (if s.sys.dev = .dark then s else s.railsNoted.railsTurn)) := rfl

theorem State.railsTurn_railsNoted (s : State) :
    s.railsNoted.railsTurn = if s.draining = true then s.railsNoted else s.railsNoted.enterDark := by
  have hd : s.railsNoted.draining = s.draining := rfl
  rw [State.railsTurn, hd]
  cases s.draining <;> rfl

theorem railsLost_clause (s : State) :
    let gone := fun a : Nat => (0x08000000 ≤ a ∧ a < 0x40000000) ∨ 0x1000000000 ≤ a
    let kept := R.GPIO_STAT :: R.SYS_PWR :: (List.range 16).map R.GPIO_WAKECFG
    (s.sys.dev = .dark → exec .railsLost s = .next s.settle) ∧
    (s.sys.dev ≠ .dark → s.draining = true →
      exec .railsLost s = .next (State.settle { s with sys := { s.sys with railsDue := true } })) ∧
    (s.sys.dev ≠ .dark → s.draining = false → ∃ u : State, exec .railsLost s = .next u.settle ∧ u.sys.dev = .dark ∧
      (∀ n < 16, (u.core n).run = .inReset) ∧ u.pending = s.pending ∧ u.bbx = s.bbx ∧ u.bbxQueue = [] ∧ u.fls.op = none ∧
      (∀ a, ¬ gone a → u.rd8 a = s.rd8 a) ∧ (∀ a, gone a → mfind u.mem a = none) ∧ u.dramEpoch = s.dramEpoch + 1 ∧
      (∀ a, a ∉ kept → u.getReg a = regReset a) ∧ (∀ n < 16, u.getReg (R.GPIO_WAKECFG n) = s.getReg (R.GPIO_WAKECFG n)) ∧
      (∀ f ∈ [R.GPIO_STAT_WAKESRC, R.SYS_PWR_VBATLOW, R.SYS_PWR_OFF12, R.SYS_PWR_OFF5], u.getF f = s.getF f) ∧ u.getF R.SYS_PWR_PFW = 0) := by
  intro gone kept
  have hgone : ∀ a, volatileMem a = true ↔ gone a := fun a => decide_eq_true_iff
  rw [exec_railsLost, State.railsTurn_railsNoted]
  refine ⟨fun hd => by rw [if_pos hd], fun hd hj => by rw [if_neg hd, if_pos hj]; rfl, fun hd hj => ?_⟩
  refine ⟨s.railsNoted.enterDark, by rw [if_neg hd, hj]; rfl, ?_⟩
  obtain ⟨hdev, hpend, hbbx, hqueue, hop, hepoch, -, hmem, -⟩ := s.railsNoted.enterDark_spec
  refine ⟨hdev, fun n hn => State.core_enterDark _ hn, hpend, hbbx, hqueue, hop, fun a ha => ?_, fun a ha => ?_, hepoch,
    fun a ha => State.getReg_enterDark_of_not_kept _ ha, fun n hn => State.getReg_enterDark_wakecfg _ hn, ?_, State.getF_enterDark_pfw _⟩
  · exact State.rd8_enterDark _ (Bool.eq_false_iff.2 fun h => ha ((hgone a).1 h))
  · rw [hmem, State.mfind_dropMem, (hgone a).2 ha]
    rfl
  · simp only [List.forall_mem_cons]
    exact ⟨State.getF_enterDark_wakesrc _, State.getF_enterDark_pwr _ (by simp [pwrKept]) (Or.inr (Or.inl (by decide))),
      State.getF_enterDark_pwr _ (by simp [pwrKept]) (Or.inr (Or.inl (by decide))),
      State.getF_enterDark_pwr _ (by simp [pwrKept]) (Or.inr (Or.inl (by decide))), by simp⟩

/-! ## ALWAYS_ON_RAIL_COLLAPSE (R443, R538) -/

/-- `s` with the wake lands' settings at reset. -/
def State.wakeReset (s : State) : State :=
  (List.range 16).foldl (fun s n => s.setReg (R.GPIO_WAKECFG n) (regReset (R.GPIO_WAKECFG n))) s

theorem State.foldl_resetReg_eq (l : List Nat) (s : State) :
    l.foldl (fun s n => s.setReg (R.GPIO_WAKECFG n) (regReset (R.GPIO_WAKECFG n))) s =
      { s with regs := (l.foldl (fun s n => s.setReg (R.GPIO_WAKECFG n) (regReset (R.GPIO_WAKECFG n))) s).regs } := by
  induction l generalizing s with
  | nil => rfl
  | cons n l ih => rw [List.foldl_cons, ih]; rfl

theorem State.getReg_foldl_resetReg (l : List Nat) (s : State) (b : Nat) :
    (l.foldl (fun s n => s.setReg (R.GPIO_WAKECFG n) (regReset (R.GPIO_WAKECFG n))) s).getReg b =
      if b ∈ l.map R.GPIO_WAKECFG then regReset b else s.getReg b := by
  induction l generalizing s with
  | nil => simp
  | cons n l ih =>
    rw [List.foldl_cons, ih, State.getReg_setReg]
    by_cases hb : b = R.GPIO_WAKECFG n
    · subst hb
      simp
    · simp [hb]

/-- The fields that the collapse resets. -/
def collapseFields : List Fld :=
  R.GPIO_STAT_WAKESRC :: R.SYS_PWR_VBATLOW :: (List.range 16).map fun n => ⟨R.GPIO_WAKECFG n, 31, 0⟩

/-- A field beyond the word reads 0 in every register. -/
theorem fieldOf_beyond (w : Word) {hi lo : Nat} (h : 31 < lo) : fieldOf w hi lo = 0 := by
  have : w.toNat < 2 ^ lo := Nat.lt_of_lt_of_le w.isLt (Nat.pow_le_pow_right (by decide) h)
  rw [fieldOf, Nat.div_eq_of_lt this, Nat.zero_mod]

theorem State.wakeReset_onlyFields (s : State) : s.onlyFields s.wakeReset collapseFields := by
  refine ⟨State.foldl_resetReg_eq _ s, fun f hf => ?_⟩
  rw [State.getF, State.getF, State.wakeReset, State.getReg_foldl_resetReg]
  split
  · obtain ⟨n, hn, hna⟩ := List.mem_map.1 ‹_›
    have hap := hf ⟨R.GPIO_WAKECFG n, 31, 0⟩ (List.mem_cons_of_mem _ (List.mem_cons_of_mem _ (List.mem_map.2 ⟨n, hn, rfl⟩)))
    have hlo : 31 < f.lo := by
      rcases hap with h | h | h
      · exact absurd hna.symm h
      · exact absurd h (Nat.not_lt_zero _)
      · exact h
    rw [fieldOf_beyond _ hlo, fieldOf_beyond _ hlo]
  · rfl

/-- `s` with the calendar not valid and its count the free value `cal`. -/
def State.calLost (s : State) (cal : BitVec 40) : State :=
  { s with freeCtr := s.freeCtr + 1, bbx := { s.bbx with calValid := false, cal := cal } }

theorem exec_alwaysOnRailCollapse (s : State) : exec .alwaysOnRailCollapse s = .next (State.settle (if s.sys.dev = .dark then
    ((s.calLost (BitVec.ofNat 40 (Config.freeNat s.freeCtr))).wakeReset.setF R.GPIO_STAT_WAKESRC 0).setF R.SYS_PWR_VBATLOW 1
    else s)) := rfl

theorem alwaysOnRailCollapse_clause (s : State) :
    (s.sys.dev ≠ .dark → exec .alwaysOnRailCollapse s = .next s.settle) ∧
    (s.sys.dev = .dark → ∃ (cal : BitVec 40) (u : State), exec .alwaysOnRailCollapse s = .next u.settle ∧
      { s with freeCtr := s.freeCtr + 1, bbx := { s.bbx with calValid := false, cal := cal } }.onlyFields u
        (R.GPIO_STAT_WAKESRC :: R.SYS_PWR_VBATLOW :: (List.range 16).map fun n => ⟨R.GPIO_WAKECFG n, 31, 0⟩) ∧
      u.getF R.GPIO_STAT_WAKESRC = 0 ∧ u.getF R.SYS_PWR_VBATLOW = 1 ∧
      ∀ n < 16, u.getReg (R.GPIO_WAKECFG n) = regReset (R.GPIO_WAKECFG n)) := by
  rw [exec_alwaysOnRailCollapse]
  refine ⟨fun hd => by rw [if_neg hd], fun hd => ⟨BitVec.ofNat 40 (Config.freeNat s.freeCtr), _, by rw [if_pos hd], ?_, ?_, ?_, fun n hn => ?_⟩⟩
  · have h0 := (s.calLost (BitVec.ofNat 40 (Config.freeNat s.freeCtr))).wakeReset_onlyFields
    have h1 := h0.setF (f := R.GPIO_STAT_WAKESRC) (by simp [collapseFields]) (by decide) 0
    exact h1.setF (f := R.SYS_PWR_VBATLOW) (by simp [collapseFields]) (by decide) 1
  · rw [State.getF_setF_apart _ _ (by decide) (Or.inl (by decide)), State.getF_setF_of_lt _ (by decide) (by decide) (by decide)]
  · rw [State.getF_setF_of_lt _ (by decide) (by decide) (by decide)]
  · rw [State.getReg_setF_of_ne _ _ (wakecfg_ne_pwr hn), State.getReg_setF_of_ne _ _ (wakecfg_ne_stat n), State.wakeReset,
      State.getReg_foldl_resetReg, if_pos (wakecfg_mem.2 ⟨n, hn, rfl⟩)]

/-! ## O57 -/

/-- Settles O57: one lemma per command. -/
theorem blackBoxLifetimeAndSupply : Obligations.BlackBoxLifetimeAndSupply := by
  unfold Obligations.BlackBoxLifetimeAndSupply
  refine ⟨bbxCtrl_clause, fun s => ?_, calendarSecond_clause, fun s => ?_, secDbgLock_clause, selv_clause,
    powerFailWarning_clause, dieTemperatureUpdate_clause, wakeDetect_clause, fun s => ?_⟩
  · obtain ⟨hnil, hcons⟩ := bbxRecordWrite_clause s
    refine ⟨hnil, fun r t h => ?_⟩
    rw [bbxRec, ← Nat.add_assoc] at hcons
    exact hcons r t h
  · exact nozzleCountFlush_clause s
  · obtain ⟨hdark, hdrain, hlost⟩ := railsLost_clause s
    exact ⟨hdark, hdrain, hlost, alwaysOnRailCollapse_clause s⟩

end Sys2Proof.Machine
end

section
/-!
# What HOST stores and sends
-/

namespace Sys2Proof.Machine

/-! ## Read-modify-writes of SRAM (R148, R149) -/

/-- `u` is `s` but for what the reads of a read-modify-write of SRAM may set. -/
def State.readsMerged (s u : State) : Prop := { s with ecc := u.ecc }.onlyFields u mergeFields

theorem State.readsMerged_refl (s : State) : s.readsMerged s := s.onlyFields_refl _

theorem State.readsMerged.trans {s t u : State} (h : s.readsMerged t) (k : t.readsMerged u) : s.readsMerged u := by
  obtain ⟨h1, h2⟩ := h
  obtain ⟨k1, k2⟩ := k
  refine ⟨?_, fun f hf => (k2 f hf).trans (h2 f hf)⟩
  rw [k1, h1]

theorem sramUeFld_mem (r : Region) : sramUeFld r ∈ mergeFields := by
  unfold sramUeFld
  split <;> simp [mergeFields]

theorem sramUeFld_hi (r : Region) : (sramUeFld r).hi < 32 := by
  unfold sramUeFld
  split <;> decide

theorem State.sramUe_readsMerged (s : State) (r : Region) (a : Nat) : s.readsMerged (s.sramUe r a) := by
  have h : s.onlyFields (s.setF (sramUeFld r) 1) mergeFields :=
    (s.onlyFields_refl _).setF (sramUeFld_mem r) (sramUeFld_hi r) 1
  unfold State.sramUe
  extract_lets first t
  split
  · have hl := h.setF (f := R.SYS_ECCADDRL_ADDR) (by simp [mergeFields]) (by decide) (a % 2 ^ 32)
    exact hl.setF (f := R.SYS_ECCADDRH_ADDR) (by simp [mergeFields]) (by decide) _
  · exact h

theorem State.setEcc_readsMerged (s : State) (a m : Nat) : s.readsMerged (s.setEcc a m) := ⟨rfl, fun _ _ => rfl⟩

theorem State.sramCheck_readsMerged (r : Region) (p : State × Bool) (u : Nat) : p.1.readsMerged (State.sramCheck r p u).1 := by
  unfold State.sramCheck
  split
  · exact p.1.readsMerged_refl
  · rw [State.count_eq]
    exact (p.1.setEcc_readsMerged u 0).trans ((State.onlyFields_refl _ _).setF (f := R.SYS_ECC_CECNT) (by simp [mergeFields]) (by decide) _)
  · exact p.1.sramUe_readsMerged r u

theorem foldl_sramCheck_readsMerged (r : Region) (l : List Nat) (p : State × Bool) :
    p.1.readsMerged (l.foldl (State.sramCheck r) p).1 := by
  induction l generalizing p with
  | nil => exact p.1.readsMerged_refl
  | cons u l ih => exact (State.sramCheck_readsMerged r p u).trans (ih _)

theorem State.eccAt_setEcc (s : State) (a m b : Nat) : (s.setEcc a m).eccAt b = if b / 8 = a / 8 then m else s.eccAt b :=
  mget_msetCanon 0 s.ecc (a / 8) (b / 8) m

theorem State.sramCheck_of_clean {r : Region} {p : State × Bool} {u : Nat} (h : p.1.eccAt u = 0) : State.sramCheck r p u = p := by
  simp only [State.sramCheck, h]

theorem State.sramCheck_of_single {r : Region} {p : State × Bool} {u : Nat} (h : p.1.eccAt u = 1) :
    State.sramCheck r p u = ((p.1.setEcc u 0).count R.SYS_ECC_CECNT 1, p.2) := by
  simp only [State.sramCheck, h]

/-- A unit that a check leaves marked was marked before. -/
theorem State.eccAt_sramCheck_le {r : Region} {p : State × Bool} {u : Nat} (h : p.1.eccAt u ≤ 1) (k : Nat) :
    (State.sramCheck r p u).1.eccAt k ≤ p.1.eccAt k := by
  rcases Nat.le_one_iff_eq_zero_or_eq_one.1 h with h | h
  · rw [State.sramCheck_of_clean h]
  · have hk : ((p.1.setEcc u 0).count R.SYS_ECC_CECNT 1).eccAt k = (p.1.setEcc u 0).eccAt k := by rw [State.count_eq]; rfl
    rw [State.sramCheck_of_single h, hk, State.eccAt_setEcc]
    split
    · exact Nat.zero_le _
    · exact Nat.le_refl _

theorem State.sramCheck_ok {r : Region} {p : State × Bool} {u : Nat} (h : p.1.eccAt u ≤ 1) : (State.sramCheck r p u).2 = p.2 := by
  rcases Nat.le_one_iff_eq_zero_or_eq_one.1 h with h | h
  · rw [State.sramCheck_of_clean h]
  · rw [State.sramCheck_of_single h]

/-- Reads that find no unit bad are good. -/
theorem foldl_sramCheck_ok {r : Region} {l : List Nat} {p : State × Bool} (h : ∀ k ∈ l, p.1.eccAt k ≤ 1) :
    (l.foldl (State.sramCheck r) p).2 = p.2 := by
  induction l generalizing p with
  | nil => rfl
  | cons u l ih =>
    rw [List.forall_mem_cons] at h
    rw [List.foldl_cons, ih fun k hk => Nat.le_trans (State.eccAt_sramCheck_le h.1 k) (h.2 k hk), State.sramCheck_ok h.1]

/-- Reads of units without a mark change nothing. -/
theorem foldl_sramCheck_clean {r : Region} {l : List Nat} {p : State × Bool} (h : ∀ k ∈ l, p.1.eccAt k = 0) :
    l.foldl (State.sramCheck r) p = p := by
  induction l with
  | nil => rfl
  | cons u l ih =>
    rw [List.forall_mem_cons] at h
    rw [List.foldl_cons, State.sramCheck_of_clean h.1, ih h.2]

/-! ## Stores of HOST (R149, R152, R496) -/

/-- `u` is `s` but for memory, its marks, and what the reads of a read-modify-write may set. -/
def State.stored (s u : State) : Prop := { s with mem := u.mem, ecc := u.ecc }.onlyFields u mergeFields

theorem State.readsMerged.stored {s t : State} (h : s.readsMerged t) : s.stored t := by
  obtain ⟨h1, h2⟩ := h
  exact ⟨by rw [h1], h2⟩

theorem State.readsMerged.putFresh {s t : State} (h : s.readsMerged t) (a : Nat) (l : List Byte) : s.stored (t.putFresh a l) := by
  obtain ⟨h1, h2⟩ := h
  refine ⟨?_, fun f hf => ?_⟩
  · rw [t.putFresh_eq, h1]
  · rw [t.putFresh_eq]
    exact h2 f hf

theorem State.readsMerged.rd8 {s t : State} (h : s.readsMerged t) (a : Nat) : t.rd8 a = s.rd8 a := by
  rw [h.1]
  rfl

/-- What a store of HOST in working memory leaves. -/
theorem State.sramWrite_stored (s : State) (r : Region) (a : Nat) (l : List Byte) :
    s.stored (s.sramWrite r a l).1 ∧
      (∀ b, ¬ (a ≤ b ∧ b < a + l.length) → (s.sramWrite r a l).1.rd8 b = s.rd8 b) ∧
      ((∀ k ∈ partialUnits a l.length, s.eccAt k ≤ 1) → (s.sramWrite r a l).1.rdBytes a l.length = l) ∧
      ((∀ k ∈ partialUnits a l.length, s.eccAt k = 0) → (s.sramWrite r a l).1.regs = s.regs) := by
  have hm := foldl_sramCheck_readsMerged r (partialUnits a l.length) (s, true)
  have hok := foldl_sramCheck_ok (r := r) (l := partialUnits a l.length) (p := (s, true))
  have hclean := foldl_sramCheck_clean (r := r) (l := partialUnits a l.length) (p := (s, true))
  have hw : s.sramWrite r a l = match (partialUnits a l.length).foldl (State.sramCheck r) (s, true) with
    | (t, true) => (t.putFresh a l, true)
    | (t, false) => (t, false) := by
    rw [State.sramWrite, State.sramMerge] <;> rfl
  rw [hw]
  generalize (partialUnits a l.length).foldl (State.sramCheck r) (s, true) = p at hm hok hclean
  obtain ⟨t, ok⟩ := p
  cases ok with
  | true =>
    refine ⟨hm.putFresh a l, fun b hb => ?_, fun _ => ?_, fun h => ?_⟩
    · rw [State.rd8_putFresh, if_neg hb, hm.rd8]
    · have h := State.rdBytes_of_stored (s := t.putFresh a l) (a := a) (i := 0) (n := l.length) (l := l) (by omega) fun b h1 h2 => by
        rw [State.rd8_putFresh, if_pos ⟨h1, h2⟩]
      rw [Nat.add_zero, List.drop_zero, List.take_length] at h
      exact h
    · show (t.putFresh a l).regs = s.regs
      rw [t.putFresh_eq]
      show t.regs = s.regs
      exact congrArg State.regs (Prod.mk.inj (hclean h)).1
  | false =>
    refine ⟨hm.stored, fun b _ => hm.rd8 b, fun h => absurd (hok h) Bool.false_ne_true, fun h => ?_⟩
    exact congrArg State.regs (Prod.mk.inj (hclean h)).1

theorem State.hostBuf_working {s : State} {i off b : Nat} (h : s.hostBuf i off = some b) : regionOf b = .working := by
  unfold State.hostBuf at h
  extract_lets a at h
  split at h
  · rw [← Option.some.inj h]
    assumption
  · exact absurd h (by simp)

/-- `s` with HOST's store of `l` at an address, if there is one. -/
def State.putAt (s : State) (l : List Byte) (at_ : Option Nat) : State :=
  match at_ with
  | some a => (s.memWrite .host a l).1
  | none => s

theorem State.hostCopy_eq (s : State) (i off : Nat) (l : List Byte) : s.hostCopy i off l = s.putAt l (s.hostBuf i off) := rfl

theorem State.putAt_working (s : State) (l : List Byte) {a : Nat} (h : regionOf a = .working) :
    s.putAt l (some a) = if s.wmWritable .host a then (s.sramWrite .working a l).1 else s := by
  simp only [State.putAt, State.memWrite, h]
  split <;> rfl

/-- A copy into a session's buffer. -/
theorem State.hostCopy_spec (s : State) (i off : Nat) (l : List Byte) :
    s.stored (s.hostCopy i off l) ∧ s.copied (s.hostCopy i off l) (s.hostBuf i off) l := by
  cases hb : s.hostBuf i off with
  | none =>
    rw [State.hostCopy_eq, hb]
    exact ⟨s.readsMerged_refl.stored, fun _ _ => rfl, fun b h => by simp at h, fun b h => by simp at h, fun _ => ⟨rfl, rfl, rfl⟩⟩
  | some a =>
    obtain ⟨hst, hout, hin, hregs⟩ := s.sramWrite_stored .working a l
    rw [State.hostCopy_eq, hb, State.putAt_working _ _ (State.hostBuf_working hb)]
    generalize s.sramWrite .working a l = p at hst hout hin hregs
    by_cases hwr : s.wmWritable .host a = true
    · rw [if_pos hwr]
      refine ⟨hst, fun b h => hout b (h a rfl), fun b h _ => ?_, fun b h => ?_, fun h => by simp at h⟩
      · cases h
        exact hin
      · cases h
        exact hregs
    · rw [if_neg hwr]
      refine ⟨s.readsMerged_refl.stored, fun _ _ => rfl, fun b h hw' => ?_, fun _ _ _ => rfl, fun h => by simp at h⟩
      cases h
      exact absurd hw' hwr

end Sys2Proof.Machine
end

section
/-!
# Frames that HOST sends and requests that it passes on
-/

namespace Sys2Proof.Machine

/-! ## What a copy depends on -/

theorem State.hostBuf_congr {s t : State} (h : t.getF R.HOST_BUFBASE_ADDR = s.getF R.HOST_BUFBASE_ADDR) (i off : Nat) :
    t.hostBuf i off = s.hostBuf i off := by
  rw [State.hostBuf, h, State.hostBuf]

/-- The two states agree in memory, its marks, the registers and the partitions. -/
def State.sameStore (s t : State) : Prop :=
  t.mem = s.mem ∧ t.ecc = s.ecc ∧ t.regs = s.regs ∧ t.romEpoch = s.romEpoch ∧ t.dramEpoch = s.dramEpoch ∧ t.wmPart = s.wmPart

theorem State.sameStore.rd8 {s t : State} (h : s.sameStore t) (a : Nat) : t.rd8 a = s.rd8 a := by
  obtain ⟨hm, -, -, hr, hd, -⟩ := h
  exact State.rd8_congr hm hr hd a

theorem State.sameStore.getF {s t : State} (h : s.sameStore t) (f : Fld) : t.getF f = s.getF f := by
  obtain ⟨-, -, hr, -⟩ := h
  rw [State.getF, State.getF, State.getReg, State.getReg, hr]

theorem State.sameStore.hostBuf {s t : State} (h : s.sameStore t) (i off : Nat) : t.hostBuf i off = s.hostBuf i off :=
  State.hostBuf_congr (h.getF _) i off

/-- HOST, which is no house core, writes by partition alone. -/
theorem State.wmWritable_host (s : State) (a : Nat) :
    s.wmWritable .host a = (s.wmPartition a == 3 || (Writer.plane .host).num == s.wmPartition a) := by
  rw [State.wmWritable, show Writer.isHouse .host = false from rfl, Bool.and_false, Bool.or_false]

theorem State.sameStore.wmWritable {s t : State} (h : s.sameStore t) (a : Nat) : t.wmWritable .host a = s.wmWritable .host a := by
  obtain ⟨-, -, -, -, -, hw⟩ := h
  have hp : t.wmPartition a = s.wmPartition a := by
    unfold State.wmPartition
    rw [hw]
  rw [State.wmWritable_host, State.wmWritable_host, hp]

theorem State.sameStore.eccAt {s t : State} (h : s.sameStore t) (k : Nat) : t.eccAt k = s.eccAt k := by
  obtain ⟨-, he, -⟩ := h
  rw [State.eccAt, State.eccAt, he]

/-- A copy is one from and to any states that agree in what a copy depends on. -/
theorem State.copied.congr {s t u v : State} {b : Option Nat} {l : List Byte} (h : s.copied u b l) (hs : s.sameStore t)
    (hu : u.sameStore v) : t.copied v b l := by
  obtain ⟨h1, h2, h3, h4⟩ := h
  have ⟨hsm, hse, hsr, _⟩ := hs
  have ⟨hum, hue, hur, _⟩ := hu
  refine ⟨fun a ha => ?_, fun c hc hw hk => ?_, fun c hc hk => ?_, fun hc => ?_⟩
  · rw [hu.rd8, hs.rd8, h1 a ha]
  · rw [hs.wmWritable] at hw
    rw [State.rdBytes_congr fun b _ _ => hu.rd8 b]
    exact h2 c hc hw fun k hk' => by rw [← hs.eccAt]; exact hk k hk'
  · rw [hur, hsr]
    exact h3 c hc fun k hk' => by rw [← hs.eccAt]; exact hk k hk'
  · rw [hum, hue, hur, hsm, hse, hsr]
    exact h4 hc

/-! ## Replies (R497, R498) -/

/-- `s` with HOST's structure `h`. -/
def State.withHost (s : State) (h : HostIf) : State := { s with host := h }

theorem State.sameStore_withHost (s : State) (h : HostIf) : s.sameStore (s.withHost h) := ⟨rfl, rfl, rfl, rfl, rfl, rfl⟩

theorem State.withHost_sameStore (s : State) (h : HostIf) : (s.withHost h).sameStore s := ⟨rfl, rfl, rfl, rfl, rfl, rfl⟩

theorem State.stored.withHost {s u : State} (h : s.stored u) (x : HostIf) : (s.withHost x).stored (u.withHost x) := by
  obtain ⟨h1, h2⟩ := h
  exact ⟨by rw [State.withHost, State.withHost, h1], h2⟩

theorem State.stored.host {s u : State} (h : s.stored u) : u.host = s.host := by rw [h.1]

theorem State.stored_refl (s : State) : s.stored s := ⟨rfl, fun _ _ => rfl⟩

/-- What HOST's own structure becomes with frame `l` sent to session `i` on interface `iface`. -/
def HostIf.sending (h : HostIf) (i iface : Nat) (l : List Byte) : HostIf :=
  { h with sent := mset h.sent i l, msix := if iface = 0 then mset h.msix i (mget 0 h.msix i + 1) else h.msix }

theorem State.copied_none (s : State) (l : List Byte) : s.copied s none l :=
  ⟨fun _ _ => rfl, fun _ h => by simp at h, fun _ h => by simp at h, fun _ => ⟨rfl, rfl, rfl⟩⟩

theorem State.modHost_eq (s : State) (f : HostIf → HostIf) : s.modHost f = s.withHost (f s.host) := rfl

theorem State.hostReply_of_pcie {s : State} {i : Nat} {x : HostSess} (h : s.session i = some x) (hi : x.iface = 0) (off : Nat)
    (l : List Byte) : s.hostReply i off l = ((s.hostSend i l).hostCopy i off l).modHost fun h =>
      { h with msix := mset h.msix i (mget 0 h.msix i + 1) } := by
  have hs : (s.hostSend i l).session i = some x := h
  rw [State.hostReply, hs]
  exact if_pos hi

theorem State.hostReply_of_other {s : State} {i : Nat} {x : HostSess} (h : s.session i = some x) (hi : x.iface ≠ 0) (off : Nat)
    (l : List Byte) : s.hostReply i off l = s.hostSend i l := by
  have hs : (s.hostSend i l).session i = some x := h
  rw [State.hostReply, hs]
  exact if_neg hi

/-- What a reply leaves: memory apart, HOST has sent the frame. -/
theorem State.hostReply_spec {s : State} {i : Nat} {x : HostSess} (h : s.session i = some x) (off : Nat) (l : List Byte) :
    (s.withHost (s.host.sending i x.iface l)).stored (s.hostReply i off l) ∧
      s.copied (s.hostReply i off l) (if x.iface = 0 then s.hostBuf i off else none) l := by
  obtain ⟨t, ht⟩ : ∃ t, t = s.hostSend i l := ⟨_, rfl⟩
  have hsame : s.sameStore t := by rw [ht]; exact s.sameStore_withHost _
  have hsame' : t.sameStore s := by rw [ht]; exact s.withHost_sameStore _
  by_cases hi : x.iface = 0
  · have hhost : s.host.sending i x.iface l = { t.host with msix := mset t.host.msix i (mget 0 t.host.msix i + 1) } := by
      rw [HostIf.sending, if_pos hi, ht]
      rfl
    obtain ⟨hst, hc⟩ := t.hostCopy_spec i off l
    rw [State.hostReply_of_pcie h hi, if_pos hi, ← hsame.hostBuf, ← ht, State.modHost_eq, hst.host, hhost]
    refine ⟨?_, hc.congr hsame' (State.sameStore_withHost _ _)⟩
    have hw := hst.withHost { t.host with msix := mset t.host.msix i (mget 0 t.host.msix i + 1) }
    rw [ht] at hw ⊢
    exact hw
  · have hhost : s.host.sending i x.iface l = t.host := by
      rw [HostIf.sending, if_neg hi, ht]
      rfl
    rw [State.hostReply_of_other h hi, if_neg hi, ← ht, hhost]
    refine ⟨?_, (s.copied_none l).congr (s.sameStore_withHost s.host) hsame⟩
    rw [ht]
    exact State.stored_refl _

theorem State.hostReply_refuses {s : State} {i : Nat} {x : HostSess} (h : s.session i = some x) (op n status : Nat) :
    s.refuses (s.hostRefuse i op i n status) i x op n status := s.hostReply_spec h _ _

/-! ## Answers and requests passed to firmware (R491, R496) -/

theorem State.modSess_of_session {s : State} {i : Nat} {x : HostSess} (h : s.session i = some x) (f : HostSess → HostSess) :
    s.modSess i f = s.withHost { s.host with sess := mset s.host.sess i (f x) } := by
  rw [State.modSess, h]
  rfl

theorem State.withHost_modHost (s : State) (h : HostIf) (f : HostIf → HostIf) : (s.withHost h).modHost f = s.withHost (f h) := rfl

/-- The session once it is answered with frame `l` for sequence number `n`. -/
def HostSess.answered (x : HostSess) (n : Nat) (l : List Byte) : HostSess :=
  { x with last := n, pend := none, stored := if l.length ≤ 64 then some l else none }

/-- An answer: the reply, and the session's record of it. -/
theorem State.hostAnswer_answers {s : State} {i : Nat} {x : HostSess} (h : s.session i = some x) (op n status : Nat)
    (payload : List Byte) : s.answers (s.hostAnswer i op n status payload) i x op n status payload := by
  obtain ⟨l, hl⟩ : ∃ l, l = hostFrame op 1 i n status payload := ⟨_, rfl⟩
  obtain ⟨hst, hc⟩ := State.hostReply_spec h 0x2800 l
  have hhost : (s.hostReply i 0x2800 l).host = s.host.sending i x.iface l := hst.host
  have hsess : (s.hostReply i 0x2800 l).session i = some x := by
    rw [State.session, hhost]
    exact h
  have hu : s.hostAnswer i op n status payload = (s.hostReply i 0x2800 l).withHost
      { s.host.sending i x.iface l with sess := mset s.host.sess i (x.answered n l) } := by
    have ha : s.hostAnswer i op n status payload = (s.hostReply i 0x2800 l).modSess i fun y => y.answered n l := by
      rw [hl]
      rfl
    rw [ha, State.modSess_of_session hsess, hhost]
    generalize s.hostReply i 0x2800 l = r
    rfl
  rw [hu, State.answers, ← hl]
  generalize s.hostReply i 0x2800 l = r at hst hc
  exact ⟨hst.withHost { s.host.sending i x.iface l with sess := mset s.host.sess i (x.answered n l) },
    hc.congr ⟨rfl, rfl, rfl, rfl, rfl, rfl⟩ (State.sameStore_withHost _ _)⟩

/-- A request that is passed on. -/
theorem State.hostPass_passes {s : State} {i : Nat} {x : HostSess} (h : s.session i = some x) (op n : Nat) (payload : List Byte) :
    s.passes (s.hostPass i op n payload) i x op n payload := by
  obtain ⟨l, hl⟩ : ∃ l, l = hostFrame op 0 i n 0 payload := ⟨_, rfl⟩
  obtain ⟨hst, hc⟩ := s.hostCopy_spec i 0 l
  have hhost := hst.host
  have hsess : (s.hostCopy i 0 l).session i = some x := by
    rw [State.session, hhost]
    exact h
  have hu : s.hostPass i op n payload = (s.hostCopy i 0 l).withHost
      { s.host with sess := mset s.host.sess i { x with pend := some (op, n) }, cq := s.host.cq ++ [i] } := by
    have hp : s.hostPass i op n payload = ((s.hostCopy i 0 l).modSess i fun y => { y with pend := some (op, n) }).modHost fun h =>
        { h with cq := h.cq ++ [i] } := by
      rw [hl]
      rfl
    rw [hp, State.modSess_of_session hsess, State.withHost_modHost, hhost]
  rw [hu, State.passes, ← hl]
  generalize s.hostCopy i 0 l = r at hst hc
  exact ⟨hst.withHost { s.host with sess := mset s.host.sess i { x with pend := some (op, n) }, cq := s.host.cq ++ [i] },
    hc.congr ⟨rfl, rfl, rfl, rfl, rfl, rfl⟩ (State.sameStore_withHost _ _)⟩

/-! ## Answers from and to states that differ elsewhere -/

/-- `s` with the device state's record `y`. -/
def State.withSys (s : State) (y : Sys) : State := { s with sys := y }

/-- An answer changes the device state's record neither before nor after. -/
theorem State.answers.withSys {s u : State} {i : Nat} {x : HostSess} {op n status : Nat} {payload : List Byte}
    (h : s.answers u i x op n status payload) (y : Sys) : (s.withSys y).answers (u.withSys y) i x op n status payload := by
  obtain ⟨⟨h1, h2⟩, hc⟩ := h
  have hs : s.sameStore (s.withSys y) := ⟨rfl, rfl, rfl, rfl, rfl, rfl⟩
  refine ⟨⟨?_, h2⟩, ?_⟩
  · rw [State.withSys, State.withSys, h1]
  · rw [hs.hostBuf]
    exact hc.congr hs ⟨rfl, rfl, rfl, rfl, rfl, rfl⟩

end Sys2Proof.Machine
end

section
/-!
# The entry to RECOVERY
-/

namespace Sys2Proof.Machine

/-! ## The ROM joins Byrov (R508, R530) -/

/-- `u` is `s` but for Byrov: its structure, its registers, and free values. -/
def State.byrJoined (s u : State) : Prop :=
  u = { s with regs := u.regs, byr := u.byr, freeCtr := u.freeCtr } ∧ ∀ a, a < 0x40B00000 ∨ 0x40B10000 ≤ a → u.getReg a = s.getReg a

theorem State.byrJoined_refl (s : State) : s.byrJoined s := ⟨rfl, fun _ _ => rfl⟩

theorem State.byrJoined.trans {s t u : State} (h : s.byrJoined t) (k : t.byrJoined u) : s.byrJoined u := by
  obtain ⟨h1, h2⟩ := h
  obtain ⟨k1, k2⟩ := k
  refine ⟨?_, fun a ha => (k2 a ha).trans (h2 a ha)⟩
  rw [k1, h1]

theorem State.byrJoined.getF {s u : State} (h : s.byrJoined u) {f : Fld} (hf : f.addr < 0x40B00000 ∨ 0x40B10000 ≤ f.addr) :
    u.getF f = s.getF f := by
  rw [State.getF, State.getF, h.2 _ hf]

/-- A register of BYR. -/
def inByr (a : Nat) : Prop := 0x40B00000 ≤ a ∧ a < 0x40B10000

theorem State.setReg_byrJoined (s : State) {a : Nat} (v : Word) (h : inByr a) : s.byrJoined (s.setReg a v) := by
  refine ⟨rfl, fun b hb => ?_⟩
  unfold inByr at h
  rw [State.getReg_setReg, if_neg (by omega)]

theorem State.setF_byrJoined (s : State) {f : Fld} (v : Nat) (h : inByr f.addr) : s.byrJoined (s.setF f v) :=
  s.setReg_byrJoined _ h

theorem State.fresh_byrJoined (s : State) : s.byrJoined s.fresh.2 := ⟨rfl, fun _ _ => rfl⟩

theorem State.modBport_byrJoined (s : State) (q : Nat) (f : ByrPort → ByrPort) : s.byrJoined (s.modBport q f) := ⟨rfl, fun _ _ => rfl⟩

theorem inByr_port {q : Nat} (h : q < 3) : inByr (R.BYR_PORT q) := by
  unfold inByr R.BYR_PORT
  omega

theorem State.byrTrain_byrJoined (s : State) {q : Nat} (h : q < 3) : s.byrJoined (s.byrTrain q) := by
  unfold State.byrTrain
  extract_lets t
  have hport := inByr_port h
  have ht : s.byrJoined t := (s.setF_byrJoined (f := R.BYR_PORT_LINK q) 1 hport).trans (State.setF_byrJoined _ (f := R.BYR_PORT_UPSTR q) _ hport)
  exact (ht.trans t.fresh_byrJoined).trans (State.modBport_byrJoined ..)

theorem foldl_byrTrain_byrJoined {f : State → Nat → State} (hf : ∀ t, ∀ q < 3, f t q = t ∨ f t q = t.byrTrain q) (l : List Nat)
    (hl : ∀ q ∈ l, q < 3) (s : State) : s.byrJoined (l.foldl f s) := by
  induction l generalizing s with
  | nil => exact s.byrJoined_refl
  | cons q l ih =>
    rw [List.forall_mem_cons] at hl
    have hq : s.byrJoined (f s q) := by
      rcases hf s q hl.1 with h | h
      · rw [h]
        exact s.byrJoined_refl
      · rw [h]
        exact s.byrTrain_byrJoined hl.1
    exact hq.trans (ih hl.2 _)

/-- Enabling all ports trains those that were off. -/
theorem State.byrCtrlWrite_byrJoined (s : State) (d : RegDesc) : s.byrJoined (s.byrCtrlWrite d R.BYR_CTRL 7) := by
  unfold State.byrCtrlWrite
  extract_lets old t
  have ht : s.byrJoined t := s.setReg_byrJoined _ ⟨by decide, by decide⟩
  refine ht.trans (foldl_byrTrain_byrJoined (fun u q hq => ?_) _ (by decide) t)
  have h7 : (7 : Word).getLsbD q = true := by
    have : ∀ q < 3, (7 : Word).getLsbD q = true := by decide
    exact this q hq
  rw [h7]
  cases old.getLsbD q
  · exact Or.inr rfl
  · exact Or.inl rfl

/-- The row of BYR_CTRL. -/
def byrCtrlRow : RegDesc :=
  ⟨.BYR_CTRL, R.BYR_CTRL, 1, 0, 1, 0, [⟨3, 3, .rw, 0⟩, ⟨2, 2, .rw, 0⟩, ⟨1, 1, .rw, 0⟩, ⟨0, 0, .rw, 0⟩]⟩

theorem blockOf_BYR_CTRL : blockOf R.BYR_CTRL = some (baseBYR, regsBYR) := rfl

theorem regAt_BYR_CTRL : regAt R.BYR_CTRL = some (byrCtrlRow, 0, 0) := rfl

theorem State.regAccepts_rom_byr (s : State) : s.regAccepts .rom baseBYR .BYR_CTRL = true := rfl

theorem State.regEffect_BYR_CTRL (s : State) (w : Writer) (v : Word) :
    s.regEffect w baseBYR byrCtrlRow 0 0 R.BYR_CTRL v = (s.byrCtrlWrite byrCtrlRow R.BYR_CTRL v, true) := rfl

theorem State.regWrite_rom_byrCtrl (s : State) (v : Word) :
    (s.regWrite .rom R.BYR_CTRL v).1 = (s.byrCtrlWrite byrCtrlRow R.BYR_CTRL v).settle := by
  rw [State.regWrite_of_present blockOf_BYR_CTRL regAt_BYR_CTRL rfl, show byrCtrlRow.id = .BYR_CTRL from rfl,
    State.regAccepts_rom_byr, if_pos rfl, State.regEffect_BYR_CTRL]

/-- `s` in RECOVERY, before a RESTART is answered and Byrov joined. -/
def State.recovering (s : State) (code : Nat) : State :=
  (((s.setF R.SYS_BOOT_CODE code).modBoot fun b => { b with step := 0 }).modSys fun y =>
    { y with dev := .recovery, recoveryReq := false, cmds := [] }).wdReload 2

/-- `s` having joined Byrov with the recorded address. -/
def State.romJoin (s : State) : State :=
  match s.boot.hdrAddr with
  | some a => ((s.setReg R.BYR_ADDR (BitVec.ofNat 32 a)).regWrite .rom R.BYR_CTRL 7).1
  | none => s

theorem State.enterRecovery_eq (s : State) (code : Nat) : s.enterRecovery code = (s.recovering code).restartFail.romJoin := rfl

/-- Joining Byrov changes Byrov, and lines of the cores. -/
theorem State.romJoin_spec (s : State) : ∃ t k, s.byrJoined t ∧ s.romJoin = { t with cores := k } := by
  unfold State.romJoin
  split
  · rename_i a _
    obtain ⟨k, hk⟩ := ((s.setReg R.BYR_ADDR (BitVec.ofNat 32 a)).byrCtrlWrite byrCtrlRow R.BYR_CTRL 7).settle_eq
    have haddr := s.setReg_byrJoined (a := R.BYR_ADDR) (BitVec.ofNat 32 a) ⟨by decide, by decide⟩
    refine ⟨_, k, haddr.trans (State.byrCtrlWrite_byrJoined _ byrCtrlRow), ?_⟩
    rw [State.regWrite_rom_byrCtrl, hk]
  · exact ⟨s, s.cores, s.byrJoined_refl, rfl⟩

theorem State.restartFail_of_none {s : State} (h : s.host.long = none) : s.restartFail = s.fresh.2 := by
  have hf : s.fresh.2.host.long = none := h
  have hr : s.restartFail = s.fresh.2.restartEnd (s.fresh.1 % 2 ^ 16) := rfl
  rw [hr, State.restartEnd, hf]

theorem State.getF_recovering (s : State) (code : Nat) (f : Fld) :
    (s.recovering code).fresh.2.getF f = (s.setF R.SYS_BOOT_CODE code).getF f := rfl

/-- RECOVERY entered with no long operation that waits for its end. -/
theorem State.enterRecovery_spec {s : State} (h : s.host.long = none) (code : Nat) (hc : code < 256) :
    (s.enterRecovery code).host = s.host ∧ (s.enterRecovery code).sys.dev = .recovery ∧
      (s.enterRecovery code).getF R.SYS_BOOT_CODE = code := by
  have hlong : (s.recovering code).host.long = none := h
  have hcode : (s.recovering code).fresh.2.getF R.SYS_BOOT_CODE = code :=
    (s.getF_recovering code R.SYS_BOOT_CODE).trans (s.getF_setF_of_lt (f := R.SYS_BOOT_CODE) (by decide) (by decide) hc)
  obtain ⟨t, k, ht, hu⟩ := (s.recovering code).fresh.2.romJoin_spec
  rw [State.enterRecovery_eq, State.restartFail_of_none hlong, hu]
  refine ⟨?_, ?_, ?_⟩
  · rw [ht.1]
    rfl
  · rw [ht.1]
    rfl
  · exact (ht.getF (f := R.SYS_BOOT_CODE) (by decide)).trans hcode

end Sys2Proof.Machine
end

section
/-!
# Host state commands: statement O37
-/

namespace Sys2Proof.Machine

/-! ## The checks of an admitted request (R31, R491, R493, R495) -/

theorem State.opLegal_of_stateCmd {op : Nat} {c : StateCmd} (h : stateCmdOf op = some c) (s : State) (payload : List Byte) :
    s.opLegal op payload = s.cmdLegal c := by
  rw [State.opLegal, h]

/-- The table of R31, read case by case. -/
theorem State.accepts_iff (s : State) (c : StateCmd) : s.accepts c ↔ s.cmdLegal c = true := by
  unfold State.accepts State.cmdLegal
  generalize s.sys.dev = d
  generalize s.sys.done = b
  cases d with
  | run j => cases j <;> cases c <;> cases b <;> decide
  | _ => cases c <;> cases b <;> decide

/-- Outside a pause, what only starts at a boundary or takes long waits for the long operation. -/
theorem State.opBusy_of_not_paused {s : State} (hp : s.paused = false) {op : Nat} (hr : op ≠ Op.recovery)
    (hl : (longOp op || op == Op.submit || ((stateCmdOf op).isSome && op != Op.callCurtain)) = true) (i : Nat) (payload : List Byte) :
    s.opBusy i op payload = s.host.long.isSome := by
  have hitem : s.sameItem i op payload = false := by
    rw [State.sameItem, beq_eq_false_iff_ne.2 hr, Bool.false_and, Bool.false_and]
  rw [State.opBusy, hp, if_neg (by decide), hitem, hl, Bool.not_false, Bool.and_true, Bool.and_true]

/-- The checks that a request still has to pass once it is admitted. -/
theorem State.hostRequest_of_admits {s : State} {q : Req} {x : HostSess} (h : s.admits q x) (op : Nat) :
    s.hostRequest q.sess op q.seq.toNat q.payload =
      if roleAllows x.role op = false then s.hostRefuse q.sess op q.sess q.seq.toNat St.roleRefused
      else if s.opLegal op q.payload = false then s.hostRefuse q.sess op q.sess q.seq.toNat St.stateRefused
      else if s.opBusy q.sess op q.payload = true then s.hostRefuse q.sess op q.sess q.seq.toNat St.busy
      else s.hostRun q.sess op q.seq.toNat q.payload := by
  obtain ⟨hdark, hsess, hpend, hseq, -⟩ := h
  have hne : q.seq.toNat ≠ x.last := by
    have := q.seq.isLt
    omega
  have hpend' : (x.pend.isSome && q.seq.toNat != x.last) = false := by rw [hpend]; rfl
  unfold State.hostRequest
  rw [if_neg hdark, hsess]
  simp only [hpend', Bool.not_eq_true']
  rw [if_neg Bool.false_ne_true, if_neg fun h => hne h.1, if_neg fun h => h.2 hseq]

/-! ## State commands that wait (R32) -/

theorem insertCmd_eq (w : WaitingCmd) (l : List WaitingCmd) :
    insertCmd w l = l.takeWhile (fun y => decide (y.clk ≠ w.clk ∨ y.sess ≤ w.sess)) ++
      w :: l.dropWhile (fun y => decide (y.clk ≠ w.clk ∨ y.sess ≤ w.sess)) := by
  induction l with
  | nil => rfl
  | cons y l ih =>
    rw [insertCmd, List.takeWhile_cons, List.dropWhile_cons]
    by_cases h : y.clk = w.clk ∧ w.sess < y.sess
    · have hd : ¬ (y.clk ≠ w.clk ∨ y.sess ≤ w.sess) := by
        rw [not_or, not_not, not_le]
        exact h
      rw [if_pos h, decide_eq_false hd]
      rfl
    · have hd : y.clk ≠ w.clk ∨ y.sess ≤ w.sess := by
        by_contra hn
        rw [not_or, not_not, not_le] at hn
        exact h hn
      rw [if_neg h, decide_eq_true hd, ih]
      rfl

/-- The device state's record with command `c` of `q` waiting. -/
def State.dueWith (s : State) (c : StateCmd) (q : Req) : Sys := { s.sys with cmds := s.waitingWith c q.sess q.seq }

theorem State.hostDue_eq (s : State) (q : Req) (c : StateCmd) :
    s.hostDue q.sess q.seq.toNat c = s.withSys (s.dueWith c q) := by
  have hw : insertCmd ⟨c, Fin.ofNat 64 q.sess, BitVec.ofNat 16 q.seq.toNat, s.clk⟩ s.sys.cmds = s.waitingWith c q.sess q.seq := by
    rw [insertCmd_eq, Fin.ofNat_val_eq_self, BitVec.ofNat_toNat, BitVec.setWidth_eq]
    rfl
  rw [State.dueWith, ← hw]
  rfl

/-! ## One state command -/

/-- A row of the state commands: instruction, opcode, roles allowed, command. -/
structure StateRow where
  instr : Instr
  op : Nat
  roles : List Nat
  cmd : StateCmd

/-- The row tells what the model does with request `q`. -/
structure StateRow.fits (e : StateRow) (q : Req) : Prop where
  exec_eq : ∀ s, exec e.instr s = .next (State.settle (s.hostRequest q.sess e.op q.seq.toNat q.payload))
  cmd_eq : stateCmdOf e.op = some e.cmd
  opcode_eq : e.cmd.opcode = e.op
  roles_iff : ∀ r, roleAllows r e.op = true ↔ r ∈ e.roles
  not_recovery : e.op ≠ Op.recovery
  not_curtain : e.op ≠ Op.callCurtain

section
variable {e : StateRow} {q : Req} {x : HostSess} {s : State} (hf : e.fits q) (hs : s.admits q x)
include hf hs

theorem StateRow.exec_role (hr : x.role ∉ e.roles) : ∃ u : State, exec e.instr s = .next u.settle ∧
    s.refuses u q.sess x e.op q.seq.toNat St.roleRefused := by
  refine ⟨_, hf.exec_eq s, ?_⟩
  rw [State.hostRequest_of_admits hs, if_pos (Bool.eq_false_iff.2 (mt (hf.roles_iff x.role).1 hr))]
  exact State.hostReply_refuses hs.2.1 ..

theorem StateRow.exec_state (hr : x.role ∈ e.roles) (ha : ¬ s.accepts e.cmd) : ∃ u : State, exec e.instr s = .next u.settle ∧
    s.refuses u q.sess x e.op q.seq.toNat St.stateRefused := by
  refine ⟨_, hf.exec_eq s, ?_⟩
  rw [State.hostRequest_of_admits hs, if_neg (by rw [(hf.roles_iff x.role).2 hr]; decide), State.opLegal_of_stateCmd hf.cmd_eq,
    if_pos (Bool.eq_false_iff.2 (mt (s.accepts_iff e.cmd).2 ha))]
  exact State.hostReply_refuses hs.2.1 ..

theorem StateRow.opBusy_eq : s.opBusy q.sess e.op q.payload = s.host.long.isSome := by
  obtain ⟨-, -, -, -, hp⟩ := hs
  refine State.opBusy_of_not_paused hp hf.not_recovery ?_ _ _
  rw [hf.cmd_eq, Option.isSome_some, Bool.true_and, bne_iff_ne.2 hf.not_curtain, Bool.or_true]

theorem StateRow.exec_busy (hr : x.role ∈ e.roles) (ha : s.accepts e.cmd) (hl : s.host.long ≠ none) :
    ∃ u : State, exec e.instr s = .next u.settle ∧ s.refuses u q.sess x e.op q.seq.toNat St.busy := by
  refine ⟨_, hf.exec_eq s, ?_⟩
  rw [State.hostRequest_of_admits hs, if_neg (by rw [(hf.roles_iff x.role).2 hr]; decide), State.opLegal_of_stateCmd hf.cmd_eq,
    if_neg (by rw [(s.accepts_iff e.cmd).1 ha]; decide), StateRow.opBusy_eq hf hs, if_pos (Option.isSome_iff_ne_none.2 hl)]
  exact State.hostReply_refuses hs.2.1 ..

theorem StateRow.exec_run (hr : x.role ∈ e.roles) (ha : s.accepts e.cmd) (hl : s.host.long = none) :
    exec e.instr s = .next (State.settle (s.hostState q.sess q.seq.toNat q.payload e.cmd)) := by
  rw [hf.exec_eq s, State.hostRequest_of_admits hs, if_neg (by rw [(hf.roles_iff x.role).2 hr]; decide),
    State.opLegal_of_stateCmd hf.cmd_eq, if_neg (by rw [(s.accepts_iff e.cmd).1 ha]; decide), StateRow.opBusy_eq hf hs,
    if_neg (by rw [hl]; decide), State.hostRun, hf.cmd_eq]

end

/-! ## What a state command does once it has passed the checks -/

theorem State.hostState_of_waits {s : State} {c : StateCmd} (h1 : c ≠ .restart) (h2 : ¬ (c = .enterRecovery ∧ s.sys.dev = .boot))
    (h3 : c = .go → s.getF R.SYS_GOEN_EN = 1) (q : Req) :
    s.hostState q.sess q.seq.toNat q.payload c =
      (s.withSys (s.dueWith c q)).hostPass q.sess c.opcode q.seq.toNat q.payload := by
  rw [← State.hostDue_eq]
  cases c with
  | go =>
    have hen : s.flag R.SYS_GOEN_EN = true := (s.flag_eq_true_iff _).2 (by rw [h3 rfl]; decide)
    rw [State.hostState, hen]
    rfl
  | enterRecovery =>
    rw [State.hostState, if_neg fun hb => h2 ⟨rfl, hb⟩]
    rfl
  | restart => exact absurd rfl h1
  | _ => rfl

theorem State.hostState_go_not_ready {s : State} (h : s.getF R.SYS_GOEN_EN = 0) (i n : Nat) (payload : List Byte) :
    s.hostState i n payload .go = s.hostAnswer i Op.go n St.notReady [] := by
  have hen : s.flag R.SYS_GOEN_EN = false := by rw [State.flag_eq_decide, h]; rfl
  rw [State.hostState, hen]
  rfl

theorem State.hostState_recovery_in_boot {s : State} (h : s.sys.dev = .boot) (i n : Nat) (payload : List Byte) :
    s.hostState i n payload .enterRecovery = (s.hostAnswer i Op.enterRecovery n St.ok []).enterRecovery 0x22 := by
  rw [State.hostState, if_pos h]

/-- The free number of a long operation that starts now. -/
def State.longNumber (s : State) : Nat := Config.freeNat s.freeCtr % 2 ^ 16

/-- `s` with a long operation started. -/
def State.longBegun (s : State) (i op : Nat) : State :=
  { s with freeCtr := s.freeCtr + 1, host := { s.host with long := some (i, op, s.longNumber) } }

theorem State.longAnswer_eq (s : State) (i op n : Nat) :
    s.longAnswer i op n =
      (s.longBegun i op).hostAnswer i op n St.longStarted (bytesLE 2 s.longNumber) := rfl

theorem State.resetFor_eq (s : State) : s.resetFor false = s.withSys { s.sys with resetDue := true } := by
  rw [State.resetFor, State.modSys]
  simp only [Bool.or_false]
  rfl

theorem State.hostState_restart (s : State) (i n : Nat) (payload : List Byte) :
    s.hostState i n payload .restart =
      if (s.longAnswer i Op.restart n).sys.dev = .boot ∨ (s.longAnswer i Op.restart n).sys.dev = .recovery then
        (s.longAnswer i Op.restart n).resetFor false
      else (s.longAnswer i Op.restart n).hostDue i n .restart := rfl

theorem State.answers.sys {s u : State} {i : Nat} {x : HostSess} {op n status : Nat} {payload : List Byte}
    (h : s.answers u i x op n status payload) : u.sys = s.sys ∧ u.clk = s.clk ∧ u.host.long = s.host.long := by
  obtain ⟨⟨h1, -⟩, -⟩ := h
  rw [h1]
  exact ⟨rfl, rfl, rfl⟩

/-- RESTART: the answer goes out first; the command then waits, or in BOOT and RECOVERY the reset is due. -/
theorem State.hostState_restart_spec {s : State} {q : Req} {x : HostSess} (h : s.session q.sess = some x) :
    ((s.longBegun q.sess Op.restart).withSys
        (if s.sys.dev = .boot ∨ s.sys.dev = .recovery then { s.sys with resetDue := true } else s.dueWith .restart q)).answers
      (s.hostState q.sess q.seq.toNat q.payload .restart) q.sess x Op.restart q.seq.toNat St.longStarted
      (bytesLE 2 s.longNumber) := by
  have hans : (s.longBegun q.sess Op.restart).answers (s.longAnswer q.sess Op.restart q.seq.toNat) q.sess x Op.restart q.seq.toNat
      St.longStarted (bytesLE 2 s.longNumber) := by
    have hb : (s.longBegun q.sess Op.restart).session q.sess = some x := h
    rw [State.longAnswer_eq]
    exact State.hostAnswer_answers hb ..
  obtain ⟨hsys, hclk, -⟩ := hans.sys
  have hsys' : (s.longAnswer q.sess Op.restart q.seq.toNat).sys = s.sys := hsys
  have hclk' : (s.longAnswer q.sess Op.restart q.seq.toNat).clk = s.clk := hclk
  have hdue : (s.longAnswer q.sess Op.restart q.seq.toNat).dueWith .restart q = s.dueWith .restart q := by
    simp only [State.dueWith, State.waitingWith, hclk', hsys']
  rw [State.hostState_restart, State.hostDue_eq, State.resetFor_eq, hdue, hsys']
  split
  · exact hans.withSys _
  · exact hans.withSys _

/-! ## CALL_CURTAIN, SUBMIT and ACTIVATE -/

/-- A command of no row, its checks passed. -/
theorem State.hostRequest_refused_role {s : State} {q : Req} {x : HostSess} (h : s.admits q x) {op : Nat}
    (hr : roleAllows x.role op = false) : s.refuses (s.hostRequest q.sess op q.seq.toNat q.payload) q.sess x op q.seq.toNat
      St.roleRefused := by
  rw [State.hostRequest_of_admits h, if_pos hr]
  exact State.hostReply_refuses h.2.1 ..

theorem State.hostRequest_refused_state {s : State} {q : Req} {x : HostSess} (h : s.admits q x) {op : Nat}
    (hr : roleAllows x.role op = true) (hl : s.opLegal op q.payload = false) :
    s.refuses (s.hostRequest q.sess op q.seq.toNat q.payload) q.sess x op q.seq.toNat St.stateRefused := by
  rw [State.hostRequest_of_admits h, if_neg (by rw [hr]; decide), if_pos hl]
  exact State.hostReply_refuses h.2.1 ..

theorem State.hostRequest_busy {s : State} {q : Req} {x : HostSess} (h : s.admits q x) {op : Nat}
    (hr : roleAllows x.role op = true) (hl : s.opLegal op q.payload = true) (hb : s.opBusy q.sess op q.payload = true) :
    s.refuses (s.hostRequest q.sess op q.seq.toNat q.payload) q.sess x op q.seq.toNat St.busy := by
  rw [State.hostRequest_of_admits h, if_neg (by rw [hr]; decide), if_neg (by rw [hl]; decide), if_pos hb]
  exact State.hostReply_refuses h.2.1 ..

theorem State.hostRequest_run {s : State} {q : Req} {x : HostSess} (h : s.admits q x) {op : Nat}
    (hr : roleAllows x.role op = true) (hl : s.opLegal op q.payload = true) (hb : s.opBusy q.sess op q.payload = false) :
    s.hostRequest q.sess op q.seq.toNat q.payload = s.hostRun q.sess op q.seq.toNat q.payload := by
  rw [State.hostRequest_of_admits h, if_neg (by rw [hr]; decide), if_neg (by rw [hl]; decide), if_neg (by rw [hb]; decide)]

end Sys2Proof.Machine
end

section
/-!
# O37
-/

namespace Sys2Proof.Machine

/-! ## The rows of the state commands -/

theorem roleAllows_house {op : Nat} (h : op ∈ [0x10, 0x12, 0x13, 0x15, 0x16, 0x17, 0x18, 0x1B]) (r : Nat) :
    roleAllows r op = true ↔ r ∈ [0, 1] := by
  have hop : roleAllows r op = (r == 0 || r == 1) := by
    simp only [List.mem_cons, List.not_mem_nil, or_false] at h
    rcases h with rfl | rfl | rfl | rfl | rfl | rfl | rfl | rfl <;> rfl
  rw [hop]
  simp

theorem roleAllows_service {op : Nat} (h : op = 0x19 ∨ op = 0x1A) (r : Nat) : roleAllows r op = true ↔ r ∈ [1] := by
  have hop : roleAllows r op = (r == 1) := by rcases h with rfl | rfl <;> rfl
  rw [hop]
  simp

theorem StateRow.fits_of {e : StateRow} {q : Req}
    (h1 : ∀ s, exec e.instr s = .next (State.settle (s.hostRequest q.sess e.op q.seq.toNat q.payload)))
    (h2 : stateCmdOf e.op = some e.cmd) (h3 : e.cmd.opcode = e.op) (h4 : ∀ r, roleAllows r e.op = true ↔ r ∈ e.roles)
    (h5 : (e.op == Op.recovery || e.op == Op.callCurtain) = false) : e.fits q := by
  obtain ⟨hr, hc⟩ := Bool.or_eq_false_iff.1 h5
  exact ⟨h1, h2, h3, h4, beq_eq_false_iff_ne.1 hr, beq_eq_false_iff_ne.1 hc⟩

/-- The state commands of `q` with their opcodes and roles (R493). -/
def stateRows (q : Req) : List (Instr × Nat × List Nat × StateCmd) :=
  [(.go q, 0x10, [0, 1], .go), (.pause q, 0x12, [0, 1], .pause), (.resume q, 0x13, [0, 1], .resume),
   (.clear q, 0x15, [0, 1], .clear), (.enterWings q, 0x16, [0, 1], .enterWings), (.wake q, 0x17, [0, 1], .wake),
   (.shutdown q, 0x18, [0, 1], .shutdown), (.enterRecovery q, 0x1A, [1], .enterRecovery), (.restart q, 0x1B, [0, 1], .restart)]

theorem stateRows_fit (q : Req) : ∀ e ∈ stateRows q, StateRow.fits ⟨e.1, e.2.1, e.2.2.1, e.2.2.2⟩ q := by
  have house : ∀ op ∈ [0x10, 0x12, 0x13, 0x15, 0x16, 0x17, 0x18, 0x1B], ∀ r, roleAllows r op = true ↔ r ∈ [0, 1] := fun _ h =>
    roleAllows_house h
  simp only [List.forall_mem_cons] at house
  obtain ⟨hgo, hpause, hresume, hclear, hwings, hwake, hshutdown, hrestart, -⟩ := house
  simp only [stateRows, List.forall_mem_cons]
  exact ⟨StateRow.fits_of (fun _ => rfl) rfl rfl hgo rfl, StateRow.fits_of (fun _ => rfl) rfl rfl hpause rfl,
    StateRow.fits_of (fun _ => rfl) rfl rfl hresume rfl, StateRow.fits_of (fun _ => rfl) rfl rfl hclear rfl,
    StateRow.fits_of (fun _ => rfl) rfl rfl hwings rfl, StateRow.fits_of (fun _ => rfl) rfl rfl hwake rfl,
    StateRow.fits_of (fun _ => rfl) rfl rfl hshutdown rfl, StateRow.fits_of (fun _ => rfl) rfl rfl (roleAllows_service (Or.inr rfl)) rfl,
    StateRow.fits_of (fun _ => rfl) rfl rfl hrestart rfl, fun _ h => absurd h List.not_mem_nil⟩

/-- What a state command that has passed the checks leaves. -/
theorem StateRow.exec_accepted {e : StateRow} {q : Req} {x : HostSess} {s : State} (hf : e.fits q) (hs : s.admits q x)
    (hr : x.role ∈ e.roles) (ha : s.accepts e.cmd) (hl : s.host.long = none) :
    (e.cmd ≠ .restart → ¬ (e.cmd = .enterRecovery ∧ s.sys.dev = .boot) → (e.cmd = .go → s.getF R.SYS_GOEN_EN = 1) →
      ∃ u : State, exec e.instr s = .next u.settle ∧ (s.withSys (s.dueWith e.cmd q)).passes u q.sess x e.op q.seq.toNat q.payload) ∧
    (e.cmd = .go → s.getF R.SYS_GOEN_EN = 0 →
      ∃ u : State, exec e.instr s = .next u.settle ∧ s.answers u q.sess x e.op q.seq.toNat 0x04 []) ∧
    (e.cmd = .enterRecovery → s.sys.dev = .boot → ∃ t u : State, exec e.instr s = .next u.settle ∧
      s.answers t q.sess x e.op q.seq.toNat 0 [] ∧ u.host = t.host ∧ u.sys.dev = .recovery ∧ u.getF R.SYS_BOOT_CODE = 0x22) ∧
    (e.cmd = .restart → ∃ (k : Nat) (u : State), k < 65536 ∧ exec e.instr s = .next u.settle ∧
      { s with freeCtr := s.freeCtr + 1, host := { s.host with long := some (q.sess.val, e.op, k) },
               sys := if s.sys.dev = Dev.boot ∨ s.sys.dev = Dev.recovery then { s.sys with resetDue := true } else s.dueWith e.cmd q }.answers
        u q.sess x e.op q.seq.toNat 0x01 (bytesLE 2 k)) := by
  have hrun := StateRow.exec_run hf hs hr ha hl
  obtain ⟨-, hsess, -⟩ := hs
  have hop := hf.opcode_eq
  refine ⟨fun h1 h2 h3 => ⟨_, hrun, ?_⟩, fun hc hen => ⟨_, hrun, ?_⟩, fun hc hb => ?_, fun hc => ?_⟩
  · rw [State.hostState_of_waits h1 h2 h3, hop]
    exact State.hostPass_passes (s := s.withSys (s.dueWith e.cmd q)) hsess ..
  · rw [hc] at hop
    rw [hc, State.hostState_go_not_ready hen, ← hop]
    exact State.hostAnswer_answers hsess ..
  · rw [hc] at hop
    have hans := State.hostAnswer_answers hsess Op.enterRecovery q.seq.toNat St.ok []
    obtain ⟨-, -, hlong⟩ := hans.sys
    rw [hc, State.hostState_recovery_in_boot hb] at hrun
    rw [← hop]
    exact ⟨_, _, hrun, hans, State.enterRecovery_spec (hlong.trans hl) 0x22 (by decide)⟩
  · rw [hc] at hop hrun
    rw [hc, ← hop]
    exact ⟨s.longNumber, _, Nat.mod_lt _ (by decide), hrun, State.hostState_restart_spec hsess⟩

/-! ## CALL_CURTAIN, SUBMIT and ACTIVATE -/

/-- CALL_CURTAIN waits for no long operation. -/
theorem State.opBusy_callCurtain {s : State} (hp : s.paused = false) (i : Nat) (payload : List Byte) :
    s.opBusy i Op.callCurtain payload = false := by
  rw [State.opBusy, hp, if_neg (by decide), show (longOp Op.callCurtain || Op.callCurtain == Op.submit ||
    ((stateCmdOf Op.callCurtain).isSome && Op.callCurtain != Op.callCurtain)) = false from rfl, Bool.and_false]

/-- `s` with the trigger of `q`'s CALL_CURTAIN due. -/
def State.curtainCalled (s : State) (q : Req) : State :=
  (s.setF R.SYS_CURTAIN_HOSTCMD 1).withSys { s.sys with callDue := some (s.sys.callDue.getD (q.sess, q.seq)) }

theorem State.hostRun_callCurtain (s : State) (q : Req) :
    s.hostRun q.sess Op.callCurtain q.seq.toNat q.payload =
      (s.curtainCalled q).hostPass q.sess Op.callCurtain q.seq.toNat q.payload := by
  have hq : ((Fin.ofNat 64 q.sess.val, BitVec.ofNat 16 q.seq.toNat) : Fin 64 × BitVec 16) = (q.sess, q.seq) := by
    rw [Fin.ofNat_val_eq_self, BitVec.ofNat_toNat, BitVec.setWidth_eq]
  rw [State.curtainCalled, ← hq]
  rfl

theorem callCurtain_clause {q : Req} {x : HostSess} {s : State} (hs : s.admits q x) :
    (s.inRun = false → ∃ u : State, exec (.callCurtain q) s = .next u.settle ∧ s.refuses u q.sess x 0x14 q.seq.toNat 0x03) ∧
      (s.inRun = true → ∃ t u : State, exec (.callCurtain q) s = .next u.settle ∧
        { s with sys := { s.sys with callDue := some (s.sys.callDue.getD (q.sess, q.seq)) } }.onlyFields t [R.SYS_CURTAIN_HOSTCMD] ∧
        t.getF R.SYS_CURTAIN_HOSTCMD = 1 ∧ t.passes u q.sess x 0x14 q.seq.toNat q.payload) := by
  have hrole : roleAllows x.role Op.callCurtain = true := rfl
  have hlegal : s.opLegal Op.callCurtain q.payload = s.inRun := rfl
  have hset := (s.onlyFields_refl [R.SYS_CURTAIN_HOSTCMD]).setF List.mem_cons_self (by decide) 1
  refine ⟨fun hr => ⟨_, rfl, State.hostRequest_refused_state hs hrole (hlegal.trans hr)⟩, fun hr => ?_⟩
  refine ⟨s.curtainCalled q, _, rfl, ⟨rfl, hset.2⟩, s.getF_setF_of_lt (f := R.SYS_CURTAIN_HOSTCMD) (by decide) (by decide) (by decide), ?_⟩
  rw [State.hostRequest_run hs hrole (hlegal.trans hr) (State.opBusy_callCurtain hs.2.2.2.2 _ _), State.hostRun_callCurtain]
  exact State.hostPass_passes (s := s.curtainCalled q) hs.2.1 ..

theorem roleAllows_submit (r : Nat) : roleAllows r Op.submit = true ↔ r = 0 := by
  rw [show roleAllows r Op.submit = (r == 0) from rfl, beq_iff_eq]

theorem State.opLegal_submit (s : State) (payload : List Byte) :
    s.opLegal Op.submit payload = true ↔ s.sys.dev = .places ∨ s.inRun = true := by
  rw [show s.opLegal Op.submit payload = (s.inRun || s.sys.dev == .places) from rfl, Bool.or_eq_true, beq_iff_eq, or_comm]

theorem submit_clause {q : Req} {x : HostSess} {s : State} (hs : s.admits q x) :
    (x.role ≠ 0 → ∃ u : State, exec (.submit q) s = .next u.settle ∧ s.refuses u q.sess x 0x11 q.seq.toNat 0x05) ∧
      (x.role = 0 → s.sys.dev ≠ .places → s.inRun = false →
        ∃ u : State, exec (.submit q) s = .next u.settle ∧ s.refuses u q.sess x 0x11 q.seq.toNat 0x03) ∧
      (x.role = 0 → s.sys.dev = .places ∨ s.inRun = true →
        (s.host.long ≠ none → ∃ u : State, exec (.submit q) s = .next u.settle ∧ s.refuses u q.sess x 0x11 q.seq.toNat 0x02) ∧
        (s.host.long = none → ∃ u : State, exec (.submit q) s = .next u.settle ∧
          s.passes u q.sess x 0x11 q.seq.toNat q.payload)) := by
  have hbusy := State.opBusy_of_not_paused hs.2.2.2.2 (op := Op.submit) (by decide) rfl q.sess q.payload
  refine ⟨fun hr => ⟨_, rfl, State.hostRequest_refused_role hs ?_⟩, fun hr hd hrun => ⟨_, rfl, ?_⟩, fun hr hl => ⟨fun hb => ⟨_, rfl, ?_⟩, fun hb => ⟨_, rfl, ?_⟩⟩⟩
  · exact Bool.eq_false_iff.2 (mt (roleAllows_submit _).1 hr)
  · refine State.hostRequest_refused_state hs ((roleAllows_submit _).2 hr) (Bool.eq_false_iff.2 (mt (s.opLegal_submit _).1 ?_))
    exact not_or.2 ⟨hd, Bool.eq_false_iff.1 hrun⟩
  · exact State.hostRequest_busy hs ((roleAllows_submit _).2 hr) ((s.opLegal_submit _).2 hl)
      (hbusy.trans (Option.isSome_iff_ne_none.2 hb))
  · rw [State.hostRequest_run hs ((roleAllows_submit _).2 hr) ((s.opLegal_submit _).2 hl) (hbusy.trans (by rw [hb]; rfl))]
    exact State.hostPass_passes hs.2.1 ..

theorem State.opLegal_activate (s : State) (payload : List Byte) :
    s.opLegal Op.activate payload = true ↔ s.sys.dev = .run .idle := by
  rw [show s.opLegal Op.activate payload = (s.sys.dev == .run .idle) from rfl, beq_iff_eq]

theorem roleAllows_activate (r : Nat) : roleAllows r Op.activate = true ↔ r = 1 := by
  rw [show roleAllows r Op.activate = (r == 1) from rfl, beq_iff_eq]

theorem activate_clause {q : Req} {x : HostSess} {s : State} (hs : s.admits q x) :
    (x.role ≠ 1 → ∃ u : State, exec (.activate q) s = .next u.settle ∧ s.refuses u q.sess x 0x19 q.seq.toNat 0x05) ∧
      (x.role = 1 → s.sys.dev ≠ .run .idle →
        ∃ u : State, exec (.activate q) s = .next u.settle ∧ s.refuses u q.sess x 0x19 q.seq.toNat 0x03) ∧
      (x.role = 1 → s.sys.dev = .run .idle →
        (s.host.long ≠ none → ∃ u : State, exec (.activate q) s = .next u.settle ∧ s.refuses u q.sess x 0x19 q.seq.toNat 0x02) ∧
        (s.host.long = none → ∃ u : State, exec (.activate q) s = .next u.settle ∧
          { s with host := { s.host with actSess := some q.sess.val } }.passes u q.sess x 0x19 q.seq.toNat q.payload)) := by
  have hbusy := State.opBusy_of_not_paused hs.2.2.2.2 (op := Op.activate) (by decide) rfl q.sess q.payload
  refine ⟨fun hr => ⟨_, rfl, State.hostRequest_refused_role hs ?_⟩, fun hr hd => ⟨_, rfl, ?_⟩, fun hr hl => ⟨fun hb => ⟨_, rfl, ?_⟩, fun hb => ⟨_, rfl, ?_⟩⟩⟩
  · exact Bool.eq_false_iff.2 (mt (roleAllows_activate _).1 hr)
  · exact State.hostRequest_refused_state hs ((roleAllows_activate _).2 hr) (Bool.eq_false_iff.2 (mt (s.opLegal_activate _).1 hd))
  · exact State.hostRequest_busy hs ((roleAllows_activate _).2 hr) ((s.opLegal_activate _).2 hl)
      (hbusy.trans (Option.isSome_iff_ne_none.2 hb))
  · rw [State.hostRequest_run hs ((roleAllows_activate _).2 hr) ((s.opLegal_activate _).2 hl) (hbusy.trans (by rw [hb]; rfl))]
    exact State.hostPass_passes (s := s.withHost { s.host with actSess := some q.sess.val }) hs.2.1 ..

/-! ## O37 -/

/-- Settles O37: the state commands row by row, the three others by themselves. -/
theorem hostStateCommands : Obligations.HostStateCommands := by
  unfold Obligations.HostStateCommands
  intro q x s hs
  refine ⟨fun e he => ?_, callCurtain_clause hs, submit_clause hs, activate_clause hs⟩
  have hf := stateRows_fit q e he
  exact ⟨StateRow.exec_role hf hs, StateRow.exec_state hf hs, StateRow.exec_busy hf hs, StateRow.exec_accepted hf hs⟩

end Sys2Proof.Machine
end

section
/-!
# The spine of a state: what the blocks' own work leaves alone

The records that wait, the time counter, BOOT's step and the device state are changed by the transitions and by BOOT only.
What the blocks do at a boundary or for a register write keeps all of it, but for the sys fields that some block owns.
-/

namespace Sys2Proof.Machine

/-- The part of a state that only transitions (R30), BOOT (R194) and the tick change. -/
structure Spine where
  pending : List Instr
  time : BitVec 64
  step : Nat
  sys : Sys

/-- A `Sys` without what blocks change: the trigger that is due, the column being emitted, the swath to resume, the watchdogs'
remaining times and what configuration records set. -/
def Sys.stable (y : Sys) : Sys :=
  { y with faultDue := false, emitting := false, resumeP := false, wdRemainNs := [], wdPeriodUs := [], curtainLimitUs := 0,
           refSource := 0 }

/-- The spine of `s`. -/
def State.spine (s : State) : Spine := ⟨s.pending, s.cue.time, s.boot.step, s.sys.stable⟩

/-! ## Rules -/

theorem State.spine_congr {s t : State} (hp : t.pending = s.pending) (ht : t.cue.time = s.cue.time)
    (hb : t.boot.step = s.boot.step) (hs : t.sys.stable = s.sys.stable) : t.spine = s.spine := by
  simp only [State.spine, hp, ht, hb, hs]

/-- A fold of steps that each keep the spine keeps it. -/
theorem State.spine_foldl {β : Type} {f : State → β → State} (hf : ∀ s b, (f s b).spine = s.spine) (l : List β)
    (s : State) : (l.foldl f s).spine = s.spine := by
  induction l generalizing s with
  | nil => rfl
  | cons b t ih => rw [List.foldl_cons, ih, hf]

/-- The same for a fold that carries more than a state. -/
theorem State.spine_foldl_fst {α β : Type} {f : State × α → β → State × α} (hf : ∀ p b, (f p b).1.spine = p.1.spine)
    (l : List β) (p : State × α) : (l.foldl f p).1.spine = p.1.spine := by
  induction l generalizing p with
  | nil => rfl
  | cons b t ih => rw [List.foldl_cons, ih, hf]

theorem State.spine_ite {c : Prop} [Decidable c] (s t : State) :
    (if c then s else t).spine = if c then s.spine else t.spine := apply_ite State.spine c s t

theorem State.spine_modCue {f : Cue → Cue} (s : State) (h : (f s.cue).time = s.cue.time) : (s.modCue f).spine = s.spine :=
  State.spine_congr rfl h rfl rfl

theorem State.spine_modSys {f : Sys → Sys} (s : State) (h : (f s.sys).stable = s.sys.stable) : (s.modSys f).spine = s.spine :=
  State.spine_congr rfl rfl rfl h

@[simp] theorem State.spine_setReg (s : State) (a : Nat) (v : Word) : (s.setReg a v).spine = s.spine :=
  State.spine_congr rfl rfl rfl rfl

@[simp] theorem State.spine_setF (s : State) (f : Fld) (v : Nat) : (s.setF f v).spine = s.spine :=
  State.spine_congr rfl rfl rfl rfl

@[simp] theorem State.spine_lowerBit (s : State) (f : Fld) (b : Nat) : (s.lowerBit f b).spine = s.spine := by
  unfold State.lowerBit
  split <;> rfl

/-! ## State operations and the call board -/

@[simp] theorem State.spine_writeTyped (s : State) (d : RegDesc) (a : Nat) (locked : Bool) (v : Word) :
    (s.writeTyped d a locked v).spine = s.spine := by
  simp [State.writeTyped]

@[simp] theorem State.spine_fresh (s : State) : s.fresh.2.spine = s.spine :=
  State.spine_congr rfl rfl rfl rfl

@[simp] theorem State.spine_roundFree (s : State) (num : Int) (den : Nat) : (s.roundFree num den).2.spine = s.spine := by
  unfold State.roundFree
  split <;> simp

@[simp] theorem State.spine_wr8 (s : State) (a : Nat) (v : Byte) : (s.wr8 a v).spine = s.spine :=
  State.spine_congr rfl rfl rfl rfl

@[simp] theorem State.spine_wrBytes (s : State) (a : Nat) (l : List Byte) : (s.wrBytes a l).spine = s.spine := by
  induction l generalizing s a with
  | nil => rfl
  | cons b t ih => exact ih (s.wr8 a b) (a + 1)

@[simp] theorem State.spine_trigger (s : State) (f : Fld) : (s.trigger f).spine = s.spine := by
  unfold State.trigger
  split <;> rfl

@[simp] theorem State.spine_setCore (s : State) (n : Nat) (c : Core) : (s.setCore n c).spine = s.spine :=
  State.spine_congr rfl rfl rfl rfl

@[simp] theorem State.spine_modPair (s : State) (n : Nat) (f : Pair → Pair) : (s.modPair n f).spine = s.spine :=
  State.spine_congr rfl rfl rfl rfl

@[simp] theorem State.spine_eachCopy (s : State) (h : Hart) (f : Core → Core) : (s.eachCopy h f).spine = s.spine := by
  simp [State.eachCopy, State.spine_ite]

@[simp] theorem State.spine_latchLine (s : State) (core line : Nat) : (s.latchLine core line).spine = s.spine := by
  simp [State.latchLine]

@[simp] theorem State.spine_irqPulse (s : State) (base out : Nat) : (s.irqPulse base out).spine = s.spine := by
  simp [State.irqPulse, State.spine_foldl, State.spine_ite]

@[simp] theorem State.spine_irqPulseIf (s : State) (en : Fld) (base : Nat) : (s.irqPulseIf en base).spine = s.spine := by
  simp [State.irqPulseIf, State.spine_ite]

@[simp] theorem State.spine_settle (s : State) : s.settle.spine = s.spine := by
  obtain ⟨k, hk⟩ := s.settle_eq
  rw [hk]
  exact State.spine_congr rfl rfl rfl rfl

@[simp] theorem State.spine_enterChannel (s : State) (ch : Nat) : (s.enterChannel ch).spine = s.spine := by
  unfold State.enterChannel
  repeat' split
  all_goals rfl

@[simp] theorem State.spine_publish (s : State) (src : Nat) : (s.publish src).spine = s.spine := by
  simp [State.publish, State.spine_ite]

@[simp] theorem State.spine_bbxEvent (s : State) (code : Nat) (data : List Word) : (s.bbxEvent code data).spine = s.spine := by
  unfold State.bbxEvent
  extract_lets
  split <;> rfl

/-! ## Memory -/

@[simp] theorem State.spine_setEcc (s : State) (a m : Nat) : (s.setEcc a m).spine = s.spine :=
  State.spine_congr rfl rfl rfl rfl

@[simp] theorem State.spine_sramUe (s : State) (r : Region) (a : Nat) : (s.sramUe r a).spine = s.spine := by
  simp [State.sramUe, State.spine_ite]

@[simp] theorem State.spine_sramCheck (r : Region) (p : State × Bool) (u : Nat) :
    (State.sramCheck r p u).1.spine = p.1.spine := by
  unfold State.sramCheck
  split <;> simp

@[simp] theorem State.spine_sramRead (s : State) (r : Region) (a n : Nat) : (s.sramRead r a n).1.spine = s.spine := by
  simp [State.sramRead, State.spine_foldl_fst]

@[simp] theorem State.spine_blockRead (s : State) (r : Region) (a n : Nat) : (s.blockRead r a n).1.spine = s.spine := by
  have h := s.spine_sramRead r a n
  unfold State.blockRead
  generalize s.sramRead r a n = q at h ⊢
  split <;> simpa using h

@[simp] theorem State.spine_freshEcc (s : State) (a n : Nat) : (s.freshEcc a n).spine = s.spine := by
  exact State.spine_foldl (fun s u => s.spine_setEcc u 0) _ s

@[simp] theorem State.spine_sramMerge (s : State) (r : Region) (a n : Nat) : (s.sramMerge r a n).1.spine = s.spine := by
  simp [State.sramMerge, State.spine_foldl_fst]

@[simp] theorem State.spine_putFresh (s : State) (a : Nat) (l : List Byte) : (s.putFresh a l).spine = s.spine := by
  simp [State.putFresh]

@[simp] theorem State.spine_sramWrite (s : State) (r : Region) (a : Nat) (l : List Byte) :
    (s.sramWrite r a l).1.spine = s.spine := by
  have h := s.spine_sramMerge r a l.length
  unfold State.sramWrite
  split <;> simp_all

@[simp] theorem State.spine_drcFail (s : State) (p : Nat) : (s.drcFail p).spine = s.spine := by
  simp [State.drcFail]

@[simp] theorem State.spine_dramUe (s : State) (a : Nat) : (s.dramUe a).spine = s.spine := by
  have h (t : State) (m : SMap (List Nat)) : State.spine { t with drcUeTimes := m } = t.spine :=
    State.spine_congr rfl rfl rfl rfl
  simp [State.dramUe, State.spine_ite, h]

@[simp] theorem State.spine_dramCheck (q : State × Bool) (h : Nat) : (State.dramCheck q h).1.spine = q.1.spine := by
  unfold State.dramCheck
  split <;> simp

@[simp] theorem State.spine_dramTraffic (s : State) (k : Nat) : (s.dramTraffic k).spine = s.spine :=
  State.spine_congr rfl rfl rfl rfl

@[simp] theorem State.spine_dramWrite (s : State) (a : Nat) (l : List Byte) : (s.dramWrite a l).1.spine = s.spine := by
  unfold State.dramWrite
  extract_lets n t
  split
  · rfl
  · have h := State.spine_foldl_fst State.spine_dramCheck ((partialLines a n).flatMap fun x => [64 * x, 64 * x + 32]) (t, true)
    split <;> simp_all [t]

@[simp] theorem State.spine_pmemEvent (s : State) (perm : Bool) (o : Nat) : (s.pmemEvent perm o).spine = s.spine := by
  simp [State.pmemEvent, State.spine_ite]

@[simp] theorem State.spine_pmemCheck (q : State × Bool) (u : Nat) : (State.pmemCheck q u).1.spine = q.1.spine := by
  unfold State.pmemCheck
  split <;> simp

@[simp] theorem State.spine_pmcShow (s : State) : s.pmcShow.spine = s.spine := by
  simp [State.pmcShow]

@[simp] theorem State.spine_pmemAccept (s : State) (who a n : Nat) : (s.pmemAccept who a n).spine = s.spine :=
  State.spine_congr rfl rfl rfl rfl

theorem State.pmemWrite_at (s : State) (w : Writer) (a o : Nat) (l : List Byte) (ho : a - pmemBase = o) :
    s.pmemWrite w a l =
      if !s.pmemWritable w o then (s.pmemEvent true o, false)
      else
        match (partialUnits a l.length).foldl State.pmemCheck (s, true) with
        | (s, true) => ((s.putFresh a l).pmemAccept w.num a l.length, true)
        | (s, false) => (s, false) := by
  subst ho
  rfl
@[simp] theorem State.spine_pmemWrite (s : State) (w : Writer) (a : Nat) (l : List Byte) :
    (s.pmemWrite w a l).1.spine = s.spine := by
  obtain ⟨o, ho⟩ : ∃ o, a - pmemBase = o := ⟨_, rfl⟩
  have h := State.spine_foldl_fst State.spine_pmemCheck (partialUnits a l.length) (s, true)
  rw [s.pmemWrite_at w a o l ho]
  split
  · exact s.spine_pmemEvent true o
  · generalize (partialUnits a l.length).foldl State.pmemCheck (s, true) = q at h ⊢
    split <;> simp_all

@[simp] theorem State.spine_pmemStore (s : State) (o : Nat) (l : List Byte) : (s.pmemStore o l).spine = s.spine := by
  simp [State.pmemStore]

@[simp] theorem State.spine_undoLog (s : State) (n : Nat) (a len : Nat) : (s.undoLog n a len).spine = s.spine := by
  simp [State.undoLog, State.spine_foldl, State.spine_ite]

theorem State.localWrite_at (s : State) (w : Writer) (n : Nat) (a b : Nat) (l : List Byte) (hb : a + 0x40000 = b) :
    s.localWrite w n a l =
      let k := l.length
      let own := decide (ownStoreOf w = some n)
      if 8 ≤ n || (own && s.isSplit (n / 2)) then s.sramWrite (.localStore n) a l
      else if n % 2 = 1 then (s, false)
      else
        let (s, ok1) := s.sramMerge (.localStore n) a k
        let (s, ok2) := s.sramMerge (.localStore (n + 1)) b k
        if !(ok1 && ok2) then (s, false)
        else
          let s := if own then s.undoLog (n / 2) a k else s
          ((s.putFresh a l).putFresh b l, true) := by
  subst hb
  rfl
@[simp] theorem State.spine_localWrite (s : State) (w : Writer) (n : Nat) (a : Nat) (l : List Byte) :
    (s.localWrite w n a l).1.spine = s.spine := by
  obtain ⟨b, hb⟩ : ∃ b, a + 0x40000 = b := ⟨_, rfl⟩
  rw [s.localWrite_at w n a b l hb]
  simp [apply_ite Prod.fst, State.spine_ite]

@[simp] theorem State.spine_memWrite (s : State) (w : Writer) (a : Nat) (l : List Byte) :
    (s.memWrite w a l).1.spine = s.spine := by
  unfold State.memWrite
  repeat' split
  all_goals simp

/-! ## Encoders -/

@[simp] theorem State.spine_modEnc (s : State) (i : Nat) (f : EncUnit → EncUnit) : (s.modEnc i f).spine = s.spine :=
  State.spine_congr rfl rfl rfl rfl

@[simp] theorem State.spine_encLoad (s : State) (i : Nat) : (s.encLoad i).spine = s.spine := by
  simp [State.encLoad]

@[simp] theorem State.spine_encArm (s : State) (i : Nat) (v : Word) : (s.encArm i v).spine = s.spine := by
  simp [State.encArm, State.spine_ite]

@[simp] theorem State.spine_encCfgWrite (s : State) (d : RegDesc) (i a : Nat) (v : Word) :
    (s.encCfgWrite d i a v).spine = s.spine := by
  simp [State.encCfgWrite, State.spine_ite]

@[simp] theorem State.spine_encRegWrite (s : State) (d : RegDesc) (i a : Nat) (v : Word) :
    (s.encRegWrite d i a v).spine = s.spine := by
  unfold State.encRegWrite
  split <;> simp [State.spine_ite]

@[simp] theorem State.spine_encWings (s : State) : s.encWings.spine = s.spine := by
  simp [State.encWings, State.spine_foldl, State.spine_ite]

/-! ## PWM -/

@[simp] theorem State.spine_modUnit (s : State) (n : Nat) (f : PwmUnit → PwmUnit) : (s.modUnit n f).spine = s.spine :=
  State.spine_congr rfl rfl rfl rfl

@[simp] theorem State.spine_pwmClamp (s : State) (n : Nat) : (s.pwmClamp n).spine = s.spine := by
  simp [State.pwmClamp, State.spine_ite]

@[simp] theorem State.spine_pwmCount (s : State) (n : Nat) (h l : Bool) : (s.pwmCount n h l).spine = s.spine := by
  simp [State.pwmCount, State.spine_ite]

@[simp] theorem State.spine_pwmCountTo (s : State) (n x : Nat) : (s.pwmCountTo n x).spine = s.spine := by
  simp [State.pwmCountTo]

@[simp] theorem State.spine_pwmPlanPeriod (s : State) (n x start : Nat) (parked : Bool) :
    (s.pwmPlanPeriod n x start parked).spine = s.spine := by
  simp [State.pwmPlanPeriod]

@[simp] theorem State.spine_settleGroup (s : State) (g : Nat) : (s.settleGroup g).spine = s.spine := by
  simp [State.settleGroup, State.spine_ite]

@[simp] theorem State.spine_setLoadAll (s : State) (g : Nat) : (s.setLoadAll g).spine = s.spine := by
  simp [State.setLoadAll, State.spine_foldl, State.spine_ite]

@[simp] theorem State.spine_pwmTransfer (s : State) (n : Nat) (atStart : Bool) :
    (s.pwmTransfer n atStart).spine = s.spine := by
  simp [State.pwmTransfer, State.spine_ite]

@[simp] theorem State.spine_rampStart (s : State) (n : Nat) : (s.rampStart n).spine = s.spine :=
  State.spine_congr rfl rfl rfl rfl

@[simp] theorem State.spine_rampStop (s : State) (n : Nat) : (s.rampStop n).spine = s.spine :=
  State.spine_congr rfl rfl rfl rfl

@[simp] theorem State.spine_pwmPark (s : State) (n : Nat) : (s.pwmPark n).spine = s.spine := by
  simp [State.pwmPark]

@[simp] theorem State.spine_pwmDisableUnit (s : State) (n : Nat) : (s.pwmDisableUnit n).spine = s.spine := by
  simp [State.pwmDisableUnit]

@[simp] theorem State.spine_pwmOff (s : State) (n : Nat) : (s.pwmOff n).spine = s.spine := by
  unfold State.pwmOff
  split
  · exact State.spine_congr rfl rfl rfl rfl
  · simp

@[simp] theorem State.spine_pwmDisableAll (s : State) : s.pwmDisableAll.spine = s.spine := by
  simp [State.pwmDisableAll, State.spine_foldl, State.spine_ite]

@[simp] theorem State.spine_pwmJoin (s : State) (n : Nat) : (s.pwmJoin n).spine = s.spine := by
  simp [State.pwmJoin, State.spine_ite]

@[simp] theorem State.spine_pwmBoundary (s : State) : s.pwmBoundary.spine = s.spine := by
  simp [State.pwmBoundary, State.spine_foldl, State.spine_ite]

@[simp] theorem State.spine_pwmCurtain (s : State) (curt : Bool) : (s.pwmCurtain curt).spine = s.spine := by
  simp [State.pwmCurtain, State.spine_foldl, State.spine_ite]

@[simp] theorem State.spine_pwmTripUnit (s : State) (n : Nat) : (s.pwmTripUnit n).spine = s.spine := by
  simp [State.pwmTripUnit, State.spine_ite]

@[simp] theorem State.spine_tripSource (s : State) (k : Nat) : (s.tripSource k).spine = s.spine := by
  simp [State.tripSource, State.spine_foldl, State.spine_ite]

@[simp] theorem State.spine_tripLand (s : State) (k : Nat) (active : Bool) : (s.tripLand k active).spine = s.spine := by
  have h (w : Pwm) : State.spine { s with pwm := w } = s.spine := State.spine_congr rfl rfl rfl rfl
  simp [State.tripLand, State.spine_ite, h]

@[simp] theorem State.spine_pwmPeakReset (s : State) (n steps : Nat) : (s.pwmPeakReset n steps).spine = s.spine := by
  unfold State.pwmPeakReset
  extract_lets
  repeat' split
  all_goals simp

@[simp] theorem State.spine_pwmPeakCmp (s : State) (c : Nat) : (s.pwmPeakCmp c).spine = s.spine := by
  simp [State.pwmPeakCmp, State.spine_foldl, State.spine_ite]

@[simp] theorem State.spine_pwmCtrlWrite (s : State) (d : RegDesc) (n a : Nat) (v : Word) :
    (s.pwmCtrlWrite d n a v).spine = s.spine := by
  simp [State.pwmCtrlWrite, State.spine_ite]

@[simp] theorem State.spine_pwmLdallWrite (s : State) (high : Bool) (v : Word) :
    (s.pwmLdallWrite high v).spine = s.spine := by
  simp [State.pwmLdallWrite, State.spine_foldl, State.spine_ite]

@[simp] theorem State.spine_pwmStatWrite (s : State) (d : RegDesc) (n a : Nat) (v : Word) :
    (s.pwmStatWrite d n a v).spine = s.spine := by
  simp [State.pwmStatWrite, State.spine_ite]

@[simp] theorem State.spine_pwmWriteNow (s : State) (d : RegDesc) (n a : Nat) (v : Word) :
    (s.pwmWriteNow d n a v).spine = s.spine := by
  unfold State.pwmWriteNow
  split
  · split <;> simp
  · split <;> simp [State.spine_ite]

@[simp] theorem State.spine_pwmRegWrite (s : State) (d : RegDesc) (n a : Nat) (v : Word) :
    (s.pwmRegWrite d n a v).spine = s.spine := by
  unfold State.pwmRegWrite
  split
  · exact State.spine_congr rfl rfl rfl rfl
  · simp

/-! ## Analog front end -/

@[simp] theorem State.spine_modGroup (s : State) (g : Nat) (f : AdcGroup → AdcGroup) : (s.modGroup g f).spine = s.spine :=
  State.spine_congr rfl rfl rfl rfl

@[simp] theorem State.spine_adcTrigger (s : State) (g : Nat) : (s.adcTrigger g).spine = s.spine := by
  simp [State.adcTrigger, State.spine_ite]

@[simp] theorem State.spine_adcLeave (s : State) : s.adcLeave.spine = s.spine :=
  State.spine_congr rfl rfl rfl rfl

@[simp] theorem State.spine_setDs (s : State) (d : Nat) (x : DsFilter) : (s.setDs d x).spine = s.spine :=
  State.spine_congr rfl rfl rfl rfl

@[simp] theorem State.spine_dsRestart (s : State) (d : Nat) : (s.dsRestart d).spine = s.spine := by
  simp [State.dsRestart]

@[simp] theorem State.spine_cmpLevel (s : State) (c : Nat) (level : Bool) : (s.cmpLevel c level).spine = s.spine := by
  simp [State.cmpLevel, State.spine_ite]

@[simp] theorem State.spine_cmpChkon (s : State) : s.cmpChkon.spine = s.spine := by
  simp [State.cmpChkon]

@[simp] theorem State.spine_cmpcfgWrite (s : State) (d : RegDesc) (c a : Nat) (v : Word) :
    (s.cmpcfgWrite d c a v).spine = s.spine := by
  simp [State.cmpcfgWrite, State.spine_ite]

@[simp] theorem State.spine_dacFollow (s : State) : s.dacFollow.spine = s.spine := by
  simp [State.dacFollow, State.spine_foldl, State.spine_ite]

@[simp] theorem State.spine_dacWrite (s : State) (d : RegDesc) (c a : Nat) (v : Word) :
    (s.dacWrite d c a v).spine = s.spine := by
  simp [State.dacWrite, State.spine_ite]

@[simp] theorem State.spine_afeCtrlWrite (s : State) (d : RegDesc) (a : Nat) (v : Word) :
    (s.afeCtrlWrite d a v).spine = s.spine := by
  simp [State.afeCtrlWrite, State.spine_foldl, State.spine_ite]

@[simp] theorem State.spine_gtrigWrite (s : State) (v : Word) : (s.gtrigWrite v).spine = s.spine := by
  simp [State.gtrigWrite, State.spine_foldl, State.spine_ite]

@[simp] theorem State.spine_afeRegWrite (s : State) (d : RegDesc) (n a : Nat) (v : Word) :
    (s.afeRegWrite d n a v).spine = s.spine := by
  unfold State.afeRegWrite
  extract_lets
  repeat' split
  all_goals simp

/-! ## MTRK -/

@[simp] theorem State.spine_modPort (s : State) (p : Nat) (f : MtrkPort → MtrkPort) : (s.modPort p f).spine = s.spine :=
  State.spine_congr rfl rfl rfl rfl

@[simp] theorem State.spine_modMtrk (s : State) (f : Mtrk → Mtrk) : (s.modMtrk f).spine = s.spine :=
  State.spine_congr rfl rfl rfl rfl

@[simp] theorem State.spine_mtrkShow (s : State) (p : Nat) : (s.mtrkShow p).spine = s.spine := by
  simp [State.mtrkShow]

@[simp] theorem State.spine_mtrkShowPos (s : State) (y : Int) : (s.mtrkShowPos y).spine = s.spine := by
  simp [State.mtrkShowPos]

@[simp] theorem State.spine_mtrkPreset (s : State) : s.mtrkPreset.spine = s.spine := by
  simp [State.mtrkPreset, State.spine_ite]

@[simp] theorem State.spine_mtrkWings (s : State) : s.mtrkWings.spine = s.spine := by
  simp [State.mtrkWings]

@[simp] theorem State.spine_mtrkRegWrite (s : State) (d : RegDesc) (n a : Nat) (v : Word) :
    (s.mtrkRegWrite d n a v).spine = s.spine := by
  unfold State.mtrkRegWrite
  split <;> simp [State.spine_ite]

/-! ## Loops -/

@[simp] theorem State.spine_modSlot (s : State) (k : Nat) (f : LoopSlot → LoopSlot) : (s.modSlot k f).spine = s.spine :=
  State.spine_congr rfl rfl rfl rfl

@[simp] theorem State.spine_modRh (s : State) (f : Rehearsal → Rehearsal) : (s.modRh f).spine = s.spine :=
  State.spine_congr rfl rfl rfl rfl

@[simp] theorem State.spine_loopFaultStat (s : State) : s.loopFaultStat.spine = s.spine := by
  simp [State.loopFaultStat]

@[simp] theorem State.spine_curtainGroups (s : State) : s.curtainGroups.spine = s.spine := by
  have h (x : Loop) : State.spine { s with loop := x } = s.spine := State.spine_congr rfl rfl rfl rfl
  simp [State.curtainGroups, State.spine_ite, h]

@[simp] theorem State.spine_loopCurtain (s : State) : s.loopCurtain.spine = s.spine :=
  (State.spine_curtainGroups _).trans (State.spine_congr rfl rfl rfl rfl)

@[simp] theorem State.spine_rhEnd (s : State) (abort : Bool) : (s.rhEnd abort).spine = s.spine := by
  simp [State.rhEnd, State.spine_ite]

@[simp] theorem State.spine_rhBoundary (s : State) : s.rhBoundary.spine = s.spine := by
  simp [State.rhBoundary, State.spine_ite]

@[simp] theorem State.spine_rhGo (s : State) : s.rhGo.spine = s.spine := by
  simp [State.rhGo, State.spine_ite]

@[simp] theorem State.spine_loopInit (s : State) : s.loopInit.spine = s.spine := by
  have h (x : Loop) : State.spine { s with loop := x } = s.spine := State.spine_congr rfl rfl rfl rfl
  unfold State.loopInit
  extract_lets slots t u
  rw [State.spine_foldl (fun t k => by simp)]
  simp [u, t, h]

@[simp] theorem State.spine_loopStop (s : State) : s.loopStop.spine = s.spine :=
  (State.spine_foldl (fun t k => by simp) _ _).trans (State.spine_congr rfl rfl rfl rfl)

@[simp] theorem State.spine_slotCommit (s : State) (k : Nat) : (s.slotCommit k).spine = s.spine := by
  simp [State.slotCommit, State.spine_foldl]

@[simp] theorem State.spine_loopCommit (s : State) (p : Nat) : (s.loopCommit p).spine = s.spine := by
  simp [State.loopCommit, State.spine_foldl, State.spine_ite]

@[simp] theorem State.spine_loopHeld (s : State) : s.loopHeld.spine = s.spine := by
  simp [State.loopHeld, State.spine_foldl, State.spine_ite]

@[simp] theorem State.spine_paramWrite (s : State) (w : Writer) (k j : Nat) (v : Word) :
    (s.paramWrite w k j v).spine = s.spine := by
  simp [State.paramWrite, State.spine_ite]

@[simp] theorem State.spine_faultClear (s : State) (k : Nat) : (s.faultClear k).spine = s.spine := by
  simp [State.faultClear]

@[simp] theorem State.spine_rhctrlWrite (s : State) (d : RegDesc) (a : Nat) (v : Word) :
    (s.rhctrlWrite d a v).spine = s.spine := by
  simp [State.rhctrlWrite, State.spine_ite]

@[simp] theorem State.spine_loopRegWrite (s : State) (w : Writer) (d : RegDesc) (k j a : Nat) (v : Word) :
    (s.loopRegWrite w d k j a v).spine = s.spine := by
  unfold State.loopRegWrite
  split <;> simp [State.spine_ite, State.spine_foldl]

/-! ## Lockstep -/

@[simp] theorem State.spine_lockstepEnd (s : State) (n : Nat) : (s.lockstepEnd n).spine = s.spine := by
  simp [State.lockstepEnd]

@[simp] theorem State.spine_lockstepBoundary (s : State) (n : Nat) (counted : Bool) :
    (s.lockstepBoundary n counted).spine = s.spine := by
  simp [State.lockstepBoundary, State.spine_ite]

@[simp] theorem State.spine_lockstepCurtain (s : State) : s.lockstepCurtain.spine = s.spine := by
  simp [State.lockstepCurtain, State.spine_foldl, State.spine_ite]

@[simp] theorem State.spine_injWrite (s : State) (d : RegDesc) (a : Nat) (v : Word) :
    (s.injWrite d a v).spine = s.spine := by
  simp [State.injWrite, State.spine_ite]

@[simp] theorem State.spine_ustdRegWrite (s : State) (d : RegDesc) (a : Nat) (v : Word) :
    (s.ustdRegWrite d a v).spine = s.spine := by
  unfold State.ustdRegWrite
  repeat' split
  all_goals simp

@[simp] theorem State.spine_startupTest (s : State) : s.startupTest.spine = s.spine := by
  unfold State.startupTest
  extract_lets
  split <;> simp +zetaDelta

end Sys2Proof.Machine
end

section
/-!
# The spine: from the program store to the black box, cue and links
-/

namespace Sys2Proof.Machine

/-! ## Program store -/

@[simp] theorem State.spine_modFls (s : State) (f : Fls → Fls) : (s.modFls f).spine = s.spine :=
  State.spine_congr rfl rfl rfl rfl

@[simp] theorem State.spine_flsUe (s : State) (a : Nat) : (s.flsUe a).spine = s.spine := by
  simp [State.flsUe, State.spine_ite]

@[simp] theorem State.spine_flsSbr (s : State) (a : Nat) : (s.flsSbr a).spine = s.spine := by
  simp [State.flsSbr, State.spine_ite]

@[simp] theorem State.spine_flsRead (s : State) (a n : Nat) : (s.flsRead a n).1.spine = s.spine := by
  simp [State.flsRead, apply_ite Prod.fst, State.spine_ite]

@[simp] theorem State.spine_flsRefuse (s : State) (cause : Nat) : (s.flsRefuse cause).spine = s.spine := by
  simp [State.flsRefuse]

@[simp] theorem State.spine_setUndef (s : State) (bad : Bool) (p n : Nat) : (s.setUndef bad p n).spine = s.spine := by
  have h (k : Nat) : State.spine { s with freeCtr := k } = s.spine := State.spine_congr rfl rfl rfl rfl
  simp [State.setUndef, State.spine_ite, h]

@[simp] theorem State.spine_flsCut (s : State) : s.flsCut.spine = s.spine := by
  unfold State.flsCut
  extract_lets cut t u
  have hcut (t : State) (o : FlsOp) : (cut t o).spine = t.spine := by
    simp only [cut]
    split
    · split <;> simp
    · simp
    · rfl
  have ht : t.spine = s.spine := by
    simp only [t]
    split <;> simp [hcut]
  have hu : u.spine = t.spine := by
    simp only [u]
    split <;> simp [hcut]
  rw [State.spine_modFls, hu, ht]

@[simp] theorem State.spine_flsSuspend (s : State) : s.flsSuspend.spine = s.spine := by
  unfold State.flsSuspend
  repeat' split
  all_goals simp

@[simp] theorem State.spine_flsContinue (s : State) : s.flsContinue.spine = s.spine := by
  unfold State.flsContinue
  split <;> simp

@[simp] theorem State.spine_flsRegWrite (s : State) (d : RegDesc) (a : Nat) (v : Word) :
    (s.flsRegWrite d a v).1.spine = s.spine := by
  unfold State.flsRegWrite
  repeat' split
  all_goals simp

/-! ## Links -/

@[simp] theorem State.spine_modByr (s : State) (f : Byr → Byr) : (s.modByr f).spine = s.spine :=
  State.spine_congr rfl rfl rfl rfl

@[simp] theorem State.spine_modBport (s : State) (q : Nat) (f : ByrPort → ByrPort) : (s.modBport q f).spine = s.spine := by
  simp [State.modBport]

@[simp] theorem State.spine_byrQueue (s : State) (q : Nat) (l : List Blk) : (s.byrQueue q l).spine = s.spine := by
  simp [State.byrQueue, State.spine_ite]

@[simp] theorem State.spine_byrSend (s : State) (dst : Nat) (l : List Blk) : (s.byrSend dst l).spine = s.spine := by
  unfold State.byrSend
  split <;> simp

@[simp] theorem State.spine_byrPkt (s : State) (dst kind tag : Nat) (data : List Byte) :
    (s.byrPkt dst kind tag data).spine = s.spine := by
  simp [State.byrPkt]

/-! ## Journal -/

@[simp] theorem State.spine_modJrnl (s : State) (f : Jrnl → Jrnl) : (s.modJrnl f).spine = s.spine :=
  State.spine_congr rfl rfl rfl rfl

@[simp] theorem State.spine_hdrSet (s : State) (o v : Nat) : (s.hdrSet o v).spine = s.spine := by
  simp [State.hdrSet]

@[simp] theorem State.spine_recStore (s : State) (o state : Nat) (body : List Byte) :
    (s.recStore o state body).spine = s.spine := by
  simp [State.recStore]

@[simp] theorem State.spine_jrnlAccept (s : State) : s.jrnlAccept.spine = s.spine := by
  simp [State.jrnlAccept, State.spine_ite]

@[simp] theorem State.spine_lastRet (s : State) (q : Nat) : (s.lastRet q).spine = s.spine := by
  simp [State.lastRet, State.spine_ite]

@[simp] theorem State.spine_resumeClear (s : State) : s.resumeClear.spine = s.spine := by
  unfold State.resumeClear
  split <;> rfl

@[simp] theorem State.spine_jrnlAbandon (s : State) (q : Nat) : (s.jrnlAbandon q).spine = s.spine := by
  unfold State.jrnlAbandon
  extract_lets mine l t u v
  rw [State.spine_modSys _ rfl]
  simp [v, u, t, State.spine_foldl]

@[simp] theorem State.spine_capture1 (s : State) (k j next : Nat) : (s.capture1 k j next).spine = s.spine := by
  simp [State.capture1, State.spine_ite]

@[simp] theorem State.spine_orderDefect (s : State) (q : Nat) : (s.orderDefect q).spine = s.spine := by
  simp [State.orderDefect, State.spine_ite]

@[simp] theorem State.spine_defect (s : State) (j cause : Nat) : (s.defect j cause).spine = s.spine := by
  simp [State.defect, State.spine_ite]

@[simp] theorem State.spine_jrnlHandover (s : State) (d : SwathDesc) : (s.jrnlHandover d).2.spine = s.spine := by
  simp [State.jrnlHandover, State.spine_foldl, State.spine_ite]

@[simp] theorem State.spine_jrnlSwathEnd (s : State) (j : Nat) : (s.jrnlSwathEnd j).spine = s.spine := by
  simp [State.jrnlSwathEnd, State.spine_ite]

@[simp] theorem State.spine_jrnlCurtain (s : State) : s.jrnlCurtain.spine = s.spine := by
  simp [State.jrnlCurtain]

@[simp] theorem State.spine_sealWrite (s : State) (final : Bool) : (s.sealWrite final).spine = s.spine := by
  simp [State.sealWrite]

/-! ## Black box -/

@[simp] theorem State.spine_modBbx (s : State) (f : Bbx → Bbx) : (s.modBbx f).spine = s.spine :=
  State.spine_congr rfl rfl rfl rfl

@[simp] theorem State.spine_bbxCtrlWrite (s : State) (d : RegDesc) (a : Nat) (v : Word) :
    (s.bbxCtrlWrite d a v).spine = s.spine := by
  simp [State.bbxCtrlWrite, State.spine_ite]

@[simp] theorem State.spine_bbxRegWrite (s : State) (d : RegDesc) (a : Nat) (v : Word) :
    (s.bbxRegWrite d a v).spine = s.spine := by
  unfold State.bbxRegWrite
  split <;> simp

/-! ## Cue -/

@[simp] theorem State.spine_cueDone (s : State) (n : Nat) : (s.cueDone n).spine = s.spine := by
  unfold State.cueDone
  repeat' split
  all_goals rfl

@[simp] theorem State.spine_cueUnlate (s : State) : s.cueUnlate.spine = s.spine := by
  unfold State.cueUnlate
  simp only [State.spine_ite, State.spine_setF, ite_self]
  refine State.spine_foldl (fun t n => ?_) _ s
  split
  · split
    · exact State.spine_modCue _ rfl
    · rfl
  · rfl

@[simp] theorem State.spine_cueCarry (s : State) (late : BitVec 4) : (s.cueCarry late).spine = s.spine := by
  simp [State.cueCarry, State.spine_modCue]

@[simp] theorem State.spine_cueMiss (s : State) (n : Nat) (run : Bool) : (s.cueMiss n run).spine = s.spine := by
  simp [State.cueMiss, State.spine_ite, State.spine_modCue]

@[simp] theorem State.spine_cueOverruns (s : State) (run : Bool) : (s.cueOverruns run).spine = s.spine := by
  simp [State.cueOverruns, State.spine_foldl, State.spine_ite]

@[simp] theorem State.spine_cueTurn (s : State) : s.cueTurn.spine = s.spine := by
  unfold State.cueTurn
  rw [State.spine_modCue _ rfl]
  split <;> simp

@[simp] theorem State.spine_cueEnter (s : State) : s.cueEnter.spine = s.spine := by
  simp [State.cueEnter, State.spine_modCue]

@[simp] theorem State.spine_cueCurtain (s : State) : s.cueCurtain.spine = s.spine := by
  simp [State.cueCurtain]

@[simp] theorem State.spine_cuePeriodWrite (s : State) (v : Word) : (s.cuePeriodWrite v).spine = s.spine := by
  unfold State.cuePeriodWrite
  extract_lets
  split
  · simp
  · split <;> simp [State.spine_ite, State.spine_modCue]

@[simp] theorem State.spine_cueCtrlWrite (s : State) (d : RegDesc) (a : Nat) (v : Word) :
    (s.cueCtrlWrite d a v).spine = s.spine := by
  unfold State.cueCtrlWrite
  repeat' split
  all_goals rfl

@[simp] theorem State.spine_cueRegWrite (s : State) (w : Writer) (d : RegDesc) (a : Nat) (v : Word) :
    (s.cueRegWrite w d a v).spine = s.spine := by
  unfold State.cueRegWrite
  repeat' split
  all_goals simp

@[simp] theorem State.spine_cuePhaseStep (s : State) : s.cuePhaseStep.spine = s.spine := by
  simp [State.cuePhaseStep, State.spine_ite, State.spine_modCue]

@[simp] theorem State.spine_cuePulse (s : State) : s.cuePulse.spine = s.spine := by
  simp [State.cuePulse, State.spine_ite, State.spine_modCue]

@[simp] theorem State.spine_holdover (s : State) : s.holdover.spine = s.spine := by
  unfold State.holdover
  split
  · rw [State.spine_modCue _ rfl]
    simp
  · rfl

/-! ## GPIO -/

@[simp] theorem State.spine_modGpio (s : State) (f : Gpio → Gpio) : (s.modGpio f).spine = s.spine :=
  State.spine_congr rfl rfl rfl rfl

@[simp] theorem State.spine_pinLeave (s : State) (x y : Nat) : (s.pinLeave x y).spine = s.spine := by
  unfold State.pinLeave
  split <;> simp

@[simp] theorem State.spine_pinChange (s : State) (x y : Nat) : (s.pinChange x y).spine = s.spine := by
  simp [State.pinChange]

@[simp] theorem State.spine_pcfgWrite (s : State) (w : Writer) (d : RegDesc) (x y a : Nat) (v : Word) :
    (s.pcfgWrite w d x y a v).spine = s.spine := by
  simp [State.pcfgWrite, State.spine_ite]

@[simp] theorem State.spine_ownerField (s : State) (x k : Nat) (v : Word) (i : Nat) :
    (s.ownerField x k v i).spine = s.spine := by
  simp [State.ownerField, State.spine_ite]

@[simp] theorem State.spine_ownerWrite (s : State) (x k : Nat) (v : Word) : (s.ownerWrite x k v).spine = s.spine := by
  simp [State.ownerWrite, State.spine_foldl]

@[simp] theorem State.spine_lockBroken (s : State) : s.lockBroken.spine = s.spine := by
  simp [State.lockBroken]

@[simp] theorem State.spine_lockMask (s : State) (w : Writer) (x : Nat) (v : Word) : (s.lockMask w x v).spine = s.spine := by
  simp [State.lockMask, State.spine_ite]

@[simp] theorem State.spine_lockPins (s : State) (w : Writer) (x : Nat) : (s.lockPins w x).spine = s.spine := by
  simp [State.lockPins, State.spine_foldl, State.spine_ite]

@[simp] theorem State.spine_lockKey (s : State) (w : Writer) (v : Word) : (s.lockKey w v).spine = s.spine := by
  simp [State.lockKey, State.spine_ite]

@[simp] theorem State.spine_maskedWrite (s : State) (w : Writer) (x y0 a : Nat) (v : Word) :
    (s.maskedWrite w x y0 a v).spine = s.spine := by
  simp [State.maskedWrite, State.spine_foldl, State.spine_ite]

@[simp] theorem State.spine_serShow (s : State) (n : Nat) : (s.serShow n).spine = s.spine := by
  simp [State.serShow]

@[simp] theorem State.spine_sercfgWrite (s : State) (w : Writer) (d : RegDesc) (n a : Nat) (v : Word) :
    (s.sercfgWrite w d n a v).spine = s.spine := by
  simp [State.sercfgWrite, State.spine_ite]

@[simp] theorem State.spine_serPush (s : State) (w : Writer) (n : Nat) (v : Word) : (s.serPush w n v).spine = s.spine := by
  simp [State.serPush, State.spine_ite]

@[simp] theorem State.spine_gpioRegWrite (s : State) (w : Writer) (d : RegDesc) (i j a : Nat) (v : Word) :
    (s.gpioRegWrite w d i j a v).spine = s.spine := by
  unfold State.gpioRegWrite
  repeat' split
  all_goals simp

/-! ## Power budget -/

@[simp] theorem State.spine_modPbs (s : State) (f : Pbs → Pbs) : (s.modPbs f).spine = s.spine :=
  State.spine_congr rfl rfl rfl rfl

@[simp] theorem State.spine_grantShow (s : State) (q : PbsGrant) : (s.grantShow q).spine = s.spine := by
  simp [State.grantShow, State.spine_foldl, State.spine_ite]

@[simp] theorem State.spine_pbsBoundary (s : State) : s.pbsBoundary.spine = s.spine := by
  simp [State.pbsBoundary, State.spine_ite]

@[simp] theorem State.spine_reportArrive (s : State) (member request floor : Nat) :
    (s.reportArrive member request floor).spine = s.spine := by
  simp [State.reportArrive, State.spine_ite]

@[simp] theorem State.spine_pbsPlaces (s : State) : s.pbsPlaces.spine = s.spine := by
  simp [State.pbsPlaces]

@[simp] theorem State.spine_pbsRegWrite (s : State) (d : RegDesc) (k a : Nat) (v : Word) :
    (s.pbsRegWrite d k a v).spine = s.spine := by
  simp [State.pbsRegWrite, State.spine_ite]

/-! ## Byrov -/

@[simp] theorem State.spine_byrLeave (s : State) (q : Nat) : (s.byrLeave q).spine = s.spine := by
  simp [State.byrLeave, State.spine_ite]

@[simp] theorem State.spine_byrTrain (s : State) (q : Nat) : (s.byrTrain q).spine = s.spine := by
  simp [State.byrTrain]

@[simp] theorem State.spine_byrCtrlWrite (s : State) (d : RegDesc) (a : Nat) (v : Word) :
    (s.byrCtrlWrite d a v).spine = s.spine := by
  simp [State.byrCtrlWrite, State.spine_foldl, State.spine_ite]

@[simp] theorem State.spine_byrBoundary (s : State) : s.byrBoundary.spine = s.spine := by
  simp [State.byrBoundary, State.spine_foldl, State.spine_ite]

@[simp] theorem State.spine_byrEvout (s : State) (r : Nat) : (s.byrEvout r).spine = s.spine := by
  simp [State.byrEvout, State.spine_ite]

@[simp] theorem State.spine_msgSend (s : State) : s.msgSend.spine = s.spine := by
  unfold State.msgSend
  split <;> simp

@[simp] theorem State.spine_reportSend (s : State) : s.reportSend.spine = s.spine := by
  simp [State.reportSend, State.spine_ite]

@[simp] theorem State.spine_byrRegWrite (s : State) (d : RegDesc) (a : Nat) (v : Word) :
    (s.byrRegWrite d a v).spine = s.spine := by
  unfold State.byrRegWrite
  repeat' split
  all_goals simp

end Sys2Proof.Machine
end

section
/-!
# The spine: DMA, the drop pipeline, the host and register writes
-/

namespace Sys2Proof.Machine

/-! ## DMA -/

@[simp] theorem State.spine_modDch (s : State) (c : Nat) (f : DmaChan → DmaChan) : (s.modDch c f).spine = s.spine :=
  State.spine_congr rfl rfl rfl rfl

@[simp] theorem State.spine_setDmaState (s : State) (c v : Nat) : (s.setDmaState c v).spine = s.spine := by
  simp [State.setDmaState]

@[simp] theorem State.spine_dmaCfgref (s : State) (c : Nat) : (s.dmaCfgref c).spine = s.spine := by
  simp [State.dmaCfgref]

@[simp] theorem State.spine_setDmaDsc (s : State) (c a : Nat) : (s.setDmaDsc c a).spine = s.spine := by
  simp [State.setDmaDsc]

@[simp] theorem State.spine_dmaServe (s : State) (c : Nat) : (s.dmaServe c).spine = s.spine := by
  simp [State.dmaServe, State.spine_ite]

@[simp] theorem State.spine_dmaReq (s : State) (c : Nat) : (s.dmaReq c).spine = s.spine := by
  simp [State.dmaReq, State.spine_ite]

@[simp] theorem State.spine_dmaIdle (s : State) (c : Nat) : (s.dmaIdle c).spine = s.spine := by
  simp [State.dmaIdle]

@[simp] theorem State.spine_dmaAborted (s : State) (c : Nat) : (s.dmaAborted c).spine = s.spine := by
  simp [State.dmaAborted]

@[simp] theorem State.spine_dmaHalt (s : State) (c a : Nat) (wr dscf : Bool) : (s.dmaHalt c a wr dscf).spine = s.spine := by
  simp [State.dmaHalt]

@[simp] theorem State.spine_dscEnd (s : State) (c code chk : Nat) (fault : Option (Nat × Bool)) :
    (s.dscEnd c code chk fault).1.spine = s.spine := by
  unfold State.dscEnd
  split
  · rfl
  · simp [apply_ite Prod.fst, State.spine_ite]

@[simp] theorem State.spine_dscNext (s : State) (c : Nat) : (s.dscNext c).spine = s.spine := by
  unfold State.dscNext
  repeat' split
  all_goals simp

@[simp] theorem State.spine_dscEnded (s : State) (c : Nat) (w : Word) : (s.dscEnded c w).spine = s.spine := by
  simp [State.dscEnded, State.spine_ite]

@[simp] theorem State.spine_dmaComplete (s : State) (c : Nat) : (s.dmaComplete c).spine = s.spine := by
  unfold State.dmaComplete
  extract_lets k t res u
  have ht : t.spine = s.spine := s.spine_modDch c chkClose
  clear_value t res
  split
  · have hu : u.spine = s.spine := by simp [u, ht]
    split <;> simp [hu]
  · have h := t.spine_dscEnd c 1 res none
    split <;> simp_all

@[simp] theorem State.spine_dmaBegin (s : State) (c src dst len : Nat) : (s.dmaBegin c src dst len).spine = s.spine := by
  simp [State.dmaBegin, State.spine_ite]

@[simp] theorem State.spine_dmaGo (s : State) (c : Nat) : (s.dmaGo c).spine = s.spine := by
  unfold State.dmaGo
  split
  · simp
  · split <;> simp [State.spine_ite]

@[simp] theorem State.spine_dmaAbort (s : State) (c : Nat) : (s.dmaAbort c).spine = s.spine := by
  simp [State.dmaAbort, State.spine_ite]

@[simp] theorem State.spine_dmaStop (s : State) : s.dmaStop.spine = s.spine := by
  simp [State.dmaStop, State.spine_foldl, State.spine_ite]

@[simp] theorem State.spine_dmaRegWrite (s : State) (d : RegDesc) (c a : Nat) (v : Word) :
    (s.dmaRegWrite d c a v).spine = s.spine := by
  unfold State.dmaRegWrite
  split <;> simp [State.spine_ite]

/-! ## Call board -/

@[simp] theorem State.spine_callConsume (s : State) (c : Nat) : (s.callConsume c).spine = s.spine := by
  have h (x : Call) : State.spine { s with call := x } = s.spine := State.spine_congr rfl rfl rfl rfl
  simp [State.callConsume, State.spine_ite, h]

@[simp] theorem State.spine_callCounts (s : State) : s.callCounts.spine = s.spine := by
  unfold State.callCounts
  extract_lets now t
  rw [State.spine_foldl (fun u o => by simp [State.spine_ite])]
  exact State.spine_foldl (fun u ch => by simp [State.spine_ite]) _ s

@[simp] theorem State.spine_callBoundary (s : State) : s.callBoundary.spine = s.spine := by
  have h (t : State) (x : Call) : State.spine { t with call := x } = t.spine := State.spine_congr rfl rfl rfl rfl
  simp [State.callBoundary, h]

@[simp] theorem State.spine_callCfgref (s : State) : s.callCfgref.spine = s.spine := by
  simp [State.callCfgref]

@[simp] theorem State.spine_callChWrite (s : State) (d : RegDesc) (ch a : Nat) (v : Word) :
    (s.callChWrite d ch a v).spine = s.spine := by
  simp [State.callChWrite, State.spine_ite]

@[simp] theorem State.spine_callRegWrite (s : State) (d : RegDesc) (n a : Nat) (v : Word) :
    (s.callRegWrite d n a v).spine = s.spine := by
  have h (t : State) (x : Call) : State.spine { t with call := x } = t.spine := State.spine_congr rfl rfl rfl rfl
  unfold State.callRegWrite
  split <;> simp [State.spine_ite, h]

/-! ## DROP -/

@[simp] theorem State.spine_modDrop (s : State) (f : Drop → Drop) : (s.modDrop f).spine = s.spine :=
  State.spine_congr rfl rfl rfl rfl

@[simp] theorem State.spine_modSw (s : State) (u : Nat) (f : DropSwath → DropSwath) : (s.modSw u f).spine = s.spine := by
  simp [State.modSw]

@[simp] theorem State.spine_modTile (s : State) (u k t : Nat) (f : DropTile → DropTile) :
    (s.modTile u k t f).spine = s.spine := by
  simp [State.modTile]

@[simp] theorem State.spine_dropPost (s : State) (a : Nat) (resume : Bool) : (s.dropPost a resume).spine = s.spine := by
  simp [State.dropPost, State.spine_ite]

@[simp] theorem State.spine_unhandle (s : State) (u k t : Nat) : (s.unhandle u k t).spine = s.spine := by
  unfold State.unhandle
  split <;> simp

@[simp] theorem State.spine_release (s : State) (k : Nat) (gone : DropTile → Bool) : (s.release k gone).spine = s.spine := by
  simp [State.release, State.spine_foldl, State.spine_ite]

@[simp] theorem State.spine_releaseSwath (s : State) (u : Nat) : (s.releaseSwath u).spine = s.spine := by
  simp [State.releaseSwath, State.spine_foldl]

@[simp] theorem State.spine_dropRemove (s : State) (u : Nat) : (s.dropRemove u).spine = s.spine := by
  simp [State.dropRemove]

@[simp] theorem State.spine_dropFlush (s : State) : s.dropFlush.spine = s.spine := by
  simp [State.dropFlush, State.spine_foldl]

@[simp] theorem State.spine_dropRetry (s : State) (h : Nat) : (s.dropRetry h).spine = s.spine := by
  unfold State.dropRetry
  repeat' split
  all_goals simp

@[simp] theorem State.spine_rrqPop (s : State) : s.rrqPop.spine = s.spine := by
  unfold State.rrqPop
  split <;> simp

@[simp] theorem State.spine_dropCurtain (s : State) : s.dropCurtain.spine = s.spine := by
  simp [State.dropCurtain, State.spine_foldl]

@[simp] theorem State.spine_nozzleSwap (s : State) : s.nozzleSwap.spine = s.spine := by
  have h (x : Nozzles) : State.spine { s with nozzles := x } = s.spine := State.spine_congr rfl rfl rfl rfl
  unfold State.nozzleSwap
  split <;> simp [h]

@[simp] theorem State.spine_swathEnd (s : State) (u : Nat) : (s.swathEnd u).spine = s.spine := by
  unfold State.swathEnd
  split
  · rfl
  · extract_lets t v
    have hv : v.spine = s.spine := by
      simp only [v, State.spine_nozzleSwap]
      split <;> simp [t]
    split <;> simp [hv]

@[simp] theorem State.spine_dropCfgref (s : State) : s.dropCfgref.spine = s.spine := by
  simp [State.dropCfgref]

@[simp] theorem State.spine_dropRegWrite (s : State) (d : RegDesc) (l a : Nat) (v : Word) :
    (s.dropRegWrite d l a v).spine = s.spine := by
  unfold State.dropRegWrite
  repeat' split
  all_goals simp

/-! ## JET -/

@[simp] theorem State.spine_modJet (s : State) (p : Nat) (f : JetPort → JetPort) : (s.modJet p f).spine = s.spine :=
  State.spine_congr rfl rfl rfl rfl

@[simp] theorem State.spine_jetCfgref (s : State) (p : Nat) : (s.jetCfgref p).spine = s.spine := by
  simp [State.jetCfgref]

@[simp] theorem State.spine_swathEndCheck (s : State) (u : Nat) : (s.swathEndCheck u).spine = s.spine := by
  unfold State.swathEndCheck
  repeat' split
  all_goals simp

@[simp] theorem State.spine_step1End (s : State) : s.step1End.spine = s.spine := by
  unfold State.step1End
  split
  · rw [State.spine_jrnlCurtain, State.spine_dropCurtain, State.spine_modSys _ rfl]
  · rfl

@[simp] theorem State.spine_jetDiscard (s : State) (p : Nat) : (s.jetDiscard p).spine = s.spine := by
  simp [State.jetDiscard, State.spine_ite, State.spine_foldl]

@[simp] theorem State.spine_jetCurtain (s : State) : s.jetCurtain.spine = s.spine :=
  State.spine_congr rfl rfl rfl rfl

@[simp] theorem State.spine_jetJoin (s : State) (p : Nat) : (s.jetJoin p).spine = s.spine := by
  simp [State.jetJoin]

@[simp] theorem State.spine_jetJoinAll (s : State) : s.jetJoinAll.spine = s.spine := by
  simp [State.jetJoinAll, State.spine_foldl, State.spine_ite]

@[simp] theorem State.spine_jetLeave (s : State) (p : Nat) : (s.jetLeave p).spine = s.spine := by
  simp [State.jetLeave, State.spine_ite]

@[simp] theorem State.spine_jetOff (s : State) (p : Nat) : (s.jetOff p).spine = s.spine := by
  simp [State.jetOff]

@[simp] theorem State.spine_jetTrain (s : State) (p : Nat) : (s.jetTrain p).spine = s.spine := by
  simp [State.jetTrain]

@[simp] theorem State.spine_jetEnterLoad (s : State) (p : Nat) : (s.jetEnterLoad p).spine = s.spine := by
  simp [State.jetEnterLoad]

@[simp] theorem State.spine_jetPlaces (s : State) : s.jetPlaces.spine = s.spine := by
  simp [State.jetPlaces, State.spine_foldl, State.spine_ite]

@[simp] theorem State.spine_jetRegWrite (s : State) (d : RegDesc) (p a : Nat) (v : Word) :
    (s.jetRegWrite d p a v).spine = s.spine := by
  unfold State.jetRegWrite
  split <;> simp [State.spine_ite]

/-! ## FIRE -/

@[simp] theorem State.spine_fitFree (s : State) (w : Nat) (v : Int) : (s.fitFree w v).2.spine = s.spine := by
  unfold State.fitFree
  split <;> simp

@[simp] theorem State.spine_modFire (s : State) (f : Fire → Fire) : (s.modFire f).spine = s.spine :=
  State.spine_congr rfl rfl rfl rfl

@[simp] theorem State.spine_fireLatch (s : State) : s.fireLatch.spine = s.spine := by
  simp [State.fireLatch]

@[simp] theorem State.spine_fireNone (s : State) : s.fireNone.spine = s.spine := by
  simp [State.fireNone]

@[simp] theorem State.spine_fireUnwrite (s : State) : s.fireUnwrite.spine = s.spine := by
  simp [State.fireUnwrite, State.spine_foldl, State.spine_ite]

@[simp] theorem State.spine_fireHandover (s : State) : s.fireHandover.spine = s.spine := by
  unfold State.fireHandover
  split
  · rfl
  · split
    · rfl
    · split <;> simp

@[simp] theorem State.spine_firePause (s : State) : s.firePause.spine = s.spine := by
  simp [State.firePause, State.spine_ite]

@[simp] theorem State.spine_fireCurtain (s : State) : s.fireCurtain.spine = s.spine := by
  simp [State.fireCurtain]

@[simp] theorem State.spine_abandon (s : State) : s.abandon.spine = s.spine := by
  have h (t : State) (x : SMap JetPort) : State.spine { t with jet := x } = t.spine := State.spine_congr rfl rfl rfl rfl
  simp [State.abandon, State.spine_ite, State.spine_foldl, h]

@[simp] theorem State.spine_jrnlRegWrite (s : State) (d : RegDesc) (a : Nat) (v : Word) :
    (s.jrnlRegWrite d a v).spine = s.spine := by
  unfold State.jrnlRegWrite
  split <;> simp [State.spine_ite]

@[simp] theorem State.spine_fireRegWrite (s : State) (d : RegDesc) (a : Nat) (v : Word) :
    (s.fireRegWrite d a v).spine = s.spine := by
  unfold State.fireRegWrite
  split <;> simp [State.spine_ite]

/-! ## Host -/

@[simp] theorem State.spine_modHost (s : State) (f : HostIf → HostIf) : (s.modHost f).spine = s.spine :=
  State.spine_congr rfl rfl rfl rfl

@[simp] theorem State.spine_modSess (s : State) (i : Nat) (f : HostSess → HostSess) : (s.modSess i f).spine = s.spine := by
  unfold State.modSess
  split <;> simp

@[simp] theorem State.spine_putAt (s : State) (l : List Byte) (b : Option Nat) : (s.putAt l b).spine = s.spine := by
  unfold State.putAt
  split <;> simp

@[simp] theorem State.spine_hostSend (s : State) (i : Nat) (l : List Byte) : (s.hostSend i l).spine = s.spine := by
  simp [State.hostSend]

@[simp] theorem State.spine_hostCopy (s : State) (i off : Nat) (l : List Byte) : (s.hostCopy i off l).spine = s.spine := by
  rw [State.hostCopy_eq, State.spine_putAt]

@[simp] theorem State.spine_hostReply (s : State) (i off : Nat) (l : List Byte) : (s.hostReply i off l).spine = s.spine := by
  unfold State.hostReply
  extract_lets t
  split
  · split <;> simp [t]
  · simp [t]

@[simp] theorem State.spine_hostAnswered (s : State) (i seq : Nat) (l : List Byte) :
    (s.hostAnswered i seq l).spine = s.spine := by
  simp [State.hostAnswered]

@[simp] theorem State.spine_hostAnswer (s : State) (i op seq status : Nat) (payload : List Byte) :
    (s.hostAnswer i op seq status payload).spine = s.spine := by
  simp [State.hostAnswer]

@[simp] theorem State.spine_hostNotify (s : State) (i status : Nat) (payload : List Byte) :
    (s.hostNotify i status payload).spine = s.spine := by
  unfold State.hostNotify
  split <;> simp

@[simp] theorem State.spine_longStart (s : State) (i op : Nat) : (s.longStart i op).2.spine = s.spine := by
  simp [State.longStart]

@[simp] theorem State.spine_longEnd (s : State) (status : Nat) (payload : List Byte) :
    (s.longEnd status payload).spine = s.spine := by
  unfold State.longEnd
  split <;> simp

@[simp] theorem State.spine_fwFrame (s : State) (i off : Nat) : (s.fwFrame i off).1.spine = s.spine := by
  obtain ⟨f, hf⟩ : ∃ f, State.fwFrame = f := ⟨_, rfl⟩
  obtain ⟨p, hp⟩ : ∃ p, f s i off = p := ⟨_, rfl⟩
  rw [hf, hp]
  delta State.fwFrame at hf
  subst hf
  beta_reduce at hp
  generalize s.hostBuf i off = b at hp
  subst hp
  cases b with
  | none => rfl
  | some a => simp

@[simp] theorem State.spine_rspGo (s : State) : s.rspGo.spine = s.spine := by
  obtain ⟨f, hf⟩ : ∃ f, State.rspGo = f := ⟨_, rfl⟩
  obtain ⟨t, ht⟩ : ∃ t, f s = t := ⟨_, rfl⟩
  rw [hf, ht]
  delta State.rspGo at hf
  subst hf
  beta_reduce at ht
  extract_lets i at ht
  obtain ⟨⟨u, l⟩, hp⟩ : ∃ p, s.fwFrame i 0x2800 = p := ⟨_, rfl⟩
  have h : u.spine = s.spine := by rw [← s.spine_fwFrame i 0x2800, hp]
  rw [hp] at ht
  generalize s.session i = x at ht
  subst ht
  cases x with
  | none => rfl
  | some x =>
    dsimp only
    generalize x.pend = y
    cases y with
    | none => rfl
    | some e =>
      cases l with
      | none => exact h
      | some l => exact (State.spine_hostAnswered _ _ _ _).trans ((State.spine_hostReply _ _ _ _).trans h)

@[simp] theorem State.spine_rspNotify (s : State) : s.rspNotify.spine = s.spine := by
  obtain ⟨f, hf⟩ : ∃ f, State.rspNotify = f := ⟨_, rfl⟩
  obtain ⟨t, ht⟩ : ∃ t, f s = t := ⟨_, rfl⟩
  rw [hf, ht]
  delta State.rspNotify at hf
  subst hf
  beta_reduce at ht
  extract_lets i at ht
  obtain ⟨⟨u, l⟩, hp⟩ : ∃ p, s.fwFrame i 0x5000 = p := ⟨_, rfl⟩
  have h : u.spine = s.spine := by rw [← s.spine_fwFrame i 0x5000, hp]
  rw [hp] at ht
  generalize s.session i = x at ht
  subst ht
  cases x with
  | none => rfl
  | some x =>
    cases l with
    | none => exact h
    | some l => exact (State.spine_hostReply _ _ _ _).trans h

@[simp] theorem State.spine_hostRegWrite (s : State) (d : RegDesc) (a : Nat) (v : Word) :
    (s.hostRegWrite d a v).spine = s.spine := by
  unfold State.hostRegWrite
  split <;> simp [State.spine_ite]

/-! ## Images -/

@[simp] theorem State.spine_progPage (p : State × Option (List Byte)) (a n : Nat) :
    (State.progPage p a n).1.spine = p.1.spine := by
  have h := p.1.spine_flsRead a n
  unfold State.progPage
  split
  · rfl
  · split <;> simp_all

@[simp] theorem State.spine_progRead (s : State) (a n : Nat) : (s.progRead a n).1.spine = s.spine :=
  State.spine_foldl_fst (fun p _ => State.spine_progPage p _ _) _ (s, some [])

@[simp] theorem State.spine_manifestRead (s : State) (b : Nat) : (s.manifestRead b).1.spine = s.spine :=
  s.spine_progRead _ _

@[simp] theorem State.spine_chunkReason (s : State) (b : Nat) (h : List Byte) (i : Nat) :
    (s.chunkReason b h i).1.spine = s.spine := by
  obtain ⟨n, hn⟩ : ∃ n, 0x100000 = n := ⟨_, rfl⟩
  have hr := s.spine_progRead (bankBase b + n * (i + 1)) n
  unfold State.chunkReason
  rw [hn]
  split
  · rfl
  · generalize s.progRead (bankBase b + n * (i + 1)) n = p at hr ⊢
    split <;> exact hr

@[simp] theorem State.spine_actWrite (s : State) (b version : Nat) : (s.actWrite b version).spine = s.spine := by
  unfold State.actWrite
  split <;> simp

@[simp] theorem State.spine_loadBytes (s : State) (a : Nat) (l : List Byte) : (s.loadBytes a l).1.spine = s.spine := by
  unfold State.loadBytes
  repeat' split
  all_goals simp

@[simp] theorem State.spine_loadSection (s : State) (b : Nat) (x : ImgSection) : (s.loadSection b x).1.spine = s.spine := by
  unfold State.loadSection
  split
  · simp
  · have h := s.spine_progRead (bankBase b + x.offset) x.length
    generalize s.progRead (bankBase b + x.offset) x.length = p at h ⊢
    split
    · exact h
    · rw [← show State.spine _ = s.spine from h]
      split
      next heq =>
      replace heq := congrArg Prod.fst heq
      dsimp only at heq ⊢
      rw [← heq]
      split <;> simp [State.spine_foldl, State.spine_ite]

@[simp] theorem State.spine_loadSections (s : State) (b : Nat) (l : List ImgSection) :
    (s.loadSections b l).1.spine = s.spine := by
  refine State.spine_foldl_fst (fun p x => ?_) l (s, 0)
  split <;> simp

@[simp] theorem State.spine_releaseCore (s : State) (n : Nat) : (s.releaseCore n).spine = s.spine := by
  simp [State.releaseCore, State.spine_ite]

@[simp] theorem State.spine_releaseCores (s : State) : s.releaseCores.spine = s.spine := by
  simp [State.releaseCores, State.spine_foldl]

@[simp] theorem State.spine_holdCores (s : State) : s.holdCores.spine = s.spine := by
  simp [State.holdCores, State.spine_foldl, State.spine_ite]

/-! ## Update -/

@[simp] theorem State.spine_modUpd (s : State) (f : Upd → Upd) : (s.modUpd f).spine = s.spine :=
  State.spine_congr rfl rfl rfl rfl

@[simp] theorem State.spine_actEvent (s : State) (b : Nat) (hot : Bool) (result : Nat) :
    (s.actEvent b hot result).spine = s.spine := by
  simp [State.actEvent]

@[simp] theorem State.spine_actDone (s : State) (origin : Option Nat) (b result : Nat) :
    (s.actDone origin b result).spine = s.spine := by
  unfold State.actDone
  split <;> simp

@[simp] theorem State.spine_actStart (s : State) (b : Nat) (hot : Bool) (version origin : Option Nat) :
    (s.actStart b hot version origin).spine = s.spine := by
  unfold State.actStart
  extract_lets r sess t u
  have ht : t.spine = s.spine := by
    simp only [t]
    split <;> simp
  have hu : u.spine = s.spine := by
    simp only [u]
    clear_value sess t
    cases sess <;> simp [ht]
  clear_value t u
  split
  · simp [ht]
  · split <;> simp [hu]

@[simp] theorem State.spine_reloadTrips (s : State) : s.reloadTrips.spine = s.spine := by
  simp [State.reloadTrips, State.spine_foldl, State.spine_ite]

@[simp] theorem State.spine_actAbandon (s : State) : s.actAbandon.spine = s.spine := by
  unfold State.actAbandon
  split <;> rfl

@[simp] theorem State.spine_updCtrlWrite (s : State) (d : RegDesc) (a : Nat) (v : Word) :
    (s.updCtrlWrite d a v).spine = s.spine := by
  simp [State.updCtrlWrite, State.spine_ite]

@[simp] theorem State.spine_updRegWrite (s : State) (d : RegDesc) (a : Nat) (v : Word) :
    (s.updRegWrite d a v).spine = s.spine := by
  unfold State.updRegWrite
  split <;> simp

/-! ## Watchdogs and late refusals -/

@[simp] theorem State.spine_wdReload (s : State) (p : Nat) : (s.wdReload p).spine = s.spine :=
  State.spine_congr rfl rfl rfl rfl

@[simp] theorem State.spine_wdService (s : State) (p : Nat) (v : Word) : (s.wdService p v).spine = s.spine := by
  simp [State.wdService, State.spine_ite]

@[simp] theorem State.spine_dropMem (s : State) (p : Nat → Bool) : (s.dropMem p).spine = s.spine :=
  State.spine_congr rfl rfl rfl rfl

@[simp] theorem State.spine_lateRefuse (s : State) (i op seq : Nat) : (s.lateRefuse i op seq).spine = s.spine := by
  unfold State.lateRefuse
  repeat' split
  all_goals simp

@[simp] theorem State.spine_sysRegWrite (s : State) (w : Writer) (d : RegDesc) (a : Nat) (v : Word) :
    (s.sysRegWrite w d a v).spine = s.spine := by
  unfold State.sysRegWrite
  split <;> simp

/-! ## Register writes -/

@[simp] theorem State.spine_secRegWrite (s : State) (d : RegDesc) (a : Nat) (v : Word) :
    (s.secRegWrite d a v).spine = s.spine := by
  simp [State.secRegWrite]

@[simp] theorem State.spine_pmcRegWrite (s : State) (d : RegDesc) (a : Nat) (v : Word) :
    (s.pmcRegWrite d a v).spine = s.spine := by
  simp [State.pmcRegWrite]

@[simp] theorem State.spine_regEffect (s : State) (w : Writer) (base : Nat) (d : RegDesc) (i j a : Nat) (v : Word) :
    (s.regEffect w base d i j a v).1.spine = s.spine := by
  have hite {c : Prop} [Decidable c] {t u : State} (ht : t.spine = s.spine) (hu : u.spine = s.spine) :
      (if c then t else u).spine = s.spine := by split <;> assumption
  unfold State.regEffect
  by_cases h : base = baseFLS
  · rw [if_pos h]
    simp
  · rw [if_neg h]
    repeat refine hite (by simp) ?_
    simp

@[simp] theorem State.spine_regWrite (s : State) (w : Writer) (a : Nat) (v : Word) : (s.regWrite w a v).1.spine = s.spine := by
  unfold State.regWrite
  split
  · rfl
  · split
    · rfl
    · simp [apply_ite Prod.fst, State.spine_ite]

end Sys2Proof.Machine
end

section
/-!
# The spine: parameter books, BOOT and the boundary
-/

namespace Sys2Proof.Machine

/-! ## Parameter books -/

@[simp] theorem State.spine_pbHeader (s : State) (i : Nat) : (s.pbHeader i).1.spine = s.spine := by
  have h := s.spine_progRead (slotBase i) 512
  unfold State.pbHeader
  generalize s.progRead (slotBase i) 512 = p at h ⊢
  split <;> exact h

@[simp] theorem State.spine_pbBody (s : State) (i : Nat) (h : List Byte) : (s.pbBody i h).1.spine = s.spine := by
  simp [State.pbBody]

@[simp] theorem State.spine_pbTry (s : State) (l : List (Nat × List Byte)) : (s.pbTry l).1.spine = s.spine := by
  induction l generalizing s with
  | nil => rfl
  | cons x t ih => simp [State.pbTry, apply_ite Prod.fst, State.spine_ite, State.spine_foldl, ih]

@[simp] theorem State.spine_pbSelect (s : State) : s.pbSelect.1.spine = s.spine := by
  simp [State.pbSelect, State.spine_ite]

@[simp] theorem State.spine_pbWrite (s : State) (base off v : Nat) : (s.pbWrite base off v).1.spine = s.spine := by
  simp [State.pbWrite]

@[simp] theorem State.spine_pbWriteAll (s : State) (n block base : Nat) (l : List (Nat × Nat)) :
    (s.pbWriteAll n block base l).1.spine = s.spine := by
  refine State.spine_foldl_fst (fun p x => ?_) l (s, none)
  split <;> simp

@[simp] theorem State.spine_pbSetup (s : State) (r : PbRecord) : (s.pbSetup r).spine = s.spine := by
  unfold State.pbSetup
  split <;> exact State.spine_congr rfl rfl rfl rfl

@[simp] theorem State.spine_pbApplyOne (s : State) (r : PbRecord) (n : Nat) : (s.pbApplyOne r n).1.spine = s.spine := by
  unfold State.pbApplyOne
  split
  · split
    · exact State.spine_congr rfl rfl rfl rfl
    · split <;> simp
  · simp [apply_ite Prod.fst, State.spine_ite]

@[simp] theorem State.spine_pbApply (s : State) (l : List PbRecord) : (s.pbApply l).1.spine = s.spine := by
  refine State.spine_foldl_fst (fun p x => ?_) l.zipIdx (s, none)
  split <;> simp

@[simp] theorem State.spine_pbHeld (s : State) : s.pbHeld.1.spine = s.spine := by
  refine State.spine_foldl_fst (fun p x => ?_) s.boot.held (s, none)
  split <;> simp

/-! ## BOOT -/

@[simp] theorem State.spine_bootEvent (s : State) : s.bootEvent.spine = s.spine := by
  simp [State.bootEvent]

@[simp] theorem State.spine_restartEnd (s : State) (status : Nat) : (s.restartEnd status).spine = s.spine := by
  unfold State.restartEnd
  repeat' split
  all_goals simp

@[simp] theorem State.spine_restartFail (s : State) : s.restartFail.spine = s.spine := by
  simp [State.restartFail]

@[simp] theorem State.spine_pbErr (s : State) (parse : Bool) (e : PbFail) : (s.pbErr parse e).spine = s.spine := by
  simp [State.pbErr]

@[simp] theorem State.spine_bootPackages (s : State) : s.bootPackages.spine = s.spine := by
  unfold State.bootPackages
  extract_lets dead t
  split
  · exact State.spine_congr rfl rfl rfl rfl
  · rfl

/-! ## Boundary -/

@[simp] theorem State.spine_boundaryCount (s : State) : s.boundaryCount.spine = s.spine :=
  State.spine_congr rfl rfl rfl rfl

@[simp] theorem State.spine_boundaryPairs (s : State) (run : Bool) (done : BitVec 4) :
    (s.boundaryPairs run done).spine = s.spine := by
  simp [State.boundaryPairs, State.spine_foldl, State.spine_ite]

@[simp] theorem State.spine_boundaryPwm (s : State) : s.boundaryPwm.spine = s.spine := by
  simp [State.boundaryPwm]

end Sys2Proof.Machine
end

section
/-!
# What a boundary does before and after its state event (R29, R42 to R57)

Before the event only the cue's own record moves; after it nothing moves the device state but a handover and the end of a
job in RUN (R30, R260).
-/

namespace Sys2Proof.Machine

/-! ## Before the event -/

/-- The fields that the cue's own work at a boundary writes. -/
def cueWorkFields : List Fld := [R.CUE_STAT_DUPDONE, R.DRC_LINES_LINES, R.CUE_DISC_PHERR]

/-- `u` is `s` but for the cue's record, the lines counted and the cue's own fields. -/
def State.cueWork (s u : State) : Prop := { s with cue := u.cue, drcLines := u.drcLines }.onlyFields u cueWorkFields

theorem State.cueWork_refl (s : State) : s.cueWork s := s.onlyFields_refl _

theorem State.cueWork.trans {s t u : State} (h : s.cueWork t) (k : t.cueWork u) : s.cueWork u := by
  obtain ⟨h1, h2⟩ := h
  obtain ⟨k1, k2⟩ := k
  refine ⟨?_, fun f hf => (k2 f hf).trans (h2 f hf)⟩
  rw [k1, h1]

theorem State.cueWork_modCue (s : State) (f : Cue → Cue) : s.cueWork (s.modCue f) := ⟨rfl, fun _ _ => rfl⟩

theorem State.cueWork_setF (s : State) {f : Fld} (v : Nat) (hf : f ∈ cueWorkFields) (hhi : f.hi < 32) : s.cueWork (s.setF f v) :=
  (s.onlyFields_refl _).setF hf hhi v

theorem State.cueWork_foldl {β : Type} {f : State → β → State} (hf : ∀ (s : State) b, s.cueWork (f s b)) (l : List β) (s : State) :
    s.cueWork (l.foldl f s) := by
  induction l generalizing s with
  | nil => exact s.cueWork_refl
  | cons b t ih => exact (hf s b).trans (ih _)

theorem State.cueWork_cueUnlate (s : State) : s.cueWork s.cueUnlate := by
  unfold State.cueUnlate
  extract_lets t
  have ht : s.cueWork t := by
    refine State.cueWork_foldl (fun t n => ?_) _ s
    split
    · split
      · exact t.cueWork_modCue _
      · exact t.cueWork_refl
    · exact t.cueWork_refl
  split
  · exact ht.trans (t.cueWork_setF _ (by decide) (by decide))
  · exact ht

theorem State.cueWork_boundaryCount (s : State) : s.cueWork s.boundaryCount := by
  have h := (s.cueWork_modCue fun c => { c with count := c.count + 1, last := c.time }).trans
    (State.cueWork_setF _ (s.drcLines % 2 ^ 32) (f := R.DRC_LINES_LINES) (by decide) (by decide))
  exact h.trans ⟨rfl, fun _ _ => rfl⟩

theorem State.cueWork_cuePulse (s : State) : s.cueWork s.cuePulse := by
  unfold State.cuePulse
  split
  · exact s.cueWork_modCue _
  · exact s.cueWork_refl

theorem State.cueWork_cuePhaseStep (s : State) : s.cueWork s.cuePhaseStep := by
  unfold State.cuePhaseStep
  extract_lets e
  split
  · exact s.cueWork_refl
  · split
    · exact s.cueWork_modCue _
    · exact s.cueWork_setF _ (by decide) (by decide)

/-- The state in which a boundary's state event is found. -/
def State.atEvent (s : State) : State := s.cueUnlate.boundaryCount.cuePulse.cuePhaseStep

theorem State.cueWork_atEvent (s : State) : s.cueWork s.atEvent :=
  ((s.cueWork_cueUnlate.trans (State.cueWork_boundaryCount _)).trans (State.cueWork_cuePulse _)).trans
    (State.cueWork_cuePhaseStep _)

theorem State.atEvent_sys (s : State) : s.atEvent.sys = s.sys := by rw [s.cueWork_atEvent.1]

theorem State.atEvent_draining (s : State) : s.atEvent.draining = s.draining := by
  unfold State.draining
  rw [s.cueWork_atEvent.1]

theorem State.atEvent_ready (s : State) : (s.atEvent.flag R.DRC_STAT_READY && decide (s.atEvent.drcReadyClk < s.atEvent.clk)) = true ↔
    s.getF R.DRC_STAT_READY = 1 ∧ s.drcReadyClk < s.clk := by
  have hf : s.atEvent.getF R.DRC_STAT_READY = s.getF R.DRC_STAT_READY :=
    s.cueWork_atEvent.2 _ fun g hg => by
      simp only [cueWorkFields, List.mem_cons, List.not_mem_nil, or_false] at hg
      rcases hg with rfl | rfl | rfl
      · exact Or.inl (by decide)
      · exact Or.inl (by decide)
      · exact Or.inl (by decide)
  have h2 : s.getF R.DRC_STAT_READY < 2 := s.getF_lt R.DRC_STAT_READY
  have hr : s.atEvent.drcReadyClk = s.drcReadyClk ∧ s.atEvent.clk = s.clk := by rw [s.cueWork_atEvent.1]; exact ⟨rfl, rfl⟩
  rw [Bool.and_eq_true, State.flag_eq_true_iff, hf, hr.1, hr.2, decide_eq_true_iff]
  omega

end Sys2Proof.Machine
end

section
/-!
# A boundary from its state event on
-/

namespace Sys2Proof.Machine

/-! ## The state event (R29, R32) -/

/-- The entry to CURTAIN, in what no block changes. -/
theorem State.enterCurtain_stable (s : State) (f : Option Follow) (mains : Bool) :
    (s.enterCurtain f mains).sys.stable = { s.sys.stable with
      dev := .curtain, done := false, follow := f, mainsDue := false, wakeDue := false, shown := none, elapsed := 0,
      mainsElapsed := if mains then some 0 else none, limitReached := false } := by
  have h : (s.enterCurtain f mains).spine = (s.modSys fun y =>
    { y with dev := .curtain, done := false, follow := f, faultDue := false, mainsDue := false, wakeDue := false,
             shown := none, elapsed := 0, mainsElapsed := if mains then some 0 else none, limitReached := false }).spine := by
    simp [State.enterCurtain]
  exact congrArg Spine.sys h

theorem State.enterWings_stable (s : State) :
    s.enterWings.sys.stable = { s.sys.stable with shown := some s.sys.dev, dev := .wings, wakeDue := false } := by
  have h : s.enterWings.spine =
      (s.modSys fun y => { y with shown := some y.dev, dev := .wings, faultDue := false, wakeDue := false }).spine := by
    simp [State.enterWings]
  exact congrArg Spine.sys h

theorem State.enterPlaces_stable (s : State) :
    s.enterPlaces.sys.stable = { s.sys.stable with
      dev := .places, done := false, follow := none, mainsDue := false, callDue := none, wakeDue := false, shown := none,
      elapsed := 0, mainsElapsed := none, limitReached := false } := by
  have hl (t : State) (x : Loop) : State.spine { t with loop := x } = t.spine := State.spine_congr rfl rfl rfl rfl
  have h : s.enterPlaces.spine = (s.modSys fun y =>
    { y with dev := .places, done := false, follow := none, faultDue := false, mainsDue := false, callDue := none,
             wakeDue := false, shown := none, elapsed := 0, mainsElapsed := none, limitReached := false,
             emitting := false }).spine := by
    simp only [State.enterPlaces, State.spine_jetPlaces, State.spine_pbsPlaces, State.spine_loopStop, hl, State.lower_eq,
      State.spine_setF, State.spine_wdReload]
  exact congrArg Spine.sys h

theorem State.enterRun_stable (s : State) :
    s.enterRun.sys.stable = { s.sys.stable with dev := .run (if s.sys.resumeP then .paused else .idle) } := by
  have h : s.enterRun.spine = (s.modSys fun y => { y with dev := .run (if y.resumeP then .paused else .idle) }).spine := by
    simp [State.enterRun]
  exact congrArg Spine.sys h

theorem State.enterDark_sys (s : State) : s.enterDark.sys = { dev := .dark } := by
  rw [State.enterDark_eq, State.keepAlways_eq]
  generalize State.regs (s.flsCut.keepAlways _) = r
  generalize s.flsCut = c
  rfl

/-! ## After the event -/

theorem State.dev_of_spine {s t : State} (h : t.spine = s.spine) : t.sys.dev = s.sys.dev := congrArg (fun x => x.sys.dev) h

theorem State.inRun_of_dev {s t : State} (h : t.sys.dev = s.sys.dev) : t.inRun = s.inRun := by
  unfold State.inRun
  rw [h]

theorem State.inRun_iff (s : State) : s.inRun = true ↔ ∃ q, s.sys.dev = .run q := by
  unfold State.inRun
  split
  · next q h => exact ⟨fun _ => ⟨q, h⟩, fun _ => rfl⟩
  · next h => exact ⟨fun hf => absurd hf (by decide), fun ⟨q, hq⟩ => absurd hq (h q)⟩

/-- The device state `d` moves to `e` with a handover, at the end of a job, or not at all (R30). -/
def jobMove (d e : Dev) : Prop := e = d ∨ (d = .run .idle ∧ e = .run .printing) ∨ (d = .run .printing ∧ e = .run .idle)

/-- `u` is `s` in what no block changes, but for the sub-state of RUN. -/
def State.jobOnly (s u : State) : Prop :=
  u.sys.stable = { s.sys.stable with dev := u.sys.dev } ∧ jobMove s.sys.dev u.sys.dev

theorem State.jobOnly_of_spine {s u : State} (h : u.spine = s.spine) : s.jobOnly u :=
  ⟨by rw [State.dev_of_spine h]; exact congrArg Spine.sys h, Or.inl (State.dev_of_spine h)⟩

theorem State.printingEnds_stable (s : State) :
    s.printingEnds = s ∨ (s.sys.dev = .run .printing ∧ s.printingEnds = s.modSys fun y => { y with dev := .run .idle }) := by
  unfold State.printingEnds
  split
  · next h => exact Or.inr ⟨h.1, rfl⟩
  · exact Or.inl rfl

theorem State.jobOnly_setDev {s t : State} (h : t.spine = s.spine) {d : Dev} (hm : jobMove s.sys.dev d) :
    s.jobOnly (t.modSys fun y => { y with dev := d }) := by
  have hs : t.sys.stable = s.sys.stable := congrArg Spine.sys h
  refine ⟨?_, hm⟩
  rw [← hs]
  rfl

/-- The handover of a boundary, and the end of a job: both only in RUN. -/
theorem State.boundaryFire_spec (s : State) (run : Bool) :
    s.jobOnly (s.boundaryFire run) ∧ ((run && s.inRun) = false → (s.boundaryFire run).spine = s.spine) := by
  unfold State.boundaryFire
  extract_lets t s1 s2
  have ht : t.spine = s.spine := s.spine_fireLatch
  have hrun : t.inRun = s.inRun := State.inRun_of_dev (State.dev_of_spine ht)
  have h1 : s1.spine = s.spine := (State.spine_fireHandover t).trans ht
  have h1d : s1.sys.dev = s.sys.dev := State.dev_of_spine h1
  rw [hrun]
  cases hr : run && s.inRun with
  | false =>
    rw [if_pos (by rw [← Bool.not_and, hr]; rfl)]
    exact ⟨State.jobOnly_of_spine ht, fun _ => ht⟩
  | true =>
    rw [if_neg (by rw [← Bool.not_and, hr]; decide)]
    refine ⟨?_, fun hf => absurd hf (by decide)⟩
    by_cases hi : (s1.fireSw != t.fireSw && s1.sys.dev == .run .idle) = true
    · have h2 : s2 = s1.modSys fun y => { y with dev := .run .printing } := if_pos hi
      have hd : s.sys.dev = .run .idle := h1d ▸ eq_of_beq (Bool.and_eq_true_iff.1 hi).2
      rw [h2]
      rcases State.printingEnds_stable (s1.modSys fun y => { y with dev := .run .printing }) with h | ⟨-, h⟩
      · rw [h]
        exact State.jobOnly_setDev h1 (Or.inr (Or.inl ⟨hd, rfl⟩))
      · rw [h]
        exact State.jobOnly_setDev h1 (d := .run .idle) (Or.inl hd.symm)
    · have h2 : s2 = s1 := if_neg hi
      rw [h2]
      rcases s1.printingEnds_stable with h | ⟨hd, h⟩
      · rw [h]
        exact State.jobOnly_of_spine h1
      · rw [h]
        exact State.jobOnly_setDev h1 (Or.inr (Or.inr ⟨h1d ▸ hd, rfl⟩))

theorem State.resetDue_congr {s t : State} (h : t.spine = s.spine) :
    (t.modSys fun y => { y with resetDue := true }).spine = (s.modSys fun y => { y with resetDue := true }).spine :=
  congrArg (fun x : Spine => { x with sys := { x.sys with resetDue := true } }) h

/-- The pause of a hot activation, which ends the boundary: a section that fails makes a warm reset due. -/
theorem State.actPause_spine (s : State) : s.actPause.spine = s.spine ∨
    s.actPause.spine = (s.modSys fun y => { y with resetDue := true }).spine := by
  unfold State.actPause
  split
  · exact Or.inl rfl
  · next a _ =>
    split
    · exact Or.inl rfl
    · extract_lets units t1 t2 t3 l pick
      have h3 : t3.spine = s.spine := by simp [t3, t2, t1]
      clear_value t3 l
      obtain ⟨⟨t4, r4⟩, hp⟩ : ∃ p, t3.loadSections a.bank (pick 2) = p := ⟨_, rfl⟩
      have h4 : t4.spine = s.spine := by rw [← h3, ← t3.spine_loadSections a.bank (pick 2), hp]
      rw [hp]
      dsimp only
      generalize hq : (if r4 = 0 then _ else _ : State × Nat) = q
      have h5 : q.1.spine = s.spine := by
        rw [← hq]
        split <;> simp [h4]
      clear_value pick
      split
      · exact Or.inl h5
      · exact Or.inr (State.resetDue_congr ((State.spine_actEvent ..).trans h5))

/-- `u` is `s` in what no block changes, but for the sub-state of RUN and for a reset that falls due. -/
def State.boundaryOnly (s u : State) : Prop :=
  u.sys.stable = { s.sys.stable with dev := u.sys.dev, resetDue := u.sys.resetDue } ∧
    (s.sys.resetDue = true → u.sys.resetDue = true) ∧ jobMove s.sys.dev u.sys.dev

theorem State.boundaryOnly_of_spine {s u : State} (h : u.spine = s.spine) : s.boundaryOnly u := by
  have hy : u.sys.stable = s.sys.stable := congrArg Spine.sys h
  have hr : u.sys.resetDue = s.sys.resetDue := congrArg (fun x : Spine => x.sys.resetDue) h
  refine ⟨?_, fun hd => hr.trans hd, Or.inl (State.dev_of_spine h)⟩
  rw [State.dev_of_spine h, hr, hy]
  rfl

theorem State.jobOnly.boundaryOnly {s t u : State} (h : s.jobOnly t)
    (hu : u.spine = t.spine ∨ u.spine = (t.modSys fun y => { y with resetDue := true }).spine) : s.boundaryOnly u := by
  obtain ⟨hy, hm⟩ := h
  have hr : t.sys.stable.resetDue = s.sys.stable.resetDue := by rw [hy]
  rcases hu with hu | hu
  · have hyu : u.sys.stable = t.sys.stable := congrArg Spine.sys hu
    have hru : u.sys.resetDue = s.sys.resetDue := (congrArg Sys.resetDue hyu : u.sys.stable.resetDue = _).trans hr
    have hd : u.sys.dev = t.sys.dev := State.dev_of_spine hu
    refine ⟨?_, fun h => hru.trans h, hd ▸ hm⟩
    rw [hyu, hy, hd, hru]
    rfl
  · have hyu : u.sys.stable = { t.sys.stable with resetDue := true } := congrArg Spine.sys hu
    have hru : u.sys.stable.resetDue = true := by rw [hyu]
    have hd : u.sys.stable.dev = t.sys.dev := by rw [hyu]; rfl
    replace hd : u.sys.dev = t.sys.dev := hd
    replace hru : u.sys.resetDue = true := hru
    refine ⟨?_, fun _ => hru, hd ▸ hm⟩
    rw [hyu, hy, hd, hru]

theorem State.jobOnly.congr {s t u : State} (h : s.jobOnly u) (hs : s.spine = t.spine) : t.jobOnly u := by
  have hy : s.sys.stable = t.sys.stable := congrArg Spine.sys hs
  obtain ⟨h1, h2⟩ := h
  exact ⟨by rw [h1, hy], State.dev_of_spine hs ▸ h2⟩

/-- What a boundary does from its state event on. -/
theorem State.boundary_spec {s : State} (hc : s.cueRuns = true) :
    s.atEvent.eventTurn.boundaryOnly s.boundary ∧
      (s.inRun = false → s.boundary.sys.dev = s.atEvent.eventTurn.sys.dev) := by
  unfold State.boundary
  rw [if_neg (by rw [hc]; decide)]
  extract_lets run late s1 done t t1 t2 t3
  have ht : t = s.atEvent.eventTurn := rfl
  clear_value t
  rw [← ht]
  split
  · have h : t.cueTurn.spine = t.spine := t.spine_cueTurn
    exact ⟨State.boundaryOnly_of_spine h, fun _ => State.dev_of_spine h⟩
  · have h1 : t1.pbsBoundary.spine = t.spine := by simp [t1]
    obtain ⟨hj, hn⟩ := t1.pbsBoundary.boundaryFire_spec run
    have h3 : (t3.cueCarry late).spine = (t1.pbsBoundary.boundaryFire run).spine := by simp [t3, t2]
    have hu : (t3.cueCarry late).actPause.spine = (t1.pbsBoundary.boundaryFire run).spine ∨ (t3.cueCarry late).actPause.spine =
        ((t1.pbsBoundary.boundaryFire run).modSys fun y => { y with resetDue := true }).spine :=
      (State.actPause_spine _).imp (·.trans h3) (·.trans (State.resetDue_congr h3))
    refine ⟨(hj.congr h1).boundaryOnly hu, fun hf => ?_⟩
    have hrun : (run && t1.pbsBoundary.inRun) = false := by rw [show run = false from hf]; rfl
    have hd : (t3.cueCarry late).actPause.sys.dev = (t1.pbsBoundary.boundaryFire run).sys.dev :=
      hu.elim (fun h => congrArg (fun x => x.sys.dev) h) (fun h => congrArg (fun x => x.sys.dev) h)
    rw [hd]
    exact State.dev_of_spine ((hn hrun).trans h1)

end Sys2Proof.Machine
end

section
/-!
# The state event of a boundary (R29 to R32)
-/

namespace Sys2Proof.Machine

/-! ## Late refusals touch the host interface only (R32, R495) -/

/-- `u` has the device state's record and the journal of `s`. -/
def State.sameCourse (s u : State) : Prop := u.sys = s.sys ∧ u.jrnl = s.jrnl

theorem State.sameCourse.trans {s t u : State} (h : s.sameCourse t) (k : t.sameCourse u) : s.sameCourse u :=
  ⟨k.1.trans h.1, k.2.trans h.2⟩

theorem State.sameCourse_refl (s : State) : s.sameCourse s := ⟨rfl, rfl⟩

theorem State.sameCourse.draining {s u : State} (h : s.sameCourse u) : u.draining = s.draining := by
  unfold State.draining
  rw [h.2]

theorem State.stored.sameCourse {s u : State} (h : s.stored u) : s.sameCourse u := by
  rw [h.1]
  exact ⟨rfl, rfl⟩

theorem State.sameCourse_hostReply {s : State} {i : Nat} {x : HostSess} (h : s.session i = some x) (off : Nat) (l : List Byte) :
    s.sameCourse (s.hostReply i off l) :=
  (State.hostReply_spec h off l).1.sameCourse

theorem State.sameCourse_hostNotify (s : State) (i status : Nat) (payload : List Byte) :
    s.sameCourse (s.hostNotify i status payload) := by
  unfold State.hostNotify
  split
  · exact s.sameCourse_refl
  · next x hx =>
    have hf : s.fresh.2.session i = some x := hx
    exact State.sameCourse_hostReply hf 0x5000 _

theorem State.sameCourse_longEnd (s : State) (status : Nat) (payload : List Byte) : s.sameCourse (s.longEnd status payload) := by
  unfold State.longEnd
  split
  · exact s.sameCourse_refl
  · exact State.sameCourse_hostNotify (s.modHost _) _ status payload

theorem State.sameCourse_hostAnswer {s : State} {i : Nat} {x : HostSess} (h : s.session i = some x) (op n status : Nat)
    (payload : List Byte) : s.sameCourse (s.hostAnswer i op n status payload) := by
  have ha := State.hostAnswer_answers h op n status payload
  generalize s.hostAnswer i op n status payload = u at ha
  obtain ⟨⟨hu, -⟩, -⟩ := ha
  rw [hu]
  exact ⟨rfl, rfl⟩

theorem State.sameCourse_lateRefuse (s : State) (i op seq : Nat) : s.sameCourse (s.lateRefuse i op seq) := by
  unfold State.lateRefuse
  split
  · exact s.sameCourse_longEnd _ _
  · split
    · next x hx =>
      split
      · exact State.sameCourse_hostAnswer hx _ _ _ _
      · exact s.sameCourse_refl
    · exact s.sameCourse_refl

/-! ## The event by state -/

section event

variable {s : State} (hr : s.sys.resetDue = false)

include hr

theorem State.eventTurn_of_run {q : Job} (hd : s.sys.dev = .run q) : s.eventTurn =
    if s.sys.mainsDue then s.enterCurtain s.sys.follow true
    else if s.sys.faultDue then s.enterCurtain s.sys.follow false
    else if s.sys.callDue.isSome then (s.modSys fun y => { y with callDue := none }).enterCurtain none false
    else s.cmdsTurn s.sys.cmds := by
  rw [State.eventTurn, hr, hd]
  rfl

/-- The mains warning has no effect in PLACES. -/
theorem State.eventTurn_of_places (hd : s.sys.dev = .places) : s.eventTurn =
    if s.sys.faultDue then (s.modSys fun y => { y with mainsDue := false }).enterCurtain s.sys.follow false
    else (s.modSys fun y => { y with mainsDue := false }).cmdsTurn s.sys.cmds := by
  rw [State.eventTurn, hr, hd]
  rfl

theorem State.eventTurn_of_wings (hd : s.sys.dev = .wings) : s.eventTurn =
    if s.sys.mainsDue then (if s.draining then s else s.enterDark)
    else if s.sys.faultDue then s.enterCurtain s.sys.follow false
    else if s.sys.wakeDue && s.flag R.DRC_STAT_READY && decide (s.drcReadyClk < s.clk) then s.enterPlaces
    else s.cmdsTurn s.sys.cmds := by
  rw [State.eventTurn, hr, hd]
  rfl

end event

/-- What a curtain's boundary does before it looks at follow-on and commands: the mains time runs, a fault adds nothing, a
CALL_CURTAIN is refused. -/
def State.curtainNoted (s : State) : State :=
  let t := if s.sys.mainsDue then s.modSys fun y => { y with mainsDue := false, mainsElapsed := some (y.mainsElapsed.getD 0) }
    else s
  let t := t.modSys fun y => { y with faultDue := false }
  match s.sys.callDue with
  | some c => (t.modSys fun y => { y with callDue := none }).lateRefuse c.1 Op.callCurtain c.2.toNat
  | none => t

theorem State.eventTurn_of_curtain {s : State} (hr : s.sys.resetDue = false) (hd : s.sys.dev = .curtain) : s.eventTurn =
    match s.sys.done, s.sys.follow with
    | true, some f => s.curtainNoted.followTurn f
    | _, _ => s.curtainNoted.cmdsTurn s.sys.cmds := by
  rw [State.eventTurn, hr, hd]
  rfl

/-- `u` has the device state and the commands of `s`, and its drain; triggers may have been noted. -/
def State.noted (s u : State) : Prop :=
  u.sys = { s.sys with mainsDue := u.sys.mainsDue, mainsElapsed := u.sys.mainsElapsed, faultDue := u.sys.faultDue,
                       callDue := u.sys.callDue } ∧ u.draining = s.draining

theorem State.noted_refl (s : State) : s.noted s := ⟨rfl, rfl⟩

theorem State.noted_curtainNoted (s : State) : s.noted s.curtainNoted := by
  unfold State.curtainNoted
  extract_lets t t'
  have ht : s.noted t' := by
    simp only [t', t]
    split <;> exact ⟨rfl, rfl⟩
  clear_value t'
  split
  · next c _ =>
    have hc := (t'.modSys fun y => { y with callDue := none }).sameCourse_lateRefuse c.1 Op.callCurtain c.2.toNat
    refine ⟨?_, hc.draining.trans ht.2⟩
    rw [hc.1, State.modSys_sys, ht.1]
  · exact ht

/-- Everything with the commands that wait replaced. -/
def State.withCmds (s : State) (l : List WaitingCmd) : State := s.modSys fun y => { y with cmds := l }

/-! ## A command at a boundary (R30 to R32) -/

theorem State.cmdTake_shutdown (s : State) : s.cmdTake .shutdown =
    if s.sys.dev == .run .idle then (s.raise R.SYS_CURTAIN_HOSTCMD).enterCurtain (some .dark) false else s.enterDark := rfl

theorem State.cmdTake_enterRecovery (s : State) : s.cmdTake .enterRecovery =
    if s.sys.dev == .run .idle then (s.raise R.SYS_CURTAIN_HOSTCMD).enterCurtain (some .recovery) false
    else s.resetFor true := rfl

theorem State.cmdTake_restart (s : State) : s.cmdTake .restart =
    if s.sys.dev == .run .idle then (s.raise R.SYS_CURTAIN_HOSTCMD).enterCurtain (some .boot) false
    else s.resetFor false := rfl

/-- Where command `c`, taken in `s`, leads (R30), when no other command waits: `t`. -/
def State.leads (s : State) (c : StateCmd) (t : State) : Prop :=
  t.sys.dev = s.commandLeadsTo c ∧ t.sys.cmds = [] ∧ (c = .wake → t.sys.wakeDue = true) ∧
    (c = .enterRecovery ∨ c = .restart → s.sys.dev ≠ .run .idle → t.sys.resetDue = true) ∧
    (c = .enterRecovery → s.sys.dev ≠ .run .idle → t.sys.recoveryReq = true) ∧
    (s.sys.dev = .run .idle → c = .shutdown → t.sys.follow = some .dark) ∧
    (s.sys.dev = .run .idle → c = .enterRecovery → t.sys.follow = some .recovery) ∧
    (s.sys.dev = .run .idle → c = .restart → t.sys.follow = some .boot)

/-- The commands that only lead to a state. -/
theorem State.leads_plain {s t : State} {c : StateCmd} (hp : c ∈ [.go, .pause, .resume, .clear, .enterWings])
    (hd : t.sys.dev = s.commandLeadsTo c) (hc : t.sys.cmds = []) : s.leads c t := by
  have h1 : c ≠ .wake := by rintro rfl; exact absurd hp (by decide)
  have h2 : c ≠ .shutdown := by rintro rfl; exact absurd hp (by decide)
  have h3 : c ≠ .enterRecovery := by rintro rfl; exact absurd hp (by decide)
  have h4 : c ≠ .restart := by rintro rfl; exact absurd hp (by decide)
  exact ⟨hd, hc, fun h => absurd h h1, fun h => (h.elim h3 h4).elim, fun h => absurd h h3, fun _ h => absurd h h2,
    fun _ h => absurd h h3, fun _ h => absurd h h4⟩

/-- What no block changes of a state that is known, read back. -/
theorem State.dev_cmds_of_stable {t : State} {y : Sys} (h : t.sys.stable = y) : t.sys.dev = y.dev ∧ t.sys.cmds = y.cmds := by
  subst h
  exact ⟨rfl, rfl⟩

/-- From RUN/IDLE the commands that end in DARK, RECOVERY or BOOT call the curtain first. -/
theorem State.enterCurtain_follow (s : State) (f : Follow) :
    let t := (s.raise R.SYS_CURTAIN_HOSTCMD).enterCurtain (some f) false
    t.sys.dev = .curtain ∧ t.sys.cmds = s.sys.cmds ∧ t.sys.follow = some f := by
  have h := (s.raise R.SYS_CURTAIN_HOSTCMD).enterCurtain_stable (some f) false
  have hf : ((s.raise R.SYS_CURTAIN_HOSTCMD).enterCurtain (some f) false).sys.stable.follow = some f := by rw [h]
  obtain ⟨hd, hc⟩ := State.dev_cmds_of_stable h
  exact ⟨hd, hc, hf⟩

theorem State.cmdTake_leads {s : State} {c : StateCmd} (hl : s.cmdLegal c = true) (hc : s.sys.cmds = []) :
    s.leads c (s.cmdTake c) := by
  cases c with
  | go =>
    obtain ⟨hd, hcm⟩ := State.dev_cmds_of_stable s.enterRun_stable
    exact State.leads_plain (by decide) hd (hcm.trans hc)
  | pause =>
    obtain ⟨hd, hcm⟩ := State.dev_cmds_of_stable
      (congrArg Spine.sys (s.modSys fun y => { y with dev := .run .paused }).spine_firePause)
    exact State.leads_plain (by decide) hd (hcm.trans hc)
  | resume => exact State.leads_plain (by decide) rfl hc
  | clear =>
    obtain ⟨hd, hcm⟩ := State.dev_cmds_of_stable s.enterPlaces_stable
    exact State.leads_plain (by decide) hd (hcm.trans hc)
  | enterWings =>
    obtain ⟨hd, hcm⟩ := State.dev_cmds_of_stable s.enterWings_stable
    exact State.leads_plain (by decide) hd (hcm.trans hc)
  | wake =>
    have hw : s.sys.dev = .wings := by simpa [acceptTable] using ((s.accepts_iff .wake).2 hl).1
    have hk : s.wakeStart.sys = { s.sys with wakeDue := true } := by
      cases hb : s.sys.wakeDue with
      | false => rw [State.wakeStart_of_leaves ⟨hw, hb⟩]
      | true => rw [State.wakeStart_of_not_leaves (by rw [hb]; exact fun h => absurd h.2 (by decide)), ← hb]
    change s.leads .wake s.wakeStart
    rw [State.leads, hk]
    exact ⟨hw, hc, fun _ => rfl, fun h => (h.elim nofun nofun), nofun, fun _ => nofun, fun _ => nofun, fun _ => nofun⟩
  | shutdown =>
    rw [State.cmdTake_shutdown]
    by_cases hi : s.sys.dev = .run .idle
    · obtain ⟨hd, hcm, hf⟩ := s.enterCurtain_follow .dark
      rw [if_pos (beq_iff_eq.2 hi)]
      exact ⟨hd.trans (if_pos hi).symm, hcm.trans hc, nofun, fun h => (h.elim nofun nofun), nofun, fun _ _ => hf, fun _ => nofun,
        fun _ => nofun⟩
    · rw [if_neg (by rwa [beq_iff_eq])]
      have hs := s.enterDark_sys
      exact ⟨by rw [hs]; exact (if_neg hi).symm, by rw [hs], nofun, fun h => (h.elim nofun nofun), nofun,
        fun h => absurd h hi, fun _ => nofun, fun _ => nofun⟩
  | enterRecovery =>
    rw [State.cmdTake_enterRecovery]
    by_cases hi : s.sys.dev = .run .idle
    · obtain ⟨hd, hcm, hf⟩ := s.enterCurtain_follow .recovery
      rw [if_pos (beq_iff_eq.2 hi)]
      exact ⟨hd.trans (if_pos hi).symm, hcm.trans hc, nofun, fun _ h => absurd hi h, fun _ h => absurd hi h, fun _ => nofun,
        fun _ _ => hf, fun _ => nofun⟩
    · rw [if_neg (by rwa [beq_iff_eq])]
      exact ⟨(if_neg hi).symm, hc, nofun, fun _ _ => rfl, fun _ _ => Bool.or_true _, fun h => absurd h hi, fun h => absurd h hi,
        fun h => absurd h hi⟩
  | restart =>
    rw [State.cmdTake_restart]
    by_cases hi : s.sys.dev = .run .idle
    · obtain ⟨hd, hcm, hf⟩ := s.enterCurtain_follow .boot
      rw [if_pos (beq_iff_eq.2 hi)]
      exact ⟨hd.trans (if_pos hi).symm, hcm.trans hc, nofun, fun _ h => absurd hi h, nofun, fun _ => nofun, fun _ => nofun,
        fun _ _ => hf⟩
    · rw [if_neg (by rwa [beq_iff_eq])]
      exact ⟨(if_neg hi).symm, hc, nofun, fun _ _ => rfl, nofun, fun h => absurd h hi, fun h => absurd h hi, fun h => absurd h hi⟩

end Sys2Proof.Machine
end

section
/-!
# The state transitions of a boundary: statement O30
-/

namespace Sys2Proof.Machine

theorem State.settle_sys (s : State) : s.settle.sys = s.sys := by
  obtain ⟨k, hk⟩ := s.settle_eq
  rw [hk]

theorem State.boundaryOnly.settle {s u : State} (h : s.boundaryOnly u) : s.boundaryOnly u.settle := by
  unfold State.boundaryOnly
  rw [u.settle_sys]
  exact h

/-- What a boundary keeps of the device state's record after its event. -/
theorem State.boundaryOnly.kept {s u : State} (h : s.boundaryOnly u) :
    u.sys.done = s.sys.done ∧ u.sys.follow = s.sys.follow ∧ u.sys.elapsed = s.sys.elapsed ∧
      u.sys.mainsElapsed = s.sys.mainsElapsed ∧ u.sys.callDue = s.sys.callDue ∧ u.sys.cmds = s.sys.cmds ∧
      u.sys.wakeDue = s.sys.wakeDue ∧ u.sys.recoveryReq = s.sys.recoveryReq := by
  obtain ⟨h, -, -⟩ := h
  have hk {α : Type} (p : Sys → α) (hp : ∀ (y : Sys) d r, p { y with dev := d, resetDue := r } = p y) :
      p u.sys.stable = p s.sys.stable := by rw [h, hp]
  exact ⟨hk Sys.done fun _ _ _ => rfl, hk Sys.follow fun _ _ _ => rfl, hk Sys.elapsed fun _ _ _ => rfl,
    hk Sys.mainsElapsed fun _ _ _ => rfl, hk Sys.callDue fun _ _ _ => rfl, hk Sys.cmds fun _ _ _ => rfl,
    hk Sys.wakeDue fun _ _ _ => rfl, hk Sys.recoveryReq fun _ _ _ => rfl⟩

theorem jobMove.eq_of_ne {d e : Dev} (h : jobMove d e) (hi : d ≠ .run .idle) (hp : d ≠ .run .printing) : e = d := by
  rcases h with h | ⟨h, -⟩ | ⟨h, -⟩
  · exact h
  · exact absurd h hi
  · exact absurd h hp

/-- A boundary at which a curtain starts (R34). -/
theorem State.boundaryOnly.curtain {x u : State} {f : Option Follow} {m : Bool} (h : (x.enterCurtain f m).boundaryOnly u) :
    u.sys.dev = .curtain ∧ u.sys.done = false ∧ u.sys.follow = f ∧ u.sys.elapsed = 0 ∧
      u.sys.mainsElapsed = (if m then some 0 else none) ∧ u.sys.callDue = x.sys.callDue := by
  obtain ⟨hdone, hfollow, helapsed, hmains, hcall, -, -, -⟩ := h.kept
  obtain ⟨-, -, hmove⟩ := h
  rw [hdone, hfollow, helapsed, hmains, hcall]
  have hc := x.enterCurtain_stable f m
  generalize x.enterCurtain f m = t at hc hmove
  have hk {α : Type} (p : Sys → α) : p t.sys.stable = p _ := congrArg p hc
  have hd : t.sys.dev = .curtain := hk Sys.dev
  rw [hd] at hmove
  exact ⟨hmove.eq_of_ne (by decide) (by decide), hk Sys.done, hk Sys.follow, hk Sys.elapsed, hk Sys.mainsElapsed, hk Sys.callDue⟩

theorem State.cueRuns_cases {s : State} (h : s.cueRuns = true) :
    s.sys.dev = .places ∨ (∃ q, s.sys.dev = .run q) ∨ s.sys.dev = .curtain ∨ s.sys.dev = .wings := by
  unfold State.cueRuns at h
  split at h <;> simp_all

/-- With no other event due, the commands' turn comes. -/
theorem State.eventTurn_of_quiet {s : State} (hc : s.cueRuns = true) (hr : s.sys.resetDue = false)
    (hm : (∃ q, s.sys.dev = .run q) ∨ s.sys.dev = .wings → s.sys.mainsDue = false)
    (hf : s.sys.dev ≠ .curtain → s.sys.faultDue = false) (hcall : (∃ q, s.sys.dev = .run q) → s.sys.callDue = none)
    (hfollow : ¬ (s.sys.dev = .curtain ∧ s.sys.done = true ∧ s.sys.follow ≠ none))
    (hw : ¬ (s.sys.dev = .wings ∧ (s.sys.wakeDue && s.flag R.DRC_STAT_READY && decide (s.drcReadyClk < s.clk)) = true)) :
    ∃ x, s.noted x ∧ s.eventTurn = x.cmdsTurn s.sys.cmds := by
  rcases State.cueRuns_cases hc with hd | ⟨q, hd⟩ | hd | hd
  · refine ⟨s.modSys fun y => { y with mainsDue := false }, ⟨rfl, rfl⟩, ?_⟩
    rw [State.eventTurn_of_places hr hd, if_neg (by rw [hf (by rw [hd]; decide)]; decide)]
  · refine ⟨s, s.noted_refl, ?_⟩
    rw [State.eventTurn_of_run hr hd, if_neg (by rw [hm (Or.inl ⟨q, hd⟩)]; decide),
      if_neg (by rw [hf (by rw [hd]; exact nofun)]; decide), if_neg (by rw [hcall ⟨q, hd⟩]; decide)]
  · refine ⟨s.curtainNoted, s.noted_curtainNoted, ?_⟩
    rw [State.eventTurn_of_curtain hr hd]
    split
    · next hdone hfol => exact absurd ⟨hd, hdone, by rw [hfol]; exact nofun⟩ hfollow
    · rfl
  · refine ⟨s, s.noted_refl, ?_⟩
    rw [State.eventTurn_of_wings hr hd, if_neg (by rw [hm (Or.inr hd)]; decide),
      if_neg (by rw [hf (by rw [hd]; decide)]; decide), if_neg fun h => hw ⟨hd, h⟩]

/-! ## One command that waits -/

theorem State.cmdsTurn_one (s : State) (w : WaitingCmd) : s.cmdsTurn [w] =
    if s.cmdLegal w.cmd then
      if w.cmd = .shutdown ∧ s.sys.dev ≠ .run .idle ∧ s.draining then s else (s.withCmds []).cmdTake w.cmd
    else (s.withCmds []).lateRefuse w.sess w.cmd.opcode w.seq.toNat := rfl

theorem State.noted.dev {s x : State} (h : s.noted x) : x.sys.dev = s.sys.dev := by rw [h.1]

theorem State.noted.accepts_iff {s x : State} (h : s.noted x) (c : StateCmd) : s.accepts c ↔ x.cmdLegal c = true := by
  rw [← x.accepts_iff, State.accepts, State.accepts, h.dev, show x.sys.done = s.sys.done by rw [h.1]]

theorem State.noted.commandLeadsTo {s x : State} (h : s.noted x) (c : StateCmd) :
    (x.withCmds []).commandLeadsTo c = s.commandLeadsTo c := by
  have hd : (x.withCmds []).sys.dev = s.sys.dev := h.dev
  have hp : (x.withCmds []).sys.resumeP = s.sys.resumeP := (congrArg Sys.resumeP h.1 : x.sys.resumeP = _)
  cases c <;> simp only [State.commandLeadsTo, hd, hp]

/-- A command that R31 accepts in RUN leads to a state in which no job starts or ends, unless it is RESUME. -/
theorem State.leadsTo_of_run {s : State} {c : StateCmd} (ha : s.accepts c) (hr : s.inRun = true) (hc : c ≠ .resume) :
    s.commandLeadsTo c ≠ .run .idle ∧ s.commandLeadsTo c ≠ .run .printing := by
  obtain ⟨q, hq⟩ := s.inRun_iff.1 hr
  obtain ⟨ha, -⟩ := ha
  rw [hq] at ha
  unfold State.commandLeadsTo
  rw [hq]
  generalize s.sys.resumeP = b
  cases c with
  | resume => exact absurd rfl hc
  | _ => cases q <;> revert ha <;> simp [acceptTable]

section oneCommand

variable {s x u : State} {w : WaitingCmd} (hx : s.noted x) (hB : (x.cmdsTurn [w]).boundaryOnly u)
  (hD : s.inRun = false → u.sys.dev = (x.cmdsTurn [w]).sys.dev)

include hx hB hD

/-- An accepted command is taken. -/
theorem State.command_taken (ha : s.accepts w.cmd) (hs : w.cmd = .shutdown → s.sys.dev ≠ .run .idle → s.draining = false) :
    u.sys.cmds = [] ∧ (u.sys.dev = s.commandLeadsTo w.cmd ∨ (w.cmd = .resume ∧ u.sys.dev = .run .idle)) ∧
      (w.cmd = .wake → u.sys.wakeDue = true) ∧
      (w.cmd = .enterRecovery ∨ w.cmd = .restart → s.sys.dev ≠ .run .idle → u.sys.resetDue = true) ∧
      (w.cmd = .enterRecovery → s.sys.dev ≠ .run .idle → u.sys.recoveryReq = true) ∧
      (s.sys.dev = .run .idle → w.cmd = .shutdown → u.sys.follow = some .dark) ∧
      (s.sys.dev = .run .idle → w.cmd = .enterRecovery → u.sys.follow = some .recovery) ∧
      (s.sys.dev = .run .idle → w.cmd = .restart → u.sys.follow = some .boot) := by
  have hl := (hx.accepts_iff _).1 ha
  have ht : x.cmdsTurn [w] = (x.withCmds []).cmdTake w.cmd := by
    rw [State.cmdsTurn_one, if_pos hl, if_neg]
    rintro ⟨h1, h2, h3⟩
    rw [hx.2, hs h1 (by rwa [hx.dev] at h2)] at h3
    exact absurd h3 (by decide)
  have hleads : (x.withCmds []).leads w.cmd (x.cmdsTurn [w]) := ht ▸ State.cmdTake_leads hl rfl
  have hdev : (x.withCmds []).sys.dev = s.sys.dev := hx.dev
  rw [State.leads, hx.commandLeadsTo, hdev] at hleads
  obtain ⟨-, hfollow, -, -, -, hcmds, hwake, hrec⟩ := hB.kept
  obtain ⟨-, hreset, hmove⟩ := hB
  obtain ⟨h1, h2, h3, h4, h5, h6, h7, h8⟩ := hleads
  rw [hcmds, hwake, hrec, hfollow]
  refine ⟨h2, ?_, h3, fun h k => hreset (h4 h k), h5, h6, h7, h8⟩
  by_cases hr : s.inRun = true
  · by_cases hc : w.cmd = .resume
    · rw [h1] at hmove
      rw [hc] at hmove ⊢
      rcases hmove with h | ⟨-, h⟩ | ⟨-, h⟩
      · exact Or.inl h
      · exact Or.inl h
      · exact Or.inr ⟨rfl, h⟩
    · obtain ⟨hi, hp⟩ := State.leadsTo_of_run ha hr hc
      exact Or.inl ((hmove.eq_of_ne (h1 ▸ hi) (h1 ▸ hp)).trans h1)
  · exact Or.inl ((hD (Bool.eq_false_iff.2 hr)).trans h1)

/-- SHUTDOWN waits while the journal drains. -/
theorem State.command_waits (ha : s.accepts w.cmd) (hw : s.sys.cmds = [w]) (h1 : w.cmd = .shutdown)
    (h2 : s.sys.dev ≠ .run .idle) (h3 : s.draining = true) : u.sys.dev = s.sys.dev ∧ u.sys.cmds = [w] := by
  have ht : x.cmdsTurn [w] = x := by
    rw [State.cmdsTurn_one, if_pos ((hx.accepts_iff _).1 ha), if_pos ⟨h1, by rwa [hx.dev], by rwa [hx.2]⟩]
  obtain ⟨-, -, -, -, -, hcmds, -, -⟩ := hB.kept
  rw [ht] at hcmds hD
  have hr : s.inRun = false := by
    obtain ⟨ha, -⟩ := ha
    rw [h1] at ha
    rw [Bool.eq_false_iff, Ne, State.inRun_iff]
    rintro ⟨q, hq⟩
    rw [hq] at ha h2
    cases q <;> simp_all [acceptTable]
  refine ⟨(hD hr).trans hx.dev, hcmds.trans ?_⟩
  rw [hx.1]
  exact hw

/-- A command that is not accepted any more leaves the queue. -/
theorem State.command_refused (ha : ¬ s.accepts w.cmd) :
    u.sys.cmds = [] ∧ (s.inRun = false → u.sys.dev = s.sys.dev) := by
  have ht : x.cmdsTurn [w] = (x.withCmds []).lateRefuse w.sess w.cmd.opcode w.seq.toNat := by
    rw [State.cmdsTurn_one, if_neg fun h => ha ((hx.accepts_iff _).2 h)]
  have hsys : (x.cmdsTurn [w]).sys = (x.withCmds []).sys := by
    rw [ht]
    exact ((x.withCmds []).sameCourse_lateRefuse _ _ _).1
  obtain ⟨-, -, -, -, -, hcmds, -, -⟩ := hB.kept
  rw [hsys] at hcmds hD
  exact ⟨hcmds, fun hr => (hD hr).trans hx.dev⟩

end oneCommand

end Sys2Proof.Machine
end

section
/-!
# The state transitions of a boundary: the theorem
-/

namespace Sys2Proof.Machine

theorem State.noted.congr {r s x : State} (h : r.noted x) (hs : r.sys = s.sys) (hd : r.draining = s.draining) : s.noted x :=
  ⟨by rw [← hs]; exact h.1, h.2.trans hd⟩

theorem State.inRun_congr {r s : State} (h : r.sys = s.sys) : r.inRun = s.inRun := State.inRun_of_dev (by rw [h])

theorem State.cueRuns_congr {r s : State} (h : r.sys = s.sys) : r.cueRuns = s.cueRuns := by
  unfold State.cueRuns
  rw [h]

section clauses

variable {s u : State} (hr : s.sys.resetDue = false) (hB : s.atEvent.eventTurn.boundaryOnly u)
  (hD : s.inRun = false → u.sys.dev = s.atEvent.eventTurn.sys.dev)

include hr hB

theorem State.boundary_mains (hrun : s.inRun = true) (hm : s.sys.mainsDue = true) : u.sys.dev = .curtain ∧ u.sys.done = false ∧
    u.sys.follow = s.sys.follow ∧ u.sys.elapsed = 0 ∧ u.sys.mainsElapsed = some 0 := by
  obtain ⟨q, hq⟩ := s.inRun_iff.1 hrun
  rw [← s.atEvent_sys] at hr hq hm
  rw [State.eventTurn_of_run hr hq, if_pos hm, s.atEvent_sys] at hB
  obtain ⟨h1, h2, h3, h4, h5, -⟩ := hB.curtain
  exact ⟨h1, h2, h3, h4, h5⟩

theorem State.boundary_fault (hrun : s.inRun = true) (hm : s.sys.mainsDue = false) (hf : s.sys.faultDue = true) :
    u.sys.dev = .curtain ∧ u.sys.done = false ∧ u.sys.follow = s.sys.follow ∧ u.sys.elapsed = 0 ∧ u.sys.mainsElapsed = none := by
  obtain ⟨q, hq⟩ := s.inRun_iff.1 hrun
  rw [← s.atEvent_sys] at hr hq hm hf
  rw [State.eventTurn_of_run hr hq, if_neg (by rw [hm]; decide), if_pos hf, s.atEvent_sys] at hB
  obtain ⟨h1, h2, h3, h4, h5, -⟩ := hB.curtain
  exact ⟨h1, h2, h3, h4, h5⟩

theorem State.boundary_call (hrun : s.inRun = true) (hm : s.sys.mainsDue = false) (hf : s.sys.faultDue = false)
    (hc : s.sys.callDue ≠ none) : u.sys.dev = .curtain ∧ u.sys.done = false ∧ u.sys.follow = none ∧ u.sys.callDue = none := by
  obtain ⟨q, hq⟩ := s.inRun_iff.1 hrun
  rw [← s.atEvent_sys] at hr hq hm hf hc
  rw [State.eventTurn_of_run hr hq, if_neg (by rw [hm]; decide), if_neg (by rw [hf]; decide),
    if_pos (Option.isSome_iff_ne_none.2 hc)] at hB
  obtain ⟨h1, h2, h3, -, -, h6⟩ := hB.curtain
  exact ⟨h1, h2, h3, h6⟩

include hD

/-- The follow-on of a complete curtain. -/
theorem State.boundary_follow (hd : s.sys.dev = .curtain) (hdone : s.sys.done = true) :
    (s.sys.follow = some .dark → u.sys.dev = if s.draining then .curtain else .dark) ∧
    (s.sys.follow = some .boot → u.sys.dev = .curtain ∧ u.sys.resetDue = true) ∧
    (s.sys.follow = some .recovery → u.sys.dev = .curtain ∧ u.sys.resetDue = true ∧ u.sys.recoveryReq = true) := by
  have hrun : s.inRun = false := by
    unfold State.inRun
    rw [hd]
  have hx : s.noted s.atEvent.curtainNoted := s.atEvent.noted_curtainNoted.congr s.atEvent_sys s.atEvent_draining
  have ht {f : Follow} (hf : s.sys.follow = some f) : s.atEvent.eventTurn = s.atEvent.curtainNoted.followTurn f := by
    rw [State.eventTurn_of_curtain (by rw [s.atEvent_sys]; exact hr) (by rw [s.atEvent_sys]; exact hd), s.atEvent_sys, hdone, hf]
  have hdev := hD hrun
  refine ⟨fun hf => ?_, fun hf => ?_, fun hf => ?_⟩
  · rw [hdev, ht hf, State.followTurn, hx.2]
    split
    · exact hx.dev.trans hd
    · rw [State.enterDark_sys]
  · obtain ⟨-, hreset, -⟩ := hB
    rw [ht hf] at hdev hreset
    exact ⟨hdev.trans (hx.dev.trans hd), hreset rfl⟩
  · obtain ⟨-, -, -, -, -, -, -, hrec⟩ := hB.kept
    obtain ⟨-, hreset, -⟩ := hB
    rw [ht hf] at hdev hreset hrec
    exact ⟨hdev.trans (hx.dev.trans hd), hreset rfl, hrec.trans (Bool.or_true _)⟩

/-- What a boundary in WINGS leads to. -/
theorem State.boundary_wings (hd : s.sys.dev = .wings) :
    (s.sys.mainsDue = true → u.sys.dev = if s.draining then .wings else .dark) ∧
    (s.sys.mainsDue = false → s.sys.faultDue = true → u.sys.dev = .curtain) ∧
    (s.sys.mainsDue = false → s.sys.faultDue = false → s.sys.wakeDue = true →
      s.getF R.DRC_STAT_READY = 1 ∧ s.drcReadyClk < s.clk → u.sys.dev = .places) := by
  have hrun : s.inRun = false := by
    unfold State.inRun
    rw [hd]
  have hw := hD hrun
  have hready := s.atEvent_ready
  rw [State.eventTurn_of_wings (by rw [s.atEvent_sys]; exact hr) (by rw [s.atEvent_sys]; exact hd)] at hw hB
  simp only [s.atEvent_draining] at hw
  rw [s.atEvent_sys] at hw hB
  refine ⟨fun hm => ?_, fun hm hf => ?_, fun hm hf hk hre => ?_⟩
  · rw [hw, if_pos hm]
    split
    · rw [s.atEvent_sys, hd]
    · rw [State.enterDark_sys]
  · rw [if_neg (by rw [hm]; decide), if_pos hf] at hB
    exact hB.curtain.1
  · rw [hw, if_neg (by rw [hm]; decide), if_neg (by rw [hf]; decide), if_pos (by rw [Bool.and_assoc, hk, hready.2 hre]; rfl)]
    exact (State.dev_cmds_of_stable (State.enterPlaces_stable _)).1

end clauses

/-- With no other event due, the one command that waits has its turn. -/
theorem State.boundary_quiet {s : State} (hc : s.cueRuns = true) (hr : s.sys.resetDue = false)
    (hm : s.inRun = true ∨ s.sys.dev = .wings → s.sys.mainsDue = false) (hf : s.sys.dev ≠ .curtain → s.sys.faultDue = false)
    (hcall : s.inRun = true → s.sys.callDue = none)
    (hfollow : ¬ (s.sys.dev = .curtain ∧ s.sys.done = true ∧ s.sys.follow ≠ none))
    (hw : ¬ (s.sys.dev = .wings ∧ s.sys.wakeDue = true ∧ s.getF R.DRC_STAT_READY = 1 ∧ s.drcReadyClk < s.clk)) :
    ∃ x, s.noted x ∧ s.atEvent.eventTurn = x.cmdsTurn s.sys.cmds := by
  have hs := s.atEvent_sys
  have hready := s.atEvent_ready
  have hx := State.eventTurn_of_quiet (s := s.atEvent) ((State.cueRuns_congr hs).trans hc)
  rw [hs, ← s.inRun_iff] at hx
  obtain ⟨x, hx, ht⟩ := hx hr hm hf hcall hfollow fun ⟨h1, h2⟩ => by
    rw [Bool.and_assoc, Bool.and_eq_true] at h2
    exact hw ⟨h1, h2.1, hready.1 h2.2⟩
  exact ⟨x, hx.congr hs s.atEvent_draining, ht⟩

/-- Settles O30: before its state event a boundary moves only the cue's own record, the event is read off by state, and after it
only a handover or the end of a job in RUN moves the device state. -/
theorem stateTransitionsAtTheBoundary : Obligations.StateTransitionsAtTheBoundary := by
  unfold Obligations.StateTransitionsAtTheBoundary
  intro s hc hr y ready
  obtain ⟨hB, hD⟩ := State.boundary_spec hc
  replace hB := hB.settle
  rw [← State.settle_sys] at hD
  refine ⟨s.boundary.settle, rfl, ?_⟩
  generalize s.boundary.settle = u at hB hD
  refine ⟨State.boundary_mains hr hB, State.boundary_fault hr hB, State.boundary_call hr hB, ?_, State.boundary_follow hr hB hD,
    fun hd => (State.boundary_wings hr hB hD hd).1, fun hd => (State.boundary_wings hr hB hD hd).2.1,
    fun hd => (State.boundary_wings hr hB hD hd).2.2⟩
  intro hm hf hcall hfollow hw w hcmds
  obtain ⟨x, hx, ht⟩ := State.boundary_quiet hc hr hm hf hcall hfollow hw
  rw [ht, show s.sys.cmds = [w] from hcmds] at hB hD
  exact ⟨State.command_taken hx hB hD, fun ha h1 h2 h3 => State.command_waits hx hB hD ha hcmds h1 h2 h3,
    State.command_refused hx hB hD⟩

end Sys2Proof.Machine
end


section
/-!
# How BOOT ends: what the answers of a RESTART leave alone, and the outcomes' registers
-/

namespace Sys2Proof.Machine

/-! ## A RESTART's answer touches no register but those of SRAM's error reports -/

/-- Fields that no error report of SRAM shares a bit with. -/
def Fld.unmerged (f : Fld) : Prop := ∀ g ∈ mergeFields, f.apart g

theorem State.getF_hostReply {s : State} {i : Nat} {x : HostSess} (h : s.session i = some x) (off : Nat) (l : List Byte) {f : Fld}
    (hf : f.unmerged) : (s.hostReply i off l).getF f = s.getF f :=
  (State.hostReply_spec h off l).1.2 f hf

theorem State.getF_hostNotify (s : State) (i status : Nat) (payload : List Byte) {f : Fld} (hf : f.unmerged) :
    (s.hostNotify i status payload).getF f = s.getF f := by
  unfold State.hostNotify
  split
  · rfl
  · next x hx =>
    have hx' : s.fresh.2.session i = some x := hx
    exact State.getF_hostReply hx' 0x5000 _ hf

theorem State.getF_longEnd (s : State) (status : Nat) (payload : List Byte) {f : Fld} (hf : f.unmerged) :
    (s.longEnd status payload).getF f = s.getF f := by
  unfold State.longEnd
  split
  · rfl
  · exact State.getF_hostNotify (s.modHost _) _ status payload hf

theorem State.getF_restartEnd (s : State) (status : Nat) {f : Fld} (hf : f.unmerged) :
    (s.restartEnd status).getF f = s.getF f := by
  unfold State.restartEnd
  split
  · split
    · exact s.getF_longEnd status [] hf
    · rfl
  · rfl

theorem State.getF_restartFail (s : State) {f : Fld} (hf : f.unmerged) : s.restartFail.getF f = s.getF f :=
  s.fresh.2.getF_restartEnd _ hf

theorem State.getF_bootEvent (s : State) {f : Fld} (hf : f.apart R.BBX_STAT_LOST) : s.bootEvent.getF f = s.getF f :=
  s.getF_bbxEvent_apart _ _ hf

theorem Fld.unmerged_of_addr {f : Fld} (h : f.addr ∉ mergeFields.map Fld.addr) : f.unmerged :=
  fun _ hg => Or.inl fun he => h (he ▸ List.mem_map_of_mem hg)

/-! ## The outcomes (R194) -/

/-- BOOT has ended with one of its outcomes. -/
def State.bootEnded (u : State) : Prop :=
  (u.sys.dev = .places ∧ u.getF R.SYS_BOOT_CODE = 1 ∧ u.getF R.SYS_GOEN_EN = 0 ∧ u.boot.step = 0) ∨
    (u.sys.dev = .recovery ∧ u.getF R.SYS_BOOT_CODE ∈ [0x20, 0x21, 0x22] ∧ u.boot.step = 0) ∨
    (u.sys.dev = .boot ∧ u.getF R.SYS_BOOT_CODE ∈ [0x10, 0x11, 0x12, 0x13, 0x14, 0x15, 0x16, 0x17] ∧ u.boot.step = 0)

/-- What no step of BOOT changes: the records that wait, the time counter, a reset that is due. -/
def State.bootKept (s u : State) : Prop := u.pending = s.pending ∧ u.cue.time = s.cue.time ∧ u.sys.resetDue = s.sys.resetDue

theorem State.bootKept.trans {s t u : State} (h : s.bootKept t) (k : t.bootKept u) : s.bootKept u :=
  ⟨k.1.trans h.1, k.2.1.trans h.2.1, k.2.2.trans h.2.2⟩

/-- The spine with BOOT's step and the device state's record replaced, read back. -/
theorem State.bootKept_of_spine {s u : State} {n : Nat} {y : Sys} (h : u.spine = { s.spine with step := n, sys := y.stable })
    (hy : y.resetDue = s.sys.resetDue) : s.bootKept u ∧ u.boot.step = n ∧ u.sys.dev = y.dev := by
  have hp : u.spine.pending = s.pending := by rw [h]; rfl
  have ht : u.spine.time = s.cue.time := by rw [h]; rfl
  have hs : u.spine.step = n := by rw [h]
  have hd : u.spine.sys.dev = y.dev := by rw [h]; rfl
  have hr : u.spine.sys.resetDue = s.sys.resetDue := by rw [h]; exact hy
  exact ⟨⟨hp, ht, hr⟩, hs, hd⟩

theorem State.spine_modBoot (s : State) (f : Boot → Boot) : (s.modBoot f).spine = { s.spine with step := (f s.boot).step } := rfl

theorem State.spine_enterRecovery (s : State) (code : Nat) : (s.enterRecovery code).spine =
    { s.spine with step := 0, sys := { s.sys with dev := .recovery, recoveryReq := false, cmds := [] }.stable } := by
  have hj (t : State) : t.romJoin.spine = t.spine := by
    unfold State.romJoin
    split <;> simp
  rw [State.enterRecovery_eq, hj, State.spine_restartFail]
  simp only [State.recovering, State.spine_wdReload]
  rfl

theorem State.getF_enterRecovery (s : State) (code : Nat) {f : Fld} (hf : f.unmerged)
    (hb : f.addr < 0x40B00000 ∨ 0x40B10000 ≤ f.addr) :
    (s.enterRecovery code).getF f = (s.setF R.SYS_BOOT_CODE code).getF f := by
  obtain ⟨t, k, ht, hu⟩ := (s.recovering code).restartFail.romJoin_spec
  rw [State.enterRecovery_eq, hu]
  exact (ht.getF hb).trans ((s.recovering code).getF_restartFail hf)

theorem State.bootCode_unmerged : R.SYS_BOOT_CODE.unmerged := Fld.unmerged_of_addr (by decide)

theorem State.bootCode_enterRecovery (s : State) {code : Nat} (hc : code < 256) :
    (s.enterRecovery code).getF R.SYS_BOOT_CODE = code := by
  rw [s.getF_enterRecovery code State.bootCode_unmerged (by decide), State.getF_setF_of_lt _ (by decide) (by decide) hc]

theorem State.spine_bootStop (s : State) (code : Nat) : (s.bootStop code).1.spine = { s.spine with step := 0 } := by
  simp [State.bootStop, State.spine_modBoot]

theorem State.bootCode_bootStop (s : State) {code : Nat} (hc : code < 256) :
    (s.bootStop code).1.getF R.SYS_BOOT_CODE = code := by
  have h := (((s.setF R.SYS_BOOT_CODE code).modBoot fun b => { b with step := 0 }).bootEvent).getF_restartFail
    State.bootCode_unmerged
  have he := ((s.setF R.SYS_BOOT_CODE code).modBoot fun b => { b with step := 0 }).getF_bootEvent (f := R.SYS_BOOT_CODE)
    (Or.inl (by decide))
  exact (h.trans he).trans (State.getF_setF_of_lt s (f := R.SYS_BOOT_CODE) (by decide) (by decide) hc)

end Sys2Proof.Machine
end


section
/-!
# BOOT's last step: PLACES (R211, R215)
-/

namespace Sys2Proof.Machine

/-! ## The entry to PLACES leaves GO disabled -/

theorem State.getReg_foldl {β : Type} {f : State → β → State} {a : Nat} (l : List β)
    (hf : ∀ t, ∀ b ∈ l, (f t b).getReg a = t.getReg a) (s : State) : (l.foldl f s).getReg a = s.getReg a := by
  induction l generalizing s with
  | nil => rfl
  | cons b l ih =>
    rw [List.foldl_cons, ih fun t c hc => hf t c (List.mem_cons_of_mem _ hc), hf s b List.mem_cons_self]

theorem State.getReg_loopStop (s : State) : s.loopStop.getReg R.SYS_GOEN = s.getReg R.SYS_GOEN := by
  refine State.getReg_foldl _ (fun t k hk => ?_) _
  have hk : k < 64 := List.mem_range.1 hk
  refine State.getReg_setF_of_ne t 0 ?_
  unfold R.SYS_GOEN R.LOOP_SSTAT_RUN R.LOOP_SSTAT
  dsimp only
  omega

theorem State.getReg_pbsPlaces (s : State) : s.pbsPlaces.getReg R.SYS_GOEN = s.getReg R.SYS_GOEN := by
  have h1 := State.getReg_setF_of_ne s (a := R.SYS_GOEN) (f := R.PBS_STAT_SHED) 0 (by decide)
  have h2 := State.getReg_setF_of_ne (s.setF R.PBS_STAT_SHED 0) (a := R.SYS_GOEN) (f := R.PBS_UNACC_W) 0 (by decide)
  exact h2.trans h1

/-- A port that is off starts training. -/
theorem State.getReg_jetTrain_of_off {s : State} {p : Nat} (hp : p < 32) (h : s.jlink p = linkOff) :
    (s.jetTrain p).getReg R.SYS_GOEN = s.getReg R.SYS_GOEN := by
  have hl : s.jetLeave p = s := by
    rw [State.jetLeave, if_pos (by rw [h]; decide)]
  have h1 : R.SYS_GOEN ≠ (R.JET_STAT_LINK p).addr := by
    unfold R.SYS_GOEN R.JET_STAT_LINK R.JET_STAT
    dsimp only
    omega
  have h2 : R.SYS_GOEN ≠ (R.JET_BSTAT_VALID p).addr := by
    unfold R.SYS_GOEN R.JET_BSTAT_VALID R.JET_BSTAT
    dsimp only
    omega
  have hs := (State.getReg_setF_of_ne (s.setF (R.JET_STAT_LINK p) linkTrain) 0 h2).trans (State.getReg_setF_of_ne s linkTrain h1)
  unfold State.jetTrain
  rw [hl]
  exact hs

theorem State.getReg_jetPlaces (s : State) : s.jetPlaces.getReg R.SYS_GOEN = s.getReg R.SYS_GOEN := by
  refine State.getReg_foldl _ (fun t p hp => ?_) _
  split
  · next h => exact State.getReg_jetTrain_of_off (List.mem_range.1 hp) (eq_of_beq (Bool.and_eq_true_iff.1 h).2)
  · rfl

theorem State.goen_congr {s t : State} (h : t.getReg R.SYS_GOEN = s.getReg R.SYS_GOEN) :
    t.getF R.SYS_GOEN_EN = s.getF R.SYS_GOEN_EN :=
  congrArg (fun w => fieldOf w 0 0) h

theorem State.goen_enterPlaces (s : State) : s.enterPlaces.getF R.SYS_GOEN_EN = 0 := by
  unfold State.enterPlaces
  extract_lets t t1 t2 _ u
  have h2 : t2.getF R.SYS_GOEN_EN = 0 := t1.getF_setF_of_lt (f := R.SYS_GOEN_EN) (by decide) (by decide) (by decide)
  have hu : u.loopStop.pbsPlaces.jetPlaces.getReg R.SYS_GOEN = t2.getReg R.SYS_GOEN :=
    (State.getReg_jetPlaces _).trans ((State.getReg_pbsPlaces _).trans (State.getReg_loopStop u))
  exact (State.goen_congr hu).trans h2

/-! ## Step 15 (R211) -/

/-- PLACES entered at the end of BOOT, before the record for the black box and a RESTART's answer. -/
def State.bootPlaces (s : State) : State :=
  let s := s.releaseCores.modBoot fun b => { b with step := 0, hdrAddr := some s.byrSelf, held := [] }
  let s := s.enterPlaces.cueEnter.setF R.SYS_BOOT_CODE 1
  s.setF R.SYS_BOOTTIME_US ((s.cue.time.toNat - s.boot.t0) / 1000 % 2 ^ 32)

theorem State.bootStep15_of_held {s : State} (h : s.pbHeld.2 = none) :
    s.bootStep15 = (s.pbHeld.1.bootPlaces.bootEvent.restartEnd St.ok, false) := by
  unfold State.bootStep15
  generalize s.pbHeld = p at h
  obtain ⟨t, e⟩ := p
  subst h
  rfl

theorem State.bootStep15_of_fail {s : State} {e : PbFail} (h : s.pbHeld.2 = some e) :
    s.bootStep15 = (s.pbHeld.1.pbErr false e).bootStop 0x12 := by
  unfold State.bootStep15
  generalize s.pbHeld = p at h
  obtain ⟨t, e'⟩ := p
  subst h
  rfl

/-- The system's record as the entry to PLACES leaves it. -/
def Sys.placed (y : Sys) : Sys :=
  { y with dev := .places, done := false, follow := none, mainsDue := false, callDue := none, wakeDue := false, shown := none,
           elapsed := 0, mainsElapsed := none, limitReached := false }

theorem Sys.stable_placed (y : Sys) : y.placed.stable = y.stable.placed := rfl

theorem State.spine_enterPlaces (s : State) : s.enterPlaces.spine = { s.spine with sys := s.sys.placed.stable } := by
  have hl (t : State) (x : Loop) : State.spine { t with loop := x } = t.spine := State.spine_congr rfl rfl rfl rfl
  simp only [State.enterPlaces, State.spine_jetPlaces, State.spine_pbsPlaces, State.spine_loopStop, hl, State.lower_eq,
    State.spine_setF, State.spine_wdReload]
  rfl

/-- Registers of the system block after BOOT's last step. -/
theorem State.getF_bootPlaces_end (s : State) {f : Fld} (hf : f.unmerged) (hb : f.apart R.BBX_STAT_LOST) (status : Nat) :
    (s.bootEvent.restartEnd status).getF f = s.getF f :=
  (s.bootEvent.getF_restartEnd status hf).trans (s.getF_bootEvent hb)

theorem State.bootPlaces_spec (s : State) :
    s.bootPlaces.getF R.SYS_BOOT_CODE = 1 ∧ s.bootPlaces.getF R.SYS_GOEN_EN = 0 ∧
      s.bootPlaces.spine = { s.spine with step := 0, sys := s.sys.placed.stable } := by
  unfold State.bootPlaces
  extract_lets t u
  have ht : t.spine = { s.spine with step := 0 } := by
    simp only [t, State.spine_modBoot, State.spine_releaseCores]
  have hts : t.sys.stable = s.sys.stable := congrArg Spine.sys ht
  refine ⟨?_, ?_, ?_⟩
  · rw [State.getF_setF_apart _ _ (by decide) (Or.inl (by decide))]
    exact State.getF_setF_of_lt _ (f := R.SYS_BOOT_CODE) (by decide) (by decide) (by decide)
  · rw [State.getF_setF_apart _ _ (by decide) (Or.inl (by decide))]
    refine (State.getF_setF_apart _ (f := R.SYS_GOEN_EN) (g := R.SYS_BOOT_CODE) 1 (by decide) (Or.inl (by decide))).trans ?_
    exact t.goen_enterPlaces
  · have hc (x : State) : x.cueEnter.spine = x.spine := State.spine_congr rfl rfl rfl rfl
    rw [State.spine_setF]
    simp only [u, State.spine_setF, hc, State.spine_enterPlaces, ht, Sys.stable_placed, hts]
    rfl

end Sys2Proof.Machine
end

section
/-!
# BOOT's steps: each goes on to the next, ends BOOT with its outcome, or waits (R194)
-/

namespace Sys2Proof.Machine

/-! ## One step -/

/-- One step of BOOT: the next step follows at once, BOOT ends, or it waits where it was. -/
def State.bootGoes (s : State) (r : State × Bool) : Prop :=
  s.bootKept r.1 ∧
    ((r.2 = true ∧ r.1.sys.dev = s.sys.dev ∧ r.1.boot.step = s.boot.step + 1) ∨ (r.2 = false ∧ r.1.bootEnded) ∨
      (r.2 = false ∧ r.1.sys.dev = s.sys.dev ∧ r.1.boot.step = s.boot.step))

theorem State.bootKept_of_same {s t : State} (h : t.spine = s.spine) :
    s.bootKept t ∧ t.boot.step = s.boot.step ∧ t.sys.dev = s.sys.dev :=
  State.bootKept_of_spine h rfl

theorem State.bootGoes_congr {s t : State} {r : State × Bool} (h : t.spine = s.spine) (k : t.bootGoes r) : s.bootGoes r := by
  obtain ⟨hk, hn, hd⟩ := State.bootKept_of_same h
  obtain ⟨kk, kr⟩ := k
  rw [hn, hd] at kr
  exact ⟨hk.trans kk, kr⟩

theorem State.bootGoes_wait {s t : State} (h : t.spine = s.spine) : s.bootGoes (t, false) := by
  obtain ⟨hk, hn, hd⟩ := State.bootKept_of_same h
  exact ⟨hk, .inr (.inr ⟨rfl, hd, hn⟩)⟩

theorem State.bootGoes_next {s t : State} (h : t.spine = s.spine) : s.bootGoes t.bootNext := by
  obtain ⟨hk, hn, hd⟩ := State.bootKept_of_same h
  exact ⟨hk, .inl ⟨rfl, hd, congrArg (· + 1) hn⟩⟩

theorem State.spine_modBoot_same (s : State) {f : Boot → Boot} (h : ∀ b, (f b).step = b.step) :
    (s.modBoot f).spine = s.spine := by
  rw [s.spine_modBoot f, h]
  rfl

theorem State.bootGoes_next_modBoot {s t : State} {f : Boot → Boot} (h : t.spine = s.spine)
    (hf : ∀ b, (f b).step = b.step) : s.bootGoes (t.modBoot f).bootNext :=
  State.bootGoes_next ((t.spine_modBoot_same hf).trans h)

theorem State.bootGoes_stop {s t : State} {code : Nat} (hb : s.sys.dev = .boot) (h : t.spine = s.spine)
    (hc : code ∈ [0x10, 0x11, 0x12, 0x13, 0x14, 0x15, 0x16, 0x17]) : s.bootGoes (t.bootStop code) := by
  have hu : (t.bootStop code).1.spine = { s.spine with step := 0 } := by rw [t.spine_bootStop, h]
  have hlt : code < 256 := by
    simp only [List.mem_cons, List.not_mem_nil, or_false] at hc
    omega
  obtain ⟨hk, hn, hd⟩ := State.bootKept_of_spine (y := s.sys) hu rfl
  exact ⟨hk, .inr (.inl ⟨rfl, .inr (.inr ⟨hd.trans hb, (t.bootCode_bootStop hlt).symm ▸ hc, hn⟩)⟩)⟩

theorem State.bootGoes_recovery {s t : State} {code : Nat} (h : t.spine = s.spine) (hc : code ∈ [0x20, 0x21, 0x22]) :
    s.bootGoes (t.enterRecovery code, false) := by
  have hlt : code < 256 := by
    simp only [List.mem_cons, List.not_mem_nil, or_false] at hc
    omega
  have hr : t.sys.resetDue = s.sys.resetDue := (State.bootKept_of_same h).1.2.2
  have hu := t.spine_enterRecovery code
  rw [h] at hu
  obtain ⟨hk, hn, hd⟩ := State.bootKept_of_spine hu hr
  exact ⟨hk, .inr (.inl ⟨rfl, .inr (.inl ⟨hd, (t.bootCode_enterRecovery hlt).symm ▸ hc, hn⟩)⟩)⟩

/-! ## The spine through what the steps do -/

theorem State.spine_jrnlInit (s : State) : s.jrnlInit.spine = s.spine := by
  unfold State.jrnlInit
  extract_lets t
  have ht : t.spine = s.spine := State.spine_congr rfl rfl rfl rfl
  rw [State.spine_modJrnl, State.spine_foldl (fun x p => x.spine_hdrSet _ _), ht]

theorem State.spine_chunksRead (s : State) (b : Nat) (h : List Byte) (l : List Nat) :
    (l.foldl (fun p i => if p.2 = 0 then p.1.chunkReason b h i else p) (s, 0)).1.spine = s.spine := by
  refine State.spine_foldl_fst (fun p i => ?_) l (s, 0)
  split
  · exact p.1.spine_chunkReason b h i
  · rfl

theorem State.spine_bootImage (s : State) (b : Nat) : (s.bootImage b).1.spine = s.spine := by
  have hm := s.spine_manifestRead b
  unfold State.bootImage
  generalize s.manifestRead b = p at hm ⊢
  obtain ⟨t, _ | h⟩ := p
  · exact hm
  · dsimp only at hm ⊢
    split
    · exact hm
    · split
      · exact hm
      · generalize (if t.packagesDead = true then _ else _ : List ImgSection) = l
        have hv : (if l.any sectionInDram = true then t.bootPackages else t).spine = s.spine := by
          split
          · exact t.spine_bootPackages.trans hm
          · exact hm
        generalize (if l.any sectionInDram = true then t.bootPackages else t) = v at hv ⊢
        have hw := v.spine_chunksRead b h (List.range (imgChunks h))
        generalize (List.range (imgChunks h)).foldl _ (v, 0) = q at hw ⊢
        obtain ⟨w, r⟩ := q
        dsimp only at hw ⊢
        split
        · exact hw.trans hv
        · exact (w.spine_loadSections b l).trans (hw.trans hv)

theorem State.spine_bootLoaded (s : State) (b : Nat) (fb : Bool) : (s.bootLoaded b fb).spine = s.spine := by
  unfold State.bootLoaded
  extract_lets h t u
  have hu : u.spine = s.spine := by simp only [u, t, State.spine_setF]
  exact (u.spine_modBoot_same fun _ => rfl).trans hu

/-- One marked unit of the journal's records, read by the scan. -/
def State.scanUnit (p : State × Bool) (u : Nat) : State × Bool :=
  let o := (u - pmemBase) / 64 * 64
  let q := State.pmemCheck (p.1, true) u
  (q.1, p.2 || (!q.2 && decide (p.1.pmRd o 4 ≠ 0)))

theorem State.spine_scanUnit (p : State × Bool) (u : Nat) : (State.scanUnit p u).1.spine = p.1.spine :=
  State.spine_pmemCheck (p.1, true) u

/-- A journal that can be read: its registers and its capture table loaded. -/
def State.scanLoaded (s : State) : State :=
  let s := (s.setF R.JRNL_LASTACC_SEQ (s.pmRd hdrAcc 8)).setF R.JRNL_LASTRET_SEQ (s.pmRd hdrRet 8)
  let cap : SMap (Nat × Nat) := (List.range 4096).foldr (fun k m =>
    let e := s.pmRd (jrnlCv + 8 * k) 8
    if e = 0 then m else (k, (e / 2 ^ 40, e % 2 ^ 21)) :: m) []
  let opens := ((s.recsAt jrnlSwaths 256).filter fun o => s.recState o == 1).map fun o => (s.pmRd o 4 % 2 ^ 24, true)
  let s := s.modJrnl fun _ => { cap := cap, opens := opens }
  let s := s.modSys fun y => { y with resumeP := !opens.isEmpty }
  match s.lastSeal with | some x => s.setF R.JRNL_SEALCNT_CUE x.1 | none => s

theorem State.spine_scanLoaded (s : State) : s.scanLoaded.spine = s.spine := by
  unfold State.scanLoaded
  extract_lets t cap opens u v
  have ht : t.spine = s.spine := by simp only [t, State.spine_setF]
  have hv : v.spine = s.spine := (u.spine_modSys rfl).trans ((t.spine_modJrnl _).trans ht)
  generalize v.lastSeal = x
  cases x with
  | none => exact hv
  | some x => exact (v.spine_setF _ _).trans hv

theorem State.spine_jrnlScan (s : State) : s.jrnlScan.1.spine = s.spine := by
  unfold State.jrnlScan
  have h0 : (if s.pmRd jrnlBase 0x30 = 0 then s.jrnlInit else s).spine = s.spine := by
    split
    · exact s.spine_jrnlInit
    · rfl
  generalize (if s.pmRd jrnlBase 0x30 = 0 then s.jrnlInit else s) = t at h0 ⊢
  have h1 := State.spine_foldl_fst State.spine_pmemCheck (t.markedUnits jrnlBase 0x9000) (t, true)
  dsimp only
  generalize (t.markedUnits jrnlBase 0x9000).foldl State.pmemCheck (t, true) = p at h1 ⊢
  obtain ⟨u, ok⟩ := p
  have h2 := State.spine_foldl_fst State.spine_scanUnit (u.markedUnits (jrnlBase + 0x9000) 0x3F7000) (u, false)
  dsimp only at h1 ⊢
  generalize hq : List.foldl _ (u, false) (u.markedUnits (jrnlBase + 0x9000) 0x3F7000) = q
  have hv : q.1.spine = s.spine := by
    rw [← hq]
    exact h2.trans (h1.trans h0)
  clear hq
  split
  · exact hv
  · exact q.1.spine_scanLoaded.trans hv

/-! ## The steps -/

section
variable {s : State} (hb : s.sys.dev = .boot)

theorem State.bootStep2_goes (s : State) : s.bootGoes s.bootStep2 := by
  unfold State.bootStep2
  split
  · exact State.bootGoes_recovery rfl (by decide)
  · split
    · exact State.bootGoes_recovery rfl (by decide)
    · exact State.bootGoes_next rfl

include hb

theorem State.bootStep3_goes : s.bootGoes s.bootStep3 := by
  unfold State.bootStep3
  have h := State.spine_foldl_fst State.spine_pmemCheck (s.markedUnits 0 0x10000) (s, true)
  generalize (s.markedUnits 0 0x10000).foldl State.pmemCheck (s, true) = p at h ⊢
  obtain ⟨t, ok⟩ := p
  dsimp only at h ⊢
  split
  · exact State.bootGoes_stop hb h (by decide)
  · split
    · exact State.bootGoes_next h
    · have hf := t.spine_fresh
      generalize t.fresh = q at hf ⊢
      obtain ⟨r, u⟩ := q
      dsimp only
      exact State.bootGoes_next_modBoot ((u.spine_pmemStore _ _).trans (hf.trans h)) fun _ => rfl

omit hb in
theorem State.bootStep5_goes (s : State) : s.bootGoes s.bootStep5 := by
  unfold State.bootStep5
  generalize s.actBank = b
  obtain ⟨⟨t, r⟩, hp⟩ : ∃ p, s.bootImage b = p := ⟨_, rfl⟩
  obtain ⟨⟨u, r'⟩, hq⟩ : ∃ q, t.bootImage (1 - b) = q := ⟨_, rfl⟩
  have h1 := s.spine_bootImage b
  have h2 := t.spine_bootImage (1 - b)
  rw [hp] at h1
  rw [hq, h1] at h2
  dsimp only
  rw [hp]
  match r with
  | none => exact State.bootGoes_wait h1
  | some true => exact State.bootGoes_next ((t.spine_bootLoaded _ _).trans h1)
  | some false =>
    dsimp only
    rw [hq]
    match r' with
    | none => exact State.bootGoes_wait h2
    | some true => exact State.bootGoes_next ((u.spine_bootLoaded _ _).trans h2)
    | some false => exact State.bootGoes_recovery h2 (by decide)

theorem State.bootStep6_goes : s.bootGoes s.bootStep6 := by
  unfold State.bootStep6
  dsimp only
  split
  · exact State.bootGoes_next (s.spine_setF _ _)
  · exact State.bootGoes_stop hb rfl (by decide)

theorem State.bootStep7_goes : s.bootGoes s.bootStep7 := by
  unfold State.bootStep7
  dsimp only
  split
  · exact State.bootGoes_stop hb s.spine_startupTest (by decide)
  · exact State.bootGoes_next s.spine_startupTest

theorem State.bootStep8_goes : s.bootGoes s.bootStep8 := by
  unfold State.bootStep8
  have h := s.spine_pbSelect
  generalize s.pbSelect = p at h ⊢
  obtain ⟨t, _ | _⟩ := p
  · exact State.bootGoes_stop hb h (by decide)
  · exact State.bootGoes_next h

theorem State.bootStep9_goes : s.bootGoes s.bootStep9 := by
  unfold State.bootStep9
  dsimp only
  split
  · exact State.bootGoes_next_modBoot rfl fun _ => rfl
  · exact State.bootGoes_stop hb rfl (by decide)

theorem State.bootStep10_goes : s.bootGoes s.bootStep10 := by
  unfold State.bootStep10
  dsimp only
  split
  · exact State.bootGoes_stop hb (State.spine_pbErr _ _ _) (by decide)
  · next l _ =>
    have h := s.spine_pbApply l
    generalize s.pbApply l = p at h ⊢
    obtain ⟨t, _ | e⟩ := p
    · exact State.bootGoes_next h
    · exact State.bootGoes_stop hb ((t.spine_pbErr _ _).trans h) (by decide)

theorem State.bootStep11_goes : s.bootGoes s.bootStep11 := by
  unfold State.bootStep11
  split
  · exact State.bootGoes_stop hb (State.spine_pbErr _ _ _) (by decide)
  · exact State.bootGoes_next rfl

theorem State.bootStep12_goes : s.bootGoes s.bootStep12 := by
  unfold State.bootStep12
  split
  · exact State.bootGoes_stop hb rfl (by decide)
  · split
    · exact State.bootGoes_wait rfl
    · exact State.bootGoes_next_modBoot s.spine_bootPackages fun _ => rfl

theorem State.bootStep13_goes : s.bootGoes s.bootStep13 := by
  unfold State.bootStep13
  have h := s.spine_jrnlScan
  generalize s.jrnlScan = p at h ⊢
  obtain ⟨t, _ | _⟩ := p
  · exact State.bootGoes_stop hb h (by decide)
  · dsimp only
    split
    · exact State.bootGoes_next_modBoot ((t.spine_modCue rfl).trans h) fun _ => rfl
    · exact State.bootGoes_next h

omit hb in
theorem State.bootStep14_goes (s : State) : s.bootGoes s.bootStep14 := by
  unfold State.bootStep14
  split
  · exact State.bootGoes_next rfl
  · dsimp only
    split
    · exact State.bootGoes_next rfl
    · refine State.bootGoes_next ?_
      rw [State.spine_bbxEvent, State.raise_eq, State.spine_setF, State.spine_pmemStore]

theorem State.bootStep15_goes : s.bootGoes s.bootStep15 := by
  have hp := s.spine_pbHeld
  cases he : s.pbHeld.2 with
  | some e =>
    rw [State.bootStep15_of_fail he]
    exact State.bootGoes_stop hb ((State.spine_pbErr _ _ _).trans hp) (by decide)
  | none =>
    rw [State.bootStep15_of_held he]
    generalize s.pbHeld.1 = t at hp
    obtain ⟨hc, hg, hu⟩ := t.bootPlaces_spec
    have hr : t.sys.resetDue = s.sys.resetDue := (State.bootKept_of_same hp).1.2.2
    rw [hp] at hu
    obtain ⟨hk, hn, hd⟩ := State.bootKept_of_spine
      (((State.spine_restartEnd _ _).trans t.bootPlaces.spine_bootEvent).trans hu) hr
    refine ⟨hk, .inr (.inl ⟨rfl, .inl ⟨hd, ?_, ?_, hn⟩⟩)⟩
    · exact (t.bootPlaces.getF_bootPlaces_end State.bootCode_unmerged (Or.inl (by decide)) _).trans hc
    · exact (t.bootPlaces.getF_bootPlaces_end (Fld.unmerged_of_addr (by decide)) (Or.inl (by decide)) _).trans hg

end

end Sys2Proof.Machine
end

section
/-!
# BOOT runs to its outcome or to a step that waits
-/

namespace Sys2Proof.Machine

theorem State.bootStep4_goes (s : State) : s.bootGoes (if s.flsBusy then (s, false) else s.bootNext) := by
  split
  · exact State.bootGoes_wait rfl
  · exact State.bootGoes_next rfl

theorem State.bootStep_goes {s : State} (hb : s.sys.dev = .boot) (h2 : 2 ≤ s.boot.step) : s.bootGoes s.bootStep := by
  unfold State.bootStep
  rw [if_neg (by omega)]
  have ht := s.spine_wdReload 2
  generalize s.wdReload 2 = t at ht ⊢
  have hb : t.sys.dev = .boot := (State.bootKept_of_same ht).2.2.trans hb
  refine State.bootGoes_congr ht ?_
  dsimp only
  split
  · exact t.bootStep2_goes
  · exact State.bootStep3_goes hb
  · exact t.bootStep4_goes
  · exact t.bootStep5_goes
  · exact State.bootStep6_goes hb
  · exact State.bootStep7_goes hb
  · exact State.bootStep8_goes hb
  · exact State.bootStep9_goes hb
  · exact State.bootStep10_goes hb
  · exact State.bootStep11_goes hb
  · exact State.bootStep12_goes hb
  · exact State.bootStep13_goes hb
  · exact t.bootStep14_goes
  · exact State.bootStep15_goes hb
  · exact State.bootGoes_wait rfl

/-- BOOT has ended with one of its outcomes or waits before a further step. -/
def State.bootOutcome (u : State) : Prop := u.bootEnded ∨ (u.sys.dev = .boot ∧ 2 ≤ u.boot.step)

theorem State.bootRun_outcome (fuel : Nat) {s : State} (hb : s.sys.dev = .boot) (h2 : 2 ≤ s.boot.step) :
    s.bootKept (s.bootRun fuel) ∧ (s.bootRun fuel).bootOutcome := by
  induction fuel generalizing s with
  | zero => exact ⟨⟨rfl, rfl, rfl⟩, .inr ⟨hb, h2⟩⟩
  | succ fuel ih =>
    obtain ⟨hk, h⟩ := State.bootStep_goes hb h2
    unfold State.bootRun
    dsimp only
    rcases h with ⟨hr, hd, hn⟩ | ⟨hr, he⟩ | ⟨hr, hd, hn⟩
    · rw [if_pos hr]
      obtain ⟨hk', ho⟩ := ih (hd.trans hb) (by omega)
      exact ⟨hk.trans hk', ho⟩
    · rw [if_neg (by rw [hr]; decide)]
      exact ⟨hk, .inl he⟩
    · rw [if_neg (by rw [hr]; decide)]
      exact ⟨hk, .inr ⟨hd.trans hb, hn.symm ▸ h2⟩⟩

/-! ## BOOT_CONTINUE -/

theorem State.bootRun_of_stop {fuel : Nat} {s : State} (h : s.bootStep.2 = false) : s.bootRun (fuel + 1) = s.bootStep.1 := by
  unfold State.bootRun
  dsimp only
  rw [if_neg (by rw [h]; decide)]

theorem State.bootRun_of_ended {s : State} (h : s.boot.step = 0) : s.bootRun 16 = s := by
  have hs : s.bootStep = (s, false) := by
    unfold State.bootStep
    rw [if_pos h]
    dsimp only
    rw [h]
    rfl
  rw [State.bootRun_of_stop (by rw [hs]), hs]

theorem State.bootRun_places {s : State} (h : s.boot.step = 15) (hp : (s.wdReload 2).pbHeld.2 = none) :
    (s.bootRun 16).sys.dev = .places ∧ (s.bootRun 16).getF R.SYS_BOOT_CODE = 1 := by
  have hn : (s.wdReload 2).boot.step = 15 := (State.bootKept_of_same (s.spine_wdReload 2)).2.1.trans h
  have hs : s.bootStep = (s.wdReload 2).bootStep15 := by
    unfold State.bootStep
    rw [if_neg (by omega)]
    dsimp only
    rw [hn]
    rfl
  rw [State.bootStep15_of_held hp] at hs
  rw [State.bootRun_of_stop (by rw [hs]), hs]
  generalize (s.wdReload 2).pbHeld.1 = t
  obtain ⟨hc, -, hu⟩ := t.bootPlaces_spec
  obtain ⟨-, -, hd⟩ := State.bootKept_of_spine (((State.spine_restartEnd _ St.ok).trans t.bootPlaces.spine_bootEvent).trans hu) rfl
  exact ⟨hd, (t.bootPlaces.getF_bootPlaces_end State.bootCode_unmerged (Or.inl (by decide)) _).trans hc⟩

theorem bootContinueRow (s : State) : ∃ u : State, exec .bootContinue s = .next u.settle ∧
    (s.sys.dev ≠ .boot ∨ s.boot.step = 0 → u = s) ∧
    (s.sys.dev = .boot → 2 ≤ s.boot.step → u.bootOutcome) ∧
    (s.sys.dev = .boot → s.boot.step = 15 → (s.wdReload 2).pbHeld.2 = none →
      u.sys.dev = .places ∧ u.getF R.SYS_BOOT_CODE = 1) := by
  refine ⟨if s.sys.dev = .boot then State.bootRun 16 s else s, rfl, ?_, ?_, ?_⟩
  · rintro (hd | h0)
    · rw [if_neg hd]
    · rw [State.bootRun_of_ended h0, ite_self]
  · intro hb h2
    rw [if_pos hb]
    exact (State.bootRun_outcome 16 hb h2).2
  · intro hb h15 hp
    rw [if_pos hb]
    exact State.bootRun_places h15 hp

/-! ## The start of BOOT -/

/-- BOOT's record and the register of its kind at its start. -/
def State.bootStarted (s : State) (warm recover : Bool) : State :=
  let s := s.modBoot fun b =>
    { warm := warm, step := 2, recover := recover, t0 := s.cue.time.toNat, countDue := b.countDue, hdrInit := b.hdrInit, hdrDead := b.hdrDead,
      hdrAddr := b.hdrAddr }
  (s.modSys fun y => { y with dev := .boot }).setF R.SYS_BOOT_WARM warm.toNat

theorem State.bootStart_eq (s : State) (warm recover : Bool) :
    s.bootStart warm recover = (s.bootStarted warm recover).bootRun 16 := rfl

theorem State.bootStart_outcome (s : State) (warm recover : Bool) :
    s.bootKept (s.bootStart warm recover) ∧ (s.bootStart warm recover).bootOutcome :=
  (s.bootStarted warm recover).bootRun_outcome 16 rfl (Nat.le_refl 2)

/-- With RECOVERY asked for, BOOT enters it at step 2. -/
theorem State.bootRun_recovery {s : State} {code : Nat} (h : s.boot.step = 2)
    (hr : (s.wdReload 2).bootStep2 = ((s.wdReload 2).enterRecovery code, false)) :
    s.bootRun 16 = (s.wdReload 2).enterRecovery code := by
  have hn : (s.wdReload 2).boot.step = 2 := (State.bootKept_of_same (s.spine_wdReload 2)).2.1.trans h
  have hs : s.bootStep = ((s.wdReload 2).enterRecovery code, false) := by
    unfold State.bootStep
    rw [if_neg (by omega)]
    dsimp only
    rw [hn]
    exact hr
  rw [State.bootRun_of_stop (by rw [hs]), hs]

theorem State.bootStep2_of_low {s : State} (hw : s.boot.warm = false) (hr : s.boot.recover = true) :
    s.bootStep2 = (s.enterRecovery 0x21, false) := by
  unfold State.bootStep2
  rw [if_pos (by rw [hw, hr]; decide)]

theorem State.bootStep2_of_asked {s : State} (hw : s.boot.warm = true) (hr : s.sys.recoveryReq = true) :
    s.bootStep2 = (s.enterRecovery 0x22, false) := by
  unfold State.bootStep2
  rw [if_neg (by simp [hw]), if_pos (by rw [hw, hr]; decide)]

theorem State.bootStart_low (s : State) :
    s.bootStart false true = ((s.bootStarted false true).wdReload 2).enterRecovery 0x21 :=
  (s.bootStart_eq false true).trans
    (State.bootRun_recovery (s := s.bootStarted false true) rfl (State.bootStep2_of_low rfl rfl))

theorem State.bootStart_asked {s : State} (h : s.sys.recoveryReq = true) :
    s.bootStart true false = ((s.bootStarted true false).wdReload 2).enterRecovery 0x22 :=
  (s.bootStart_eq true false).trans
    (State.bootRun_recovery (s := s.bootStarted true false) rfl (State.bootStep2_of_asked rfl h))

end Sys2Proof.Machine
end

section
/-!
# RECOVERY asked for at a reset: its entry stores nothing
-/

namespace Sys2Proof.Machine

/-! ## RECOVERY's entry copies nothing while HOST has no buffers -/

/-- `u` has the memory and the counters of `s`. -/
def State.sameCells (s u : State) : Prop := u.mem = s.mem ∧ u.cue = s.cue

theorem State.sameCells.trans {s t u : State} (h : s.sameCells t) (k : t.sameCells u) : s.sameCells u :=
  ⟨k.1.trans h.1, k.2.trans h.2⟩

/-- The buffers of all sessions would lie at address 0, where no working memory is. -/
theorem State.hostBuf_of_base_zero {s : State} (h : s.getF R.HOST_BUFBASE_ADDR = 0) (i off : Nat) (ho : off < 0x8000) :
    s.hostBuf i off = none := by
  unfold State.hostBuf
  extract_lets a
  have ha : a < 0x08000000 := by
    simp only [a, h]
    omega
  refine if_neg fun hr => ?_
  have hlow : a < 0x40000 ∨ ¬ a < 0x40000 := em _
  unfold regionOf at hr
  rcases hlow with hlow | hlow
  · rw [if_pos hlow] at hr
    exact absurd hr (by decide)
  · rw [if_neg hlow, if_neg (by omega), if_neg (by omega), if_neg (by omega), if_neg (by omega), if_neg (by omega),
      if_neg (by omega), if_neg (by omega), if_neg (by omega)] at hr
    exact absurd hr (by decide)

theorem State.sameCells_hostReply {s : State} {i : Nat} {x : HostSess} (h : s.session i = some x)
    (hb : s.getF R.HOST_BUFBASE_ADDR = 0) (off : Nat) (ho : off < 0x8000) (l : List Byte) : s.sameCells (s.hostReply i off l) := by
  obtain ⟨⟨hst, -⟩, -, -, -, hnone⟩ := State.hostReply_spec h off l
  have hn : (if x.iface = 0 then s.hostBuf i off else none) = none := by
    rw [State.hostBuf_of_base_zero hb i off ho, ite_self]
  refine ⟨(hnone hn).1, ?_⟩
  rw [hst]
  rfl

theorem State.sameCells_hostNotify {s : State} (hb : s.getF R.HOST_BUFBASE_ADDR = 0) (i status : Nat) (payload : List Byte) :
    s.sameCells (s.hostNotify i status payload) := by
  unfold State.hostNotify
  split
  · exact ⟨rfl, rfl⟩
  · next x hx =>
    have hx' : s.fresh.2.session i = some x := hx
    have hb' : s.fresh.2.getF R.HOST_BUFBASE_ADDR = 0 := hb
    obtain ⟨hm, hc⟩ := State.sameCells_hostReply hx' hb' 0x5000 (by decide)
      (hostFrame Op.notify 2 i (s.fresh.1 % 2 ^ 16) status payload)
    exact ⟨hm, hc⟩

theorem State.sameCells_restartFail {s : State} (hb : s.getF R.HOST_BUFBASE_ADDR = 0) : s.sameCells s.restartFail := by
  unfold State.restartFail
  have hb' : s.fresh.2.getF R.HOST_BUFBASE_ADDR = 0 := hb
  have hs : s.sameCells s.fresh.2 := ⟨rfl, rfl⟩
  generalize s.fresh = p at hb' hs
  obtain ⟨q, t⟩ := p
  refine hs.trans ?_
  dsimp only at hb' ⊢
  unfold State.restartEnd
  split
  · split
    · unfold State.longEnd
      split
      · exact ⟨rfl, rfl⟩
      · next i _ _ _ =>
        exact State.sameCells_hostNotify (s := t.modHost fun h => { h with long := none }) hb' i _ []
    · exact ⟨rfl, rfl⟩
  · exact ⟨rfl, rfl⟩

theorem State.sameCells_romJoin (s : State) : s.sameCells s.romJoin := by
  obtain ⟨t, k, ⟨ht, -⟩, hu⟩ := s.romJoin_spec
  rw [hu]
  rw [ht]
  exact ⟨rfl, rfl⟩

theorem State.sameCells_enterRecovery {s : State} (hb : s.getF R.HOST_BUFBASE_ADDR = 0) (code : Nat) :
    s.sameCells (s.enterRecovery code) := by
  have hr : (s.recovering code).getF R.HOST_BUFBASE_ADDR = 0 :=
    (State.getF_setF_apart s (f := R.HOST_BUFBASE_ADDR) (g := R.SYS_BOOT_CODE) code (by decide) (Or.inl (by decide))).trans hb
  have h0 : s.sameCells (s.recovering code) := ⟨rfl, rfl⟩
  rw [State.enterRecovery_eq]
  exact (h0.trans (State.sameCells_restartFail hr)).trans (State.sameCells_romJoin _)

/-! ## RECOVERY at the start of BOOT (R195) -/

theorem State.bootStart_recovery {s u : State} {warm recover : Bool} {code : Nat} (hc : code < 256)
    (hb : s.getF R.HOST_BUFBASE_ADDR = 0)
    (hu : s.bootStart warm recover = u) (h : u = ((s.bootStarted warm recover).wdReload 2).enterRecovery code) :
    u.sys.dev = .recovery ∧ u.sys.recoveryReq = false ∧ u.getF R.SYS_BOOT_CODE = code ∧ u.getF R.SYS_BOOT_WARM = warm.toNat ∧
      s.sameCells u := by
  have hs := (((s.bootStarted warm recover).wdReload 2).spine_enterRecovery code)
  have hbase : ((s.bootStarted warm recover).wdReload 2).getF R.HOST_BUFBASE_ADDR = 0 :=
    (State.getF_setF_apart s (f := R.HOST_BUFBASE_ADDR) (g := R.SYS_BOOT_WARM) warm.toNat (by decide) (Or.inl (by decide))).trans hb
  have hwarm : (((s.bootStarted warm recover).wdReload 2).setF R.SYS_BOOT_CODE code).getF R.SYS_BOOT_WARM = warm.toNat := by
    rw [State.getF_setF_apart _ _ (by decide) (Or.inr (Or.inr (by decide)))]
    exact State.getF_setF_of_lt s (f := R.SYS_BOOT_WARM) (by decide) (by decide) (by cases warm <;> decide)
  have h0 : s.sameCells ((s.bootStarted warm recover).wdReload 2) := ⟨rfl, rfl⟩
  rw [h]
  refine ⟨?_, ?_, State.bootCode_enterRecovery _ hc, ?_, h0.trans (State.sameCells_enterRecovery hbase code)⟩
  · exact (State.bootKept_of_spine hs rfl).2.2
  · have hk : (((s.bootStarted warm recover).wdReload 2).enterRecovery code).spine.sys.recoveryReq = false := by rw [hs]; rfl
    exact hk
  · rw [State.getF_enterRecovery _ _ (Fld.unmerged_of_addr (by decide)) (by decide)]
    exact hwarm

end Sys2Proof.Machine
end

section
/-!
# What the resets keep
-/

namespace Sys2Proof.Machine

/-! ## Sessions' buffers after a reset -/

theorem State.base_of_reg {s : State} (h : s.getReg R.HOST_BUFBASE = 0) : s.getF R.HOST_BUFBASE_ADDR = 0 := by
  unfold State.getF
  rw [show R.HOST_BUFBASE_ADDR.addr = R.HOST_BUFBASE from rfl, h]
  decide

theorem regReset_HOST_BUFBASE : regReset R.HOST_BUFBASE = 0 := by decide

theorem State.getReg_dropMem (s : State) (p : Nat → Bool) (a : Nat) : (s.dropMem p).getReg a = s.getReg a := rfl

theorem bufbase_not_alwaysKept : R.HOST_BUFBASE ∉ alwaysKept := by
  intro h
  rcases List.mem_cons.1 h with h | h
  · exact absurd h (by decide)
  · rcases List.mem_cons.1 h with h | h
    · exact absurd h (by decide)
    · obtain ⟨n, hlt, hn⟩ := wakecfg_mem.1 h
      unfold R.GPIO_WAKECFG R.HOST_BUFBASE at hn
      omega

theorem bufbase_not_warmRegs : R.HOST_BUFBASE ∉ warmRegs := by
  intro h
  unfold warmRegs at h
  rcases List.mem_append.1 h with h | h
  · rcases List.mem_append.1 h with h | h
    · exact absurd h (by decide)
    · obtain ⟨n, -, hn⟩ := List.mem_map.1 h
      unfold R.USTD_MMINFO R.HOST_BUFBASE at hn
      omega
  · obtain ⟨n, -, hn⟩ := List.mem_map.1 h
    unfold R.FLS_PGBUF R.HOST_BUFBASE at hn
    omega

/-! ## A power-on reset (R154, R160) -/

/-- What a power-on reset leaves of `s` apart from the always-on domain, before the black box counts the boot. -/
def State.powerKept (s : State) : State :=
  { s.kept.dropMem volatileMem with
    dramEpoch := s.dramEpoch + 1, ecc := s.ecc.filter fun e => !volatileMem (8 * e.1), drcWaking := true,
    boot := { s.boot with step := 0, countDue := true } }

theorem State.powerOn_eq (s : State) : s.powerOn = (s.keepAlways s.powerKept).secLatch.bbxFresh := rfl

theorem State.secLatch_eq (s : State) : ∃ v, s.secLatch = s.setReg R.SEC_KEYSTAT v := ⟨_, rfl⟩

theorem State.bbxFresh_eq (s : State) : ∃ b, s.bbxFresh = { s with bbx := b } := ⟨_, rfl⟩

theorem State.getReg_withBbx (s : State) (b : Bbx) (a : Nat) : State.getReg { s with bbx := b } a = s.getReg a := rfl

theorem State.keepAlways_latched (s t : State) (h : t.getReg R.HOST_BUFBASE = 0) : ∃ r b,
    (s.keepAlways t).secLatch.bbxFresh = { t with regs := r, bbx := b } ∧
      (s.keepAlways t).secLatch.bbxFresh.getReg R.HOST_BUFBASE = 0 := by
  have hk := s.keepAlways_eq t
  have hr := (s.getReg_keepAlways_of_not_mem t bufbase_not_alwaysKept).trans h
  generalize s.keepAlways t = u at hk hr ⊢
  obtain ⟨v, hv⟩ := u.secLatch_eq
  obtain ⟨b, hb⟩ := (u.setReg R.SEC_KEYSTAT v).bbxFresh_eq
  rw [hv, hb]
  refine ⟨(u.setReg R.SEC_KEYSTAT v).regs, b, ?_, ?_⟩
  · rw [hk]
    rfl
  · rw [State.getReg_withBbx, State.getReg_setReg, if_neg (by decide), hr]

theorem State.powerOn_frame (s : State) : ∃ r b, s.powerOn = { s.powerKept with regs := r, bbx := b } ∧
    s.powerOn.getReg R.HOST_BUFBASE = 0 := by
  rw [s.powerOn_eq]
  have hr : s.powerKept.getReg R.HOST_BUFBASE = regReset R.HOST_BUFBASE := rfl
  exact s.keepAlways_latched s.powerKept (hr.trans regReset_HOST_BUFBASE)

theorem State.powerOn_spec (s : State) : s.powerOn.pending = s.pending ∧ s.powerOn.cue = {} ∧
    s.powerOn.mem = (s.dropMem volatileMem).mem ∧ s.powerOn.getF R.HOST_BUFBASE_ADDR = 0 := by
  obtain ⟨r, b, hu, hr⟩ := s.powerOn_frame
  have hb := State.base_of_reg hr
  generalize s.powerOn = u at hu hb ⊢
  subst hu
  exact ⟨rfl, rfl, rfl, hb⟩

/-- What SRAM holds after it: 0, as nothing is stored. -/
theorem memDefault_sram {a : Nat} (h1 : a < 0x26000000) (h2 : ¬ (0x08300000 ≤ a ∧ a < 0x08310000)) : memDefault a = some 0#8 := by
  unfold memDefault
  rw [if_neg (by omega), if_neg (by omega)]

/-! ## A warm reset (R27, R44, R154) -/

/-- What a warm reset keeps, before registers are put over and a suspended erase goes on. -/
def State.warmKept (s : State) : State :=
  { s.kept.dropMem romStore with
    cue := { count := s.cue.count, time := s.cue.time, halfNs := s.cue.halfNs }, nozzles := s.nozzles, host := s.host.warm
    afe := { halves := s.afe.halves, good := s.afe.good }
    sys := { (s.kept.dropMem romStore).sys with recoveryReq := s.sys.recoveryReq } }

/-- `u` is `s` but for registers, the flash unit and the controller's waking. -/
def State.warmed (s u : State) : Prop :=
  (∃ r f d, u = { s with regs := r, fls := f, drcWaking := d }) ∧ u.getReg R.HOST_BUFBASE = s.getReg R.HOST_BUFBASE

theorem State.warmed_refl (s : State) : s.warmed s := ⟨⟨s.regs, s.fls, s.drcWaking, rfl⟩, rfl⟩

theorem State.warmed.trans {s t u : State} (h : s.warmed t) (k : t.warmed u) : s.warmed u := by
  obtain ⟨⟨r, f, d, rfl⟩, h2⟩ := h
  obtain ⟨⟨r', f', d', rfl⟩, k2⟩ := k
  exact ⟨⟨r', f', d', rfl⟩, k2.trans h2⟩

theorem State.warmed_setReg (s : State) {a : Nat} (v : Word) (h : R.HOST_BUFBASE ≠ a) : s.warmed (s.setReg a v) :=
  ⟨⟨_, _, _, rfl⟩, by rw [State.getReg_setReg, if_neg h]⟩

theorem State.warmed_keepReg (s0 s : State) {a : Nat} (m : Word) (h : R.HOST_BUFBASE ≠ a) : s.warmed (s0.keepReg s a m) :=
  s.warmed_setReg _ h

theorem State.warmed_flsContinue (s : State) : s.warmed s.flsContinue := by
  unfold State.flsContinue
  split
  · next o _ =>
    have h0 : s.warmed (s.modFls fun f => { f with op := some o, susp := none }) := ⟨⟨_, _, _, rfl⟩, rfl⟩
    exact (h0.trans (State.warmed_setReg _ _ (by decide))).trans (State.warmed_setReg _ _ (by decide))
  · exact (s.warmed_setReg _ (by decide)).trans (State.warmed_setReg _ _ (by decide))

theorem State.warmed_keepRegs (s0 s : State) : s.warmed (s0.keepAlways (s0.keepRegs s warmRegs)) := by
  have h1 : s.warmed (s0.keepRegs s warmRegs) :=
    ⟨⟨_, _, _, s0.keepRegs_eq s warmRegs⟩, (s0.getReg_keepRegs s warmRegs R.HOST_BUFBASE).trans (if_neg bufbase_not_warmRegs)⟩
  generalize s0.keepRegs s warmRegs = v at h1 ⊢
  exact h1.trans ⟨⟨_, _, _, s0.keepAlways_eq v⟩, s0.getReg_keepAlways_of_not_mem v bufbase_not_alwaysKept⟩

theorem State.warmReset_warmed (s : State) : s.warmKept.warmed s.warmReset := by
  have h := s.warmed_keepRegs s.warmKept
  unfold State.warmReset
  extract_lets t0 t1 t2 t3 t4 t5 t6 t7
  have h2 : t2 = s.warmKept := rfl
  rw [← h2] at h ⊢
  have h4 : t3.warmed t4 := s.warmed_keepReg t3 _ (by decide)
  have h5 : t4.warmed t5 := s.warmed_keepReg t4 _ (by decide)
  have h6 : t5.warmed t6 := s.warmed_keepReg t5 _ (by decide)
  have h7 : t6.warmed t7 := by
    unfold t7
    split
    · exact t6.warmed_flsContinue
    · exact t6.warmed_refl
  have h3 : t2.warmed t3 := h
  have h8 := (((h3.trans h4).trans h5).trans h6).trans h7
  generalize t7 = v at h8 ⊢
  have h9 : v.warmed { v with drcWaking := true } := ⟨⟨_, _, _, rfl⟩, rfl⟩
  exact (h8.trans h9).trans (State.warmed_setReg _ _ (by decide))

end Sys2Proof.Machine
end

section
/-!
# POWER_ON_RESET, WARM_RESET and statement O32
-/

namespace Sys2Proof.Machine

theorem State.warmReset_spec (s : State) : s.warmReset.pending = s.pending ∧ s.warmReset.cue.time = s.cue.time ∧
    s.warmReset.cue.count = s.cue.count ∧ s.warmReset.sys.resetDue = false ∧
    s.warmReset.sys.recoveryReq = s.sys.recoveryReq ∧ s.warmReset.mem = (s.dropMem romStore).mem ∧
    s.warmReset.getF R.HOST_BUFBASE_ADDR = 0 := by
  obtain ⟨⟨r, f, d, hu⟩, hr⟩ := s.warmReset_warmed
  have hw : s.warmKept.getReg R.HOST_BUFBASE = regReset R.HOST_BUFBASE := rfl
  have hb := State.base_of_reg ((hr.trans hw).trans regReset_HOST_BUFBASE)
  generalize s.warmReset = u at hu hb ⊢
  subst hu
  exact ⟨rfl, rfl, rfl, rfl, rfl, rfl, hb⟩

/-! ## SRAM across the resets -/

/-- A byte that unset reads 0. -/
theorem State.rd8_of_default {s : State} {a : Nat} (h : memDefault a = some 0#8) : s.rd8 a = (mfind s.mem a).getD 0#8 := by
  rw [State.rd8, h]
  cases mfind s.mem a <;> rfl

/-- SRAM apart from the ROM's part of local store 12. -/
def inSram (a : Nat) : Prop := 0x08000000 ≤ a ∧ a < 0x26000000 ∧ ¬ (0x08300000 ≤ a ∧ a < 0x08310000)

theorem State.rd8_of_volatile_dropped {s u : State} (hm : u.mem = (s.dropMem volatileMem).mem) {a : Nat} (ha : inSram a) :
    u.rd8 a = 0 := by
  obtain ⟨h1, h2, h3⟩ := ha
  have hv : volatileMem a = true := decide_eq_true (Or.inl ⟨h1, by omega⟩)
  rw [State.rd8_of_default (memDefault_sram h2 h3), hm, State.mfind_dropMem, if_pos hv]
  rfl

theorem State.rd8_of_rom_dropped {s u : State} (hm : u.mem = (s.dropMem romStore).mem) {a : Nat} (ha : inSram a) :
    u.rd8 a = s.rd8 a := by
  obtain ⟨-, h2, h3⟩ := ha
  have hv : ¬ romStore a = true := by
    rw [romStore, decide_eq_true_iff]
    exact h3
  rw [State.rd8_of_default (memDefault_sram h2 h3), State.rd8_of_default (memDefault_sram h2 h3), hm, State.mfind_dropMem, if_neg hv]

/-! ## The rows -/

theorem powerOnResetRow (wake low : Bool) (s : State) : ∃ u : State, exec (.powerOnReset wake low) s = .next u.settle ∧
    (s.sys.dev ≠ .dark → u = s) ∧
    (s.sys.dev = .dark → u.bootOutcome ∧ u.pending = s.pending ∧ u.cue.time = 0 ∧
      (low = true → u.sys.dev = .recovery ∧ u.getF R.SYS_BOOT_CODE = 0x21 ∧ u.getF R.SYS_BOOT_WARM = 0 ∧
        ∀ a, inSram a → u.rd8 a = 0)) := by
  refine ⟨if s.sys.dev = .dark then s.powerOn.bootStart false low else s, rfl, fun hd => if_neg hd, fun hd => ?_⟩
  rw [if_pos hd]
  obtain ⟨hp, hc, hm, hb⟩ := s.powerOn_spec
  generalize s.powerOn = t at hp hc hm hb
  obtain ⟨⟨kp, kt, -⟩, ho⟩ := t.bootStart_outcome false low
  refine ⟨ho, kp.trans hp, kt.trans (congrArg Cue.time hc), fun hlow => ?_⟩
  subst hlow
  obtain ⟨hdev, -, hcode, hwarm, hmem, -⟩ := State.bootStart_recovery (by decide) hb rfl t.bootStart_low
  exact ⟨hdev, hcode, hwarm, fun a ha => State.rd8_of_volatile_dropped (hmem.trans hm) ha⟩

theorem warmResetRow (s : State) : ∃ u : State, exec .warmReset s = .next u.settle ∧
    (¬ (s.sys.resetDue = true ∧ s.draining = false ∧ s.sys.dev ≠ .dark) → u = s) ∧
    (s.sys.resetDue = true → s.draining = false → s.sys.dev ≠ .dark → u.bootOutcome ∧ u.pending = s.pending ∧
      u.cue.time = s.cue.time ∧ u.sys.resetDue = false ∧
      (s.sys.recoveryReq = true → u.sys.dev = .recovery ∧ u.getF R.SYS_BOOT_CODE = 0x22 ∧ u.getF R.SYS_BOOT_WARM = 1 ∧
        u.sys.recoveryReq = false ∧ u.cue.count = s.cue.count ∧ ∀ a, inSram a → u.rd8 a = s.rd8 a)) := by
  refine ⟨if s.sys.resetDue ∧ s.draining = false ∧ s.sys.dev ≠ .dark then s.warmReset.bootStart true false else s, rfl,
    fun h => if_neg h, fun h1 h2 h3 => ?_⟩
  rw [if_pos ⟨h1, h2, h3⟩]
  obtain ⟨hp, ht, hn, hr, hq, hm, hb⟩ := s.warmReset_spec
  generalize s.warmReset = t at hp ht hn hr hq hm hb
  obtain ⟨⟨kp, kt, kr⟩, ho⟩ := t.bootStart_outcome true false
  refine ⟨ho, kp.trans hp, kt.trans ht, kr.trans hr, fun hreq => ?_⟩
  obtain ⟨hdev, hclr, hcode, hwarm, hmem, hcue⟩ :=
    State.bootStart_recovery (by decide) hb rfl (State.bootStart_asked (hq.trans hreq))
  exact ⟨hdev, hcode, hwarm, hclr, (congrArg Cue.count hcue).trans hn,
    fun a ha => State.rd8_of_rom_dropped (hmem.trans hm) ha⟩

/-- The outcomes in the statement's order. -/
theorem State.bootOutcome.cases {u : State} (h : u.bootOutcome) :
    (u.sys.dev = .places ∧ u.getF R.SYS_BOOT_CODE = 1 ∧ u.getF R.SYS_GOEN_EN = 0 ∧ u.boot.step = 0) ∨
      (u.sys.dev = .recovery ∧ u.getF R.SYS_BOOT_CODE ∈ [0x20, 0x21, 0x22] ∧ u.boot.step = 0) ∨
      (u.sys.dev = .boot ∧ u.getF R.SYS_BOOT_CODE ∈ [0x10, 0x11, 0x12, 0x13, 0x14, 0x15, 0x16, 0x17] ∧ u.boot.step = 0) ∨
      (u.sys.dev = .boot ∧ 2 ≤ u.boot.step) := by
  rcases h with (h | h | h) | h
  · exact .inl h
  · exact .inr (.inl h)
  · exact .inr (.inr (.inl h))
  · exact .inr (.inr (.inr h))

/-- Settles O32: every step of BOOT goes on, ends BOOT with its outcome, or waits; a reset keeps the queue and what the spec
keeps, and RECOVERY's entry stores nothing while HOST has no buffers. -/
theorem bootAndResets : Obligations.BootAndResets := by
  unfold Obligations.BootAndResets
  refine ⟨fun wake low s => ?_, fun s => ?_, fun s => ?_⟩
  · obtain ⟨u, hu, hn, hd⟩ := powerOnResetRow wake low s
    exact ⟨u, hu, hn, fun h => (hd h).imp_left State.bootOutcome.cases⟩
  · obtain ⟨u, hu, hn, hd⟩ := warmResetRow s
    exact ⟨u, hu, hn, fun h1 h2 h3 => (hd h1 h2 h3).imp_left State.bootOutcome.cases⟩
  · obtain ⟨u, hu, hn, ho, hp⟩ := bootContinueRow s
    exact ⟨u, hu, hn, fun h1 h2 _ => (ho h1 h2).cases, hp⟩

end Sys2Proof.Machine
end

section
/-!
# A stepped time counter retrains the jet ports (R280)
-/

namespace Sys2Proof.Machine

/-- The cue's record and the link states of the jet ports. -/
def State.links (s : State) : Cue × (Fin 32 → Nat) := (s.cue, fun p => s.jlink p)

theorem State.links_congr {s t : State} (hc : t.cue = s.cue) (hr : t.regs = s.regs) : t.links = s.links := by
  simp only [State.links, State.jlink, State.getF, State.getReg, hc, hr]

theorem State.links_foldl {β : Type} {f : State → β → State} (hf : ∀ s b, (f s b).links = s.links) (l : List β) (s : State) :
    (l.foldl f s).links = s.links := by
  induction l generalizing s with
  | nil => rfl
  | cons b l ih => rw [List.foldl_cons, ih, hf]

theorem State.links_ite {c : Prop} [Decidable c] (s t : State) :
    (if c then s else t).links = if c then s.links else t.links := apply_ite State.links c s t

/-- A field below the bits of LINK, or of a register outside those of the ports' states. -/
abbrev Fld.offLinks (f : Fld) : Prop := f.hi < 29 ∨ f.addr < R.JET_STAT 0 ∨ R.JET_STAT 31 < f.addr

/-- Such a field is no link state. -/
theorem State.links_setF (s : State) (f : Fld) (v : Nat) (h : f.offLinks) :
    (s.setF f v).links = s.links := by
  refine Prod.ext rfl (funext fun p => ?_)
  by_cases ha : (R.JET_STAT_LINK p).addr = f.addr
  · have hhi : f.hi < 29 := h.resolve_right fun hlt => by
      rw [← ha] at hlt
      have := p.isLt
      dsimp only [R.JET_STAT_LINK, R.JET_STAT] at hlt
      omega
    exact s.getF_setF_other f _ v (by omega) (Or.inr (Or.inr hhi))
  · exact congrArg (fun w => fieldOf w 31 29) (s.getReg_setF_of_ne v ha)

theorem State.links_lowerBit (s : State) (f : Fld) (b : Nat) (h : f.offLinks) :
    (s.lowerBit f b).links = s.links := by
  unfold State.lowerBit
  split
  · exact s.links_setF f _ h
  · rfl

/-! ## What the blocks do as a port leaves UP -/

@[simp] theorem State.links_modDrop (s : State) (f : Drop → Drop) : (s.modDrop f).links = s.links := State.links_congr rfl rfl
@[simp] theorem State.links_modJrnl (s : State) (f : Jrnl → Jrnl) : (s.modJrnl f).links = s.links := State.links_congr rfl rfl
@[simp] theorem State.links_modJet (s : State) (p : Nat) (f : JetPort → JetPort) : (s.modJet p f).links = s.links :=
  State.links_congr rfl rfl
@[simp] theorem State.links_modSys (s : State) (f : Sys → Sys) : (s.modSys f).links = s.links := State.links_congr rfl rfl
@[simp] theorem State.links_fresh (s : State) : s.fresh.2.links = s.links := State.links_congr rfl rfl

@[simp] theorem State.links_irqPulseIf (s : State) (en : Fld) (base : Nat) : (s.irqPulseIf en base).links = s.links := by
  obtain ⟨k, hk⟩ := s.irqPulseIf_eq en base
  rw [hk]
  exact State.links_congr rfl rfl

@[simp] theorem State.links_publish (s : State) (src : Nat) : (s.publish src).links = s.links := by
  have hcall (x : Call) : State.links { s with call := x } = s.links := State.links_congr rfl rfl
  have hcoin (t : State) (ch v : Nat) := t.links_setF (R.CALL_COIN_CNT ch) v (Or.inl (show 15 < 29 by decide))
  unfold State.publish State.enterChannel
  split
  · split
    · rfl
    · split
      · exact hcall _
      · simp [State.links_ite, hcoin, hcall]
  · rfl

@[simp] theorem State.links_trigger (s : State) (f : Fld) (h : f.offLinks) :
    (s.trigger f).links = s.links := by
  unfold State.trigger
  split
  · exact (State.links_modSys ..).trans (s.links_setF f 1 h)
  · exact s.links_setF f 1 h
  · rfl

@[simp] theorem State.links_pmemStore (s : State) (o : Nat) (l : List Byte) : (s.pmemStore o l).links = s.links := by
  rw [State.pmemStore, State.pmemAccept, State.pmcShow, State.links_setF _ _ _ (by decide), State.putFresh_eq]
  exact State.links_congr rfl rfl

@[simp] theorem State.links_recStore (s : State) (o state : Nat) (body : List Byte) :
    (s.recStore o state body).links = s.links := by
  simp [State.recStore]

@[simp] theorem State.links_capture1 (s : State) (k j next : Nat) : (s.capture1 k j next).links = s.links := by
  simp [State.capture1, State.links_ite]

@[simp] theorem State.links_defect (s : State) (j cause : Nat) : (s.defect j cause).links = s.links := by
  have hcnt (t : State) (v : Nat) := t.links_setF R.JRNL_DEFCNT_CNT v (by decide)
  have hstat (t : State) (v : Nat) := t.links_setF R.JRNL_STAT_DEFECT v (by decide)
  simp [State.defect, State.orderDefect, State.links_ite, hcnt, hstat]

@[simp] theorem State.links_jrnlSwathEnd (s : State) (j : Nat) : (s.jrnlSwathEnd j).links = s.links := by
  simp [State.jrnlSwathEnd, State.links_ite]

@[simp] theorem State.links_releaseSwath (s : State) (u : Nat) : (s.releaseSwath u).links = s.links := by
  have hun (t : State) (u k x : Nat) : (t.unhandle u k x).links = t.links := by
    unfold State.unhandle
    split <;> simp
  simp [State.releaseSwath, State.release, State.links_foldl, State.links_ite, hun]

@[simp] theorem State.links_nozzleSwap (s : State) : s.nozzleSwap.links = s.links := by
  have hn (x : Nozzles) : State.links { s with nozzles := x } = s.links := State.links_congr rfl rfl
  unfold State.nozzleSwap
  split
  · exact (State.links_setF _ R.BBX_STAT_FLUSHLAG 1 (by decide)).trans (hn _)
  · exact hn _

@[simp] theorem State.links_swathEndCheck (s : State) (u : Nat) : (s.swathEndCheck u).links = s.links := by
  have hend : (s.swathEnd u).links = s.links := by
    unfold State.swathEnd
    split
    · rfl
    · extract_lets t v
      have hv : v.links = s.links := by
        simp only [v, State.links_nozzleSwap]
        split <;> simp [t, State.dropRemove]
      split
      · exact (v.links_trigger _ (by decide)).trans hv
      · exact hv
  unfold State.swathEndCheck
  split
  · split
    · exact hend
    · rfl
  · rfl

@[simp] theorem State.links_step1End (s : State) : s.step1End.links = s.links := by
  simp [State.step1End, State.dropCurtain, State.jrnlCurtain, State.links_ite, State.links_foldl]

@[simp] theorem State.links_jetDiscard (s : State) (p : Nat) : (s.jetDiscard p).links = s.links := by
  have hlost (t : State) (v : Nat) := t.links_setF (R.JET_STAT_LOST p) v (Or.inl (show 1 < 29 by decide))
  have hcnt (t : State) (v : Nat) := t.links_setF (R.JET_ERRCNT_LOST p) v (Or.inl (show 23 < 29 by decide))
  simp [State.jetDiscard, State.links_ite, State.links_foldl, hlost, hcnt]

/-! ## Training (R274, R280, R286) -/

/-- The same with the link state of port `p` replaced. -/
def linksWith (l : Cue × (Fin 32 → Nat)) (p x : Nat) : Cue × (Fin 32 → Nat) := (l.1, fun q => if q.val = p then x else l.2 q)

theorem linksWith_linksWith (l : Cue × (Fin 32 → Nat)) (p x y : Nat) : linksWith (linksWith l p x) p y = linksWith l p y := by
  simp only [linksWith, Prod.mk.injEq, true_and]
  funext q
  split <;> rfl

theorem State.links_setLink (s : State) (p : Nat) {x : Nat} (hx : x < 8) :
    (s.setF (R.JET_STAT_LINK p) x).links = linksWith s.links p x := by
  refine Prod.ext rfl (funext fun q => ?_)
  dsimp only [State.links, State.jlink, linksWith]
  split
  · next h =>
    rw [h]
    exact s.getF_setF_of_lt (show 29 ≤ 31 by decide) (show 31 < 32 by decide) hx
  · next h =>
    refine s.getF_setF_other _ _ _ (show 31 < 32 by decide) (Or.inl ?_)
    dsimp only [R.JET_STAT_LINK, R.JET_STAT]
    omega

/-- A port that leaves UP touches neither the cue nor another port's link. -/
theorem State.links_jetLeave (s : State) (p : Nat) :
    (s.jetLeave p).links = s.links ∨ (s.jetLeave p).links = linksWith s.links p linkOff := by
  unfold State.jetLeave
  split
  · exact Or.inl rfl
  · right
    have hlow (t : State) (v : Nat) := t.links_setF (R.JET_STAT_INSVC p) v (Or.inl (show 8 < 29 by decide))
    have hjoin (t : State) (v : Nat) := t.links_setF (R.JET_STAT_JOINPEND p) v (Or.inl (show 9 < 29 by decide))
    have hbit (t : State) := t.links_lowerBit R.JET_INSVC_INSVC p (by decide)
    simp [State.links_setLink, linkOff, hlow, hjoin, hbit]

theorem State.links_jetTrain (s : State) (p : Nat) : (s.jetTrain p).links = linksWith s.links p linkTrain := by
  have hvalid (t : State) (v : Nat) := t.links_setF (R.JET_BSTAT_VALID p) v (Or.inl (show 0 < 29 by decide))
  have h : (s.jetTrain p).links = linksWith (s.jetLeave p).links p linkTrain := by
    simp [State.jetTrain, State.links_setLink, linkTrain, hvalid]
  rw [h]
  rcases s.links_jetLeave p with hl | hl
  · rw [hl]
  · rw [hl, linksWith_linksWith]

/-! ## Every port that is in use (R280) -/

/-- The step of port `p`. -/
def State.jetStepPort (s : State) (p : Nat) : State :=
  if s.jlink p = linkTrain ∨ s.jlink p = linkLoad ∨ s.jlink p = linkUp then s.jetTrain p else s

theorem State.jetStepPort_cue (s : State) (p : Nat) : (s.jetStepPort p).cue = s.cue := by
  unfold State.jetStepPort
  split
  · exact congrArg Prod.fst (s.links_jetTrain p)
  · rfl

theorem State.jlink_jetStepPort_same {s : State} {p : Nat} (hp : p < 32)
    (h : s.jlink p = linkTrain ∨ s.jlink p = linkLoad ∨ s.jlink p = linkUp) : (s.jetStepPort p).jlink p = linkTrain := by
  rw [State.jetStepPort, if_pos h]
  exact (congrFun (congrArg Prod.snd (s.links_jetTrain p)) ⟨p, hp⟩).trans (if_pos rfl)

theorem State.jlink_jetStepPort_other (s : State) {p q : Nat} (hq : q < 32) (h : q ≠ p) :
    (s.jetStepPort p).jlink q = s.jlink q := by
  unfold State.jetStepPort
  split
  · exact (congrFun (congrArg Prod.snd (s.links_jetTrain p)) ⟨q, hq⟩).trans (if_neg h)
  · rfl

theorem State.jetStepPorts_spec (l : List Nat) (s : State) :
    (l.foldl State.jetStepPort s).cue = s.cue ∧ ∀ q < 32,
      s.jlink q = linkTrain ∨ (q ∈ l ∧ (s.jlink q = linkLoad ∨ s.jlink q = linkUp)) →
        (l.foldl State.jetStepPort s).jlink q = linkTrain := by
  induction l generalizing s with
  | nil => exact ⟨rfl, fun q _ h => h.elim id fun h => absurd h.1 List.not_mem_nil⟩
  | cons p l ih =>
    obtain ⟨hcue, hlink⟩ := ih (s.jetStepPort p)
    refine ⟨hcue.trans (s.jetStepPort_cue p), fun q hq h => hlink q hq ?_⟩
    by_cases hqp : q = p
    · subst hqp
      exact Or.inl (State.jlink_jetStepPort_same hq (h.imp_right And.right))
    · rw [s.jlink_jetStepPort_other hq hqp]
      exact h.imp_right fun ⟨hm, hu⟩ => ⟨(List.mem_cons.1 hm).resolve_left hqp, hu⟩

/-- Ports that train, load or are up go back to TRAIN; the cue is left alone. -/
theorem State.jetStep_spec (s : State) : s.jetStep.cue = s.cue ∧
    ∀ p < 32, s.getF (R.JET_STAT_LINK p) ∈ [1, 2, 3] → s.jetStep.getF (R.JET_STAT_LINK p) = 1 := by
  obtain ⟨hcue, hlink⟩ := State.jetStepPorts_spec (List.range 32) s
  refine ⟨hcue, fun p hp h => hlink p hp ?_⟩
  simp only [List.mem_cons, List.not_mem_nil, or_false] at h
  exact h.imp_right fun h => ⟨List.mem_range.2 hp, h⟩

end Sys2Proof.Machine
end

section
/-!
# CUE_DONE, CUE_PRE, CUE_HOLDOVER and the follower's lock: statements O58 and O28
-/

namespace Sys2Proof.Machine

/-! ## Latching interrupt lines stops no core -/

theorem State.linesOnly_refl (s : State) : s.linesOnly s := ⟨rfl, fun _ => rfl⟩

theorem State.linesOnly.trans {s t u : State} (h : s.linesOnly t) (k : t.linesOnly u) : s.linesOnly u := by
  obtain ⟨hst, hcore⟩ := h
  obtain ⟨htu, kcore⟩ := k
  refine ⟨by rw [htu, hst], fun n => ?_⟩
  rw [kcore n, hcore n]

theorem State.linesOnly_setCore (s : State) (n : Nat) (x : BitVec 48) :
    s.linesOnly (s.setCore n { s.core n with ipend := x }) := by
  refine ⟨rfl, fun k => ?_⟩
  rw [State.core_setCore]
  split
  · next h => rw [h]
  · rfl

theorem State.linesOnly_latchLine (s : State) (core line : Nat) : s.linesOnly (s.latchLine core line) := by
  unfold State.latchLine State.eachCopy
  extract_lets n t
  have ht : s.linesOnly t := s.linesOnly_setCore n _
  split
  · exact ht.trans (t.linesOnly_setCore (n + 1) _)
  · exact ht

theorem State.linesOnly_settle (s : State) : s.linesOnly s.settle := by
  unfold State.settle
  generalize s.irqMap = l
  suffices h : ∀ t, s.linesOnly t →
      s.linesOnly (l.foldl (fun t e => if s.irqLevel e.base e.output then t.latchLine e.core e.line else t) t) from
    h s s.linesOnly_refl
  induction l with
  | nil => exact fun t ht => ht
  | cons e l ih =>
    intro t ht
    refine ih _ ?_
    dsimp only
    split
    · exact ht.trans (t.linesOnly_latchLine ..)
    · exact ht

/-- A core that lines reach can issue what it could issue before. -/
theorem State.linesOnly.canIssue {s t : State} (h : s.linesOnly t) (x : Hart) : t.canIssue x = s.canIssue x := by
  obtain ⟨hst, hcore⟩ := h
  have hpair : t.pairs = s.pairs := by rw [hst]
  have hupd : t.upd = s.upd := by rw [hst]
  unfold State.canIssue State.hart State.pair State.paused
  rw [hcore, hpair, hupd]

theorem State.settle_cue (s : State) : s.settle.cue = s.cue := by
  obtain ⟨k, hk⟩ := s.settle_eq
  rw [hk]

theorem State.cueRuns_settle (s : State) : s.settle.cueRuns = s.cueRuns := State.cueRuns_congr s.settle_sys

/-! ## CUE_DONE (R47, R49, R50) -/

theorem exec_cueDone (n : Fin 4) (s : State) :
    exec (.cueDone n) s = .next (State.settle (if s.canIssue (hartOfPair n) then s.cueDone n else s)) := rfl

theorem exec_cueDone_issued {s : State} {n : Fin 4} (h : s.canIssue (hartOfPair n) = true) :
    exec (.cueDone n) s = .next (s.cueDone n).settle := by
  rw [exec_cueDone, if_pos h]

/-- A CUE_DONE without a cue, or of a pair that cannot issue it, is none. -/
theorem exec_cueDone_ignored {s : State} {n : Fin 4} (h : s.cueRuns = false ∨ ¬ s.canIssue (hartOfPair n) = true) :
    exec (.cueDone n) s = .next s.settle := by
  rw [exec_cueDone]
  split
  · next hi =>
    have hc : s.cueRuns = false := h.resolve_right fun hn => hn hi
    rw [State.cueDone, hc]
    rfl
  · rfl

/-- The cue's record after the first CUE_DONE of pair `n`. -/
def State.doneFirst (s : State) (n : Nat) : Cue :=
  { s.cue with done := s.cue.done ||| BitVec.ofNat 4 (2 ^ n), doneClk := mset s.cue.doneClk n (s.clk, mget 0 s.cue.k n),
               k := mset s.cue.k n 0 }

theorem State.cueDone_first {s : State} {n : Nat} (hc : s.cueRuns = true) (hd : s.cue.done.getLsbD n = false) :
    s.cueDone n = { s with cue := s.doneFirst n } := by
  rw [State.cueDone, hc, hd]
  rfl

theorem State.doneFirst_done (s : State) (n : Fin 4) (m : Nat) :
    (s.doneFirst n).done.getLsbD m = (s.cue.done.getLsbD m || (decide (m < 4) && decide (m = n.val))) := by
  rw [show (s.doneFirst n).done = s.cue.done ||| BitVec.ofNat 4 (2 ^ n.val) from rfl, BitVec.getLsbD_or, BitVec.getLsbD_ofNat,
    Nat.testBit_two_pow]
  simp only [eq_comm]

/-- A CUE_DONE of a pair whose CUE_DONE of this cue is recorded (R49): only DUPDONE is set, and the cycle of the write kept. -/
theorem exec_cueDone_again {s : State} {n : Fin 4} (hc : s.cueRuns = true) (hi : s.canIssue (hartOfPair n) = true)
    (hd : s.cue.done.getLsbD n = true) : ∃ v : State, exec (.cueDone n) s = .next v.settle ∧
      { s with cue := { s.cue with again := v.cue.again } }.onlyFields v [R.CUE_STAT_DUPDONE] ∧ v.getF R.CUE_STAT_DUPDONE = 1 := by
  refine ⟨s.cueDone n, exec_cueDone_issued hi, ?_⟩
  have hv : s.cueDone n =
      State.setF { s with cue := { s.cue with again := mset s.cue.again n (s.clk, s.flag R.CUE_STAT_DUPDONE) } }
        R.CUE_STAT_DUPDONE 1 := by
    rw [State.cueDone, hc, hd]
    rfl
  rw [hv]
  exact ⟨(State.onlyFields_refl _ _).setF List.mem_cons_self (by decide) 1,
    State.getF_setF_of_lt _ (by decide) (by decide) (by decide)⟩

/-- Settles O58: the first CUE_DONE of a pair records it, lines that follow stop neither the cue nor the pair, and so a second
one finds the record. -/
theorem secondCueDoneIsIgnored : Obligations.SecondCueDoneIsIgnored := by
  unfold Obligations.SecondCueDoneIsIgnored
  intro n s hc hi ignored
  have again {t : State} (ht : t.sys = s.sys) (hti : t.canIssue (hartOfPair n) = true) (hd : t.cue.done.getLsbD n = true) :
      ignored t.settle := by
    refine exec_cueDone_again ?_ ?_ ?_
    · rw [State.cueRuns_settle, State.cueRuns_congr ht, hc]
    · rw [t.linesOnly_settle.canIssue, hti]
    · rw [t.settle_cue, hd]
  refine ⟨exec_cueDone_again hc hi, (s.cueDone n).settle, exec_cueDone_issued hi, ?_⟩
  cases hd : s.cue.done.getLsbD n with
  | false =>
    have hdone : (s.doneFirst n).done.getLsbD n = true := by rw [s.doneFirst_done, decide_eq_true n.isLt]; simp
    rw [State.cueDone_first hc hd]
    exact ⟨by rw [State.settle_cue]; exact hdone, again rfl hi hdone⟩
  | true =>
    have hv : s.cueDone n = (s.raise R.CUE_STAT_DUPDONE).modCue fun c =>
        { c with again := mset c.again n (s.clk, s.flag R.CUE_STAT_DUPDONE) } := by
      rw [State.cueDone, hc, hd]
      rfl
    rw [hv]
    exact ⟨by rw [State.settle_cue]; exact hd, again rfl hi hd⟩


/-! ## CUE_PRE, CUE_HOLDOVER and the follower's lock (R53 to R57) -/

theorem exec_cuePre (s : State) : exec .cuePre s =
    .next (State.settle (if s.cueRuns = true ∧ s.getF R.CUE_PRE_OFFSET ≠ 0 then s.publish 1 else s)) := by
  rw [show exec .cuePre s = .next (State.settle (if s.cueRuns && s.flag R.CUE_PRE_OFFSET then s.publish 1 else s)) from rfl]
  simp only [Bool.and_eq_true, State.flag_eq_true_iff]

/-- A follower that has lost its upstream clock (R56). -/
theorem State.holdover_follower {s : State} (h : s.cue.disc = 2) :
    { s with cue := { s.cue with phasing := false } }.onlyFields s.holdover [R.CUE_STAT_HOLDOVER, R.CUE_STAT_LOCK] ∧
      s.holdover.getF R.CUE_STAT_HOLDOVER = 1 ∧ s.holdover.getF R.CUE_STAT_LOCK = 0 := by
  have hv : s.holdover =
      (State.setF { s with cue := { s.cue with phasing := false } } R.CUE_STAT_HOLDOVER 1).setF R.CUE_STAT_LOCK 0 := by
    rw [State.holdover, if_pos h]
    rfl
  rw [hv]
  refine ⟨((State.onlyFields_refl _ _).setF (by decide) (by decide) 1).setF (by decide) (by decide) 0, ?_,
    State.getF_setF_of_lt _ (by decide) (by decide) (by decide)⟩
  rw [State.getF_setF_other _ _ _ _ (by decide) (by decide), State.getF_setF_of_lt _ (by decide) (by decide) (by decide)]

/-- A root whose period is another one. -/
theorem State.followerLock_mismatch {s : State} (hc : s.cueRuns = true) (hd : s.cue.disc = 2) {p : Word}
    (hp : p ≠ s.getReg R.CUE_PERIOD) (c t : BitVec 64) (ph : Nat) (e : BitVec 16) :
    s.followerLock c t p ph e = (s.setF R.CUE_STAT_PERMIS 1).setF R.CUE_STAT_LOCK 0 := by
  rw [State.followerLock, if_neg (by rw [hc, hd]; decide), if_pos (bne_iff_ne.2 hp)]
  rfl

/-- The cue's record of a follower after a lock (R54): in PLACES it takes over the phase and what is ahead of its own counters. -/
def State.lockedCue (s : State) (c t : BitVec 64) (ph : Nat) : Cue :=
  let step := s.sys.dev = .places
  let time := if step ∧ s.cue.time.toNat < t.toNat then t else s.cue.time
  { s.cue with phase := if step then ph else s.cue.phase,
               count := if step ∧ s.cue.count.toNat < c.toNat then c else s.cue.count,
               time := time, tofs := t - time, phasing := decide (¬ step) }

/-- `s` with the fields that a lock shows: PERMIS and HOLDOVER 0, LOCK 1, the phase error, the count's offset. -/
def State.lockShown (s : State) (e : BitVec 16) (off : Nat) : State :=
  ((((s.setF R.CUE_STAT_PERMIS 0).setF R.CUE_STAT_HOLDOVER 0).setF R.CUE_STAT_LOCK 1).setF R.CUE_DISC_PHERR e.toNat).setF
    R.CUE_DISC_CNTOFF off

/-- Registers and the cue's record are set apart from each other. -/
theorem State.setF_withCue (s : State) (x : Cue) (f : Fld) (v : Nat) :
    State.setF { s with cue := x } f v = { s.setF f v with cue := x } := by rfl

theorem State.lockShown_withCue (s : State) (x : Cue) (e : BitVec 16) (off : Nat) :
    State.lockShown { s with cue := x } e off = { s.lockShown e off with cue := x } := by
  simp only [State.lockShown, State.setF_withCue]

theorem State.followerLock_same {s : State} (hc : s.cueRuns = true) (hd : s.cue.disc = 2) (c t : BitVec 64) (ph : Nat)
    (e : BitVec 16) : s.followerLock c t (s.getReg R.CUE_PERIOD) ph e =
      State.lockShown { s with cue := s.lockedCue c t ph } e (cntOff c (s.lockedCue c t ph).count) := by
  rw [State.followerLock, if_neg (by rw [hc, hd]; decide), if_neg (by simp), State.lockShown_withCue]
  extract_lets t1 t2 t3
  have h2 : t2.sys = s.sys ∧ t2.cue = s.cue := ⟨rfl, rfl⟩
  have hshown (off : Nat) : t2.setF R.CUE_DISC_CNTOFF off = s.lockShown e off := rfl
  clear_value t2
  obtain ⟨hsys, hcue⟩ := h2
  have h3 : t3 = { t2 with cue := { s.lockedCue c t ph with tofs := t2.cue.tofs } } := by
    have modCue_eq {f : Cue → Cue} {x : Cue} (hx : f t2.cue = x) : t2.modCue f = { t2 with cue := x } := by rw [State.modCue, hx]
    by_cases hp : s.sys.dev = .places
    · refine (if_pos (by rw [hsys]; exact hp)).trans (modCue_eq ?_)
      simp [State.lockedCue, hp, hcue]
    · refine (if_neg (by rw [hsys]; exact hp)).trans (modCue_eq ?_)
      simp [State.lockedCue, hp, hcue]
  have hcount : t3.cue.count = (s.lockedCue c t ph).count := by rw [h3]
  rw [hcount, h3, State.setF_withCue, hshown, State.modCue]
  rfl

theorem State.lockShown_onlyFields (s : State) (e : BitVec 16) (off : Nat) : s.onlyFields (s.lockShown e off)
    [R.CUE_STAT_PERMIS, R.CUE_STAT_HOLDOVER, R.CUE_STAT_LOCK, R.CUE_DISC_PHERR, R.CUE_DISC_CNTOFF] :=
  (((((s.onlyFields_refl _).setF (by decide) (by decide) _).setF (by decide) (by decide) _).setF (by decide) (by decide) _).setF
    (by decide) (by decide) _).setF (by decide) (by decide) _

theorem State.lockShown_fields (s : State) (e : BitVec 16) (off : Nat) :
    (s.lockShown e off).getF R.CUE_STAT_PERMIS = 0 ∧ (s.lockShown e off).getF R.CUE_STAT_HOLDOVER = 0 ∧
      (s.lockShown e off).getF R.CUE_STAT_LOCK = 1 ∧ (s.lockShown e off).getF R.CUE_DISC_PHERR = e.toNat := by
  unfold State.lockShown
  have h (t : State) (f g : Fld) (v : Nat) := t.getF_setF_other f g v
  refine ⟨?_, ?_, ?_, ?_⟩
  · rw [h _ _ _ _ (by decide) (by decide), h _ _ _ _ (by decide) (by decide), h _ _ _ _ (by decide) (by decide), h _ _ _ _ (by decide) (by decide),
      State.getF_setF_of_lt _ (by decide) (by decide) (by decide)]
  · rw [h _ _ _ _ (by decide) (by decide), h _ _ _ _ (by decide) (by decide), h _ _ _ _ (by decide) (by decide),
      State.getF_setF_of_lt _ (by decide) (by decide) (by decide)]
  · rw [h _ _ _ _ (by decide) (by decide), h _ _ _ _ (by decide) (by decide),
      State.getF_setF_of_lt _ (by decide) (by decide) (by decide)]
  · rw [h _ _ _ _ (by decide) (by decide), State.getF_setF_of_lt _ (by decide) (by decide) e.isLt]

/-- A number in the range of a signed field is what the field reads as. -/
theorem sext_wrap {w : Nat} {v : Int} (hw : 0 < w) (hlo : -(2 ^ (w - 1) : Nat) ≤ v) (hhi : v < (2 ^ (w - 1) : Nat)) :
    sext w (wrap w v) = v := by
  obtain ⟨k, rfl⟩ := Nat.exists_eq_succ_of_ne_zero (Nat.pos_iff_ne_zero.1 hw)
  rw [Nat.succ_sub_one] at hlo hhi
  rw [sext, wrap, Nat.succ_sub_one, Nat.pow_succ]
  generalize 2 ^ k = m at hlo hhi ⊢
  have hv : v % (m * 2 : Nat) = if 0 ≤ v then v else v + (m * 2 : Nat) := by
    split
    · exact Int.emod_eq_of_lt ‹_› (by omega)
    · rw [← Int.add_emod_right]
      exact Int.emod_eq_of_lt (by omega) (by omega)
  have hm : (v % (m * 2 : Nat)).toNat % (m * 2) = (v % (m * 2 : Nat)).toNat := Nat.mod_eq_of_lt (by split at hv <;> omega)
  rw [hm, hv]
  split <;> split <;> omega

theorem wrap_lt (w : Nat) (v : Int) : wrap w v < 2 ^ w := by
  have := Nat.two_pow_pos w
  have := Int.emod_lt_of_pos v (b := (2 ^ w : Nat)) (by omega)
  unfold wrap
  omega

/-- CNTOFF shows the root's count less the own one, saturating. -/
theorem State.lockShown_cntoff (s : State) (e : BitVec 16) (c own : BitVec 64) :
    (s.lockShown e (cntOff c own)).getS R.CUE_DISC_CNTOFF = max (-32768) (min 32767 ((c.toNat : Int) - own.toNat)) := by
  have hf : (s.lockShown e (cntOff c own)).getF R.CUE_DISC_CNTOFF = cntOff c own :=
    State.getF_setF_of_lt _ (by decide) (by decide) (wrap_lt 16 _)
  have hc : clampS 16 ((c.toNat : Int) - own.toNat) = max (-32768) (min 32767 ((c.toNat : Int) - own.toNat)) := rfl
  rw [State.getS, hf, cntOff, hc]
  exact sext_wrap (w := 16) (by decide) (by norm_num) (by norm_num)

/-! ## O28 -/

/-- A lock that steps the time counter retrains the jet ports (R280); one that does not is the cue's own work. -/
theorem exec_cueFollowerLock {s u : State} {c t : BitVec 64} {p : Word} {ph : Nat} {e : BitVec 16}
    (hu : s.followerLock c t p ph e = u) : ∃ v : State, exec (.cueFollowerLock c t p ph e) s = .next v.settle ∧
      (u.cue.time = s.cue.time → v = u) ∧ (u.cue.time ≠ s.cue.time → v.cue = u.cue ∧
        ∀ p < 32, u.getF (R.JET_STAT_LINK p) ∈ [1, 2, 3] → v.getF (R.JET_STAT_LINK p) = 1) := by
  have hex : exec (.cueFollowerLock c t p ph e) s = .next (State.settle (if u.cue.time = s.cue.time then u else u.jetStep)) := by
    subst hu
    rfl
  by_cases ht : u.cue.time = s.cue.time
  · rw [if_pos ht] at hex
    exact ⟨u, hex, fun _ => rfl, fun h => absurd ht h⟩
  · rw [if_neg ht] at hex
    exact ⟨u.jetStep, hex, fun h => absurd h ht, fun _ => u.jetStep_spec⟩

/-- A module that follows nothing. -/
theorem exec_cueFollowerLock_ignored {s : State} (h : s.cueRuns = false ∨ s.cue.disc ≠ 2) (c t : BitVec 64) (p : Word) (ph : Nat)
    (e : BitVec 16) : exec (.cueFollowerLock c t p ph e) s = .next s.settle := by
  have hu : s.followerLock c t p ph e = s := by
    rw [State.followerLock, if_pos]
    simpa using h
  obtain ⟨v, hex, hv, -⟩ := exec_cueFollowerLock hu
  rw [hex, hv rfl]

/-- A root whose period is another one (R54). -/
theorem exec_cueFollowerLock_mismatch {s : State} (hc : s.cueRuns = true) (hd : s.cue.disc = 2) {p : Word}
    (hp : p ≠ s.getReg R.CUE_PERIOD) (c t : BitVec 64) (ph : Nat) (e : BitVec 16) :
    ∃ u : State, exec (.cueFollowerLock c t p ph e) s = .next u.settle ∧
      s.onlyFields u [R.CUE_STAT_PERMIS, R.CUE_STAT_LOCK] ∧ u.getF R.CUE_STAT_PERMIS = 1 ∧ u.getF R.CUE_STAT_LOCK = 0 := by
  obtain ⟨v, hex, hv, -⟩ := exec_cueFollowerLock (State.followerLock_mismatch hc hd hp c t ph e)
  rw [hv rfl] at hex
  refine ⟨_, hex, ((s.onlyFields_refl _).setF (by decide) (by decide) 1).setF (by decide) (by decide) 0, ?_,
    State.getF_setF_of_lt _ (by decide) (by decide) (by decide)⟩
  rw [State.getF_setF_other _ _ _ _ (by decide) (by decide), State.getF_setF_of_lt _ (by decide) (by decide) (by decide)]

/-- The first CUE_DONE of a pair in a cue (R47, R49, R50). -/
theorem exec_cueDone_first {s : State} {n : Fin 4} (hc : s.cueRuns = true) (hi : s.canIssue (hartOfPair n) = true)
    (hd : s.cue.done.getLsbD n = false) : ∃ u : State, exec (.cueDone n) s = .next u.settle ∧
      u = { s with cue := { s.cue with done := u.cue.done, doneClk := u.cue.doneClk, k := u.cue.k } } ∧
      (∀ m < 4, u.cue.done.getLsbD m = (s.cue.done.getLsbD m || decide (m = n.val))) ∧
      ∀ m, mget 0 u.cue.k m = if m = n.val then 0 else mget 0 s.cue.k m := by
  refine ⟨{ s with cue := s.doneFirst n }, ?_, rfl, fun m hm => ?_, fun m => mget_mset ..⟩
  · rw [exec_cueDone_issued hi, State.cueDone_first hc hd]
  · rw [s.doneFirst_done, decide_eq_true hm, Bool.true_and]

/-- Settles O28, command by command: CUE_DONE by whether the pair's record of this cue stands, a lock by the periods and by
whether it steps the time counter. -/
theorem cueEvents : Obligations.CueEvents := by
  unfold Obligations.CueEvents
  refine ⟨exec_cuePre, fun n s => ⟨exec_cueDone_ignored, exec_cueDone_again, exec_cueDone_first⟩, fun c t p ph e s => ?_, fun s => ?_⟩
  · refine ⟨fun h => exec_cueFollowerLock_ignored h c t p ph e, fun hc hd =>
      ⟨fun hp => exec_cueFollowerLock_mismatch hc hd hp c t ph e, fun hp => ?_⟩⟩
    subst hp
    obtain ⟨v, hv, hsame, hstep⟩ := exec_cueFollowerLock (State.followerLock_same hc hd c t ph e)
    obtain ⟨h1, h2, h3, h4⟩ := State.lockShown_fields { s with cue := s.lockedCue c t ph } e (cntOff c (s.lockedCue c t ph).count)
    exact ⟨_, v, hv, hsame, hstep, State.lockShown_onlyFields _ _ _, h1, h2, h3, h4, State.lockShown_cntoff _ _ _ _⟩
  · refine ⟨s.holdover, rfl, State.holdover_follower, fun h => if_neg h⟩

end Sys2Proof.Machine
end

section
/-!
# Writes of CUE_PERIOD and CUE_CTRL: statement O27
-/

namespace Sys2Proof.Machine

/-! ## Writes that are turned away (R23, R106) -/

/-- TACC grants peripheral space as a whole. -/
theorem State.deniedTo_peripheral (s : State) (w : Writer) {a b : Nat} (ha : inPeripheral a) (hb : inPeripheral b) :
    s.deniedTo w (physOf w a) = s.deniedTo w (physOf w b) := by
  rw [ha.physOf_eq, hb.physOf_eq]
  unfold State.deniedTo State.denied Core.granted
  rw [ha.regionOf_eq, hb.regionOf_eq]

/-- A write that the register does not take from this master. -/
theorem exec_registerWrite_of_turnedAway {s : State} {w : Writer} {addr : Addr} {i j : Nat} {b : Nat × List RegDesc} {d : RegDesc}
    (ha : addr.toNat % 4 = 0) (hb : blockOf addr.toNat = some b) (hr : regAt addr.toNat = some (d, i, j))
    (hpr : regPresent d i = true) (hacc : s.mayAccess w addr.toNat → s.regAccepts w b.1 d.id = false) (v : Word) :
    exec (.registerWrite w addr v) s = .next (s.turnedAway w addr.toNat) := by
  have hp := inPeripheral_of_blockOf hb
  cases hact : s.masterActs w with
  | false => rw [exec_registerWrite_peripheral hp, State.write32_of_not_acts hact, State.turnedAway, if_pos hact]
  | true =>
    cases hden : s.deniedTo w (physOf w addr.toNat) with
    | true =>
      rw [exec_registerWrite_peripheral hp, State.write32_of_denied hact hden, State.turnedAway, hact, hden]
      rfl
    | false =>
      have hm : s.mayAccess w addr.toNat := ⟨hact, hden⟩
      rw [exec_registerWrite_of_not_accepted hm ha hb hr hpr (hacc hm), State.turnedAway, hact, hden, ofNat_toNat_addr]
      rfl

/-! ## The two registers -/

/-- The rows of the two registers. -/
def cuePeriodDesc : RegDesc := ⟨.CUE_PERIOD, 0x40000004, 1, 0x0, 1, 0, [⟨15, 0, .rw, 0x2710⟩]⟩
def cueCtrlDesc : RegDesc := ⟨.CUE_CTRL, 0x40000000, 1, 0x0, 1, 0, [⟨7, 6, .rw, 0x0⟩, ⟨5, 5, .rw, 0x0⟩, ⟨3, 0, .rw, 0x0⟩]⟩

theorem exec_cuePeriodWrite (w : Writer) (v : Word) (s : State) :
    exec (.cuePeriodWrite w v) s = exec (.registerWrite w (BitVec.ofNat 40 R.CUE_PERIOD) v) s := rfl

theorem exec_cueCtrlWrite (w : Writer) (v : Word) (s : State) :
    exec (.cueCtrlWrite w v) s = exec (.registerWrite w (BitVec.ofNat 40 R.CUE_CTRL) v) s := rfl

theorem State.mayAccess_cuePeriod_iff (s : State) (w : Writer) : s.mayAccess w R.CUE_PERIOD ↔ s.mayAccess w R.CUE_CTRL := by
  unfold State.mayAccess
  rw [s.deniedTo_peripheral w (show inPeripheral R.CUE_PERIOD by unfold inPeripheral; decide)
    (show inPeripheral R.CUE_CTRL by unfold inPeripheral; decide)]

/-- A writer that is no house core, or that may not access CUE. -/
theorem exec_cueWrites_turnedAway {s : State} {w : Writer} (h : ¬ (w.isHouse = true ∧ s.mayAccess w R.CUE_CTRL)) (v : Word) :
    exec (.cuePeriodWrite w v) s = .next (s.turnedAway w R.CUE_PERIOD) ∧
      exec (.cueCtrlWrite w v) s = .next (s.turnedAway w R.CUE_CTRL) := by
  have hno (hm : s.mayAccess w R.CUE_CTRL) : w.isHouse = false := Bool.eq_false_iff.2 fun hh => h ⟨hh, hm⟩
  constructor
  · rw [exec_cuePeriodWrite]
    exact exec_registerWrite_of_turnedAway (b := (baseCUE, regsCUE)) (d := cuePeriodDesc) (i := 0) (j := 0) rfl rfl rfl rfl
      (fun hm => hno ((s.mayAccess_cuePeriod_iff w).1 hm)) v
  · rw [exec_cueCtrlWrite]
    exact exec_registerWrite_of_turnedAway (b := (baseCUE, regsCUE)) (d := cueCtrlDesc) (i := 0) (j := 0) rfl rfl rfl rfl hno v

section
variable {s : State} {w : Writer} (hw : w.isHouse = true) (hm : s.mayAccess w R.CUE_CTRL)
include hw hm

theorem exec_cuePeriodWrite_house (v : Word) : exec (.cuePeriodWrite w v) s = .next (s.cuePeriodWrite v).settle := by
  rw [exec_cuePeriodWrite]
  exact exec_registerWrite_of_accepted (b := (baseCUE, regsCUE)) (d := cuePeriodDesc) (i := 0) (j := 0)
    ((s.mayAccess_cuePeriod_iff w).2 hm) rfl rfl rfl rfl hw v rfl

theorem exec_cueCtrlWrite_house (v : Word) :
    exec (.cueCtrlWrite w v) s = .next (s.cueCtrlWrite cueCtrlDesc R.CUE_CTRL v).settle := by
  rw [exec_cueCtrlWrite]
  exact exec_registerWrite_of_accepted (b := (baseCUE, regsCUE)) (d := cueCtrlDesc) (i := 0) (j := 0) hm rfl rfl rfl rfl hw v rfl

end

/-! ## CUE_PERIOD (R42) -/

/-- CUE_PERIOD takes `v` now (BOOT) or at the next boundary (PLACES). -/
def State.cuePeriodFits (s : State) (v : Word) : Prop :=
  4000 ≤ fieldOf v 15 0 ∧ fieldOf v 15 0 ≤ 50000 ∧
    (s.sys.dev = .boot ∨ (s.sys.dev = .places ∧ s.loopSchedule (fieldOf v 15 0) (s.getF R.LOOP_CTRL_SUB) = true))

theorem State.cuePeriodWrite_of_not_fits {s : State} {v : Word} (h : ¬ s.cuePeriodFits v) :
    s.cuePeriodWrite v = s.setF R.CUE_STAT_CFGREF 1 := by
  unfold State.cuePeriodFits at h
  unfold State.cuePeriodWrite
  extract_lets p x
  split
  · rfl
  · next hr =>
    split
    · next hd => exact absurd ⟨by omega, by omega, Or.inl hd⟩ h
    · next hd =>
      exact if_neg fun hl => h ⟨by omega, by omega, Or.inr ⟨hd, hl⟩⟩
    · rfl

theorem State.cuePeriodWrite_boot {s : State} {v : Word} (h : s.cuePeriodFits v) (hd : s.sys.dev = .boot) :
    s.cuePeriodWrite v = s.setReg R.CUE_PERIOD (BitVec.ofNat 32 (fieldOf v 15 0)) := by
  obtain ⟨hlo, hhi, -⟩ := h
  unfold State.cuePeriodWrite
  extract_lets p x
  rw [if_neg (by omega), hd]

theorem State.cuePeriodWrite_places {s : State} {v : Word} (h : s.cuePeriodFits v) (hd : s.sys.dev = .places) :
    s.cuePeriodWrite v = { s with cue := { s.cue with nextPeriod := some (BitVec.ofNat 32 (fieldOf v 15 0)) } } := by
  obtain ⟨hlo, hhi, hs⟩ := h
  have hl := (hs.resolve_left fun hb => by rw [hd] at hb; exact absurd hb (by decide)).2
  unfold State.cuePeriodWrite
  extract_lets p x
  rw [if_neg (by omega), hd]
  exact if_pos hl

/-- A register that is set whole. -/
theorem State.onlyFields_setReg (s : State) (a : Nat) (v : Word) : s.onlyFields (s.setReg a v) [⟨a, 31, 0⟩] := by
  refine ⟨rfl, fun f hf => ?_⟩
  rw [State.getF, State.getF, State.getReg_setReg]
  split
  · next ha =>
    have hlo : 31 < f.lo := by
      have := hf _ List.mem_cons_self
      unfold Fld.apart at this
      dsimp only at this
      omega
    refine fieldOf_congr fun k hk _ => ?_
    rw [BitVec.getLsbD_of_ge _ _ (by omega), BitVec.getLsbD_of_ge _ _ (by omega)]
  · rfl

/-! ## CUE_CTRL (R53) -/

theorem cueCtrlDesc_disjointFields : cueCtrlDesc.disjointFields := by
  unfold RegDesc.disjointFields
  decide

/-- `s` with CUE_CTRL written. -/
def State.cueCtrlSet (s : State) (v : Word) : State := s.writeTyped cueCtrlDesc R.CUE_CTRL false v

theorem State.cueCtrlSet_onlyFields (s : State) (v : Word) :
    s.onlyFields (s.cueCtrlSet v) [R.CUE_CTRL_DISC, R.CUE_CTRL_CUEOE, R.CUE_CTRL_PAIREN] :=
  State.writeTyped_onlyFields cueCtrlDesc_disjointFields s R.CUE_CTRL v

theorem State.cueCtrlSet_fields (s : State) (v : Word) : (s.cueCtrlSet v).getF R.CUE_CTRL_DISC = fieldOf v 7 6 ∧
    (s.cueCtrlSet v).getF R.CUE_CTRL_CUEOE = fieldOf v 5 5 ∧ (s.cueCtrlSet v).getF R.CUE_CTRL_PAIREN = fieldOf v 3 0 :=
  have h {f : FieldDesc} := State.getF_writeTyped_rw cueCtrlDesc_disjointFields s R.CUE_CTRL v (f := f)
  ⟨h (f := ⟨7, 6, .rw, 0⟩) (by decide) rfl, h (f := ⟨5, 5, .rw, 0⟩) (by decide) rfl, h (f := ⟨3, 0, .rw, 0⟩) (by decide) rfl⟩

/-- A longer list of fields frames less. -/
theorem State.onlyFields.mono {s u : State} {l m : List Fld} (h : s.onlyFields u l) (hlm : ∀ f ∈ l, f ∈ m) : s.onlyFields u m :=
  ⟨h.1, fun f hf => h.2 f fun g hg => hf g (hlm g hg)⟩

theorem State.cueCtrlSet_other (s : State) (v : Word) {f : Fld} (hf : f.addr ≠ R.CUE_CTRL) : (s.cueCtrlSet v).getF f = s.getF f :=
  (s.cueCtrlSet_onlyFields v).2 f fun g hg => by
    simp only [List.mem_cons, List.not_mem_nil, or_false] at hg
    rcases hg with rfl | rfl | rfl <;> exact Or.inl hf

/-- CUE_CTRL written in PLACES: the new DISC is in force at once, and a module that is no follower holds no lock. -/
theorem State.cueCtrlWrite_places {s : State} (hd : s.sys.dev = .places) (v : Word) :
    let q := fieldOf v 7 6
    let u := s.cueCtrlWrite cueCtrlDesc R.CUE_CTRL v
    { s with cue := { s.cue with disc := BitVec.ofNat 2 q } }.onlyFields u
      [R.CUE_CTRL_DISC, R.CUE_CTRL_CUEOE, R.CUE_CTRL_PAIREN, R.CUE_STAT_LOCK] ∧
    (u.getF R.CUE_CTRL_CUEOE = fieldOf v 5 5 ∧ u.getF R.CUE_CTRL_PAIREN = fieldOf v 3 0) ∧ u.getF R.CUE_CTRL_DISC = q ∧
    u.getF R.CUE_STAT_LOCK = if q = 2 then s.getF R.CUE_STAT_LOCK else 0 := by
  intro q u
  obtain ⟨t, ht⟩ : ∃ t : State, t = { s with cue := { s.cue with disc := BitVec.ofNat 2 q } } := ⟨_, rfl⟩
  have hu : u = if q = 2 then t.cueCtrlSet v else (t.cueCtrlSet v).setF R.CUE_STAT_LOCK 0 := by
    simp only [u, State.cueCtrlWrite, hd, ht]
    rfl
  have honly := (t.cueCtrlSet_onlyFields v).mono (m := [R.CUE_CTRL_DISC, R.CUE_CTRL_CUEOE, R.CUE_CTRL_PAIREN, R.CUE_STAT_LOCK])
    (by decide)
  obtain ⟨hdisc, hoe, hpair⟩ := t.cueCtrlSet_fields v
  have hlock : (t.cueCtrlSet v).getF R.CUE_STAT_LOCK = s.getF R.CUE_STAT_LOCK :=
    (t.cueCtrlSet_other v (by decide)).trans (by rw [ht]; rfl)
  rw [← ht, hu]
  split
  · exact ⟨honly, ⟨hoe, hpair⟩, hdisc, hlock⟩
  · refine ⟨honly.setF (by decide) (by decide) 0, ⟨?_, ?_⟩, ?_, State.getF_setF_of_lt _ (by decide) (by decide) (by decide)⟩
    · exact (State.getF_setF_other _ _ _ _ (by decide) (by decide)).trans hoe
    · exact (State.getF_setF_other _ _ _ _ (by decide) (by decide)).trans hpair
    · exact (State.getF_setF_other _ _ _ _ (by decide) (by decide)).trans hdisc

/-- CUE_CTRL written elsewhere: DISC stays at the value in force, and a write that differs from it is refused. -/
theorem State.cueCtrlWrite_locked {s : State} (hb : s.sys.dev ≠ .boot) (hp : s.sys.dev ≠ .places) (v : Word) :
    let q := fieldOf v 7 6
    let u := s.cueCtrlWrite cueCtrlDesc R.CUE_CTRL v
    s.onlyFields u [R.CUE_CTRL_DISC, R.CUE_CTRL_CUEOE, R.CUE_CTRL_PAIREN, R.CUE_STAT_CFGREF] ∧
    (u.getF R.CUE_CTRL_CUEOE = fieldOf v 5 5 ∧ u.getF R.CUE_CTRL_PAIREN = fieldOf v 3 0) ∧
    u.getF R.CUE_CTRL_DISC = s.cue.disc.toNat ∧
    u.getF R.CUE_STAT_CFGREF = if q = s.cue.disc.toNat then s.getF R.CUE_STAT_CFGREF else 1 := by
  intro q u
  have hu : u = if q = s.cue.disc.toNat then s.cueCtrlSet v
      else ((s.cueCtrlSet v).setF R.CUE_CTRL_DISC s.cue.disc.toNat).setF R.CUE_STAT_CFGREF 1 := by
    simp only [u, State.cueCtrlWrite]
    cases hdev : s.sys.dev with
    | boot => exact absurd hdev hb
    | places => exact absurd hdev hp
    | _ => rfl
  have honly := (s.cueCtrlSet_onlyFields v).mono (m := [R.CUE_CTRL_DISC, R.CUE_CTRL_CUEOE, R.CUE_CTRL_PAIREN, R.CUE_STAT_CFGREF])
    (by decide)
  obtain ⟨hdisc, hoe, hpair⟩ := s.cueCtrlSet_fields v
  rw [hu]
  split
  · next hq => exact ⟨honly, ⟨hoe, hpair⟩, hdisc.trans hq, s.cueCtrlSet_other v (by decide)⟩
  · have h (t : State) (f g : Fld) (v : Nat) := t.getF_setF_other f g v
    refine ⟨(honly.setF (by decide) (by decide) _).setF (by decide) (by decide) 1, ⟨?_, ?_⟩, ?_,
      State.getF_setF_of_lt _ (by decide) (by decide) (by decide)⟩
    · rw [h _ _ _ _ (by decide) (by decide), h _ _ _ _ (by decide) (by decide), hoe]
    · rw [h _ _ _ _ (by decide) (by decide), h _ _ _ _ (by decide) (by decide), hpair]
    · rw [h _ _ _ _ (by decide) (by decide), State.getF_setF_of_lt _ (by decide) (by decide) s.cue.disc.isLt]

/-! ## O27 -/

/-- Settles O27: CUE takes the writes of house cores that may access it; CUE_PERIOD by its range and the device state, CUE_CTRL
by the device state. -/
theorem cueRegisters : Obligations.CueRegisters := by
  unfold Obligations.CueRegisters
  intro w v s
  refine ⟨fun h => exec_cueWrites_turnedAway h v, fun hw hm => ?_⟩
  rw [exec_cuePeriodWrite_house hw hm, exec_cueCtrlWrite_house hw hm]
  refine ⟨⟨fun hf => ?_, fun hf hd => ?_, fun hf hd => ?_⟩, fun hd => ?_, fun hd => ?_, fun hb hp => ?_⟩
  · refine ⟨_, rfl, ?_⟩
    rw [State.cuePeriodWrite_of_not_fits hf]
    exact ⟨(s.onlyFields_refl _).setF List.mem_cons_self (by decide) 1,
      State.getF_setF_of_lt _ (by decide) (by decide) (by decide)⟩
  · refine ⟨_, rfl, ?_⟩
    rw [State.cuePeriodWrite_boot hf hd]
    exact ⟨s.onlyFields_setReg .., s.getReg_setReg_same ..⟩
  · rw [State.cuePeriodWrite_places hf hd]
  · have hu : s.cueCtrlWrite cueCtrlDesc R.CUE_CTRL v = s.cueCtrlSet v := by
      rw [State.cueCtrlWrite, hd]
      rfl
    obtain ⟨hdisc, hoe, hpair⟩ := s.cueCtrlSet_fields v
    exact ⟨_, rfl, by rw [hu]; exact s.cueCtrlSet_onlyFields v, by rw [hu]; exact ⟨hoe, hpair⟩, by rw [hu]; exact hdisc⟩
  · exact ⟨_, rfl, State.cueCtrlWrite_places hd v⟩
  · exact ⟨_, rfl, State.cueCtrlWrite_locked hb hp v⟩

end Sys2Proof.Machine
end

section
/-!
# The record of a boundary and the writes that a handover takes back: statement O29
-/

namespace Sys2Proof.Machine

/-- The ready swath of `strayWrite`. -/
def readySwath : DropSwath :=
  { uid := 0, addr := 0, resume := false, ready := true,
    desc := some { addr := 0, order := 0, swath := 0, b0a := 0, f := 0, n := 1, base := 0, mcrc := 0, ctxs := [], resume := false } }

/-- RUN/IDLE with a ready swath and the scheduler free and enabled; among the writes of this cycle that a handover takes back (R247)
stands one of CUE_PERIOD. -/
def strayWrite : State :=
  State.setF { clk := 1, sys := { dev := .run .idle }, drop := { q := [readySwath] },
               fire := { wrote := [(1, R.CUE_PERIOD, 0)] } } R.FIRE_CTRL_EN 1

theorem strayWrite_quiet : strayWrite.quiet := by
  unfold State.quiet
  decide +kernel

/-- The handover of the boundary puts the old value of the list into CUE_PERIOD. -/
theorem strayWrite_boundary : strayWrite.boundary.getReg R.CUE_PERIOD = 0 := by decide +kernel

/-- Refutes O29: the statement is about every state, and a handover takes back every write of its cycle that the scheduler's list names
(R247). A list that names CUE_PERIOD, as no write of FIRE makes one, changes the period with none waiting. -/
theorem not_cueBoundaryTurnsTheCue : ¬ Obligations.CueBoundaryTurnsTheCue := by
  unfold Obligations.CueBoundaryTurnsTheCue
  intro h
  obtain ⟨u, hu, -, -, -, -, -, -, -, -, -, -, -, -, -, hperiod, -⟩ := (h strayWrite).2 (by decide +kernel) strayWrite_quiet
  have hb : strayWrite.boundary.settle = u := Host.Outcome.next.inj hu
  rw [← hb, State.getReg_settle, strayWrite_boundary] at hperiod
  exact absurd hperiod (by decide +kernel)

end Sys2Proof.Machine
end

section
/-!
# What an instruction changes of its hart

Statements about instructions say the whole next state through `State.onlyHart`; the rules here reach it from the operations
that the meanings use.
-/

namespace Sys2Proof.Machine

/-! ## The core of one hart -/

/-- A pair counts as split by a register, which no core's change touches. -/
@[simp] theorem State.isSplit_setCore (s : State) (n k : Nat) (c : Core) : (s.setCore n c).isSplit k = s.isSplit k := rfl

theorem State.setHart_onlyHart (s : State) (h : Hart) (c : Core) : s.onlyHart (s.setHart h c) h c := by
  refine ⟨?_, fun k => ?_⟩
  · obtain ⟨l, hl⟩ := s.setHart_eq h c
    rw [hl]
  · unfold State.setHart
    simp only [State.isSplit_setCore, Bool.and_eq_true, decide_eq_true_eq, Bool.not_eq_true']
    by_cases hp : h.val < 4 ∧ s.isSplit h.val = false
    · simp only [hp, and_self, if_true, and_true, State.core_setCore]
      grind
    · simp only [hp, if_false, and_false, or_false, State.core_setCore]

theorem State.modHart_onlyHart (s : State) (h : Hart) (f : Core → Core) : s.onlyHart (s.modHart h f) h (f (s.hart h)) :=
  s.setHart_onlyHart h _

/-- Two changes of one hart are one change. -/
theorem State.onlyHart.trans {s t u : State} {h : Hart} {c d : Core} (hst : s.onlyHart t h c) (htu : t.onlyHart u h d) :
    s.onlyHart u h d := by
  obtain ⟨ht, hc⟩ := hst
  obtain ⟨hu, hd⟩ := htu
  have hsplit : t.isSplit h.val = s.isSplit h.val := by rw [ht]; rfl
  refine ⟨by rw [hu, ht], fun k => ?_⟩
  rw [hd k, hc k, hsplit]
  split <;> rfl

/-! ## Issue -/

/-- An instruction whose reserved fields and place allow it does its own effect. -/
theorem State.issue_of {s t : State} {h : Hart} {w : Word} {r inSlot atEnd : Bool} (hi : s.issuesTo t h) (hr : r = false)
    (hs : inSlot = false ∨ (t.hart h).delay = none) (he : atEnd = false ∨ (t.hart h).atLoopEnd = false) (body : State → State) :
    s.issue h w r inSlot atEnd body = body t :=
  hr ▸ State.issue_body hi w inSlot atEnd hs he body

/-! ## Instructions that change registers of their core only -/

variable {i : Instr} {h : Hart} {w : Word} {r : Bool} {f g : Core → Core}

/-- An instruction without a reserved field whose meaning is `State.simple`. -/
theorem registerEffect_of_simple (hi : ∀ s, exec i s = .next (s.simple h w r f)) (hr : r = false) (hf : ∀ c, f c = g c) :
    registerEffect i h g := by
  intro s t hs
  subst hr
  refine ⟨_, hi s, ?_⟩
  rw [State.simple_effect hs, ← hf]
  exact t.modHart_onlyHart h fun c => (f c).retire

/-- The same for an instruction that writes a data register and the flags. -/
theorem dataEffect_of_result {d : BitVec 5} {v u : Core → Word} {k l : Core → Flags}
    (hi : ∀ s, exec i s = .next (s.simple h w r fun c => c.result d.toNat (v c) (k c))) (hr : r = false)
    (hv : ∀ c, v c = u c) (hk : ∀ c, k c = l c) : dataEffect i h d u l := by
  refine registerEffect_of_simple hi hr fun c => ?_
  rw [hv, hk, Core.result]

end Sys2Proof.Machine
end

section
/-!
# Integer instructions: statements O2, O3 and O4
-/

namespace Sys2Proof.Machine

/-! ## Sums and differences (R63) -/

theorem Flags.nzcv_sum (f : Flags) (a b : Word) (k : Bool) :
    f.nzcv (a + b + (if k then 1 else 0)) (addCarry a b k) (addOverflow a b k) = sumFlags f a b (if k then 1 else 0) := by
  cases k <;> rfl

theorem Flags.nzcv_difference (f : Flags) (a b : Word) (k : Bool) :
    f.nzcv (a - b - (if k then 1 else 0)) (subCarry a b k) (subOverflow a b k) = differenceFlags f a b (if k then 1 else 0) := by
  cases k <;> rfl

/-- C stands for no borrow. -/
theorem Flags.nzcv_borrow (f : Flags) (a b : Word) (k : Bool) :
    f.nzcv (a - b - (if !k then 1 else 0)) (subCarry a b !k) (subOverflow a b !k) = differenceFlags f a b (if k then 0 else 1) := by
  cases k <;> rfl

/-- Settles O2: each of the seven is an add or a subtract of R63, with the carry or the borrow that its row names. -/
theorem addSubtractCompare : Obligations.AddSubtractCompare := by
  unfold Obligations.AddSubtractCompare
  intro h d s1 s2 imm
  refine ⟨?_, ?_, ?_, ?_, ?_, ?_, ?_⟩
  · exact dataEffect_of_result (fun _ => rfl) rfl (fun _ => BitVec.add_zero _) fun c => c.flags.nzcv_sum _ _ false
  · exact dataEffect_of_result (fun _ => rfl) rfl (fun _ => rfl) fun c => c.flags.nzcv_sum _ _ c.flags.c
  · exact dataEffect_of_result (fun _ => rfl) rfl (fun _ => BitVec.sub_zero _) fun c => c.flags.nzcv_difference _ _ false
  · exact dataEffect_of_result (fun _ => rfl) rfl (fun c => by cases c.flags.c <;> rfl) fun c => c.flags.nzcv_borrow _ _ c.flags.c
  · exact dataEffect_of_result (fun _ => rfl) rfl (fun _ => BitVec.add_zero _) fun c => c.flags.nzcv_sum _ _ false
  · exact registerEffect_of_simple (fun _ => rfl) rfl fun c =>
      congrArg (fun k => { c with flags := k }) (c.flags.nzcv_difference _ _ false)
  · exact registerEffect_of_simple (fun _ => rfl) rfl fun c =>
      congrArg (fun k => { c with flags := k }) (c.flags.nzcv_difference _ _ false)

/-! ## Products and counts -/

/-- The high word of a 64-bit number. -/
theorem ofInt_high (p : Int) : ((BitVec.ofInt 64 p) >>> 32).setWidth 32 = BitVec.ofInt 32 (p / 2 ^ 32) := by
  apply BitVec.eq_of_toNat_eq
  simp only [BitVec.toNat_setWidth, BitVec.toNat_ushiftRight, BitVec.toNat_ofInt, Nat.shiftRight_eq_div_pow]
  omega

theorem mulhs_eq (a b : Word) :
    BitVec.ofInt 32 (a.toInt * b.toInt / 2 ^ 32) = ((a.signExtend 64 * b.signExtend 64) >>> 32).setWidth 32 := by
  rw [BitVec.signExtend, BitVec.signExtend, ← BitVec.ofInt_mul, ofInt_high]

theorem mulhu_eq (a b : Word) :
    BitVec.ofNat 32 (a.toNat * b.toNat / 2 ^ 32) = ((a.zeroExtend 64 * b.zeroExtend 64) >>> 32).setWidth 32 := by
  have hzero (x : Word) : x.zeroExtend 64 = BitVec.ofInt 64 x.toNat := by
    apply BitVec.eq_of_toNat_eq
    simp
  rw [hzero, hzero, ← BitVec.ofInt_mul, ofInt_high, ← BitVec.ofInt_natCast]
  push_cast
  rfl

theorem clz32_spec {a : Word} (ha : a ≠ 0) :
    clz32 a < 32 ∧ a.getLsbD (31 - clz32 a) = true ∧ ∀ j, 31 - clz32 a < j → a.getLsbD j = false := by
  have hn : a.toNat ≠ 0 := fun h => ha (BitVec.eq_of_toNat_eq h)
  have hlog : a.toNat.log2 < 32 := (Nat.log2_lt hn).2 a.isLt
  have hclz : clz32 a = 31 - a.toNat.log2 := if_neg ha
  have hback : 31 - clz32 a = a.toNat.log2 := by omega
  rw [hback]
  refine ⟨by omega, Nat.testBit_log2 hn, fun j hj => Nat.testBit_lt_two_pow ?_⟩
  exact Nat.lt_of_lt_of_le Nat.lt_log2_self (Nat.pow_le_pow_right (by decide) hj)

theorem clz32_le (a : Word) : clz32 a ≤ 32 := by
  by_cases ha : a = 0
  · exact (if_pos ha).le
  · exact (clz32_spec ha).1.le

/-- N and Z of a small count. -/
theorem Flags.nz_ofNat (f : Flags) {n : Nat} (hn : n ≤ 32) :
    f.nz (BitVec.ofNat 32 n) = { f with n := false, z := decide (n = 0) } := by
  have hmod : n % 2 ^ 32 = n := Nat.mod_eq_of_lt (by omega)
  have hmsb : (BitVec.ofNat 32 n).msb = false := by
    rw [BitVec.msb_eq_decide, BitVec.toNat_ofNat, hmod]
    exact decide_eq_false (by omega)
  have hz : (BitVec.ofNat 32 n == 0) = decide (n = 0) := by
    refine decide_eq_decide.2 ?_
    rw [← BitVec.toNat_inj, BitVec.toNat_ofNat, hmod]
    rfl
  rw [Flags.nz, hmsb, hz]

/-- The two spellings of the lesser and of the greater number. -/
theorem ite_toInt_le {α : Type} (a b : Word) (x y : α) :
    (if a.toInt ≤ b.toInt then x else y) = if b.slt a then y else x := by
  simp only [BitVec.slt_eq_decide, decide_eq_true_eq]
  by_cases hab : a.toInt ≤ b.toInt
  · rw [if_pos hab, if_neg (by omega)]
  · rw [if_neg hab, if_pos (by omega)]

/-- An instruction that sets N and Z by its result (R63). -/
theorem dataEffect_of_nz {i : Instr} {h : Hart} {w : Word} {r : Bool} {d : BitVec 5} {v u : Core → Word}
    (hi : ∀ s, exec i s = .next (s.simple h w r fun c => c.nzOp d.toNat (v c))) (hr : r = false) (hv : ∀ c, v c = u c) :
    dataEffect i h d u fun c => { c.flags with n := (u c).msb, z := decide (u c = 0) } :=
  dataEffect_of_result hi hr hv fun c => by rw [hv]; rfl

/-- Settles O3: all but TST write their result and set N and Z by it; the products and CLZ are brought to the statement's form. -/
theorem logicAndProducts : Obligations.LogicAndProducts := by
  unfold Obligations.LogicAndProducts
  intro h d s1 s2 imm
  refine ⟨?_, ?_, clz32, rfl, fun v hv => clz32_spec hv, ?_⟩
  · simp only [List.forall_mem_cons, List.not_mem_nil, false_imp_iff, implies_true, and_true]
    refine ⟨?_, ?_, ?_, ?_, ?_, ?_, ?_, ?_, ?_, ?_, ?_, ?_⟩
    case refine_9 => exact dataEffect_of_nz (fun _ => rfl) rfl fun c => mulhs_eq ..
    case refine_10 => exact dataEffect_of_nz (fun _ => rfl) rfl fun c => mulhu_eq ..
    case refine_11 => exact dataEffect_of_nz (fun _ => rfl) rfl fun c => ite_toInt_le ..
    case refine_12 => exact dataEffect_of_nz (fun _ => rfl) rfl fun c => ite_toInt_le ..
    all_goals exact dataEffect_of_nz (fun _ => rfl) rfl fun c => rfl
  · exact registerEffect_of_simple (fun _ => rfl) rfl fun c => rfl
  · exact dataEffect_of_result (fun _ => rfl) rfl (fun _ => rfl) fun c => c.flags.nz_ofNat (clz32_le _)

/-! ## Shifts -/

/-- Settles O4: the amount of the register forms is Ds2[4:0], that of the immediate forms aux[4:0]. -/
theorem shifts : Obligations.Shifts := by
  unfold Obligations.Shifts
  intro h d s1 s2 n
  have hbit : ((0 : BitVec 5) != 0 || (n.zeroExtend 6).getLsbD 5) = false := by
    simp
  have hn : (n.zeroExtend 6).toNat % 32 = n.toNat := by
    simp; omega
  simp only [List.forall_mem_cons, List.not_mem_nil, false_imp_iff, implies_true, and_true]
  refine ⟨⟨?_, ?_⟩, ⟨?_, ?_⟩, ?_, ?_⟩
  · exact dataEffect_of_result (fun _ => rfl) rfl (fun _ => rfl) fun _ => rfl
  · exact dataEffect_of_result (fun _ => rfl) hbit (fun _ => by rw [hn]) fun _ => by rw [hn]; rfl
  · exact dataEffect_of_result (fun _ => rfl) rfl (fun _ => rfl) fun _ => rfl
  · exact dataEffect_of_result (fun _ => rfl) hbit (fun _ => by rw [hn]) fun _ => by rw [hn]; rfl
  · exact dataEffect_of_result (fun _ => rfl) rfl (fun _ => rfl) fun _ => rfl
  · exact dataEffect_of_result (fun _ => rfl) hbit (fun _ => by rw [hn]) fun _ => by rw [hn]; rfl

end Sys2Proof.Machine
end

section
/-!
# Accumulators, moves and addresses: statements O6 and O7
-/

namespace Sys2Proof.Machine

/-! ## Register fields (R59, R61) -/

theorem kBad_zeroExtend : ∀ n : BitVec 3, kBad (n.zeroExtend 5) = false := by decide

theorem toNat_zeroExtend_five : ∀ n : BitVec 3, (n.zeroExtend 5).toNat = n.toNat := by decide

theorem aBad_append : ∀ a : BitVec 4, aBad (a ++ 0#1) = false := by decide

theorem aIdx_append : ∀ a : BitVec 4, aIdx (a ++ 0#1) = a.toNat := by decide

/-! ## Accumulators (R65, R66) -/

theorem smul72_eq (a b : Word) : smul72 a b = a.signExtend 72 * b.signExtend 72 := BitVec.ofInt_mul ..

theorem umul72_eq (a b : Word) : umul72 a b = a.zeroExtend 72 * b.zeroExtend 72 := by
  apply BitVec.eq_of_toNat_eq
  simp [umul72]

/-- The shifted value that EXT clamps, rounded where RND asks for it. -/
theorem ext_shifted (v : Int) (sh : Nat) (rnd : Bool) :
    (v + ((if rnd && decide (0 < sh) then 2 ^ (sh - 1) else 0 : Nat) : Int)) / (2 ^ sh : Nat) =
      if rnd = true ∧ 0 < sh then (v + 2 ^ (sh - 1)) / 2 ^ sh else v / 2 ^ sh := by
  by_cases hr : rnd = true ∧ 0 < sh
  · simp [hr]
  · have hr' : (rnd && decide (0 < sh)) = false := by simpa using hr
    simp [hr, hr']

theorem satWord72_extracted (a : Acc) (sh : Nat) (rnd sat : Bool) :
    Core.ext.satWord72 ((a.toInt + ((if rnd && decide (0 < sh) then 2 ^ (sh - 1) else 0 : Nat) : Int)) / (2 ^ sh : Nat)) sat =
      (BitVec.ofInt 32 (extracted a sh rnd sat).1, (extracted a sh rnd sat).2) := by
  rw [ext_shifted]
  unfold extracted Core.ext.satWord72
  dsimp only
  generalize (if rnd = true ∧ 0 < sh then (a.toInt + 2 ^ (sh - 1)) / 2 ^ sh else a.toInt / 2 ^ sh) = v
  have hup : (0x7FFFFFFF < v) ↔ (2 ^ 31 ≤ v) := by omega
  simp only [Bool.and_eq_true, decide_eq_true_eq, hup]
  by_cases h1 : sat = true ∧ 2 ^ 31 ≤ v
  · simp only [if_pos h1]
    rfl
  by_cases h2 : sat = true ∧ v < -2 ^ 31
  · have h2' : sat = true ∧ v < -0x80000000 := h2
    simp only [if_neg h1, if_pos h2, if_pos h2']
    rfl
  · have h2' : ¬ (sat = true ∧ v < -0x80000000) := h2
    simp only [if_neg h1, if_neg h2, if_neg h2']

/-- EXT gives Dd the value of R66 and records its clamp. -/
theorem Core.ext_eq (c : Core) (d n sh : Nat) (rnd sat : Bool) :
    c.ext d n sh rnd sat =
      let v := extracted (c.accr n) sh rnd sat
      let r := BitVec.ofInt 32 v.1
      c.result d r { sv := c.flags.sv || v.2, n := r.msb, z := decide (r = 0), c := false, v := v.2 } := by
  unfold Core.ext
  simp only [satWord72_extracted]
  rfl

/-- Settles O6: the products and the extract are brought to the form of the rules. -/
theorem accumulators : Obligations.Accumulators := by
  unfold Obligations.Accumulators
  intro h n m d s1 s2 sh rnd sat
  have hn := toNat_zeroExtend_five n
  have hm := toNat_zeroExtend_five m
  have hk := kBad_zeroExtend n
  have hkm := kBad_zeroExtend m
  refine ⟨?_, ?_, fun e hr hs he => ?_⟩
  · simp only [List.forall_mem_cons, List.not_mem_nil, false_imp_iff, implies_true, and_true]
    refine ⟨?_, ?_, ?_, ?_, ?_, ?_, ?_, ?_⟩
    case refine_7 => exact registerEffect_of_simple (fun _ => rfl) (by rw [hk, hkm]; rfl) fun c => by rw [hn, hm]
    all_goals refine registerEffect_of_simple (fun _ => rfl) (by rw [hk]; rfl) fun c => ?_
    all_goals simp only [hn, smul72_eq, umul72_eq]
  · exact registerEffect_of_simple (fun _ => rfl) (by rw [hk]; rfl) fun c => by rw [hn]
  · have hoptions : e.extractLsb' 2 3 = 0 := (by decide : ∀ e : BitVec 5, e.toNat < 4 → e.extractLsb' 2 3 = 0) e he
    subst hr hs
    refine registerEffect_of_simple (fun _ => rfl) (by rw [hk, hoptions]; rfl) fun c => ?_
    rw [Core.ext_eq, hn]
    rfl

/-! ## Conditions (R64) -/

theorem Flags.cond_eq (f : Flags) (code : BitVec 4) : f.cond code.toNat = conditionTest f code := by
  obtain ⟨sv, n, z, c, v⟩ := f
  revert sv n z c v code
  decide

/-! ## Addresses (R60) -/

theorem putHigh_zeroExtend (a : Addr) (k : BitVec 8) : putHigh a ((k.zeroExtend 16).zeroExtend 32) = k ++ a.setWidth 32 := by
  have hk : ((k.zeroExtend 16).zeroExtend 32).extractLsb' 0 8 = k := by
    rw [← BitVec.setWidth_eq_extractLsb' (by decide)]
    simp
  rw [putHigh, hk, BitVec.setWidth_eq_extractLsb' (by decide)]

/-- A byte in a half-word leaves the other byte 0. -/
theorem extractLsb'_zeroExtend (k : BitVec 8) : (k.zeroExtend 16).extractLsb' 8 8 = 0 := by
  ext i hi
  simp

theorem addrHigh_eq (a : Addr) : addrHigh a = (a.extractLsb' 32 8).zeroExtend 32 := by
  ext i hi
  rw [addrHigh]
  simp only [BitVec.getElem_setWidth, BitVec.getLsbD_ushiftRight, BitVec.getLsbD_extractLsb']
  by_cases h8 : i < 8
  · simp [h8]
  · simp [h8, BitVec.getLsbD_of_ge a (32 + i) (by omega)]

/-- Settles O7. -/
theorem dataAndAddressMoves : Obligations.DataAndAddressMoves := by
  unfold Obligations.DataAndAddressMoves
  refine ⟨?_, ?_⟩
  · intro h a b n d s1 s2 imm k A B
    have hA : aIdx A = a.toNat := aIdx_append a
    have hB : aIdx B = b.toNat := aIdx_append b
    have hbA : aBad A = false := aBad_append a
    have hbB : aBad B = false := aBad_append b
    have hn := toNat_zeroExtend_five n
    have hk := kBad_zeroExtend n
    refine ⟨?_, ?_, ?_, ?_, ?_⟩
    · simp only [List.forall_mem_cons, List.not_mem_nil, false_imp_iff, implies_true, and_true]
      refine ⟨?_, ?_, ?_, ?_, ?_, ?_⟩
      case refine_6 =>
        exact registerEffect_of_simple (fun _ => rfl) (by rw [hbA, extractLsb'_zeroExtend]; rfl) fun c => by
          rw [hA, putHigh_zeroExtend]
      all_goals refine registerEffect_of_simple (fun _ => rfl) (by simp only [hbA, hbB]; rfl) fun c => ?_
      all_goals simp only [hA, hB, asAddr]
    · exact registerEffect_of_simple (fun _ => rfl) (by rw [hbB]; rfl) fun c => by rw [hB, addrLow]
    · exact registerEffect_of_simple (fun _ => rfl) (by rw [hbB]; rfl) fun c => by rw [hB, addrHigh_eq]
    · exact registerEffect_of_simple (fun _ => rfl) (by rw [hk]; rfl) fun c => by rw [hn]
    · exact registerEffect_of_simple (fun _ => rfl) (by rw [hk]; rfl) fun c => by rw [hn]
  · intro h d s1 s2 imm cond
    refine ⟨?_, ?_, ?_, ?_⟩
    · exact registerEffect_of_simple (fun _ => rfl) rfl fun c => rfl
    · exact registerEffect_of_simple (fun _ => rfl) rfl fun c => rfl
    · exact registerEffect_of_simple (fun _ => rfl) rfl fun c => by rw [BitVec.setWidth_eq_extractLsb' (by decide)]
    · have hcond : (cond.zeroExtend 6).toNat % 16 = cond.toNat := by
        revert cond
        decide
      have hfield : ((cond.zeroExtend 6).getLsbD 4 || (cond.zeroExtend 6).getLsbD 5) = false := by
        revert cond
        decide
      exact registerEffect_of_simple (fun _ => rfl) hfield fun c => by rw [hcond, Flags.cond_eq]

end Sys2Proof.Machine
end

section
/-!
# Addressing modes: statement O8
-/

namespace Sys2Proof.Machine

/-! ## The circular update (R69) -/

theorem ceilLog2_eq {n k : Nat} (hk : n ≤ 2 ^ k) (hmin : ∀ j, n ≤ 2 ^ j → k ≤ j) (h40 : k ≤ 40) : ceilLog2 n = k := by
  have hfind : (List.range 41).find? (fun k => decide (n ≤ 2 ^ k)) = some k := by
    rw [List.find?_range_eq_some]
    refine ⟨by simpa using hk, by simp; omega, fun j hj => ?_⟩
    simp only [Bool.not_eq_true', decide_eq_false_iff_not]
    exact fun hn => absurd (hmin j hn) (by omega)
  rw [ceilLog2, hfind]
  rfl

/-- A modifier with a buffer length shows it in its low 24 bits. -/
theorem lengthOk_of_lt {m : Word} (hpos : 1 ≤ m.toNat) (hlt : m.toNat < 2 ^ 24) :
    lengthOk m = true ∧ fieldOf m 23 0 = m.toNat := by
  have hhigh : fieldOf m 31 24 = 0 := by
    rw [fieldOf]
    omega
  have hne : m ≠ 0 := by
    rintro rfl
    exact absurd hpos (by decide)
  refine ⟨by simpa [lengthOk, hhigh] using hne, ?_⟩
  rw [fieldOf]
  omega

theorem moduloStep_eq {an : Addr} {m : Word} {k base o : Nat} (hpos : 1 ≤ m.toNat) (hlt : m.toNat < 2 ^ 24)
    (hk : m.toNat ≤ 2 ^ k) (hmin : ∀ j, m.toNat ≤ 2 ^ j → k ≤ j) (han : an.toNat = base * 2 ^ k + o) (ho : o < 2 ^ k) (step : Int) :
    moduloStep an m step = BitVec.ofInt 40 (base * 2 ^ k +
      (if (m.toNat : Int) ≤ o + step then o + step - m.toNat
       else if (o : Int) + step < 0 then o + step + m.toNat else o + step)) := by
  have hk24 : k ≤ 24 := hmin 24 hlt.le
  have hdiv : an.toNat / 2 ^ k = base := by
    rw [han, Nat.mul_comm, Nat.mul_add_div (Nat.two_pow_pos k), Nat.div_eq_of_lt ho, Nat.add_zero]
  have hmod : an.toNat % 2 ^ k = o := by
    rw [han, Nat.mul_comm, Nat.mul_add_mod, Nat.mod_eq_of_lt ho]
  rw [moduloStep, (lengthOk_of_lt hpos hlt).2, ceilLog2_eq hk hmin (by omega), hdiv, hmod]
  push_cast
  rfl

/-! ## Mirror images (R70) -/

theorem mirror_lt (k v : Nat) : mirror k v < 2 ^ k := by
  induction k generalizing v with
  | zero => exact Nat.one_pos
  | succ k ih =>
    have hbit : v % 2 ≤ 1 := by omega
    have := ih (v / 2)
    rw [mirror, Nat.pow_succ]
    nlinarith

theorem mirror_testBit (k v i : Nat) : (mirror k v).testBit i = (decide (i < k) && v.testBit (k - 1 - i)) := by
  induction k generalizing v with
  | zero => simp [mirror]
  | succ k ih =>
    rw [mirror, Nat.mul_comm, Nat.testBit_two_pow_mul_add _ (mirror_lt k _)]
    split
    · next hi =>
      have hsub : k + 1 - 1 - i = k - 1 - i + 1 := by omega
      rw [ih, hsub, Nat.testBit_succ]
      simp [hi, Nat.lt_succ_of_lt hi]
    · next hi =>
      have hone : v % 2 = v % 2 ^ 1 := rfl
      rw [hone, Nat.testBit_mod_two_pow]
      by_cases hik : i = k
      · simp [hik]
      · have hlt : ¬ i - k < 1 := by omega
        have hgt : ¬ i < k + 1 := by omega
        simp [hlt, hgt]

theorem mirror_mirror (k v : Nat) : mirror k (mirror k v) = v % 2 ^ k := by
  apply Nat.eq_of_testBit_eq
  intro i
  rw [mirror_testBit, mirror_testBit, Nat.testBit_mod_two_pow]
  by_cases hi : i < k
  · have hback : k - 1 - (k - 1 - i) = i := by omega
    simp [hi, hback]
    omega
  · simp [hi]

/-- Only the low bits have a mirror image. -/
theorem mirror_mod (k v : Nat) : mirror k (v % 2 ^ k) = mirror k v := by
  apply Nat.eq_of_testBit_eq
  intro i
  rw [mirror_testBit, mirror_testBit, Nat.testBit_mod_two_pow]
  by_cases hi : i < k
  · have : k - 1 - i < k := by omega
    simp [this]
  · simp [hi]

theorem reverseBits_eq_mirror (k v : Nat) : reverseBits k v = mirror k v := by
  induction k generalizing v with
  | zero => rfl
  | succ k ih =>
    have htail (i : Nat) : (if v.testBit (i + 1) then 2 ^ (k + 1 - 1 - (i + 1)) else 0) =
        if (v / 2).testBit i then 2 ^ (k - 1 - i) else 0 := by
      rw [Nat.testBit_succ]
      congr 2
      omega
    rw [mirror, ← ih, reverseBits, reverseBits, List.range_succ_eq_map, List.map_cons, List.sum_cons, List.map_map]
    congr 1
    · rw [Nat.testBit_zero]
      rcases Nat.mod_two_eq_zero_or_one v with hv | hv <;> simp [hv]
    · exact congrArg List.sum (List.map_congr_left fun i _ => htail i)

/-- The reverse-carry sum: the high bits stay, the mirror images of the low ones add. -/
theorem bitReverseStep_spec {an : Addr} {m : Word} {k : Nat} (hk : k < 32) (hlow : 2 ^ k ≤ m.toNat) (hhigh : m.toNat < 2 ^ (k + 1)) :
    (∀ j, k < j → (bitReverseStep an m).getLsbD j = an.getLsbD j) ∧
      mirror (k + 1) (bitReverseStep an m).toNat = (mirror (k + 1) an.toNat + mirror (k + 1) m.toNat) % 2 ^ (k + 1) := by
  have hm : m.toNat ≠ 0 := by
    have := Nat.two_pow_pos k
    omega
  have hlog : m.toNat.log2 = k := (Nat.log2_eq_iff hm).2 ⟨hlow, hhigh⟩
  have hne : m ≠ 0 := fun h => hm (by rw [h]; rfl)
  obtain ⟨low, hlowdef⟩ : ∃ low, low = mirror (k + 1) ((mirror (k + 1) an.toNat + mirror (k + 1) m.toNat) % 2 ^ (k + 1)) := ⟨_, rfl⟩
  have hlt : low < 2 ^ (k + 1) := hlowdef ▸ mirror_lt _ _
  have hval : (bitReverseStep an m).toNat = 2 ^ (k + 1) * (an.toNat / 2 ^ (k + 1)) + low := by
    rw [bitReverseStep, if_neg hne]
    simp only [hlog, reverseBits_eq_mirror, mirror_mod, ← hlowdef, BitVec.toNat_ofNat]
    rw [Nat.mul_comm]
    refine Nat.mod_eq_of_lt ?_
    have hsplit : 2 ^ 40 = 2 ^ (k + 1) * 2 ^ (39 - k) := by rw [← Nat.pow_add]; congr 1; omega
    have hq : an.toNat / 2 ^ (k + 1) < 2 ^ (39 - k) := Nat.div_lt_of_lt_mul (hsplit ▸ an.isLt)
    calc 2 ^ (k + 1) * (an.toNat / 2 ^ (k + 1)) + low < 2 ^ (k + 1) * (an.toNat / 2 ^ (k + 1) + 1) := by
          rw [Nat.mul_add]; omega
      _ ≤ 2 ^ (k + 1) * 2 ^ (39 - k) := Nat.mul_le_mul_left _ hq
      _ = 2 ^ 40 := hsplit.symm
  refine ⟨fun j hj => ?_, ?_⟩
  · rw [BitVec.getLsbD, BitVec.getLsbD, hval, Nat.testBit_two_pow_mul_add _ hlt, if_neg (by omega), Nat.testBit_div_two_pow]
    congr 1
    omega
  · rw [hval, ← mirror_mod, Nat.mul_add_mod, Nat.mod_eq_of_lt hlt, hlowdef, mirror_mirror, Nat.mod_mod]

/-- Settles O8: modes 0 to 3 are the sums of R67; the modulo and the bit-reversed mode are the two lemmas above. -/
theorem addressingModes : Obligations.AddressingModes := by
  unfold Obligations.AddressingModes
  intro c n off x
  refine ⟨rfl, rfl, rfl, rfl, ?_, ?_, ?_⟩
  · rintro L k base o rfl hpos hlt hk hmin han ho
    have hok := (lengthOk_of_lt hpos hlt).1
    show (c.ar n, some (if lengthOk (c.mr n) then _ else _)) = _
    rw [if_pos hok, moduloStep_eq hpos hlt hk hmin han ho]
  · intro hm
    show (c.ar n, some (bitReverseStep (c.ar n) (c.mr n))) = _
    rw [hm]
    rfl
  · intro k hk hlow hhigh
    exact ⟨_, rfl, bitReverseStep_spec hk hlow hhigh⟩

end Sys2Proof.Machine
end

section
/-!
# Loads: statement O9
-/

namespace Sys2Proof.Machine

/-! ## The write-back and the destination (R68) -/

/-- `c` with the write-back of an addressing mode done. -/
def Core.writtenBack (c : Core) (wb : Option (Nat × Addr)) : Core := match wb with | some w => c.setA w.1 w.2 | none => c

theorem Core.loaded_eq_writtenBack (c : Core) (q : LoadReq) (l : List Byte) :
    c.loaded q l = (c.writtenBack q.wb).loaded { q with wb := none } l := by
  cases hw : q.wb <;> simp only [Core.loaded, hw, Core.writtenBack]

/-- LDS and LDZ write one data register, or two for 8 bytes (R71). -/
theorem Core.loaded_dataDst (c : Core) {q : LoadReq} {d : BitVec 5} {size : BitVec 2} {sg : Bool} (hw : q.wb = none)
    (hd : q.dst = dataDst d size sg) (l : List Byte) :
    c.loaded q l =
      if size = 3 then (c.setD d.toNat (BitVec.ofNat 32 (natLE (l.take 4)))).setD (d.toNat + 1) (BitVec.ofNat 32 (natLE (l.drop 4)))
      else c.setD d.toNat (if sg then BitVec.ofInt 32 (sext (8 * l.length) (natLE l)) else BitVec.ofNat 32 (natLE l)) := by
  unfold dataDst at hd
  by_cases h3 : size = 3
  · rw [if_pos h3] at hd
    simp only [Core.loaded, hw, hd, h3, if_true]
  · rw [if_neg h3] at hd
    simp only [Core.loaded, hw, hd, h3, if_false]

/-! ## A load that is not held up -/

section
variable {s t u : State} {h : Hart} {w : Word} {a : BitVec 4} {mode : BitVec 3} {off : BitVec 12} {l : List Byte} {n : Nat}
  {r align : Bool} {dst : LoadDst} {acc : Addr × Option (Nat × Addr)}

theorem State.load_of_loadGo {q : LoadReq} (hgo : s.loadGo h q q.parts q.got = (u, some l)) :
    s.load h q = u.loadDone h q l := by
  rw [State.load, hgo]

/-- A load instruction whose parts are all read goes on to its end. -/
theorem State.loadIns_of_loadGo (hi : s.issuesTo t h) (hr : r = false) (hm : memBad a mode off = false)
    (hacc : (t.hart h).access a mode off t.fresh.1 = acc) (ha : align = true → acc.1.toNat % 8 = 0)
    (hgo : t.fresh.2.loadGo h ⟨w, dst, partsOf acc.1 n, [], acc.2, false⟩ (partsOf acc.1 n) [] = (u, some l)) :
    s.loadIns h w r a mode off n align dst = u.loadDone h ⟨w, dst, partsOf acc.1 n, [], acc.2, false⟩ l := by
  subst hr hacc
  have hok : (align && ((t.hart h).access a mode off t.fresh.1).1.toNat % 8 != 0) = false := by
    cases align
    · rfl
    · simp [ha rfl]
  rw [State.loadIns, hm]
  refine (State.issue_body hi w false false (.inl rfl) (.inl rfl) _).trans ?_
  refine (if_neg (Bool.eq_false_iff.1 hok)).trans ?_
  exact State.load_of_loadGo hgo

/-- The end of a load into registers: the destination is written and the load retires. -/
theorem State.loadDone_onlyHart {q : LoadReq} (he : q.dst ≠ .elem) (hf : q.dst ≠ .frame) :
    u.onlyHart (u.loadDone h q l) h (({ u.hart h with wait := .none } : Core).loaded q l).retire := by
  have hdone : u.loadDone h q l =
      (u.modHart h fun c => { c with wait := .none }).modHart h fun c => (c.loaded q l).retire := by
    unfold State.loadDone
    cases hd : q.dst with
    | elem => exact absurd hd he
    | frame => exact absurd hd hf
    | _ => rfl
  have hwrite := (u.modHart h fun c => { c with wait := .none }).modHart_onlyHart h fun c => (c.loaded q l).retire
  rw [State.hart_modHart] at hwrite
  rw [hdone]
  exact (u.modHart_onlyHart h _).trans hwrite

theorem load_effect {i : Instr} (hx : exec i s = .next (s.loadIns h w r a mode off n align dst)) (hi : s.issuesTo t h)
    (hr : r = false) (hm : memBad a mode off = false) (hacc : (t.hart h).access a mode off t.fresh.1 = acc)
    (ha : align = true → acc.1.toNat % 8 = 0) (he : dst ≠ .elem) (hf : dst ≠ .frame)
    (hgo : t.fresh.2.loadGo h ⟨w, dst, partsOf acc.1 n, [], acc.2, false⟩ (partsOf acc.1 n) [] = (u, some l)) :
    ∃ v, exec i s = .next v ∧ u.onlyHart v h
      ((({ u.hart h with wait := .none } : Core).writtenBack acc.2).loaded ⟨w, dst, partsOf acc.1 n, [], none, false⟩ l).retire := by
  refine ⟨_, by rw [hx, State.loadIns_of_loadGo hi hr hm hacc ha hgo], ?_⟩
  have hdone := State.loadDone_onlyHart (u := u) (h := h) (l := l) (q := ⟨w, dst, partsOf acc.1 n, [], acc.2, false⟩) he hf
  rwa [Core.loaded_eq_writtenBack] at hdone

end

/-- Settles O9: each form is a load whose end writes its destination after the write-back. -/
theorem loadsWriteTheirDestination : Obligations.LoadsWriteTheirDestination := by
  unfold Obligations.LoadsWriteTheirDestination
  intro h d n a b mode size off s t u l hi hm acc back
  refine ⟨fun sg hodd hgo => ?_, fun hgo => ?_, fun halign hgo => ?_⟩
  · have hr : (size == 3 && d.getLsbD 0) = false := by simpa using hodd
    have hx : exec (if sg then .lds h d a mode size off else .ldz h d a mode size off) s =
        .next (s.loadIns h (wordMem (if sg then 0x10 else 0x11) d a mode size off) (size == 3 && d.getLsbD 0) a mode off
          (sizeBytes size) false (dataDst d size sg)) := by cases sg <;> rfl
    obtain ⟨v, hv, honly⟩ := load_effect hx hi hr hm rfl nofun (by unfold dataDst; split <;> nofun)
      (by unfold dataDst; split <;> nofun) hgo
    refine ⟨v, hv, ?_⟩
    rw [Core.loaded_dataDst _ rfl rfl] at honly
    exact honly
  · have hx : exec (.lda h (b ++ 0#1) a mode 3 off) s = .next (s.loadIns h (wordMem 0x13 (b ++ 0#1) a mode 3 off)
        (aBad (b ++ 0#1)) a mode off 8 false (.addr b.toNat)) := by
      rw [← aIdx_append b]
      rfl
    exact load_effect hx hi (aBad_append b) hm rfl nofun nofun nofun hgo
  · have hx : exec (.ldacc h (n.zeroExtend 5) a mode 3 off) s = .next (s.loadIns h (wordMem 0x15 (n.zeroExtend 5) a mode 3 off)
        (kBad (n.zeroExtend 5)) a mode off 16 true (.acc n.toNat)) := by
      rw [← toNat_zeroExtend_five n]
      rfl
    exact load_effect hx hi (kBad_zeroExtend n) hm rfl (fun _ => halign) nofun nofun hgo

end Sys2Proof.Machine
end

section
/-!
# Hardware loops and waits: statements O14 and O15
-/

namespace Sys2Proof.Machine

/-- The register field of LOOP stays below 32 where its reserved bits are 0. -/
theorem extractLsb'_of_lt {cnt : BitVec 12} (hc : cnt.toNat < 32) : cnt.extractLsb' 5 7 = 0 := by
  apply BitVec.eq_of_toNat_eq
  rw [BitVec.extractLsb'_toNat, Nat.shiftRight_eq_div_pow, Nat.div_eq_of_lt hc]
  rfl

/-- Settles O14: the test of R78 decides between ILLOOP and the armed level. -/
theorem loopArmsItsLevel : Obligations.LoopArmsItsLevel := by
  unfold Obligations.LoopArmsItsLevel
  intro h level imm cnt len s t hi ⟨hdelay, hend⟩ hlen hcnt c n le bad
  have hres : (len == 0 || (!imm && cnt.extractLsb' 5 7 != 0)) = false := by
    rcases hcnt with rfl | hc
    · simpa using hlen
    · simpa [extractLsb'_of_lt hc] using hlen
  have hx : exec (.loop h level imm cnt len) s = .next _ :=
    congrArg Host.Outcome.next (State.issue_of hi hres (.inr hdelay) (.inr hend) _)
  have hbad : ((!level && c.loop1.armed) || (level && c.loop0.armed && decide (c.loop0.last.toNat ≤ le.toNat))) = true ↔ bad := by
    cases level <;> simp [bad]
  have hn : (if imm then cnt.zeroExtend 32 else c.dr (cnt.toNat % 32)) = n := by
    rcases hcnt with rfl | hc
    · rfl
    · rw [Nat.mod_eq_of_lt hc]
  refine ⟨fun hok => ?_, fun hno => ?_⟩
  · have hrun := hx.trans (congrArg Host.Outcome.next (if_neg (mt hbad.1 hok)))
    refine ⟨_, hrun, (t.modHart_onlyHart h _).1, ?_⟩
    have harmed : (n != 0) = decide (n ≠ 0) := by simp only [bne, beq_eq_decide, decide_not]
    simp only [State.hart_modHart]
    rw [hn, harmed]
    by_cases hzero : n = 0
    · simp only [if_pos hzero]
      cases level <;> exact ⟨rfl, rfl, rfl, hdelay, rfl, rfl, rfl⟩
    · simp only [if_neg hzero]
      cases level <;> exact ⟨rfl, rfl, rfl, hdelay, rfl, rfl, rfl⟩
  · exact hx.trans (congrArg Host.Outcome.next (if_pos (hbad.2 hno)))

/-! ## Waits -/

theorem Core.wfeReady_iff (c : Core) : c.wfeReady = true ↔ c.inputs ≠ 0 ∨ c.intPending = true := by
  simp [Core.wfeReady]

/-- What an issued WFE makes of its core (R79). -/
def Core.wfeStart (c : Core) (d : Nat) : Core := if c.wfeReady then c.wfeDone d else { c with wait := .wfe d }

theorem exec_wfe {s t : State} {h : Hart} (hi : s.issuesTo t h) (hp : t.plainPlace h) (d : BitVec 5) :
    exec (.wfe h d 0 0 0) s = .next (t.modHart h fun c => c.wfeStart d.toNat) :=
  congrArg Host.Outcome.next (State.issue_of hi rfl (.inr hp.1) (.inl rfl) _)

/-- What an issued WAITT makes of its core, by whether its target is reached (R81). -/
def Core.waittStart (c : Core) (dt dm : Nat) (reached : Bool) : Core :=
  if reached then c.waittDone true true
  else if c.hasTimeout dm && c.dr dm == 0 then c.waittDone false false
  else { c with wait := .waitt dt dm }

theorem waitt_effect {s t : State} {h : Hart} {dm dt : BitVec 5} {b : Bool} (hi : s.issuesTo t h) (hp : t.plainPlace h)
    (hb : t.cueReached ((t.hart h).dr dt.toNat) = b) :
    ∃ u, exec (.waitt h dm dt 0 0) s = .next u ∧ t.onlyHart u h ((t.hart h).waittStart dt.toNat dm.toNat b) := by
  subst hb
  exact ⟨_, congrArg Host.Outcome.next (State.issue_of hi rfl (.inr hp.1) (.inl rfl) _),
    t.modHart_onlyHart h fun c => c.waittStart dt.toNat dm.toNat (t.cueReached ((t.hart h).dr dt.toNat))⟩

theorem Core.hasTimeout_iff (c : Core) (m : Nat) : c.hasTimeout m = true ↔ m ≠ 0 ∧ c.dr m ≠ 0xFFFFFFFF#32 := by
  simp [Core.hasTimeout]

/-- A timeout register that holds 0 ends the wait at once. -/
theorem Core.waittStart_expired {c : Core} {dt dm : Nat} (hm : dm ≠ 0) (hd : c.dr dm = 0) :
    c.waittStart dt dm false = c.waittDone false false := by
  have ht : c.hasTimeout dm = true := (c.hasTimeout_iff dm).2 ⟨hm, by rw [hd]; decide⟩
  simp [Core.waittStart, ht, hd]

theorem Core.waittStart_waits {c : Core} {dt dm : Nat} (hm : dm = 0 ∨ c.dr dm ≠ 0) :
    c.waittStart dt dm false = { c with wait := .waitt dt dm } := by
  rcases hm with rfl | hd
  · rfl
  · have hz : (c.hasTimeout dm && c.dr dm == 0) = false := by rw [beq_false_of_ne hd, Bool.and_false]
    simp only [Core.waittStart, hz, Bool.false_eq_true, if_false]

/-- A waiting WFE wakes once it is ready. -/
theorem State.wfeWake_ready {s : State} {h : Hart} {k : Nat} (hw : (s.hart h).wait = .wfe k) (hr : (s.hart h).wfeReady = true) :
    s.wfeWake h = s.modHart h fun c => c.wfeDone k := by
  rw [State.wfeWake, hw]
  exact if_pos hr

theorem State.wfeWake_not_ready {s : State} {h : Hart} {k : Nat} (hw : (s.hart h).wait = .wfe k)
    (hr : (s.hart h).wfeReady = false) : s.wfeWake h = s := by
  rw [State.wfeWake, hw]
  exact if_neg (Bool.eq_false_iff.1 hr)

theorem State.waittReached_of {s : State} {h : Hart} {k m : Nat} (hw : (s.hart h).wait = .waitt k m)
    (hr : s.cueReached ((s.hart h).dr k) = true) : s.waittReached h = s.modHart h fun c => c.waittDone true false := by
  rw [State.waittReached, hw]
  exact if_pos hr

/-- What the timeout of a waiting WAITT does. -/
theorem State.waittTimeout_eq {s : State} {h : Hart} {k m : Nat} (hw : (s.hart h).wait = .waitt k m) :
    s.waittTimeout h =
      if s.cueReached ((s.hart h).dr k) then s.modHart h fun c => c.waittDone true false
      else if (s.hart h).hasTimeout m then s.modHart h fun c => (c.setD m 0).waittDone false false
      else s := by
  rw [State.waittTimeout, hw]

/-- Settles O15: a start and an end of each wait, with the tests of R79 and R81 decided by the hypotheses. -/
theorem eventAndCueWaits : Obligations.EventAndCueWaits := by
  unfold Obligations.EventAndCueWaits
  refine ⟨fun h d ch => ?_, fun h dm dt => ?_⟩
  · intro done
    have hwaits (c : Core) (hin : c.inputs = 0) (hp : c.intPending = false) : c.wfeReady = false := by
      rw [Core.wfeReady, hin, hp]
      rfl
    refine ⟨fun s t hi hp => ?_, fun s k hw => ?_, fun s t hi => ?_⟩
    · have honly := t.modHart_onlyHart h fun c => c.wfeStart d.toNat
      refine ⟨fun hr => ⟨_, exec_wfe hi hp d, ?_⟩, fun hin hpend => ⟨_, exec_wfe hi hp d, ?_⟩⟩
      · rwa [Core.wfeStart, if_pos ((Core.wfeReady_iff _).2 hr)] at honly
      · rwa [Core.wfeStart, if_neg (Bool.eq_false_iff.1 (hwaits _ hin hpend))] at honly
    · refine ⟨fun hr => ?_, fun hin hpend => ?_⟩
      · exact ⟨_, congrArg Host.Outcome.next (State.wfeWake_ready hw ((Core.wfeReady_iff _).2 hr)), s.modHart_onlyHart h _⟩
      · exact congrArg Host.Outcome.next (State.wfeWake_not_ready hw (hwaits _ hin hpend))
    · have hch : (ch.zeroExtend 16).toNat % 256 = ch.toNat := by
        rw [BitVec.toNat_setWidth]
        omega
      refine ⟨_, congrArg Host.Outcome.next (State.issue_of hi (by rw [extractLsb'_zeroExtend]; rfl) (.inl rfl) (.inl rfl) _), ?_⟩
      rw [hch]
      exact State.modHart_onlyHart ..
  · intro reached done
    have hreach (s : State) (k : Nat) : s.cueReached ((s.hart h).dr k) = decide (reached s k) := rfl
    refine ⟨fun s t hi hp => ?_, fun s t m hw => ?_⟩
    · refine ⟨fun hr => ?_, fun hr hm hd => ?_, fun hr hm => ?_⟩
      · obtain ⟨u, hx, honly⟩ := waitt_effect (dm := dm) hi hp (decide_eq_true hr)
        exact ⟨u, hx, honly⟩
      · obtain ⟨u, hx, honly⟩ := waitt_effect (dm := dm) hi hp (decide_eq_false hr)
        rw [Core.waittStart_expired (fun h0 => hm (BitVec.eq_of_toNat_eq h0)) hd] at honly
        exact ⟨u, hx, honly⟩
      · obtain ⟨u, hx, honly⟩ := waitt_effect (dm := dm) hi hp (decide_eq_false hr)
        rw [Core.waittStart_waits (hm.imp_left fun h0 => by rw [h0]; rfl)] at honly
        exact ⟨u, hx, honly⟩
    · have hto := State.waittTimeout_eq hw
      rw [hreach] at hto
      refine ⟨fun hr => ?_, fun hr hm hd => ?_, fun hr hm => ?_⟩
      · rw [if_pos (decide_eq_true hr)] at hto
        exact ⟨_, congrArg Host.Outcome.next (State.waittReached_of hw (decide_eq_true hr)), congrArg Host.Outcome.next hto,
          s.modHart_onlyHart h _⟩
      · rw [if_neg (by simpa using hr), if_pos ((Core.hasTimeout_iff _ _).2 ⟨hm, hd⟩)] at hto
        exact ⟨_, congrArg Host.Outcome.next hto, s.modHart_onlyHart h _⟩
      · have hnone : ¬ (s.hart h).hasTimeout m = true := by
          rw [Core.hasTimeout_iff]
          tauto
        rw [if_neg (by simpa using hr), if_neg hnone] at hto
        exact congrArg Host.Outcome.next hto

end Sys2Proof.Machine
end

section
/-!
# System registers: statements O17 and O18
-/

namespace Sys2Proof.Machine

/-! ## The numbers of the system registers (R87, R124) -/

/-- The numbers of the system registers but for IPRIO and VHOLD, which are arrays. -/
def sysNumbers : List Nat :=
  [0x000, 0x001, 0x010, 0x011, 0x012, 0x013, 0x014, 0x018, 0x019, 0x01A, 0x01B, 0x01C, 0x01F, 0x020, 0x021, 0x022, 0x023, 0x024, 0x025,
   0x030, 0x031, 0x032, 0x033, 0x034, 0x035, 0x036, 0x037, 0x038, 0x039, 0x03A, 0x03B, 0x040, 0x041, 0x042, 0x048, 0x049, 0x04A,
   0x050, 0x051, 0x052, 0x053, 0x05A, 0x060, 0x061, 0x062, 0x063]

theorem Core.sysReg_array (c : Core) {m : Nat} (hm : m ∉ sysNumbers) :
    c.sysReg m = if 0x054 ≤ m ∧ m ≤ 0x059 then some (mget 0 c.iprio (m - 0x054))
      else if 0x100 ≤ m ∧ m ≤ 0x13F then some (mget 0 c.vhold (m - 0x100)) else none := by
  unfold Core.sysReg
  split
  case h_47 => rfl
  all_goals exact absurd (by decide) hm

theorem not_mem_sysNumbers {m : Nat} (hm : 0x100 ≤ m) : m ∉ sysNumbers := fun h =>
  absurd ((by decide : ∀ m ∈ sysNumbers, m < 0x100) m h) (by omega)

theorem Core.sysReg_vhold (c : Core) {n : Nat} (hn : n < 64) : c.sysReg (0x100 + n) = some (mget 0 c.vhold n) := by
  rw [Core.sysReg_array _ (not_mem_sysNumbers (by omega)), if_neg (by omega), if_pos (by omega), Nat.add_sub_cancel_left]

theorem Core.sysReg_iprio (c : Core) {n : Nat} (hn : n < 6) : c.sysReg (0x054 + n) = some (mget 0 c.iprio n) := by
  have hm : 0x054 + n ∉ sysNumbers := by
    revert n
    decide
  rw [Core.sysReg_array _ hm, if_pos (by omega), Nat.add_sub_cancel_left]

/-- The system registers and what each reads, IPRIO and VHOLD apart. -/
def Core.sysTable (c : Core) : List (Nat × Word) :=
  [(0x000, c.flags.toWord), (0x001, 0x0204001F#32), (0x010, addrLow c.loop0.start), (0x011, addrHigh c.loop0.start),
   (0x012, addrLow c.loop0.last), (0x013, addrHigh c.loop0.last), (0x014, c.loop0.count), (0x018, addrLow c.loop1.start),
   (0x019, addrHigh c.loop1.start), (0x01A, addrLow c.loop1.last), (0x01B, addrHigh c.loop1.last), (0x01C, c.loop1.count),
   (0x01F, BitVec.ofNat 32 (c.loop1.armed.toNat * 2 + c.loop0.armed.toNat)), (0x020, c.modeWord), (0x021, addrLow c.vbase),
   (0x022, addrHigh c.vbase), (0x023, c.tacc.zeroExtend 32), (0x024, addrLow c.spTask), (0x025, addrHigh c.spTask), (0x030, c.estat),
   (0x031, addrLow c.epc), (0x032, addrHigh c.epc), (0x033, addrLow c.eaddr), (0x034, addrHigh c.eaddr), (0x035, addrLow c.eaddr2),
   (0x036, addrHigh c.eaddr2), (0x037, c.einstr), (0x038, c.mcstat), (0x039, addrLow c.mcepc), (0x03A, addrHigh c.mcepc),
   (0x03B, c.mcflags), (0x040, addrLow c.cmaddr), (0x041, addrHigh c.cmaddr), (0x042, 0), (0x048, c.pfWord), (0x049, addrLow c.pfAddr),
   (0x04A, addrHigh c.pfAddr), (0x050, c.ien.setWidth 32), (0x051, (c.ien >>> 32).setWidth 32), (0x052, c.ipend.setWidth 32),
   (0x053, (c.ipend >>> 32).setWidth 32), (0x05A, BitVec.ofNat 32 (c.holdCnt % 2048)),
   (0x060, BitVec.ofNat 32 (c.bpStatic.toNat * 2 + c.bpFreeze.toNat)), (0x061, c.bpbr), (0x062, c.bpmis), (0x063, c.bplook)]

theorem Core.sysReg_table (c : Core) {m : Nat} (hm : m ∈ sysNumbers) : c.sysReg m = c.sysTable.lookup m := by
  unfold Core.sysReg
  split
  case h_47 => simp_all [sysNumbers]
  all_goals rfl

/-- Whether a number has a register does not depend on the core. -/
theorem Core.sysReg_isNone (c b : Core) (m : Nat) : (c.sysReg m).isNone = (b.sysReg m).isNone := by
  by_cases hm : m ∈ sysNumbers
  · have hsome (c : Core) : (c.sysReg m).isNone = false := by
      unfold Core.sysReg
      split
      case h_47 => simp_all [sysNumbers]
      all_goals rfl
    rw [hsome c, hsome b]
  · rw [c.sysReg_array hm, b.sysReg_array hm]
    split
    · rfl
    · split <;> rfl

theorem lookup_filter_not_contains {l : List (Nat × Word)} {x : List Nat} {m : Nat} (hm : m ∉ x) :
    (l.filter fun e => !x.contains e.1).lookup m = l.lookup m := by
  induction l with
  | nil => rfl
  | cons e l ih =>
    obtain ⟨k, w⟩ := e
    by_cases hk : k ∈ x
    · have hne : (m == k) = false := beq_false_of_ne fun h => hm (h ▸ hk)
      rw [List.filter_cons_of_neg (by simpa using hk), ih, List.lookup_cons, hne]
    · rw [List.filter_cons_of_pos (by simpa using hk), List.lookup_cons, List.lookup_cons, ih]

/-- `b` agrees with `c` in the arrays and in the other registers apart from `x`. -/
def Core.agreesApart (c b : Core) (x : List Nat) : Prop :=
  (b.sysTable.filter fun e => !x.contains e.1) = (c.sysTable.filter fun e => !x.contains e.1) ∧ b.iprio = c.iprio ∧ b.vhold = c.vhold

theorem Core.agreesApart.sysReg {c b : Core} {x : List Nat} (h : c.agreesApart b x) {m : Nat} (hm : m ∉ x) :
    b.sysReg m = c.sysReg m := by
  obtain ⟨hf, hi, hv⟩ := h
  by_cases hl : m ∈ sysNumbers
  · rw [b.sysReg_table hl, c.sysReg_table hl, ← lookup_filter_not_contains hm, hf, lookup_filter_not_contains hm]
  · rw [b.sysReg_array hl, c.sysReg_array hl, hi, hv]

/-! ## O17 -/

section
variable {s t : State} {h : Hart} {d : BitVec 5} {n : BitVec 10} {aux : BitVec 6}

/-- MFS and MTS of a number that no register has. -/
theorem State.sysAccess_rsvd (hi : s.issuesTo t h) (hn : (t.hart h).sysReg n.toNat = none) (minor : Nat) (f : Core → Core) :
    s.sysAccess h minor d n aux f = t.rsvd h (wordSys minor d n aux) := by
  rw [State.sysAccess, Core.sysReg_isNone _ (t.hart h), hn]
  exact State.issue_reserved hi _ _ _ _

/-- The access of an issued MFS or MTS: PRIV, or the register's effect. -/
theorem State.sysAccess_of_sysReg (hi : s.issuesTo t h) {v : Word} (hn : (t.hart h).sysReg n.toNat = some v) (minor : Nat)
    (f : Core → Core) :
    s.sysAccess h minor d n aux f =
      if (t.hart h).tm && !taskReg n.toNat then t.priv h (wordSys minor d n aux) else (t.modHart h fun c => (f c).retire).settle := by
  rw [State.sysAccess]
  exact State.issue_of hi (by rw [Core.sysReg_isNone _ (t.hart h), hn]; rfl) (.inl rfl) (.inl rfl) _

end

/-- Settles O17: a number without a register is reserved, task mode reaches the numbers below 0x020, and elsewhere the access
changes its core and the lines are latched. -/
theorem systemRegisterMoves : Obligations.SystemRegisterMoves := by
  unfold Obligations.SystemRegisterMoves
  intro h d n aux s t hi c
  refine ⟨fun v hv hok => ?_, fun v hv htm hge => ?_, fun hnone => ?_⟩
  · have hfree : (c.tm && !taskReg n.toNat) = false := by
      rcases hok with h0 | hlt
      · rw [h0, Bool.false_and]
      · rw [taskReg, decide_eq_true hlt, Bool.not_true, Bool.and_false]
    have hrun (minor : Nat) (f : Core → Core) : s.sysAccess h minor d n aux f = (t.modHart h fun c => (f c).retire).settle := by
      rw [State.sysAccess_of_sysReg hi hv, hfree, if_neg Bool.false_ne_true]
    refine ⟨⟨_, congrArg Host.Outcome.next (hrun 1 _), ?_⟩, ⟨_, congrArg Host.Outcome.next (hrun 2 _), t.modHart_onlyHart h _⟩⟩
    have honly := t.modHart_onlyHart h fun c => (c.setD d.toNat ((c.sysReg n.toNat).getD 0)).retire
    have hget : ((t.hart h).sysReg n.toNat).getD 0 = v := by rw [hv]; rfl
    rwa [hget] at honly
  · have hpriv : (c.tm && !taskReg n.toNat) = true := by
      rw [htm, taskReg, decide_eq_false (by omega)]
      rfl
    have hrun (minor : Nat) (f : Core → Core) : s.sysAccess h minor d n aux f = t.priv h (wordSys minor d n aux) := by
      rw [State.sysAccess_of_sysReg hi hv, hpriv, if_pos rfl]
    exact ⟨congrArg Host.Outcome.next (hrun 1 _), congrArg Host.Outcome.next (hrun 2 _)⟩
  · exact ⟨congrArg Host.Outcome.next (State.sysAccess_rsvd hi hnone 1 _),
      congrArg Host.Outcome.next (State.sysAccess_rsvd hi hnone 2 _)⟩

/-! ## Fields of a word -/

theorem and_maskOf (v : Word) {hi lo : Nat} (h : hi < 32) : v &&& maskOf hi lo = BitVec.ofNat 32 (fieldOf v hi lo * 2 ^ lo) := by
  apply BitVec.eq_of_getLsbD_eq
  intro i hi'
  simp only [BitVec.getLsbD_and, maskOf_getLsbD _ _ _ h, BitVec.getLsbD_ofNat, Nat.testBit_mul_two_pow, fieldOf_testBit]
  by_cases hl : lo ≤ i
  · have hback : lo + (i - lo) = i := by omega
    have hwidth : (i - lo < hi + 1 - lo) ↔ i ≤ hi := by omega
    simp [hl, hi', hback, hwidth, Bool.and_comm]
  · simp [hl]

/-- The low bits of a word, as a mask leaves them. -/
theorem setWidth_and_maskOf {n : Nat} (v : Word) (hn : n < 32) : (v.setWidth (n + 1)).setWidth 32 = v &&& maskOf n 0 := by
  apply BitVec.eq_of_getLsbD_eq
  intro i hi
  simp only [BitVec.getLsbD_setWidth, BitVec.getLsbD_and, maskOf_getLsbD _ _ _ hn]
  by_cases h : i ≤ n <;> simp [h, hi]

theorem toWord_flagsOfWord (v : Word) : (flagsOfWord v).toWord = v &&& 0x1F#32 := by
  have hm : (0x1F#32 : Word) = maskOf 4 4 ||| maskOf 3 3 ||| maskOf 2 2 ||| maskOf 1 1 ||| maskOf 0 0 := rfl
  rw [hm]
  simp only [BitVec.and_or_distrib_left]
  rw [and_maskOf v (by decide), and_maskOf v (by decide), and_maskOf v (by decide), and_maskOf v (by decide),
    and_maskOf v (by decide)]
  simp only [fieldOf_bit, flagsOfWord, Flags.toWord]
  generalize v.getLsbD 4 = a, v.getLsbD 3 = b, v.getLsbD 2 = c, v.getLsbD 1 = d, v.getLsbD 0 = e
  revert a b c d e
  decide

/-- The two low bits of a word, as LACT and BPCTL take them. -/
theorem lowBits_word (v : Word) : BitVec.ofNat 32 ((v.getLsbD 1).toNat * 2 + (v.getLsbD 0).toNat) = v &&& 3#32 := by
  have hm : (3#32 : Word) = maskOf 1 1 ||| maskOf 0 0 := rfl
  rw [hm, BitVec.and_or_distrib_left, and_maskOf v (by decide), and_maskOf v (by decide), fieldOf_bit, fieldOf_bit]
  generalize v.getLsbD 1 = d, v.getLsbD 0 = e
  revert d e
  decide

/-- HOLD and MCA of a word laid out as MODE is. -/
theorem holdMca_of_modeBits (cpl : BitVec 4) : ∀ h m i t : Bool,
    BitVec.ofNat 32 (cpl.toNat * 2 ^ 12 + h.toNat * 8 + m.toNat * 4 + i.toNat * 2 + t.toNat) &&& 0x000C#32 =
      BitVec.ofNat 32 (h.toNat * 8 + m.toNat * 4) := by
  revert cpl
  decide

theorem modeBits_eq_or (cpl : BitVec 4) : ∀ h m i t : Bool,
    BitVec.ofNat 32 (cpl.toNat * 2 ^ 12 + h.toNat * 8 + m.toNat * 4 + i.toNat * 2 + t.toNat) =
      BitVec.ofNat 32 (cpl.toNat * 2 ^ 12) ||| BitVec.ofNat 32 (i.toNat * 2 ^ 1) ||| BitVec.ofNat 32 (t.toNat * 2 ^ 0) |||
        BitVec.ofNat 32 (h.toNat * 8 + m.toNat * 4) := by
  revert cpl
  decide

/-- A write of MODE keeps HOLD and MCA. -/
theorem modeWord_written (c : Core) (v : Word) :
    Core.modeWord { c with cpl := v.extractLsb' 12 4, ie := v.getLsbD 1, tm := v.getLsbD 0 } =
      (v &&& 0xF003#32) ||| (c.modeWord &&& 0x000C#32) := by
  have hm : (0xF003#32 : Word) = maskOf 15 12 ||| maskOf 1 1 ||| maskOf 0 0 := rfl
  have hcpl : fieldOf v 15 12 = (v.extractLsb' 12 4).toNat := by
    rw [fieldOf, BitVec.extractLsb'_toNat, Nat.shiftRight_eq_div_pow]
  rw [hm, BitVec.and_or_distrib_left, BitVec.and_or_distrib_left, and_maskOf v (by decide), and_maskOf v (by decide),
    and_maskOf v (by decide), fieldOf_bit, fieldOf_bit, hcpl, Core.modeWord, Core.modeWord, holdMca_of_modeBits]
  exact modeBits_eq_or ..

/-! ## Words of an address and of the interrupt lines -/

/-- Bits of an address made of a byte and a word. -/
theorem getLsbD_byte_word (x : BitVec 8) (y : Word) (i : Nat) :
    BitVec.getLsbD (x ++ y : Addr) i = if i < 32 then y.getLsbD i else x.getLsbD (i - 32) := BitVec.getLsbD_append

theorem getLsbD_half_word (x : BitVec 16) (y : Word) (i : Nat) :
    BitVec.getLsbD (x ++ y : BitVec 48) i = if i < 32 then y.getLsbD i else x.getLsbD (i - 32) := BitVec.getLsbD_append

/-- The words above bit 32 of a narrower vector. -/
theorem getLsbD_above {w : Nat} (x : BitVec w) {k i : Nat} (hw : w = 32 + k) :
    (decide (i < k) && x.getLsbD (32 + i)) = x.getLsbD (32 + i) := by
  by_cases hk : i < k
  · simp [hk]
  · simp [hk, BitVec.getLsbD_of_ge x (32 + i) (by omega)]

theorem addrLow_putLow (a : Addr) (v : Word) : addrLow (putLow a v) = v := by
  ext i hi
  simp [addrLow, putLow, getLsbD_byte_word, hi]

theorem addrHigh_putLow (a : Addr) (v : Word) : addrHigh (putLow a v) = addrHigh a := by
  ext i hi
  simpa [addrHigh, putLow, getLsbD_byte_word] using getLsbD_above a (i := i) (k := 8) rfl

theorem addrLow_putHigh (a : Addr) (v : Word) : addrLow (putHigh a v) = addrLow a := by
  ext i hi
  simp [addrLow, putHigh, getLsbD_byte_word, hi]

theorem addrHigh_putHigh (a : Addr) (v : Word) : addrHigh (putHigh a v) = v &&& 0xFF#32 := by
  show _ = v &&& maskOf 7 0
  rw [← setWidth_and_maskOf v (by decide)]
  ext i hi
  simp [addrHigh, putHigh, getLsbD_byte_word, hi]

theorem setWidth_lowLines (l : BitVec 48) (v : Word) : (lowLines l v).setWidth 32 = v := by
  ext i hi
  simp [lowLines, getLsbD_half_word, hi]

theorem setWidth_highLines (l : BitVec 48) (v : Word) : (highLines l v).setWidth 32 = l.setWidth 32 := by
  ext i hi
  simp [highLines, getLsbD_half_word, hi]

theorem highWord_lowLines (l : BitVec 48) (v : Word) : ((lowLines l v) >>> 32).setWidth 32 = (l >>> 32).setWidth 32 := by
  ext i hi
  simpa [lowLines, getLsbD_half_word] using getLsbD_above l (i := i) (k := 16) rfl

theorem highWord_highLines (l : BitVec 48) (v : Word) : ((highLines l v) >>> 32).setWidth 32 = v &&& 0xFFFF#32 := by
  show _ = v &&& maskOf 15 0
  rw [← setWidth_and_maskOf v (by decide)]
  ext i hi
  simp [highLines, getLsbD_half_word, hi]

theorem setWidth_cleared (l : BitVec 48) (v : Word) : (l &&& ~~~ lowLines 0 v).setWidth 32 = l.setWidth 32 &&& ~~~ v := by
  ext i hi
  simp [lowLines, getLsbD_half_word, hi]

theorem highWord_cleared (l : BitVec 48) (v : Word) :
    ((l &&& ~~~ highLines 0 v) >>> 32).setWidth 32 = (l >>> 32).setWidth 32 &&& ~~~ v := by
  apply BitVec.eq_of_getLsbD_eq
  intro i hi
  have hle : ¬ 32 + i < 32 := by omega
  simp only [highLines, BitVec.getLsbD_setWidth, BitVec.getLsbD_ushiftRight, BitVec.getLsbD_and, BitVec.getLsbD_not,
    getLsbD_half_word, if_neg hle, Nat.add_sub_cancel_left, BitVec.getLsbD_extractLsb']
  by_cases hk : i < 16
  · simp [hi, hk, show 32 + i < 48 by omega]
  · simp [BitVec.getLsbD_of_ge l (32 + i) (by omega)]

/-! ## O18 -/

/-- A write of register `n` leaves `r` in it, and every other register as it was. -/
def Core.writeLeaves (c : Core) (n : Nat) (v r : Word) : Prop :=
  (c.sysWrite n v).sysReg n = some r ∧ ∀ m, m ≠ n → (c.sysWrite n v).sysReg m = c.sysReg m

section
variable {c b : Core} {v r : Word} {n p : Nat} {a : Addr}

/-- A register with a field of its own. -/
theorem Core.writeLeaves_single (hw : c.sysWrite n v = b) (hr : b.sysReg n = some r) (ho : c.agreesApart b [n]) :
    c.writeLeaves n v r := by
  subst hw
  exact ⟨hr, fun _ hm => ho.sysReg (by simpa using hm)⟩

/-- A register that shares its field with register `p`. -/
theorem Core.writeLeaves_pair (hw : c.sysWrite n v = b) (hr : b.sysReg n = some r) (hp : b.sysReg p = c.sysReg p)
    (ho : c.agreesApart b [n, p]) : c.writeLeaves n v r := by
  subst hw
  refine ⟨hr, fun m hm => ?_⟩
  by_cases hmp : m = p
  · rw [hmp, hp]
  · exact ho.sysReg (by simp [hm, hmp])

/-- The low word of an address of which register `p` is the high one. -/
theorem Core.writeLeaves_low (hw : c.sysWrite n v = b) (hn : b.sysReg n = some (addrLow (putLow a v)))
    (hp : b.sysReg p = some (addrHigh (putLow a v))) (hc : c.sysReg p = some (addrHigh a))
    (ho : c.agreesApart b [n, p]) : c.writeLeaves n v (v &&& 0xFFFFFFFF#32) :=
  Core.writeLeaves_pair hw (hn.trans (congrArg some ((addrLow_putLow a v).trans BitVec.and_allOnes.symm)))
    (hp.trans ((congrArg some (addrHigh_putLow a v)).trans hc.symm)) ho

/-- The high word of an address of which register `p` is the low one. -/
theorem Core.writeLeaves_high (hw : c.sysWrite n v = b) (hn : b.sysReg n = some (addrHigh (putHigh a v)))
    (hp : b.sysReg p = some (addrLow (putHigh a v))) (hc : c.sysReg p = some (addrLow a))
    (ho : c.agreesApart b [n, p]) : c.writeLeaves n v (v &&& 0xFF#32) :=
  Core.writeLeaves_pair hw (hn.trans (congrArg some (addrHigh_putHigh a v)))
    (hp.trans ((congrArg some (addrLow_putHigh a v)).trans hc.symm)) ho

/-- A register that takes the whole word. -/
theorem Core.writeLeaves_word (hw : c.sysWrite n v = b) (hr : b.sysReg n = some v) (ho : c.agreesApart b [n]) :
    c.writeLeaves n v (v &&& 0xFFFFFFFF#32) :=
  Core.writeLeaves_single hw (hr.trans (congrArg some BitVec.and_allOnes.symm)) ho

end

/-! ## The arrays -/

/-- A write of an IPRIO register sets that element only. -/
theorem Core.sysWrite_iprio (c : Core) (v : Word) {n : Nat} (hn : n < 6) :
    c.sysWrite (0x054 + n) v = { c with iprio := msetCanon (v == 0) c.iprio n v } := by
  interval_cases n <;> rfl

/-- A write of a VHOLD register sets that element only. -/
theorem Core.sysWrite_vhold (c : Core) (v : Word) {n : Nat} (hn : n < 64) :
    c.sysWrite (0x100 + n) v = { c with vhold := msetCanon (v &&& 0x7FF#32 == 0) c.vhold n (v &&& 0x7FF#32) } := by
  interval_cases n <;> rfl

theorem Core.writeLeaves_iprio (c : Core) (v : Word) {n : Nat} (hn : n < 6) :
    c.writeLeaves (0x054 + n) v (v &&& 0xFFFFFFFF#32) := by
  rw [show v &&& 0xFFFFFFFF#32 = v from BitVec.and_allOnes]
  unfold Core.writeLeaves
  rw [c.sysWrite_iprio v hn]
  have hget (k : Nat) := mget_msetCanon (0 : Word) c.iprio n k v
  refine ⟨by rw [Core.sysReg_iprio _ hn, hget, if_pos rfl], fun m hm => ?_⟩
  by_cases hl : m ∈ sysNumbers
  · rw [Core.sysReg_table _ hl, Core.sysReg_table _ hl]
    rfl
  · rw [Core.sysReg_array _ hl, Core.sysReg_array _ hl]
    simp only [hget]
    split
    · rw [if_neg (by omega)]
    · rfl

theorem Core.writeLeaves_vhold (c : Core) (v : Word) {n : Nat} (hn : n < 64) :
    c.writeLeaves (0x100 + n) v (v &&& 0x7FF#32) := by
  unfold Core.writeLeaves
  rw [c.sysWrite_vhold v hn]
  have hget (k : Nat) := mget_msetCanon (0 : Word) c.vhold n k (v &&& 0x7FF#32)
  refine ⟨by rw [Core.sysReg_vhold _ hn, hget, if_pos rfl], fun m hm => ?_⟩
  by_cases hl : m ∈ sysNumbers
  · rw [Core.sysReg_table _ hl, Core.sysReg_table _ hl]
    rfl
  · rw [Core.sysReg_array _ hl, Core.sysReg_array _ hl]
    simp only [hget]
    split
    · rfl
    · split
      · rw [if_neg (by omega)]
      · rfl

/-! ## The registers that a write simply sets -/

/-- The registers of level 0. -/
theorem Core.writeLeaves_loop0 (c : Core) (v : Word) :
    ∀ e ∈ ([(0x010, 0xFFFFFFFF), (0x011, 0xFF), (0x012, 0xFFFFFFFF), (0x013, 0xFF), (0x014, 0xFFFFFFFF)] : List (Nat × Word)),
      c.writeLeaves e.1 v (v &&& e.2) := by
  simp only [List.forall_mem_cons, List.not_mem_nil, false_imp_iff, implies_true, and_true]
  exact ⟨Core.writeLeaves_low (p := 0x011) (a := c.loop0.start)
      (b := { c with loop0 := { c.loop0 with start := putLow c.loop0.start v } })
      rfl rfl rfl rfl ⟨rfl, rfl, rfl⟩,
    Core.writeLeaves_high (p := 0x010) (a := c.loop0.start) (b := { c with loop0 := { c.loop0 with start := putHigh c.loop0.start v } })
      rfl rfl rfl rfl ⟨rfl, rfl, rfl⟩,
    Core.writeLeaves_low (p := 0x013) (a := c.loop0.last) (b := { c with loop0 := { c.loop0 with last := putLow c.loop0.last v } })
      rfl rfl rfl rfl ⟨rfl, rfl, rfl⟩,
    Core.writeLeaves_high (p := 0x012) (a := c.loop0.last) (b := { c with loop0 := { c.loop0 with last := putHigh c.loop0.last v } })
      rfl rfl rfl rfl ⟨rfl, rfl, rfl⟩,
    Core.writeLeaves_word (b := { c with loop0 := { c.loop0 with count := v } }) rfl rfl ⟨rfl, rfl, rfl⟩⟩

/-- The registers of level 1. -/
theorem Core.writeLeaves_loop1 (c : Core) (v : Word) :
    ∀ e ∈ ([(0x018, 0xFFFFFFFF), (0x019, 0xFF), (0x01A, 0xFFFFFFFF), (0x01B, 0xFF), (0x01C, 0xFFFFFFFF)] : List (Nat × Word)),
      c.writeLeaves e.1 v (v &&& e.2) := by
  simp only [List.forall_mem_cons, List.not_mem_nil, false_imp_iff, implies_true, and_true]
  exact ⟨Core.writeLeaves_low (p := 0x019) (a := c.loop1.start)
      (b := { c with loop1 := { c.loop1 with start := putLow c.loop1.start v } })
      rfl rfl rfl rfl ⟨rfl, rfl, rfl⟩,
    Core.writeLeaves_high (p := 0x018) (a := c.loop1.start) (b := { c with loop1 := { c.loop1 with start := putHigh c.loop1.start v } })
      rfl rfl rfl rfl ⟨rfl, rfl, rfl⟩,
    Core.writeLeaves_low (p := 0x01B) (a := c.loop1.last) (b := { c with loop1 := { c.loop1 with last := putLow c.loop1.last v } })
      rfl rfl rfl rfl ⟨rfl, rfl, rfl⟩,
    Core.writeLeaves_high (p := 0x01A) (a := c.loop1.last) (b := { c with loop1 := { c.loop1 with last := putHigh c.loop1.last v } })
      rfl rfl rfl rfl ⟨rfl, rfl, rfl⟩,
    Core.writeLeaves_word (b := { c with loop1 := { c.loop1 with count := v } }) rfl rfl ⟨rfl, rfl, rfl⟩⟩

/-- VBASE and TACC. -/
theorem Core.writeLeaves_vbase (c : Core) (v : Word) :
    ∀ e ∈ ([(0x021, 0xFFFFFC00), (0x022, 0xFF), (0x023, 0x3F)] : List (Nat × Word)),
      c.writeLeaves e.1 v (v &&& e.2) := by
  simp only [List.forall_mem_cons, List.not_mem_nil, false_imp_iff, implies_true, and_true]
  exact ⟨Core.writeLeaves_pair (p := 0x022) (b := { c with vbase := putLow c.vbase (v &&& 0xFFFFFC00#32) }) rfl
      (congrArg some (addrLow_putLow c.vbase _)) (congrArg some (addrHigh_putLow c.vbase _)) ⟨rfl, rfl, rfl⟩,
    Core.writeLeaves_high (p := 0x021) (a := c.vbase) (b := { c with vbase := putHigh c.vbase v })
      rfl rfl rfl rfl ⟨rfl, rfl, rfl⟩,
    Core.writeLeaves_single (b := { c with tacc := v.setWidth 6 }) rfl
      (congrArg some (setWidth_and_maskOf (n := 5) v (by decide))) ⟨rfl, rfl, rfl⟩⟩

/-- The stack of task mode, ESTAT and EPC. -/
theorem Core.writeLeaves_task_exception (c : Core) (v : Word) :
    ∀ e ∈ ([(0x024, 0xFFFFFFFF), (0x025, 0xFF), (0x030, 0xFFFFF03F), (0x031, 0xFFFFFFFF), (0x032, 0xFF)] : List (Nat × Word)),
      c.writeLeaves e.1 v (v &&& e.2) := by
  simp only [List.forall_mem_cons, List.not_mem_nil, false_imp_iff, implies_true, and_true]
  exact ⟨Core.writeLeaves_low (p := 0x025) (a := c.spTask) (b := { c with spTask := putLow c.spTask v })
      rfl rfl rfl rfl ⟨rfl, rfl, rfl⟩,
    Core.writeLeaves_high (p := 0x024) (a := c.spTask) (b := { c with spTask := putHigh c.spTask v })
      rfl rfl rfl rfl ⟨rfl, rfl, rfl⟩,
    Core.writeLeaves_single (b := { c with estat := v &&& 0xFFFFF03F#32 }) rfl rfl ⟨rfl, rfl, rfl⟩,
    Core.writeLeaves_low (p := 0x032) (a := c.epc) (b := { c with epc := putLow c.epc v })
      rfl rfl rfl rfl ⟨rfl, rfl, rfl⟩,
    Core.writeLeaves_high (p := 0x031) (a := c.epc) (b := { c with epc := putHigh c.epc v })
      rfl rfl rfl rfl ⟨rfl, rfl, rfl⟩⟩

/-- EADDR, EADDR2 and EINSTR. -/
theorem Core.writeLeaves_eaddr (c : Core) (v : Word) :
    ∀ e ∈ ([(0x033, 0xFFFFFFFF), (0x034, 0xFF), (0x035, 0xFFFFFFFF), (0x036, 0xFF), (0x037, 0xFFFFFFFF)] : List (Nat × Word)),
      c.writeLeaves e.1 v (v &&& e.2) := by
  simp only [List.forall_mem_cons, List.not_mem_nil, false_imp_iff, implies_true, and_true]
  exact ⟨Core.writeLeaves_low (p := 0x034) (a := c.eaddr) (b := { c with eaddr := putLow c.eaddr v })
      rfl rfl rfl rfl ⟨rfl, rfl, rfl⟩,
    Core.writeLeaves_high (p := 0x033) (a := c.eaddr) (b := { c with eaddr := putHigh c.eaddr v })
      rfl rfl rfl rfl ⟨rfl, rfl, rfl⟩,
    Core.writeLeaves_low (p := 0x036) (a := c.eaddr2) (b := { c with eaddr2 := putLow c.eaddr2 v })
      rfl rfl rfl rfl ⟨rfl, rfl, rfl⟩,
    Core.writeLeaves_high (p := 0x035) (a := c.eaddr2) (b := { c with eaddr2 := putHigh c.eaddr2 v })
      rfl rfl rfl rfl ⟨rfl, rfl, rfl⟩,
    Core.writeLeaves_word (b := { c with einstr := v }) rfl rfl ⟨rfl, rfl, rfl⟩⟩

/-- MCEPC, MCFLAGS and CMADDR. -/
theorem Core.writeLeaves_mcepc (c : Core) (v : Word) :
    ∀ e ∈ ([(0x039, 0xFFFFFFFF), (0x03A, 0xFF), (0x03B, 0xFFFFFFFF), (0x040, 0xFFFFFFFF), (0x041, 0xFF)] : List (Nat × Word)),
      c.writeLeaves e.1 v (v &&& e.2) := by
  simp only [List.forall_mem_cons, List.not_mem_nil, false_imp_iff, implies_true, and_true]
  exact ⟨Core.writeLeaves_low (p := 0x03A) (a := c.mcepc) (b := { c with mcepc := putLow c.mcepc v })
      rfl rfl rfl rfl ⟨rfl, rfl, rfl⟩,
    Core.writeLeaves_high (p := 0x039) (a := c.mcepc) (b := { c with mcepc := putHigh c.mcepc v })
      rfl rfl rfl rfl ⟨rfl, rfl, rfl⟩,
    Core.writeLeaves_word (b := { c with mcflags := v }) rfl rfl ⟨rfl, rfl, rfl⟩,
    Core.writeLeaves_low (p := 0x041) (a := c.cmaddr) (b := { c with cmaddr := putLow c.cmaddr v })
      rfl rfl rfl rfl ⟨rfl, rfl, rfl⟩,
    Core.writeLeaves_high (p := 0x040) (a := c.cmaddr) (b := { c with cmaddr := putHigh c.cmaddr v })
      rfl rfl rfl rfl ⟨rfl, rfl, rfl⟩⟩

/-- The enables of the interrupt lines. -/
theorem Core.writeLeaves_ien (c : Core) (v : Word) :
    ∀ e ∈ ([(0x050, 0xFFFFFFFF), (0x051, 0xFFFF)] : List (Nat × Word)),
      c.writeLeaves e.1 v (v &&& e.2) := by
  simp only [List.forall_mem_cons, List.not_mem_nil, false_imp_iff, implies_true, and_true]
  exact ⟨Core.writeLeaves_pair (p := 0x051) (b := { c with ien := lowLines c.ien v }) rfl
      (congrArg some ((setWidth_lowLines c.ien v).trans BitVec.and_allOnes.symm))
      (congrArg some (highWord_lowLines c.ien v)) ⟨rfl, rfl, rfl⟩,
    Core.writeLeaves_pair (p := 0x050) (b := { c with ien := highLines c.ien v }) rfl
      (congrArg some (highWord_highLines c.ien v)) (congrArg some (setWidth_highLines c.ien v)) ⟨rfl, rfl, rfl⟩⟩

/-- The priorities of the lines. -/
theorem Core.writeLeaves_iprios (c : Core) (v : Word) :
    ∀ e ∈ ([(0x054, 0xFFFFFFFF), (0x055, 0xFFFFFFFF), (0x056, 0xFFFFFFFF),
      (0x057, 0xFFFFFFFF), (0x058, 0xFFFFFFFF), (0x059, 0xFFFFFFFF)] : List (Nat × Word)),
      c.writeLeaves e.1 v (v &&& e.2) := by
  simp only [List.forall_mem_cons, List.not_mem_nil, false_imp_iff, implies_true, and_true]
  exact ⟨c.writeLeaves_iprio v (n := 0) (by decide),
    c.writeLeaves_iprio v (n := 1) (by decide),
    c.writeLeaves_iprio v (n := 2) (by decide),
    c.writeLeaves_iprio v (n := 3) (by decide),
    c.writeLeaves_iprio v (n := 4) (by decide),
    c.writeLeaves_iprio v (n := 5) (by decide)⟩

/-- The predictor. -/
theorem Core.writeLeaves_predictor (c : Core) (v : Word) :
    ∀ e ∈ ([(0x060, 3), (0x061, 0xFFFFFFFF), (0x062, 0xFFFFFFFF), (0x063, 0xFFFFFFFF)] : List (Nat × Word)),
      c.writeLeaves e.1 v (v &&& e.2) := by
  simp only [List.forall_mem_cons, List.not_mem_nil, false_imp_iff, implies_true, and_true]
  exact ⟨Core.writeLeaves_single (b := { c with bpStatic := v.getLsbD 1, bpFreeze := v.getLsbD 0 }) rfl
      (congrArg some (lowBits_word v)) ⟨rfl, rfl, rfl⟩,
    Core.writeLeaves_word (b := { c with bpbr := v }) rfl rfl ⟨rfl, rfl, rfl⟩,
    Core.writeLeaves_word (b := { c with bpmis := v }) rfl rfl ⟨rfl, rfl, rfl⟩,
    Core.writeLeaves_word (b := { c with bplook := v }) rfl rfl ⟨rfl, rfl, rfl⟩⟩

theorem Core.writeLeaves_flags (c : Core) (v : Word) : c.writeLeaves 0x000 v (v &&& 0x1F#32) :=
  Core.writeLeaves_single (b := { c with flags := flagsOfWord v }) rfl (congrArg some (toWord_flagsOfWord v)) ⟨rfl, rfl, rfl⟩

theorem Core.writeLeaves_lact (c : Core) (v : Word) : c.writeLeaves 0x01F v (v &&& 3#32) :=
  Core.writeLeaves_single
    (b := { c with loop0 := { c.loop0 with armed := v.getLsbD 0 }, loop1 := { c.loop1 with armed := v.getLsbD 1 } }) rfl
    (congrArg some (lowBits_word v)) ⟨rfl, rfl, rfl⟩

/-- Settles O18: the registers that a write sets by groups, MODE and IPEND by their bits, the others by the model's own equations. -/
theorem systemRegistersHoldWhatIsWritten : Obligations.SystemRegistersHoldWhatIsWritten := by
  unfold Obligations.SystemRegistersHoldWhatIsWritten
  intro c v
  refine ⟨?_, fun n hn => c.writeLeaves_vhold v hn, ⟨_, rfl, congrArg some (modeWord_written c v)⟩, ?_, ⟨rfl, rfl⟩, rfl, rfl, rfl,
    rfl, rfl⟩
  · have hlact : ∀ e ∈ ([(0x01F, 3)] : List (Nat × Word)), c.writeLeaves e.1 v (v &&& e.2) :=
      List.forall_mem_singleton.2 (c.writeLeaves_lact v)
    refine List.forall_mem_cons.2 ⟨c.writeLeaves_flags v, ?_⟩
    have hloops := List.forall_mem_append.2 ⟨c.writeLeaves_loop0 v, List.forall_mem_append.2 ⟨c.writeLeaves_loop1 v, hlact⟩⟩
    have hmodes := List.forall_mem_append.2 ⟨c.writeLeaves_vbase v, c.writeLeaves_task_exception v⟩
    have hfaults := List.forall_mem_append.2 ⟨c.writeLeaves_eaddr v, c.writeLeaves_mcepc v⟩
    have hlines := List.forall_mem_append.2 ⟨c.writeLeaves_ien v, List.forall_mem_append.2 ⟨c.writeLeaves_iprios v,
      c.writeLeaves_predictor v⟩⟩
    exact List.forall_mem_append.2 ⟨hloops, List.forall_mem_append.2 ⟨hmodes, List.forall_mem_append.2 ⟨hfaults, hlines⟩⟩⟩
  · simp only [List.forall_mem_cons, List.not_mem_nil, false_imp_iff, implies_true, and_true]
    exact ⟨⟨_, rfl, congrArg some (setWidth_cleared c.ipend v)⟩, ⟨_, rfl, congrArg some (highWord_cleared c.ipend v)⟩⟩

end Sys2Proof.Machine
end

section
/-!
# Fields of instruction words
-/

namespace Sys2Proof.Machine

theorem bool_eq_of_toNat_eq {a b : Bool} (h : a.toNat = b.toNat) : a = b := by
  revert a b
  decide

theorem toNat_append_add {m n : Nat} (x : BitVec m) (y : BitVec n) : (x ++ y).toNat = x.toNat * 2 ^ n + y.toNat := by
  rw [BitVec.toNat_append, ← Nat.shiftLeft_add_eq_or_of_lt y.isLt, Nat.shiftLeft_eq]

section
variable (major minor : Nat) (d s1 s2 : BitVec 5) (aux : BitVec 6) (imm : BitVec 16)

theorem toNat_wordReg : (wordReg major minor d s1 s2 aux).toNat =
    ((((major % 64 * 32 + d.toNat) * 32 + s1.toNat) * 32 + s2.toNat) * 32 + minor % 32) * 64 + aux.toNat := by
  simp only [wordReg, toNat_append_add, BitVec.toNat_ofNat, Nat.reducePow]

@[simp] theorem fieldOf_wordReg_major : fieldOf (wordReg major minor d s1 s2 aux) 31 26 = major % 64 := by
  rw [fieldOf, toNat_wordReg]
  omega

@[simp] theorem fieldOf_wordReg_d : fieldOf (wordReg major minor d s1 s2 aux) 25 21 = d.toNat := by
  rw [fieldOf, toNat_wordReg]
  omega

@[simp] theorem fieldOf_wordReg_s1 : fieldOf (wordReg major minor d s1 s2 aux) 20 16 = s1.toNat := by
  rw [fieldOf, toNat_wordReg]
  omega

@[simp] theorem fieldOf_wordReg_s2 : fieldOf (wordReg major minor d s1 s2 aux) 15 11 = s2.toNat := by
  rw [fieldOf, toNat_wordReg]
  omega

@[simp] theorem fieldOf_wordReg_minor : fieldOf (wordReg major minor d s1 s2 aux) 10 6 = minor % 32 := by
  rw [fieldOf, toNat_wordReg]
  omega

@[simp] theorem fieldOf_wordReg_aux : fieldOf (wordReg major minor d s1 s2 aux) 5 0 = aux.toNat := by
  rw [fieldOf, toNat_wordReg]
  omega

theorem toNat_wordImm : (wordImm major d s1 imm).toNat =
    ((major % 64 * 32 + d.toNat) * 32 + s1.toNat) * 65536 + imm.toNat := by
  simp only [wordImm, toNat_append_add, BitVec.toNat_ofNat, Nat.reducePow]

@[simp] theorem fieldOf_wordImm_major : fieldOf (wordImm major d s1 imm) 31 26 = major % 64 := by
  rw [fieldOf, toNat_wordImm]
  omega

@[simp] theorem fieldOf_wordImm_d : fieldOf (wordImm major d s1 imm) 25 21 = d.toNat := by
  rw [fieldOf, toNat_wordImm]
  omega

@[simp] theorem fieldOf_wordImm_s1 : fieldOf (wordImm major d s1 imm) 20 16 = s1.toNat := by
  rw [fieldOf, toNat_wordImm]
  omega

@[simp] theorem fieldOf_wordImm_imm : fieldOf (wordImm major d s1 imm) 15 0 = imm.toNat := by
  rw [fieldOf, toNat_wordImm]
  omega

end

section
variable (major : Nat) (d : BitVec 5) (a : BitVec 4) (mode : BitVec 3) (size : BitVec 2) (off : BitVec 12)

theorem toNat_wordMem : (wordMem major d a mode size off).toNat =
    ((((major % 64 * 32 + d.toNat) * 16 + a.toNat) * 8 + mode.toNat) * 4 + size.toNat) * 4096 + off.toNat := by
  simp only [wordMem, toNat_append_add, BitVec.toNat_ofNat, Nat.reducePow]

@[simp] theorem fieldOf_wordMem_major : fieldOf (wordMem major d a mode size off) 31 26 = major % 64 := by
  rw [fieldOf, toNat_wordMem]
  omega

@[simp] theorem fieldOf_wordMem_d : fieldOf (wordMem major d a mode size off) 25 21 = d.toNat := by
  rw [fieldOf, toNat_wordMem]
  omega

@[simp] theorem fieldOf_wordMem_a : fieldOf (wordMem major d a mode size off) 20 17 = a.toNat := by
  rw [fieldOf, toNat_wordMem]
  omega

@[simp] theorem fieldOf_wordMem_mode : fieldOf (wordMem major d a mode size off) 16 14 = mode.toNat := by
  rw [fieldOf, toNat_wordMem]
  omega

@[simp] theorem fieldOf_wordMem_size : fieldOf (wordMem major d a mode size off) 13 12 = size.toNat := by
  rw [fieldOf, toNat_wordMem]
  omega

@[simp] theorem fieldOf_wordMem_off : fieldOf (wordMem major d a mode size off) 11 0 = off.toNat := by
  rw [fieldOf, toNat_wordMem]
  omega

end

@[simp] theorem fieldOf_wordBcc_major (annul : Bool) (cond : BitVec 4) (disp : BitVec 21) :
    fieldOf (wordBcc annul cond disp) 31 26 = 0x18 := by
  simp only [fieldOf, wordBcc, toNat_append_add, BitVec.toNat_ofNat]
  have := (BitVec.ofBool annul).isLt
  omega

section
variable (major : Nat) (annul : Bool) (disp : BitVec 25)

theorem toNat_wordJump : (wordJump major annul disp).toNat = (major % 64 * 2 + annul.toNat) * 2 ^ 25 + disp.toNat := by
  simp only [wordJump, toNat_append_add, BitVec.toNat_ofNat, BitVec.toNat_ofBool, Nat.reducePow]

@[simp] theorem fieldOf_wordJump_major : fieldOf (wordJump major annul disp) 31 26 = major % 64 := by
  rw [fieldOf, toNat_wordJump]
  have := annul.toNat_le
  omega

@[simp] theorem getElem_wordJump_annul : (wordJump major annul disp)[25] = annul := by
  have hbit : fieldOf (wordJump major annul disp) 25 25 = annul.toNat := by
    rw [fieldOf, toNat_wordJump]
    have := annul.toNat_le
    omega
  rw [fieldOf_bit] at hbit
  exact bool_eq_of_toNat_eq hbit

end

section
variable (level imm : Bool) (cnt len : BitVec 12)

theorem toNat_wordLoop : (wordLoop level imm cnt len).toNat =
    (((0x1C * 2 + level.toNat) * 2 + imm.toNat) * 4096 + cnt.toNat) * 4096 + len.toNat := by
  simp only [wordLoop, toNat_append_add, BitVec.toNat_ofNat, BitVec.toNat_ofBool, Nat.reducePow, Nat.reduceMod, Nat.reduceMul]

@[simp] theorem fieldOf_wordLoop_major : fieldOf (wordLoop level imm cnt len) 31 26 = 0x1C := by
  rw [fieldOf, toNat_wordLoop]
  have := level.toNat_le
  have := imm.toNat_le
  omega

@[simp] theorem fieldOf_wordLoop_len : fieldOf (wordLoop level imm cnt len) 11 0 = len.toNat := by
  rw [fieldOf, toNat_wordLoop]
  omega

@[simp] theorem fieldOf_wordLoop_cnt : fieldOf (wordLoop level imm cnt len) 23 12 = cnt.toNat := by
  rw [fieldOf, toNat_wordLoop]
  omega

@[simp] theorem getElem_wordLoop_imm : (wordLoop level imm cnt len)[24] = imm := by
  have hbit : fieldOf (wordLoop level imm cnt len) 24 24 = imm.toNat := by
    rw [fieldOf, toNat_wordLoop]
    have := imm.toNat_le
    omega
  rw [fieldOf_bit] at hbit
  exact bool_eq_of_toNat_eq hbit

end

section
variable (minor : Nat) (d : BitVec 5) (n : BitVec 10) (aux : BitVec 6)

theorem toNat_wordSys : (wordSys minor d n aux).toNat =
    (((0x22 * 32 + d.toNat) * 1024 + n.toNat) * 32 + minor % 32) * 64 + aux.toNat := by
  simp only [wordSys, toNat_append_add, BitVec.toNat_ofNat, Nat.reducePow, Nat.reduceMod, Nat.reduceMul]

@[simp] theorem fieldOf_wordSys_major : fieldOf (wordSys minor d n aux) 31 26 = 0x22 := by
  rw [fieldOf, toNat_wordSys]
  omega

@[simp] theorem fieldOf_wordSys_number : fieldOf (wordSys minor d n aux) 20 11 = n.toNat := by
  rw [fieldOf, toNat_wordSys]
  omega

@[simp] theorem fieldOf_wordSys_minor : fieldOf (wordSys minor d n aux) 10 6 = minor % 32 := by
  rw [fieldOf, toNat_wordSys]
  omega

@[simp] theorem fieldOf_wordSys_aux : fieldOf (wordSys minor d n aux) 5 0 = aux.toNat := by
  rw [fieldOf, toNat_wordSys]
  omega

end

end Sys2Proof.Machine
end

section
/-!
# Barriers, interrupts and posted faults: statements O22 and O23
-/

namespace Sys2Proof.Machine

/-! ## Changes that keep to the copies of one hart -/

/-- `u` differs from `s` in the copies of hart `h` at most. -/
def State.sameButHart (s u : State) (h : Hart) : Prop :=
  u = { s with cores := u.cores } ∧
    ∀ k, ¬ (k = coreOf h ∨ (k = coreOf h + 1 ∧ h.val < 4 ∧ s.isSplit h.val = false)) → u.core k = s.core k

theorem State.sameButHart_refl (s : State) (h : Hart) : s.sameButHart s h := ⟨rfl, fun _ _ => rfl⟩

/-- A change of the hart after changes that kept to it. -/
theorem State.sameButHart.modHart_onlyHart {s u : State} {h : Hart} (hu : s.sameButHart u h) (f : Core → Core) :
    s.onlyHart (u.modHart h f) h (f (u.hart h)) := by
  obtain ⟨heq, hcores⟩ := hu
  obtain ⟨hmod, hmods⟩ := u.modHart_onlyHart h f
  have hsplit : u.isSplit h.val = s.isSplit h.val := by rw [heq]; rfl
  refine ⟨by rw [hmod, heq], fun k => ?_⟩
  rw [hmods k, hsplit]
  split
  · rfl
  · next hk => exact hcores k hk

theorem State.sameButHart.modHart {s u : State} {h : Hart} (hu : s.sameButHart u h) (f : Core → Core) :
    s.sameButHart (u.modHart h f) h := by
  obtain ⟨heq, hcores⟩ := hu.modHart_onlyHart f
  exact ⟨heq, fun k hk => by rw [hcores k, if_neg hk]⟩

/-! ## The queue of posted faults (R117) -/

@[simp] theorem hartOfCore_coreOf (h : Hart) : hartOfCore (coreOf h) = h := by
  revert h
  decide

/-- A posted fault arriving at a core: queued, or dropped with OVF. -/
def Core.queueFault (c : Core) (p : PostedFault) : Core :=
  if c.pf.length < 4 then { c with pf := c.pf ++ [p] } else { c with pfOvf := true }

theorem State.postFault_eq (s : State) (h : Hart) (p : PostedFault) : s.postFault h p = s.modHart h fun c => c.queueFault p := rfl

theorem Core.queueFault_of_room {c : Core} {p : PostedFault} (hc : c.pf.length < 4) : c.queueFault p = { c with pf := c.pf ++ [p] } :=
  if_pos hc

theorem Core.queueFault_of_full {c : Core} {p : PostedFault} (hc : ¬ c.pf.length < 4) : c.queueFault p = { c with pfOvf := true } :=
  if_neg hc

/-- Faults that the queue has room for. -/
theorem Core.queueFaults_of_room (l : List PostedFault) (c : Core) (hl : c.pf.length + l.length ≤ 4) :
    l.foldl Core.queueFault c = { c with pf := c.pf ++ l } := by
  induction l generalizing c with
  | nil => rw [List.foldl_nil, List.append_nil]
  | cons p l ih =>
    rw [List.length_cons] at hl
    rw [List.foldl_cons, Core.queueFault_of_room (by omega), ih _ (by simpa using (by omega : c.pf.length + 1 + l.length ≤ 4))]
    simp

/-- Faults at a queue that is full, with OVF set already. -/
theorem Core.queueFaults_of_lost (l : List PostedFault) (c : Core) (hc : c.pf.length = 4) :
    l.foldl Core.queueFault { c with pfOvf := true } = { c with pfOvf := true } := by
  induction l with
  | nil => rfl
  | cons p l ih => rwa [List.foldl_cons, Core.queueFault_of_full (by simp [hc])]

/-- Faults at a full queue. -/
theorem Core.queueFaults_of_full (l : List PostedFault) (c : Core) (hc : c.pf.length = 4) (hl : l ≠ []) :
    l.foldl Core.queueFault c = { c with pfOvf := true } := by
  obtain ⟨p, l, rfl⟩ := List.exists_cons_of_ne_nil hl
  rw [List.foldl_cons, Core.queueFault_of_full (by omega), Core.queueFaults_of_lost l c hc]

/-- Faults that overrun the queue: the first ones stay, OVF is set. -/
theorem Core.queueFaults_of_overrun (l : List PostedFault) (c : Core) (hc : c.pf.length ≤ 4) (hl : 4 < c.pf.length + l.length) :
    l.foldl Core.queueFault c = { c with pf := (c.pf ++ l).take 4, pfOvf := true } := by
  have hroom : c.pf.length + (l.take (4 - c.pf.length)).length ≤ 4 := by rw [List.length_take]; omega
  have hfull : (c.pf ++ l.take (4 - c.pf.length)).length = 4 := by
    rw [List.length_append, List.length_take]
    omega
  have hrest : l.drop (4 - c.pf.length) ≠ [] := List.ne_nil_of_length_pos (by rw [List.length_drop]; omega)
  have htake : (c.pf ++ l).take 4 = c.pf ++ l.take (4 - c.pf.length) := by
    rw [List.take_append, List.take_of_length_le hc]
  conv_lhs => rw [← List.take_append_drop (4 - c.pf.length) l]
  rw [List.foldl_append, Core.queueFaults_of_room _ _ hroom, Core.queueFaults_of_full _ _ hfull hrest, htake]

/-- Faults that arrive one after another at one hart. -/
theorem State.postFaults_spec (l : List (Nat × PostedFault)) {s u : State} {h : Hart} (hu : s.sameButHart u h) :
    let v := l.foldl (fun s e => s.postFault h e.2) u
    s.sameButHart v h ∧ v.hart h = (l.map fun e => e.2).foldl Core.queueFault (u.hart h) := by
  induction l generalizing u with
  | nil => exact ⟨hu, rfl⟩
  | cons e l ih =>
    obtain ⟨hsame, hhart⟩ := ih (hu.modHart fun c => c.queueFault e.2)
    rw [State.hart_modHart] at hhart
    exact ⟨hsame, hhart⟩

/-- The posted faults on their way to the core of hart `h`. -/
def State.faultsDue (t : State) (h : Hart) : List PostedFault := (t.postedFlight.filter fun e => e.1 == coreOf h).map fun e => e.2

/-- The end of FENCE, by what the queue of the core becomes. -/
theorem State.fenceDone_onlyHart (t : State) (h : Hart) :
    State.onlyHart { t with postedFlight := t.postedFlight.filter fun e => e.1 != coreOf h } (t.fenceDone h) h
      (Core.retire { (t.faultsDue h).foldl Core.queueFault (t.hart h) with wait := .none }) := by
  obtain ⟨hsame, hhart⟩ := State.postFaults_spec (t.postedFlight.filter fun e => e.1 == coreOf h)
    (State.sameButHart_refl { t with postedFlight := t.postedFlight.filter fun e => e.1 != coreOf h } h)
  have honly := hsame.modHart_onlyHart fun c => Core.retire { c with wait := .none }
  rw [hhart] at honly
  rw [State.fenceDone, State.deliverFaults, hartOfCore_coreOf]
  exact honly

/-! ## O22 -/

theorem State.storesLeft_iff {t : State} {h : Hart} :
    t.storesLeft h = true ↔ (∃ r ∈ t.byr.remote, r.wr = true ∧ r.by_ = .hart h.val) ∨ coreOf h ∈ t.pmcQueue := by
  simp [State.storesLeft, State.remoteStores]

/-- FENCE issued: it waits for its stores, or ends. -/
theorem exec_fence {s t : State} {h : Hart} (hi : s.issuesTo t h) (d : BitVec 5) (aux : BitVec 6) :
    exec (.fence h d 0 aux) s =
      .next (if t.storesLeft h then t.modHart h fun c => { c with wait := .fence } else t.fenceDone h) :=
  congrArg Host.Outcome.next (State.issue_of hi rfl (.inl rfl) (.inl rfl) _)

/-- NOP's own word issues as one that changes nothing. -/
theorem exec_nop (h : Hart) (d : BitVec 5) (aux : BitVec 6) (s : State) :
    exec (.nop h (wordSys 0 d 0 aux)) s = .next (s.simple h (wordSys 0 d 0 aux) false id) := by
  show execNop h _ s = _
  simp [execNop, listedWord]

/-- Settles O22: each barrier but FENCE changes its core only; FENCE waits while a store is left, and at its end the faults on
their way are queued in order. -/
theorem barriersAndNop : Obligations.BarriersAndNop := by
  unfold Obligations.BarriersAndNop
  intro h d aux
  refine ⟨registerEffect_of_simple (exec_nop h d aux) rfl fun _ => rfl,
    registerEffect_of_simple (fun _ => rfl) rfl fun _ => rfl, registerEffect_of_simple (fun _ => rfl) rfl fun _ => rfl,
    registerEffect_of_simple (fun _ => rfl) rfl fun _ => rfl, fun s t hi => ⟨fun hleft => ?_, fun hremote hpmc => ?_⟩⟩
  · rw [exec_fence hi, if_pos (State.storesLeft_iff.2 hleft)]
    exact ⟨_, rfl, t.modHart_onlyHart h _⟩
  · have hnone : ¬ t.storesLeft h = true := fun hs => (State.storesLeft_iff.1 hs).elim (fun ⟨r, hr, hw⟩ => hremote r hr hw) hpmc
    have honly := t.fenceDone_onlyHart h
    rw [exec_fence hi, if_neg hnone]
    refine ⟨fun hroom => ⟨_, rfl, ?_⟩, fun hqueue hover => ⟨_, rfl, ?_⟩⟩
    · rwa [Core.queueFaults_of_room (t.faultsDue h) _ hroom] at honly
    · rwa [Core.queueFaults_of_overrun (t.faultsDue h) _ hqueue hover] at honly

/-! ## The line taken (R110) -/

/-- `l` is the takeable line of highest priority and lowest number below `n`. -/
def Core.isBestLine (c : Core) (n l : Nat) : Prop :=
  l < n ∧ c.takeable l = true ∧ ∀ k < n, c.takeable k = true → c.prio k < c.prio l ∨ (c.prio k = c.prio l ∧ l ≤ k)

theorem Core.isBestLine.unique {c : Core} {n k l : Nat} (hk : c.isBestLine n k) (hl : c.isBestLine n l) : k = l := by
  obtain ⟨hkn, hkt, hkbest⟩ := hk
  obtain ⟨hln, hlt, hlbest⟩ := hl
  have := hkbest l hln hlt
  have := hlbest k hkn hkt
  omega

/-- The better of the line found so far and line `l`. -/
def Core.betterLine (c : Core) (b : Option Nat) (l : Nat) : Option Nat :=
  if c.takeable l then
    match b with
    | none => some l
    | some k => if c.prio k < c.prio l then some l else some k
  else b

theorem Core.bestLine_eq (c : Core) : c.bestLine = (List.range 48).foldl c.betterLine none := rfl

/-- What the search over the first `n` lines found. -/
def Core.foundBelow (c : Core) (n : Nat) : Option Nat → Prop
  | none => ∀ k < n, c.takeable k = false
  | some l => c.isBestLine n l

theorem Core.foundBelow_succ {c : Core} {n : Nat} {b : Option Nat} (hb : c.foundBelow n b) :
    c.foundBelow (n + 1) (c.betterLine b n) := by
  unfold Core.betterLine
  split
  case isTrue ht =>
    cases b with
    | none =>
      refine ⟨Nat.lt_succ_self n, ht, fun k hk hkt => ?_⟩
      rcases Nat.lt_succ_iff_lt_or_eq.1 hk with hlt | rfl
      · exact absurd hkt (by rw [hb k hlt]; decide)
      · exact .inr ⟨rfl, Nat.le_refl _⟩
    | some l =>
      obtain ⟨hln, hlt, hbest⟩ := hb
      dsimp only
      split
      case isTrue hp =>
        refine ⟨Nat.lt_succ_self n, ht, fun k hk hkt => ?_⟩
        rcases Nat.lt_succ_iff_lt_or_eq.1 hk with hkn | rfl
        · have := hbest k hkn hkt
          omega
        · exact .inr ⟨rfl, Nat.le_refl _⟩
      case isFalse hp =>
        refine ⟨Nat.lt_succ_of_lt hln, hlt, fun k hk hkt => ?_⟩
        rcases Nat.lt_succ_iff_lt_or_eq.1 hk with hkn | rfl
        · exact hbest k hkn hkt
        · omega
  case isFalse ht =>
    cases b with
    | none =>
      intro k hk
      rcases Nat.lt_succ_iff_lt_or_eq.1 hk with hkn | rfl
      · exact hb k hkn
      · exact Bool.eq_false_iff.2 ht
    | some l =>
      obtain ⟨hln, hlt, hbest⟩ := hb
      refine ⟨Nat.lt_succ_of_lt hln, hlt, fun k hk hkt => ?_⟩
      rcases Nat.lt_succ_iff_lt_or_eq.1 hk with hkn | rfl
      · exact hbest k hkn hkt
      · exact absurd hkt ht

theorem Core.foundBelow_range (c : Core) (n : Nat) : c.foundBelow n ((List.range n).foldl c.betterLine none) := by
  induction n with
  | zero => exact fun k hk => absurd hk (Nat.not_lt_zero k)
  | succ n ih =>
    rw [List.range_succ, List.foldl_append]
    exact Core.foundBelow_succ ih

theorem Core.bestLine_of_isBestLine {c : Core} {l : Nat} (hl : c.isBestLine 48 l) : c.bestLine = some l := by
  have hfound := c.foundBelow_range 48
  rw [← Core.bestLine_eq] at hfound
  obtain ⟨hln, hlt, -⟩ := id hl
  cases hb : c.bestLine with
  | none =>
    rw [hb] at hfound
    exact absurd hlt (by rw [hfound l hln]; decide)
  | some k =>
    rw [hb] at hfound
    rw [hfound.unique hl]

theorem Core.bestLine_of_none {c : Core} (hn : ∀ l < 48, c.takeable l = false) : c.bestLine = none := by
  have hfound := c.foundBelow_range 48
  rw [← Core.bestLine_eq] at hfound
  cases hb : c.bestLine with
  | none => rfl
  | some k =>
    rw [hb] at hfound
    obtain ⟨hkn, hkt, -⟩ := hfound
    exact absurd hkt (by rw [hn k hkn]; decide)

theorem Core.takeable_iff {c : Core} {l : Nat} : c.takeable l = true ↔
    c.ipend.getLsbD l = true ∧ c.ien.getLsbD l = true ∧ c.ie = true ∧ c.cpl.toNat < c.prio l ∧ c.holdCnt = 0 := by
  simp [Core.takeable, and_assoc]

theorem Core.postedTakeable_iff {c : Core} : c.postedTakeable = true ↔ c.pf ≠ [] ∧ c.holdCnt = 0 ∧ c.cpl.toNat < 15 := by
  simp [Core.postedTakeable, and_assoc]

/-! ## O23 -/

/-- A hart that does not wait in WFE is not woken. -/
theorem State.wfeWake_of_boundary {s : State} {h : Hart} (hw : (s.hart h).wait = .none ∨ ∃ t m, (s.hart h).wait = .waitt t m) :
    s.wfeWake h = s := by
  unfold State.wfeWake
  rcases hw with hw | ⟨t, m, hw⟩ <;> simp [hw]

/-- INTERRUPT_ENTRY at a boundary. -/
theorem exec_interruptEntry {s : State} {h : Hart} (hr : (s.hart h).run = .running)
    (hw : (s.hart h).wait = .none ∨ ∃ t m, (s.hart h).wait = .waitt t m) (hd : (s.hart h).delay = none)
    (hb : ¬ (h.val < 4 ∧ (s.pair h.val).blocked = true)) (hp : s.paused = false) :
    exec (.interruptEntry h) s = .next (s.takeInterrupt h) := by
  show execInterruptEntry h s = _
  have hblocked : (decide (h.val < 4) && (s.pair h.val).blocked) = false := by
    simpa using hb
  unfold execInterruptEntry
  rw [State.wfeWake_of_boundary hw]
  rcases hw with hw | ⟨t, m, hw⟩ <;> simp [hr, hw, hd, hblocked, hp]

/-- Settles O23: POSTED_FAULT goes first, then the line the search finds; an arriving fault and the end of a hold change their
core only. -/
theorem interruptsPostedFaultsAndHolds : Obligations.InterruptsPostedFaultsAndHolds := by
  unfold Obligations.InterruptsPostedFaultsAndHolds
  intro h s c takeable posted
  have htake (l : Nat) : takeable l ↔ l < 48 ∧ c.takeable l = true := and_congr_right fun _ => Core.takeable_iff.symm
  refine ⟨fun hr hw hd hb hp => ?_, fun e he => ?_, ⟨_, rfl, s.modHart_onlyHart h _⟩⟩
  · rw [exec_interruptEntry hr hw hd hb hp]
    refine ⟨fun hposted => ?_, fun hnot l hl hbest => ?_, fun hnot hnone => ?_⟩
    · exact congrArg Host.Outcome.next (if_pos (Core.postedTakeable_iff.2 hposted))
    · obtain ⟨hln, hlt⟩ := (htake l).1 hl
      have hline := Core.bestLine_of_isBestLine ⟨hln, hlt, fun k hk hkt => hbest k ((htake k).2 ⟨hk, hkt⟩)⟩
      rw [State.takeInterrupt, if_neg fun hp => hnot (Core.postedTakeable_iff.1 hp), hline]
    · have hline : c.bestLine = none :=
        Core.bestLine_of_none fun l hl => Bool.eq_false_iff.2 fun hlt => hnone l ((htake l).2 ⟨hl, hlt⟩)
      rw [State.takeInterrupt, if_neg fun hp => hnot (Core.postedTakeable_iff.1 hp), hline]
  · refine ⟨_, rfl, ?_⟩
    rw [State.faultArrives, he, hartOfCore_coreOf]
    exact State.modHart_onlyHart _ h fun c => c.queueFault e.2

end Sys2Proof.Machine
end

section
/-!
# Traps and illegal instructions: statement O24
-/

namespace Sys2Proof.Machine

/-! ## Reserved fields as numbers -/

theorem bne_zero_iff_toNat {w : Nat} (x : BitVec w) : (x != 0) = true ↔ x.toNat ≠ 0 := by
  rw [bne_iff_ne, ne_eq, ← BitVec.toNat_inj]
  simp

theorem beq_zero_iff_toNat {w : Nat} (x : BitVec w) : (x == 0) = true ↔ x.toNat = 0 := by
  rw [beq_iff_eq, ← BitVec.toNat_inj]
  simp

theorem aBad_iff (f : BitVec 5) : aBad f = true ↔ f.toNat % 2 = 1 := by
  revert f
  decide

theorem kBad_iff (f : BitVec 5) : kBad f = true ↔ 8 ≤ f.toNat := by
  revert f
  decide

theorem bit0_iff (f : BitVec 5) : f.getLsbD 0 = true ↔ f.toNat % 2 = 1 := by
  revert f
  decide

theorem size_eq_three_iff (size : BitVec 2) : (size == 3) = true ↔ size.toNat = 3 := by
  revert size
  decide

theorem size_ne_three_iff (size : BitVec 2) : (size != 3) = true ↔ size.toNat ≠ 3 := by
  revert size
  decide

theorem auxBit5_iff (aux : BitVec 6) : aux.getLsbD 5 = true ↔ 32 ≤ aux.toNat := by
  revert aux
  decide

theorem auxBits54_iff (aux : BitVec 6) : (aux.getLsbD 4 || aux.getLsbD 5) = true ↔ 16 ≤ aux.toNat := by
  revert aux
  decide

/-- The bits above bit `k` of a vector. -/
theorem extractLsb'_ne_zero_iff {w k n : Nat} (x : BitVec w) (hw : w = k + n) :
    (x.extractLsb' k n != 0) = true ↔ 2 ^ k ≤ x.toNat := by
  have hlt : x.toNat < 2 ^ k * 2 ^ n := by rw [← Nat.pow_add, ← hw]; exact x.isLt
  have hdiv : (x.extractLsb' k n).toNat = x.toNat / 2 ^ k := by
    rw [BitVec.extractLsb'_toNat, Nat.shiftRight_eq_div_pow, Nat.mod_eq_of_lt (Nat.div_lt_of_lt_mul hlt)]
  rw [bne_zero_iff_toNat, hdiv, ← Nat.pos_iff_ne_zero, Nat.div_pos_iff]
  simp

theorem memBad_iff (a : BitVec 4) (mode : BitVec 3) (off : BitVec 12) : memBad a mode off = true ↔
    6 ≤ mode.toNat ∨ (mode.toNat ∈ [2, 4, 5] ∧ 8 ≤ a.toNat) ∨ (mode.toNat ∈ [2, 5] ∧ off.toNat ≠ 0) := by
  have hoff := bne_zero_iff_toNat off
  have hm := mode.isLt
  unfold memBad
  generalize mode.toNat = m at hm
  generalize (off != 0) = b at hoff
  interval_cases m <;> simp [hoff]

theorem vmacBad_iff (d s1 s2 : BitVec 5) (aux : BitVec 6) (m : Bool) : vmacBad d s1 s2 aux m = true ↔
    8 ≤ d.toNat ∨ s1.toNat % 2 = 1 ∨ s2.toNat % 2 = 1 ∨ s1.toNat = s2.toNat ∨ 32 ≤ aux.toNat ∨ (m = true ∧ 16 ≤ s1.toNat) := by
  have hidx : decide (8 ≤ aIdx s1) = true ↔ 16 ≤ s1.toNat := by
    rw [decide_eq_true_iff, aIdx]
    omega
  simp only [vmacBad, Bool.or_eq_true, Bool.and_eq_true, kBad_iff, aBad_iff, auxBit5_iff, beq_iff_eq, ← BitVec.toNat_inj, hidx,
    or_assoc]

/-! ## The three illegal outcomes of an issue -/

/-- A reserved encoding at a hart with core `c`. -/
def reservedEncoding (w : Word) (c : Core) : Prop :=
  listedWord w = false ∨ reservedFields w ∨ (fieldOf w 31 26 = 0x22 ∧ fieldOf w 10 6 ∈ [1, 2] ∧ c.sysReg (fieldOf w 20 11) = none)

/-- The word of a branch, a LOOP or an RFE. -/
def branchWord (w : Word) : Prop :=
  (0x18 ≤ fieldOf w 31 26 ∧ fieldOf w 31 26 ≤ 0x1C) ∨ (fieldOf w 31 26 = 0x22 ∧ fieldOf w 10 6 = 3)

/-- The word of an instruction that may not stand in a delay slot. -/
def noSlotWord (w : Word) : Prop := branchWord w ∨ fieldOf w 31 26 ∈ [0x1D, 0x1E, 0x20]

/-- What instruction `i` of word `w` raises where it is illegal. -/
def illegalOutcomes (i : Instr) (h : Hart) (w : Word) (s t : State) : Prop :=
  let raises := fun vec cause : Nat => exec i s = .next (t.raiseExc h { vec := vec, cause := cause, word := w })
  (reservedEncoding w (t.hart h) → raises 1 0x01) ∧
    (¬ reservedEncoding w (t.hart h) → noSlotWord w → (t.hart h).delay ≠ none → raises 2 0x02) ∧
    (¬ reservedEncoding w (t.hart h) → branchWord w → (t.hart h).delay = none → (t.hart h).atLoopEnd = true → raises 2 0x03)

section
variable {s t : State} {h : Hart} {w : Word} {r inSlot atEnd : Bool} {body : State → State}

theorem State.issue_illds (hi : s.issuesTo t h) (hd : (t.hart h).delay ≠ none) : s.issue h w false true atEnd body = t.illds h w := by
  obtain ⟨hc, ⟨l, hf⟩, hw⟩ := hi
  have hsome : (t.hart h).delay.isSome = true := Option.isSome_iff_ne_none.2 hd
  unfold State.issue
  simp [hc, hf, hw, hsome]

theorem State.issue_illoop (hi : s.issuesTo t h) (hd : (t.hart h).delay = none) (he : (t.hart h).atLoopEnd = true) :
    s.issue h w false inSlot true body = t.illoop h w := by
  obtain ⟨hc, ⟨l, hf⟩, hw⟩ := hi
  unfold State.issue
  simp [hc, hf, hw, hd, he]

/-- An issued instruction with the flags of its word. -/
theorem illegalOutcomes_of_issue {i : Instr} (hi : s.issuesTo t h) (hx : exec i s = .next (s.issue h w r inSlot atEnd body))
    (hr : r = true ↔ reservedEncoding w (t.hart h)) (hs : noSlotWord w → inSlot = true) (he : branchWord w → atEnd = true) :
    illegalOutcomes i h w s t := by
  have hfalse (hn : ¬ reservedEncoding w (t.hart h)) : r = false := Bool.eq_false_iff.2 fun h => hn (hr.1 h)
  refine ⟨fun hres => ?_, fun hn hslot hd => ?_, fun hn hb hd hend => ?_⟩
  · rw [hx, hr.2 hres, State.issue_reserved hi]
    rfl
  · rw [hx, hfalse hn, hs hslot, State.issue_illds hi hd]
    rfl
  · rw [hx, hfalse hn, he hb, State.issue_illoop hi hd hend]
    rfl

/-- An instruction that may stand anywhere. -/
theorem illegalOutcomes_anywhere {i : Instr} (hi : s.issuesTo t h) (hx : exec i s = .next (s.issue h w r false false body))
    (hr : r = true ↔ reservedEncoding w (t.hart h)) (hs : ¬ noSlotWord w) : illegalOutcomes i h w s t :=
  illegalOutcomes_of_issue hi hx hr (fun h => absurd h hs) fun h => absurd (.inl h) hs

end

/-! ## The reserved encodings by format (R86, R88, R89) -/

section
variable {minor major : Nat} {d s1 s2 : BitVec 5} {aux : BitVec 6} {imm : BitVec 16} {n : BitVec 10}

theorem reservedEncoding_alu (hm : minor ≤ 27) (c : Core) : reservedEncoding (wordReg 0x00 minor d s1 s2 aux) c ↔
    if minor ∈ [11, 12, 13] then s2.toNat ≠ 0 ∨ 32 ≤ aux.toNat else if minor = 27 then 16 ≤ aux.toNat
    else aux.toNat ≠ 0 ∨ (minor ∈ [25, 26] ∧ d.toNat ≠ 0) := by
  have hmod : minor % 32 = minor := Nat.mod_eq_of_lt (by omega)
  simp [reservedEncoding, reservedFields, listedWord, hmod, hm]

theorem reservedEncoding_mac (hm : minor ≤ 9) (c : Core) : reservedEncoding (wordReg 0x08 minor d s1 s2 aux) c ↔
    (minor ≠ 6 ∧ aux.toNat ≠ 0) ∨ (minor ∉ [6, 9] ∧ 8 ≤ d.toNat) ∨ (minor ∈ [6, 7, 9] ∧ 8 ≤ s1.toNat) ∨
      (minor = 5 ∧ s1.toNat ≠ 0) ∨ (minor ∈ [5, 7] ∧ s2.toNat ≠ 0) ∨ (minor = 6 ∧ 4 ≤ s2.toNat) := by
  have hmod : minor % 32 = minor := Nat.mod_eq_of_lt (by omega)
  simp [reservedEncoding, reservedFields, listedWord, hmod, hm]

theorem reservedEncoding_amov (hm : minor ≤ 7) (c : Core) : reservedEncoding (wordReg 0x0A minor d s1 s2 aux) c ↔
    aux.toNat ≠ 0 ∨ (minor ≤ 3 ∧ d.toNat % 2 = 1) ∨ (minor ∈ [0, 1, 2, 4, 5] ∧ s1.toNat % 2 = 1) ∨ (minor = 6 ∧ 8 ≤ d.toNat) ∨
      (minor = 7 ∧ 8 ≤ s1.toNat) := by
  have hmod : minor % 32 = minor := Nat.mod_eq_of_lt (by omega)
  simp [reservedEncoding, reservedFields, listedWord, hmod, hm]

theorem reservedEncoding_jumpReg (hm : minor ≤ 1) (c : Core) : reservedEncoding (wordReg 0x1B minor d s1 s2 aux) c ↔
    d.toNat % 2 = 1 ∨ s1.toNat ≠ 0 ∨ s2.toNat ≠ 0 ∨ aux.toNat ≠ 0 := by
  have hmod : minor % 32 = minor := Nat.mod_eq_of_lt (by omega)
  simp [reservedEncoding, reservedFields, listedWord, hmod, hm]

theorem reservedEncoding_long (hm : minor ≤ 6) (c : Core) : reservedEncoding (wordReg 0x20 minor d s1 s2 aux) c ↔
    s1.toNat % 2 = 1 ∨ (minor = 0 ∧ (d.toNat % 2 = 1 ∨ d.toNat = s1.toNat)) ∨ (minor ∈ [0, 5, 6] ∧ aux.toNat ≠ 0) ∨
      (minor ∈ [1, 2, 3, 4] ∧ (8 ≤ d.toNat ∨ s2.toNat % 2 = 1 ∨ s1.toNat = s2.toNat ∨ 32 ≤ aux.toNat)) ∨
      (minor ∈ [3, 4] ∧ 16 ≤ s1.toNat) := by
  have hmod : minor % 32 = minor := Nat.mod_eq_of_lt (by omega)
  simp [reservedEncoding, reservedFields, listedWord, hmod, hm]

theorem reservedEncoding_sys (hm : 3 ≤ minor ∧ minor ≤ 8) (c : Core) : reservedEncoding (wordSys minor d n aux) c ↔
    n.toNat ≠ 0 ∨ (minor = 3 ∧ 1 < aux.toNat) := by
  obtain ⟨h3, h8⟩ := hm
  have hmod : minor % 32 = minor := Nat.mod_eq_of_lt (by omega)
  have h1 : minor ≠ 1 := by omega
  have h2 : minor ≠ 2 := by omega
  simp [reservedEncoding, reservedFields, listedWord, hmod, h8, h1, h2]

theorem reservedEncoding_sysReg (hm : minor ∈ [1, 2]) (c : Core) : reservedEncoding (wordSys minor d n aux) c ↔
    c.sysReg n.toNat = none := by
  have h12 : minor = 1 ∨ minor = 2 := by simpa using hm
  rcases h12 with rfl | rfl <;> simp [reservedEncoding, reservedFields, listedWord]

/-- The majors of the Immediate format. -/
theorem reservedEncoding_imm (hm : major ∈ [1, 2, 3, 4, 5, 6, 7, 9, 11, 31]) (c : Core) : reservedEncoding (wordImm major d s1 imm) c ↔
    (major = 5 ∧ d.toNat ≠ 0) ∨ (major ∈ [6, 7] ∧ s1.toNat ≠ 0) ∨ (major = 9 ∧ (d.toNat % 2 = 1 ∨ s1.toNat % 2 = 1)) ∨
      (major = 11 ∧ (d.toNat % 2 = 1 ∨ s1.toNat ≠ 0 ∨ 256 ≤ imm.toNat)) ∨
      (major = 31 ∧ (d.toNat ≠ 0 ∨ s1.toNat ≠ 0 ∨ 256 ≤ imm.toNat)) := by
  revert major
  simp only [List.forall_mem_cons, List.not_mem_nil, false_imp_iff, implies_true, and_true]
  simp [reservedEncoding, reservedFields, listedWord]

end

theorem reservedEncoding_mem {major : Nat} (hm : 0x10 ≤ major ∧ major ≤ 0x16) (d : BitVec 5) (a : BitVec 4) (mode : BitVec 3)
    (size : BitVec 2) (off : BitVec 12) (c : Core) : reservedEncoding (wordMem major d a mode size off) c ↔
    memBad a mode off = true ∨ (major ≤ 0x12 ∧ size.toNat = 3 ∧ d.toNat % 2 = 1) ∨ (0x13 ≤ major ∧ size.toNat ≠ 3) ∨
      (major ∈ [0x13, 0x14] ∧ d.toNat % 2 = 1) ∨ (major ∈ [0x15, 0x16] ∧ 8 ≤ d.toNat) := by
  obtain ⟨hlo, hhi⟩ := hm
  rw [memBad_iff]
  interval_cases major <;> simp [reservedEncoding, reservedFields, listedWord, or_assoc]

theorem reservedEncoding_bcc (annul : Bool) (cond : BitVec 4) (disp : BitVec 21) (c : Core) :
    ¬ reservedEncoding (wordBcc annul cond disp) c := by
  simp [reservedEncoding, reservedFields, listedWord]

theorem reservedEncoding_jump {major : Nat} (hm : major ∈ [0x19, 0x1A]) (annul : Bool) (disp : BitVec 25) (c : Core) :
    reservedEncoding (wordJump major annul disp) c ↔ annul = true := by
  revert major
  simp only [List.forall_mem_cons, List.not_mem_nil, false_imp_iff, implies_true, and_true]
  simp [reservedEncoding, reservedFields, listedWord]

theorem reservedEncoding_loop (level imm : Bool) (cnt len : BitVec 12) (c : Core) :
    reservedEncoding (wordLoop level imm cnt len) c ↔ len.toNat = 0 ∨ (imm = false ∧ 32 ≤ cnt.toNat) := by
  simp [reservedEncoding, reservedFields, listedWord]

theorem reservedEncoding_wfe (d s1 s2 : BitVec 5) (aux : BitVec 6) (c : Core) :
    reservedEncoding (wordReg 0x1D 0 d s1 s2 aux) c ↔ s1.toNat ≠ 0 ∨ s2.toNat ≠ 0 ∨ aux.toNat ≠ 0 := by
  simp [reservedEncoding, reservedFields, listedWord]

theorem reservedEncoding_waitt (d s1 s2 : BitVec 5) (aux : BitVec 6) (c : Core) :
    reservedEncoding (wordReg 0x1E 0 d s1 s2 aux) c ↔ aux.toNat ≠ 0 := by
  simp [reservedEncoding, reservedFields, listedWord]

/-! ## The outcomes by format -/

section
variable {i : Instr} {s t : State} {h : Hart} {r inSlot atEnd : Bool} {minor major : Nat} {d s1 s2 : BitVec 5} {aux : BitVec 6}
  {imm : BitVec 16} {n : BitVec 10} {body : State → State}

/-- Integer instructions without a reserved field but aux. -/
theorem illegalOutcomes_alu (hi : s.issuesTo t h) (hm : minor < 25 ∧ minor ∉ [11, 12, 13])
    (hx : exec i s = .next (s.issue h (wordReg 0x00 minor d s1 s2 aux) (aux != 0) false false body)) :
    illegalOutcomes i h (wordReg 0x00 minor d s1 s2 aux) s t := by
  obtain ⟨hlt, hshift⟩ := hm
  have hnone : minor ∉ [25, 26] := by simp; omega
  refine illegalOutcomes_anywhere hi hx ?_ (by simp [noSlotWord, branchWord])
  rw [reservedEncoding_alu (by omega), if_neg hshift, if_neg (by omega), bne_zero_iff_toNat]
  simp only [hnone, false_and, or_false]

/-- Shifts by an immediate amount. -/
theorem illegalOutcomes_shift (hi : s.issuesTo t h) (hm : minor ∈ [11, 12, 13])
    (hx : exec i s = .next (s.issue h (wordReg 0x00 minor d s1 s2 aux) (s2 != 0 || aux.getLsbD 5) false false body)) :
    illegalOutcomes i h (wordReg 0x00 minor d s1 s2 aux) s t := by
  have hle : minor ≤ 27 := (by decide : ∀ m ∈ [11, 12, 13], m ≤ 27) minor hm
  refine illegalOutcomes_anywhere hi hx ?_ (by simp [noSlotWord, branchWord])
  rw [reservedEncoding_alu hle, if_pos hm, Bool.or_eq_true, bne_zero_iff_toNat, auxBit5_iff]

/-- CMP and TST. -/
theorem illegalOutcomes_compare (hi : s.issuesTo t h) (hm : minor ∈ [25, 26])
    (hx : exec i s = .next (s.issue h (wordReg 0x00 minor d s1 s2 aux) (d != 0 || aux != 0) false false body)) :
    illegalOutcomes i h (wordReg 0x00 minor d s1 s2 aux) s t := by
  obtain ⟨hle, hshift, hsel⟩ := (by decide : ∀ m ∈ [25, 26], m ≤ 27 ∧ m ∉ [11, 12, 13] ∧ m ≠ 27) minor hm
  refine illegalOutcomes_anywhere hi hx ?_ (by simp [noSlotWord, branchWord])
  rw [reservedEncoding_alu hle, if_neg hshift, if_neg hsel, Bool.or_eq_true, bne_zero_iff_toNat, bne_zero_iff_toNat, or_comm,
    and_iff_right hm]

/-- An instruction of a Register format that may stand anywhere. -/
theorem illegalOutcomes_reg (hi : s.issuesTo t h) (hm : major % 64 < 0x18)
    (hx : exec i s = .next (s.issue h (wordReg major minor d s1 s2 aux) r false false body))
    (hr : r = true ↔ reservedEncoding (wordReg major minor d s1 s2 aux) (t.hart h)) :
    illegalOutcomes i h (wordReg major minor d s1 s2 aux) s t := by
  refine illegalOutcomes_anywhere hi hx hr ?_
  simp only [noSlotWord, branchWord, fieldOf_wordReg_major, List.mem_cons, List.not_mem_nil, or_false]
  omega

/-- Instructions of the accumulators whose only reserved fields are d and aux. -/
theorem illegalOutcomes_mac (hi : s.issuesTo t h) (hm : minor ∈ [0, 1, 2, 3, 4, 8])
    (hx : exec i s = .next (s.issue h (wordReg 0x08 minor d s1 s2 aux) (kBad d || aux != 0) false false body)) :
    illegalOutcomes i h (wordReg 0x08 minor d s1 s2 aux) s t := by
  have hle : minor ≤ 9 := (by decide : ∀ m ∈ [0, 1, 2, 3, 4, 8], m ≤ 9) minor hm
  refine illegalOutcomes_reg hi (by decide) hx ?_
  rw [reservedEncoding_mac hle, Bool.or_eq_true, kBad_iff, bne_zero_iff_toNat]
  simp only [List.mem_cons, List.not_mem_nil, or_false] at hm ⊢
  omega

/-- An instruction of the Immediate format. -/
theorem illegalOutcomes_imm (hi : s.issuesTo t h) (hm : major ∈ [1, 2, 3, 4, 5, 6, 7, 9, 11, 31])
    (hx : exec i s = .next (s.issue h (wordImm major d s1 imm) r false false body))
    (hr : r = true ↔ (major = 5 ∧ d.toNat ≠ 0) ∨ (major ∈ [6, 7] ∧ s1.toNat ≠ 0) ∨
      (major = 9 ∧ (d.toNat % 2 = 1 ∨ s1.toNat % 2 = 1)) ∨ (major = 11 ∧ (d.toNat % 2 = 1 ∨ s1.toNat ≠ 0 ∨ 256 ≤ imm.toNat)) ∨
      (major = 31 ∧ (d.toNat ≠ 0 ∨ s1.toNat ≠ 0 ∨ 256 ≤ imm.toNat))) :
    illegalOutcomes i h (wordImm major d s1 imm) s t := by
  refine illegalOutcomes_anywhere hi hx (hr.trans (reservedEncoding_imm hm _).symm) ?_
  simp only [noSlotWord, branchWord, fieldOf_wordImm_major, List.mem_cons, List.not_mem_nil, or_false] at hm ⊢
  omega

/-- A load or store. -/
theorem illegalOutcomes_mem {a : BitVec 4} {mode : BitVec 3} {size : BitVec 2} {off : BitVec 12} (hi : s.issuesTo t h)
    (hm : 0x10 ≤ major ∧ major ≤ 0x16)
    (hx : exec i s = .next (s.issue h (wordMem major d a mode size off) (r || memBad a mode off) false false body))
    (hr : r = true ↔ (major ≤ 0x12 ∧ size.toNat = 3 ∧ d.toNat % 2 = 1) ∨ (0x13 ≤ major ∧ size.toNat ≠ 3) ∨
      (major ∈ [0x13, 0x14] ∧ d.toNat % 2 = 1) ∨ (major ∈ [0x15, 0x16] ∧ 8 ≤ d.toNat)) :
    illegalOutcomes i h (wordMem major d a mode size off) s t := by
  refine illegalOutcomes_anywhere hi hx ?_ ?_
  · rw [Bool.or_eq_true, hr, or_comm, reservedEncoding_mem hm]
  · simp only [noSlotWord, branchWord, fieldOf_wordMem_major, List.mem_cons, List.not_mem_nil, or_false]
    omega

/-- A branch or a LOOP. -/
theorem illegalOutcomes_branch {w : Word} (hi : s.issuesTo t h) (hx : exec i s = .next (s.issue h w r true true body))
    (hr : r = true ↔ reservedEncoding w (t.hart h)) : illegalOutcomes i h w s t :=
  illegalOutcomes_of_issue hi hx hr (fun _ => rfl) fun _ => rfl

/-- A wait or a long instruction. -/
theorem illegalOutcomes_wait (hi : s.issuesTo t h) (hm : major ∈ [0x1D, 0x1E, 0x20])
    (hx : exec i s = .next (s.issue h (wordReg major minor d s1 s2 aux) r true false body))
    (hr : r = true ↔ reservedEncoding (wordReg major minor d s1 s2 aux) (t.hart h)) :
    illegalOutcomes i h (wordReg major minor d s1 s2 aux) s t := by
  refine illegalOutcomes_of_issue hi hx hr (fun _ => rfl) fun hb => absurd hb ?_
  simp only [branchWord, fieldOf_wordReg_major, List.mem_cons, List.not_mem_nil, or_false] at hm ⊢
  omega

/-- A system instruction that may stand anywhere. -/
theorem illegalOutcomes_sys (hi : s.issuesTo t h) (hm : minor % 32 ≠ 3)
    (hx : exec i s = .next (s.issue h (wordSys minor d n aux) r false false body))
    (hr : r = true ↔ reservedEncoding (wordSys minor d n aux) (t.hart h)) :
    illegalOutcomes i h (wordSys minor d n aux) s t := by
  refine illegalOutcomes_anywhere hi hx hr ?_
  simpa [noSlotWord, branchWord] using hm

/-- A barrier or TRAP. -/
theorem illegalOutcomes_barrier (hi : s.issuesTo t h) (hm : 4 ≤ minor ∧ minor ≤ 8)
    (hx : exec i s = .next (s.issue h (wordSys minor d n aux) (n != 0) false false body)) :
    illegalOutcomes i h (wordSys minor d n aux) s t := by
  obtain ⟨h4, h8⟩ := hm
  refine illegalOutcomes_sys hi (by omega) hx ?_
  rw [reservedEncoding_sys ⟨by omega, h8⟩, bne_zero_iff_toNat]
  omega

/-- MFS and MTS. -/
theorem illegalOutcomes_sysReg (hi : s.issuesTo t h) (hm : minor ∈ [1, 2])
    (hx : exec i s = .next (s.issue h (wordSys minor d n aux) ((s.hart h).sysReg n.toNat).isNone false false body)) :
    illegalOutcomes i h (wordSys minor d n aux) s t := by
  have h3 : minor % 32 ≠ 3 := (by decide : ∀ m ∈ [1, 2], m % 32 ≠ 3) minor hm
  refine illegalOutcomes_sys hi h3 hx ?_
  rw [reservedEncoding_sysReg hm, Core.sysReg_isNone _ (t.hart h), Option.isNone_iff_eq_none]

/-- NOP, as a word that is not listed or NOP's own. -/
theorem illegalOutcomes_nop {w : Word} (hi : s.issuesTo t h)
    (hn : listedWord w = false ∨ (fieldOf w 31 26 = 0x22 ∧ fieldOf w 10 6 = 0)) : illegalOutcomes (.nop h w) h w s t := by
  rcases Bool.eq_false_or_eq_true (listedWord w) with hl | hl
  · have hown := hn.resolve_left (by rw [hl]; decide)
    have hx : exec (.nop h w) s = .next (s.simple h w (fieldOf w 20 11 != 0) id) := by
      show execNop h w s = _
      rw [execNop, hl, if_neg (by decide), if_pos hown]
    obtain ⟨hmajor, hminor⟩ := hown
    refine illegalOutcomes_anywhere hi hx ?_ (by simp [noSlotWord, branchWord, hmajor, hminor])
    simp [reservedEncoding, reservedFields, hl, hmajor, hminor]
  · have hx : exec (.nop h w) s = .next (s.simple h w true id) := by
      show execNop h w s = _
      rw [execNop, hl, if_pos (by decide)]
    have hres : reservedEncoding w (t.hart h) := .inl hl
    refine ⟨fun _ => ?_, fun hn => absurd hres hn, fun hn => absurd hres hn⟩
    rw [hx, State.simple, State.issue_reserved hi]
    rfl

end

/-! ## O24 -/

/-- Every instruction of the cores raises what its word calls for. -/
theorem illegalOutcomes_of_lomerWord {i : Instr} {h : Hart} {w : Word} {n : Nat} {s t : State} (hw : lomerWord i = some (h, w, n))
    (hi : s.issuesTo t h) (hn : ∀ k v, i = .nop k v → listedWord v = false ∨ (fieldOf w 31 26 = 0x22 ∧ fieldOf w 10 6 = 0)) :
    illegalOutcomes i h w s t := by
  unfold lomerWord at hw
  split at hw <;> cases hw
  -- ADD, ADDC, SUB, SUBC, AND, OR, XOR, ANDN, SHL, SHR, SAR, MUL, MULHS, MULHU, ADDS, SUBS, ABS, NEG, MIN, MAX, CLZ, MOV
  case h_1 | h_2 | h_3 | h_4 | h_5 | h_6 | h_7 | h_8 | h_9 | h_10 | h_11 | h_15 | h_16 | h_17 | h_18 | h_19 | h_20 | h_21
      | h_22 | h_23 | h_24 | h_25 =>
    exact illegalOutcomes_alu hi (by decide) rfl
  -- SHLI, SHRI, SARI
  case h_12 | h_13 | h_14 =>
    exact illegalOutcomes_shift hi (by decide) rfl
  -- CMP, TST
  case h_26 | h_27 =>
    exact illegalOutcomes_compare hi (by decide) rfl
  -- SEL
  case h_28 =>
    exact illegalOutcomes_reg hi (by decide) rfl (by simpa [reservedEncoding_alu] using auxBits54_iff _)
  -- MULA, MAC, MSU, MULU, MACU, ACCSET
  case h_29 | h_30 | h_31 | h_32 | h_33 | h_37 =>
    exact illegalOutcomes_mac hi (by decide) rfl
  -- CLRA, ACCADD, GUARD
  case h_34 | h_36 | h_38 =>
    refine illegalOutcomes_reg hi (by decide) rfl ?_
    rw [reservedEncoding_mac (by decide)]
    simp only [Bool.or_eq_true, kBad_iff, bne_zero_iff_toNat,
      List.mem_cons, List.not_mem_nil, or_false, true_and, true_or, or_true, not_true_eq_false, false_and, false_or]
    omega
  -- EXT
  case h_35 =>
    refine illegalOutcomes_reg hi (by decide) rfl ?_
    rw [reservedEncoding_mac (by decide)]
    simp only [Bool.or_eq_true, kBad_iff, extractLsb'_ne_zero_iff (k := 2) (n := 3) _ rfl,
      List.mem_cons, List.not_mem_nil, or_false, true_and, true_or, not_true_eq_false, false_and, false_or]
    omega
  -- MOVA, ADDAD, SUBAD, MOVDA, MOVAD, MOVAHD, MOVM, MOVMD
  case h_39 | h_40 | h_41 | h_42 | h_43 | h_44 | h_45 | h_46 =>
    refine illegalOutcomes_reg hi (by decide) rfl ?_
    rw [reservedEncoding_amov (by decide)]
    simp only [Bool.or_eq_true, kBad_iff, aBad_iff, bne_zero_iff_toNat,
      List.mem_cons, List.not_mem_nil, or_false, true_and, true_or, or_true]
    omega
  -- ADDI, ANDI, ORI, XORI
  case h_47 | h_48 | h_49 | h_50 =>
    exact illegalOutcomes_imm hi (by decide) rfl (by simp)
  -- CMPI, MOVI, MOVHI, ADDAI, SETAH, SEV
  case h_51 | h_52 | h_53 | h_54 | h_55 | h_56 =>
    refine illegalOutcomes_imm hi (by decide) rfl ?_
    simp only [Bool.or_eq_true, aBad_iff, bne_zero_iff_toNat, extractLsb'_ne_zero_iff (k := 8) (n := 8) _ rfl,
      List.mem_cons, List.not_mem_nil, or_false, true_and, true_or, or_true]
    omega
  -- LDS, LDZ, ST
  case h_57 | h_58 | h_59 =>
    refine illegalOutcomes_mem hi (by decide) rfl ?_
    simp only [Bool.and_eq_true, size_eq_three_iff, bit0_iff, List.mem_cons, List.not_mem_nil, or_false]
    omega
  -- LDA, STA, LDACC, STACC
  case h_60 | h_61 | h_62 | h_63 =>
    refine illegalOutcomes_mem hi (by decide) rfl ?_
    simp only [Bool.or_eq_true, size_ne_three_iff, aBad_iff, kBad_iff, List.mem_cons, List.not_mem_nil, or_false, true_and,
      true_or, or_true]
    omega
  -- BCC
  case h_64 =>
    exact illegalOutcomes_branch hi rfl (iff_of_false (by decide) (reservedEncoding_bcc _ _ _ _))
  -- J, CALL
  case h_65 | h_66 =>
    exact illegalOutcomes_branch hi rfl (reservedEncoding_jump (by decide) _ _ _).symm
  -- JR, CALLR
  case h_67 | h_68 =>
    refine illegalOutcomes_branch hi rfl ?_
    rw [reservedEncoding_jumpReg (by decide)]
    simp only [Bool.or_eq_true, aBad_iff, bne_zero_iff_toNat, or_assoc]
  -- LOOP
  case h_69 =>
    refine illegalOutcomes_branch hi rfl ?_
    rw [reservedEncoding_loop, Bool.or_eq_true, Bool.and_eq_true, Bool.not_eq_true', beq_zero_iff_toNat,
      extractLsb'_ne_zero_iff (k := 5) (n := 7) _ rfl]
    exact Iff.rfl
  -- WFE
  case h_70 =>
    refine illegalOutcomes_wait hi (by decide) rfl ?_
    rw [reservedEncoding_wfe]
    simp only [Bool.or_eq_true, bne_zero_iff_toNat, or_assoc]
  -- WAITT
  case h_71 =>
    exact illegalOutcomes_wait hi (by decide) rfl ((bne_zero_iff_toNat _).trans (reservedEncoding_waitt _ _ _ _ _).symm)
  -- BMOV, CRCB32, CRCB16
  case h_72 | h_77 | h_78 =>
    refine illegalOutcomes_wait hi (by decide) rfl ?_
    rw [reservedEncoding_long (by decide)]
    simp only [Bool.or_eq_true, aBad_iff, bne_zero_iff_toNat, beq_iff_eq, ← BitVec.toNat_inj, List.mem_cons, List.not_mem_nil,
      or_false, true_and, true_or, or_true]
    omega
  -- VMAC16, VMAC32, VMAC16M, VMAC32M
  case h_73 | h_74 | h_75 | h_76 =>
    refine illegalOutcomes_wait hi (by decide) rfl ?_
    rw [reservedEncoding_long (by decide), vmacBad_iff]
    simp only [Bool.false_eq_true, List.mem_cons, List.not_mem_nil, or_false, true_and, true_or, or_true, false_and]
    omega
  -- MFS, MTS
  case h_79 | h_80 =>
    exact illegalOutcomes_sysReg hi (by decide) rfl
  -- RFE
  case h_81 =>
    refine illegalOutcomes_branch hi rfl ?_
    rw [reservedEncoding_sys (by decide), Bool.or_eq_true, bne_zero_iff_toNat, decide_eq_true_iff, and_iff_right rfl]
  -- TRAP, IFENCE, FENCE, BPFLUSH, BPBAR
  case h_82 | h_83 | h_84 | h_85 | h_86 =>
    exact illegalOutcomes_barrier hi (by decide) rfl
  -- NOP
  case h_87 =>
    exact illegalOutcomes_nop hi (hn _ _ rfl)

/-- The exception that TRAP raises. -/
def trapExc (d : BitVec 5) (n : BitVec 6) (ret : Addr) (ds : Bool) : Exc :=
  { vec := 7, cause := 0x20, info := n.toNat, word := wordSys 4 d 0 n, ret := ret, ds := ds }

/-- TRAP issued, outside a delay slot and in one. -/
theorem exec_trap {s t : State} {h : Hart} (hi : s.issuesTo t h) (d : BitVec 5) (n : BitVec 6) : exec (.trap h d 0 n) s =
    .next (match (t.hart h).delay with
      | some b => t.enter h (trapExc d n b.branch true)
      | none => t.enter h (trapExc d n ((t.hart h).pc + 4) false)) :=
  congrArg Host.Outcome.next (State.issue_of hi rfl (.inl rfl) (.inl rfl) _)

/-- Settles O24: TRAP by the place it stands at; of every word, the flags of its instruction are what R86 reserves. -/
theorem trapsAndIllegalInstructions : Obligations.TrapsAndIllegalInstructions := by
  unfold Obligations.TrapsAndIllegalInstructions
  refine ⟨fun h d n s t hi => ⟨fun hd => ?_, fun b hd => ?_⟩, fun i h w n s t hw hi => illegalOutcomes_of_lomerWord hw hi⟩
  · rw [exec_trap hi, hd]
    rfl
  · rw [exec_trap hi, hd]
    rfl

end Sys2Proof.Machine
end

section
/-!
# Long instructions: statement O16
-/

namespace Sys2Proof.Machine

/-! ## Operands of a long instruction -/

theorem toNat_even (x : BitVec 4) : (x ++ 0#1).toNat = 2 * x.toNat := by
  revert x
  decide

theorem toNat_even_half (x : BitVec 4) : (x ++ 0#1).toNat / 2 = x.toNat := by
  rw [toNat_even, Nat.mul_div_cancel_left _ two_pos]

theorem toNat_zeroExtend_six : ∀ k : BitVec 5, (k.zeroExtend 6).toNat = k.toNat := by decide

/-- The encodings of VMAC that are not reserved. -/
theorem vmacBad_false {x y : BitVec 4} {n : BitVec 3} {k : BitVec 5} {m : Bool} (hxy : x ≠ y) (hm : m = true → x.toNat < 8) :
    vmacBad (n.zeroExtend 5) (x ++ 0#1) (y ++ 0#1) (k.zeroExtend 6) m = false := by
  have hne : x.toNat ≠ y.toNat := fun h => hxy (BitVec.eq_of_toNat_eq h)
  have hn := n.isLt
  have hk := k.isLt
  have hmod : ¬ (m = true ∧ 16 ≤ 2 * x.toNat) := fun ⟨h, hx⟩ => by
    have := hm h
    omega
  rw [Bool.eq_false_iff, ne_eq, vmacBad_iff, toNat_zeroExtend_five, toNat_zeroExtend_six, toNat_even, toNat_even]
  simp only [hmod, or_false]
  omega

theorem bmovBad_false {x y : BitVec 4} (hxy : x ≠ y) :
    (aBad (x ++ 0#1) || aBad (y ++ 0#1) || x ++ 0#1 == y ++ 0#1 || (0 : BitVec 6) != 0) = false := by
  have hne : x ++ 0#1 ≠ y ++ 0#1 := by
    revert x y
    decide
  rw [aBad_append, aBad_append, beq_false_of_ne hne]
  rfl

theorem crcBad_false (x : BitVec 4) : (aBad (x ++ 0#1) || (0 : BitVec 6) != 0) = false := by
  rw [aBad_append]
  rfl

section
variable (minor : Nat) (d s1 s2 : BitVec 5) (aux : BitVec 6)

theorem longFields_wordReg : longFields (wordReg 0x20 minor d s1 s2 aux) = (minor % 32, d.toNat, s1.toNat, s2.toNat, aux.toNat) := by
  simp [longFields]

theorem longCounter_wordReg : longCounter (wordReg 0x20 minor d s1 s2 aux) =
    if 1 ≤ minor % 32 ∧ minor % 32 ≤ 4 then aux.toNat % 32 else s2.toNat := by
  rw [longCounter, longFields_wordReg]

end

/-- The counter of VMAC. -/
theorem longCounter_vmac {minor : Nat} (hm : 1 ≤ minor ∧ minor ≤ 4) (d s1 s2 : BitVec 5) (k : BitVec 5) :
    longCounter (wordReg 0x20 minor d s1 s2 (k.zeroExtend 6)) = k.toNat := by
  have hk := k.isLt
  rw [longCounter_wordReg, if_pos (by omega), toNat_zeroExtend_six]
  omega

/-- The counter of BMOV and CRCB. -/
theorem longCounter_other {minor : Nat} (hm : minor ∈ [0, 5, 6]) (d s1 k : BitVec 5) (aux : BitVec 6) :
    longCounter (wordReg 0x20 minor d s1 k aux) = k.toNat := by
  have hnot := (by decide : ∀ m ∈ [0, 5, 6], ¬ (1 ≤ m % 32 ∧ m % 32 ≤ 4)) minor hm
  rw [longCounter_wordReg, if_neg hnot]

/-! ## The reads -/

theorem longReads_vmac {minor : Nat} (hm : 1 ≤ minor ∧ minor ≤ 4) (c : Core) (d : BitVec 5) (x y : BitVec 4) (aux : BitVec 6) :
    longReads c (wordReg 0x20 minor d (x ++ 0#1) (y ++ 0#1) aux) =
      partsOf (c.ar x.toNat) (vmacBytes minor) ++ partsOf (c.ar y.toNat) (vmacBytes minor) := by
  have hmod : minor % 32 = minor := Nat.mod_eq_of_lt (by omega)
  rw [longReads, longFields_wordReg]
  simp only [hmod, toNat_even_half]
  rw [if_neg (by omega), if_pos hm.2]

theorem longReads_other {minor : Nat} (hm : minor ∈ [0, 5, 6]) (c : Core) (d s2 : BitVec 5) (x : BitVec 4) (aux : BitVec 6) :
    longReads c (wordReg 0x20 minor d (x ++ 0#1) s2 aux) = [(c.ar x.toNat, 1)] := by
  obtain ⟨hmod, hle⟩ := (by decide : ∀ m ∈ [0, 5, 6], m % 32 = m ∧ (m ≠ 0 → ¬ m ≤ 4)) minor hm
  rw [longReads, longFields_wordReg]
  simp only [hmod, toNat_even_half]
  split
  · rfl
  · next h => rw [if_neg (hle h)]

/-! ## The registers after one element -/

theorem Core.longElem_bmov (c : Core) (x y : BitVec 4) (k : BitVec 5) (l : List Byte) (a : Addr) :
    c.longElem (wordReg 0x20 0 (x ++ 0#1) (y ++ 0#1) k 0) l a =
      ((c.setD k.toNat (c.dr k.toNat - 1)).setA x.toNat (c.ar x.toNat + 1)).setA y.toNat (c.ar y.toNat + 1) := by
  rw [Core.longElem, longCounter_other (by decide), longFields_wordReg]
  simp only [toNat_even_half, Nat.zero_mod]

theorem Core.dr_setA (c : Core) (a k : Nat) (v : Addr) : (c.setA a v).dr k = c.dr k := by
  unfold Core.setA
  split
  · split <;> rfl
  · rfl

theorem Core.longElem_crcb32 (c : Core) {d k : BitVec 5} (hdk : d ≠ k) (x : BitVec 4) (l : List Byte) (a : Addr) :
    c.longElem (wordReg 0x20 5 d (x ++ 0#1) k 0) l a =
      ((c.setD d.toNat (BitVec.ofNat 32 (crc32c (c.dr d.toNat).toNat l))).setA x.toNat (c.ar x.toNat + 1)).setD k.toNat
        (c.dr k.toNat - 1) := by
  have hne : k.toNat ≠ d.toNat := fun h => hdk (BitVec.eq_of_toNat_eq h.symm)
  rw [Core.longElem, longCounter_other (by decide), longFields_wordReg]
  simp only [toNat_even_half, Core.dr_setA, Core.dr_setD, if_neg hne]

theorem crc16Bit_lt {c : Nat} : crc16Bit c < 2 ^ 16 := by
  have hlt : c * 2 % 0x10000 < 2 ^ 16 := Nat.mod_lt _ (by decide)
  unfold crc16Bit
  split
  · exact Nat.xor_lt_two_pow hlt (by decide)
  · exact hlt

theorem crc16Byte_lt (c : Nat) (b : Byte) : crc16Byte c b < 2 ^ 16 := by
  rw [crc16Byte, show List.range 8 = List.range 7 ++ [7] from rfl, List.foldl_append]
  exact crc16Bit_lt

theorem crc16_lt {c : Nat} (hc : c < 2 ^ 16) (l : List Byte) : crc16 c l < 2 ^ 16 := by
  induction l generalizing c with
  | nil => exact hc
  | cons b l ih => exact ih (crc16Byte_lt c b)

/-- CRCB16's result: the high half stays, the low half takes the sum. -/
theorem crcb16_word (v : Word) (l : List Byte) : BitVec.ofNat 32 (fieldOf v 31 16 * 2 ^ 16 + crc16 (fieldOf v 15 0) l) =
    v.extractLsb' 16 16 ++ BitVec.ofNat 16 (crc16 (v.setWidth 16).toNat l) := by
  have hlow : fieldOf v 15 0 = (v.setWidth 16).toNat := by
    rw [BitVec.toNat_setWidth, fieldOf, pow_zero, Nat.div_one]
  have hhigh : fieldOf v 31 16 = (v.extractLsb' 16 16).toNat := by
    rw [BitVec.extractLsb'_toNat, Nat.shiftRight_eq_div_pow]
    rfl
  have hcrc : crc16 (v.setWidth 16).toNat l < 2 ^ 16 := crc16_lt (v.setWidth 16).isLt l
  have hle := (v.extractLsb' 16 16).isLt
  apply BitVec.eq_of_toNat_eq
  rw [hlow, hhigh, toNat_append_add, BitVec.toNat_ofNat, BitVec.toNat_ofNat, Nat.mod_eq_of_lt hcrc, Nat.mod_eq_of_lt (by omega)]

theorem Core.longElem_crcb16 (c : Core) {d k : BitVec 5} (hdk : d ≠ k) (x : BitVec 4) (l : List Byte) (a : Addr) :
    c.longElem (wordReg 0x20 6 d (x ++ 0#1) k 0) l a =
      ((c.setD d.toNat ((c.dr d.toNat).extractLsb' 16 16 ++ BitVec.ofNat 16 (crc16 ((c.dr d.toNat).setWidth 16).toNat l))).setA
        x.toNat (c.ar x.toNat + 1)).setD k.toNat (c.dr k.toNat - 1) := by
  have hne : k.toNat ≠ d.toNat := fun h => hdk (BitVec.eq_of_toNat_eq h.symm)
  rw [Core.longElem, longCounter_other (by decide), longFields_wordReg]
  simp only [toNat_even_half, Core.dr_setA, Core.dr_setD, if_neg hne, ← crcb16_word]

/-- The minors of VMAC, with the element size and whether Aa steps modulo. -/
def vmacForms : List (Nat × Nat × Bool) := [(1, 2, false), (2, 4, false), (3, 2, true), (4, 4, true)]

/-- The registers after an element of VMAC of `b` bytes, with Aa stepped to `z`. -/
def Core.vmacDone (c : Core) (x y : BitVec 4) (n : BitVec 3) (k : BitVec 5) (b : Nat) (l : List Byte) (z : Addr) : Core :=
  (((c.setD k.toNat (c.dr k.toNat - 1)).setAcc n.toNat (c.accr n.toNat + BitVec.ofInt 72
    (sext (8 * b) (natLE (l.take b)) * sext (8 * b) (natLE (l.drop b))))).setA x.toNat z).setA y.toNat
      (c.ar y.toNat + BitVec.ofNat 40 b)

/-- How VMAC steps Aa: linearly, or by the modulo step of R69. -/
def Core.vmacStep (c : Core) (m : Bool) (a b : Nat) : Addr :=
  if m then moduloStep (c.ar a) (c.mr a) b else c.ar a + BitVec.ofNat 40 b

theorem Core.longElem_vmac (c : Core) {minor b : Nat} {m : Bool} (hm : (minor, b, m) ∈ vmacForms)
    (x y : BitVec 4) (n : BitVec 3) (k : BitVec 5) (l : List Byte) (a : Addr) (hlen : m = true → lengthOk (c.mr x.toNat) = true) :
    c.longElem (wordReg 0x20 minor (n.zeroExtend 5) (x ++ 0#1) (y ++ 0#1) (k.zeroExtend 6)) l a =
      c.vmacDone x y n k b l (c.vmacStep m x.toNat b) := by
  have hbound : 1 ≤ minor ∧ minor ≤ 4 :=
    (by decide : ∀ e ∈ vmacForms, 1 ≤ e.1 ∧ e.1 ≤ 4) _ hm
  rw [Core.longElem, longCounter_vmac hbound, longFields_wordReg]
  simp only [toNat_even_half, toNat_zeroExtend_five]
  simp only [vmacForms, List.mem_cons, Prod.mk.injEq, List.not_mem_nil, or_false] at hm
  rcases hm with ⟨rfl, rfl, rfl⟩ | ⟨rfl, rfl, rfl⟩ | ⟨rfl, rfl, rfl⟩ | ⟨rfl, rfl, rfl⟩
  · rfl
  · rfl
  · simp [hlen, Core.vmacDone, Core.vmacStep, vmacBytes]
  · simp [hlen, Core.vmacDone, Core.vmacStep, vmacBytes]

/-! ## One element -/

section
variable {s t u v : State} {h : Hart} {w : Word} {l : List Byte}

/-- A long instruction of which one element is asked for or left. -/
theorem State.longRun_one (hc : (t.hart h).dr (longCounter w) ≠ 0)
    (hg : t.loadGo h { word := w, dst := .elem, parts := [] } (longReads (t.hart h) w) [] = (u, some l))
    (ha : u.longApply h w l = (v, true)) : State.longRun h w 1 t = v.longEndTest h w := by
  rw [State.longRun, if_neg hc, hg]
  simp only [ha]
  rfl

/-- A long instruction whose count is 0. -/
theorem State.longRun_zero (hc : (t.hart h).dr (longCounter w) = 0) : State.longRun h w 0 t = t.modHart h Core.retire := by
  rw [State.longRun, State.longEndTest, if_pos hc]

/-- The end of an element: the instruction retires where the count reached 0. -/
def Core.longEnd (c : Core) (k : Nat) : Core := if c.dr k = 0 then c.retire else c

theorem State.longEndTest_onlyHart (v : State) (h : Hart) (w : Word) (f : Core → Core) :
    v.onlyHart ((v.modHart h f).longEndTest h w) h ((f (v.hart h)).longEnd (longCounter w)) := by
  unfold State.longEndTest Core.longEnd
  rw [State.hart_modHart]
  split
  · have htwo := (v.modHart_onlyHart h f).trans ((v.modHart h f).modHart_onlyHart h Core.retire)
    rwa [State.hart_modHart] at htwo
  · exact v.modHart_onlyHart h f

/-- The element of an instruction that does not store. -/
theorem State.longApply_of_registers {minor : Nat} {d s1 s2 : BitVec 5} {aux : BitVec 6} (hm : minor % 32 ≠ 0) :
    u.longApply h (wordReg 0x20 minor d s1 s2 aux) l =
      (u.fresh.2.modHart h fun c => c.longElem (wordReg 0x20 minor d s1 s2 aux) l (BitVec.ofNat 40 u.fresh.1), true) := by
  rw [State.longApply, longFields_wordReg]
  simp only [if_neg hm]
  rfl

/-- The element of BMOV, whose store ends well. -/
theorem State.longApply_of_store {x y : BitVec 4} {k : BitVec 5}
    (hs : u.fresh.2.coreStore h (wordReg 0x20 0 (x ++ 0#1) (y ++ 0#1) k 0) ((u.hart h).ar x.toNat) l = (v, true)) :
    u.longApply h (wordReg 0x20 0 (x ++ 0#1) (y ++ 0#1) k 0) l =
      (v.modHart h fun c => c.longElem (wordReg 0x20 0 (x ++ 0#1) (y ++ 0#1) k 0) l (BitVec.ofNat 40 u.fresh.1), true) := by
  have hs' : u.fresh.2.coreStore h (wordReg 0x20 0 (x ++ 0#1) (y ++ 0#1) k 0) ((u.fresh.2.hart h).ar x.toNat) l = (v, true) := hs
  rw [State.longApply, longFields_wordReg]
  simp only [Nat.zero_mod, if_true, toNat_even_half, hs']

end

/-! ## Issue -/

section
variable {i : Instr} {s t u v : State} {h : Hart} {minor elems : Nat} {d s1 s2 : BitVec 5} {aux : BitVec 6} {r : Bool} {l : List Byte}
  {k : Nat}

/-- A long instruction issued at a plain place. -/
theorem State.longIns_of_issue (hi : s.issuesTo t h) (hp : t.plainPlace h) (hr : r = false)
    (hk : longCounter (wordReg 0x20 minor d s1 s2 aux) = k) : s.longIns h minor d s1 s2 aux r elems =
      State.longRun h (wordReg 0x20 minor d s1 s2 aux) (min elems ((t.hart h).dr k).toNat) t :=
  hk ▸ State.issue_of hi hr (.inr hp.1) (.inl rfl) _

/-- With count 0 a long instruction retires. -/
theorem longIns_count_zero (hx : exec i s = .next (s.longIns h minor d s1 s2 aux r elems)) (hi : s.issuesTo t h)
    (hp : t.plainPlace h) (hr : r = false) (hk : longCounter (wordReg 0x20 minor d s1 s2 aux) = k) (hc : (t.hart h).dr k = 0) :
    ∃ v, exec i s = .next v ∧ t.onlyHart v h (t.hart h).retire := by
  refine ⟨_, hx, ?_⟩
  rw [State.longIns_of_issue hi hp hr hk, hc, show (0 : Word).toNat = 0 from rfl, Nat.min_zero,
    State.longRun_zero (by rw [hk, hc])]
  exact t.modHart_onlyHart h Core.retire

/-- With one element asked for or left, a long instruction does that element. -/
theorem longIns_one_element (hx : exec i s = .next (s.longIns h minor d s1 s2 aux r elems)) (hi : s.issuesTo t h)
    (hp : t.plainPlace h) (hr : r = false) (hk : longCounter (wordReg 0x20 minor d s1 s2 aux) = k) (he : 1 ≤ elems)
    (hc : (t.hart h).dr k = 1 ∨ (elems = 1 ∧ (t.hart h).dr k ≠ 0)) {f : Core → Core}
    (hg : t.loadGo h { word := wordReg 0x20 minor d s1 s2 aux, dst := .elem, parts := [] }
      (longReads (t.hart h) (wordReg 0x20 minor d s1 s2 aux)) [] = (u, some l))
    (ha : u.longApply h (wordReg 0x20 minor d s1 s2 aux) l = (v.modHart h f, true)) :
    ∃ w, exec i s = .next w ∧ v.onlyHart w h ((f (v.hart h)).longEnd k) := by
  have hne : (t.hart h).dr k ≠ 0 := hc.elim (fun h => by rw [h]; decide) fun h => h.2
  have hpos : 0 < ((t.hart h).dr k).toNat := Nat.pos_of_ne_zero fun h => hne (BitVec.eq_of_toNat_eq h)
  have hone : min elems ((t.hart h).dr k).toNat = 1 := by
    rcases hc with hc | ⟨hel, -⟩
    · rw [hc]
      exact Nat.min_eq_right he
    · omega
  refine ⟨_, hx, ?_⟩
  rw [State.longIns_of_issue hi hp hr hk, hone, State.longRun_one (by rwa [hk]) hg ha]
  exact hk ▸ v.longEndTest_onlyHart h _ f

end

/-! ## O16 -/

section
variable {i : Instr} {s t u v : State} {h : Hart} {x y : BitVec 4} {n : BitVec 3} {k d : BitVec 5} {elems minor b : Nat} {m : Bool}
  {l : List Byte}

/-- One element of VMAC. -/
theorem vmac_element (hm : (minor, b, m) ∈ vmacForms)
    (hx : exec i s = .next (s.longIns h minor (n.zeroExtend 5) (x ++ 0#1) (y ++ 0#1) (k.zeroExtend 6)
      (vmacBad (n.zeroExtend 5) (x ++ 0#1) (y ++ 0#1) (k.zeroExtend 6) m) elems))
    (hi : s.issuesTo t h) (hp : t.plainPlace h) (hxy : x ≠ y) (hmod : m = true → x.toNat < 8) (he : 1 ≤ elems)
    (hc : (t.hart h).dr k.toNat = 1 ∨ (elems = 1 ∧ (t.hart h).dr k.toNat ≠ 0))
    (hg : t.loadGo h { word := wordReg 0x20 minor (n.zeroExtend 5) (x ++ 0#1) (y ++ 0#1) (k.zeroExtend 6), dst := .elem, parts := [] }
      (partsOf ((t.hart h).ar x.toNat) b ++ partsOf ((t.hart h).ar y.toNat) b) [] = (u, some l))
    (hlen : m = true → ((u.hart h).mr x.toNat).toNat ≠ 0 ∧ ((u.hart h).mr x.toNat).toNat < 2 ^ 24) :
    ∃ v, exec i s = .next v ∧
      u.fresh.2.onlyHart v h (((u.hart h).vmacDone x y n k b l ((u.hart h).vmacStep m x.toNat b)).longEnd k.toNat) := by
  obtain ⟨hbound, hbytes⟩ := (by decide : ∀ e ∈ vmacForms, (1 ≤ e.1 ∧ e.1 ≤ 4) ∧ vmacBytes e.1 = e.2.1) _ hm
  have hreads := longReads_vmac hbound (t.hart h) (n.zeroExtend 5) x y (k.zeroExtend 6)
  have hok : m = true → lengthOk ((u.hart h).mr x.toNat) = true := fun htrue => by
    obtain ⟨hne, hlt⟩ := hlen htrue
    exact (lengthOk_of_lt (by omega) hlt).1
  obtain ⟨v, hv, honly⟩ := longIns_one_element hx hi hp (vmacBad_false hxy hmod) (longCounter_vmac hbound _ _ _ k) he hc
    (by rw [hreads, hbytes]; exact hg) (State.longApply_of_registers (by omega))
  refine ⟨v, hv, ?_⟩
  rwa [show u.fresh.2.hart h = u.hart h from rfl, Core.longElem_vmac _ hm _ _ _ _ _ _ hok] at honly

/-- One element of CRCB32 and CRCB16, whose register becomes `z`. -/
theorem crcb_element (hm : minor ∈ [5, 6])
    (hx : exec i s = .next (s.longIns h minor d (x ++ 0#1) k 0 (aBad (x ++ 0#1) || 0#6 != 0) elems))
    (hi : s.issuesTo t h) (hp : t.plainPlace h) (he : 1 ≤ elems)
    (hc : (t.hart h).dr k.toNat = 1 ∨ (elems = 1 ∧ (t.hart h).dr k.toNat ≠ 0))
    (hg : t.loadGo h { word := wordReg 0x20 minor d (x ++ 0#1) k 0, dst := .elem, parts := [] } [((t.hart h).ar x.toNat, 1)] [] =
      (u, some l)) {z : Core}
    (hz : ∀ a, (u.hart h).longElem (wordReg 0x20 minor d (x ++ 0#1) k 0) l a = z) :
    ∃ v, exec i s = .next v ∧ u.fresh.2.onlyHart v h (z.longEnd k.toNat) := by
  obtain ⟨hmem, hne⟩ := (by decide : ∀ m ∈ [5, 6], m ∈ [0, 5, 6] ∧ m % 32 ≠ 0) minor hm
  have hreads := longReads_other hmem (t.hart h) d k x 0
  obtain ⟨v, hv, honly⟩ := longIns_one_element hx hi hp (crcBad_false x) (longCounter_other hmem d _ k 0) he hc
    (by rw [hreads]; exact hg) (State.longApply_of_registers hne)
  refine ⟨v, hv, ?_⟩
  rwa [show u.fresh.2.hart h = u.hart h from rfl, hz] at honly

end

/-- Settles O16: with count 0 each retires; with one element asked for or left, the run is that element and its end. -/
theorem longInstructionsByElements : Obligations.LongInstructionsByElements := by
  unfold Obligations.LongInstructionsByElements
  intro h x y n k d elems s t hi hp he hxy A B c ends
  have hplain : false = true → x.toNat < 8 := fun h => absurd h Bool.false_ne_true
  refine ⟨?_, ?_, ?_, fun hc u v l hg hs => ?_⟩
  · simp only [List.forall_mem_cons, List.not_mem_nil, false_imp_iff, implies_true, and_true]
    refine ⟨?_, ?_, ?_, ?_, ?_, ?_, ?_⟩
    all_goals intro hok hc
    · exact longIns_count_zero rfl hi hp (bmovBad_false hxy) (longCounter_other (by decide) _ _ k 0) hc
    · exact longIns_count_zero rfl hi hp (vmacBad_false hxy hplain) (longCounter_vmac (by decide) _ _ _ k) hc
    · exact longIns_count_zero rfl hi hp (vmacBad_false hxy hplain) (longCounter_vmac (by decide) _ _ _ k) hc
    · exact longIns_count_zero rfl hi hp (vmacBad_false hxy fun _ => of_decide_eq_true hok) (longCounter_vmac (by decide) _ _ _ k) hc
    · exact longIns_count_zero rfl hi hp (vmacBad_false hxy fun _ => of_decide_eq_true hok) (longCounter_vmac (by decide) _ _ _ k) hc
    · exact longIns_count_zero rfl hi hp (crcBad_false x) (longCounter_other (by decide) d _ k 0) hc
    · exact longIns_count_zero rfl hi hp (crcBad_false x) (longCounter_other (by decide) d _ k 0) hc
  · refine List.forall_mem_cons.2 ⟨?_, List.forall_mem_cons.2 ⟨?_, List.forall_mem_cons.2 ⟨?_, List.forall_mem_singleton.2 ?_⟩⟩⟩
    all_goals intro hmod hc u l _ hg c hlen
    · exact vmac_element (by decide : (1, 2, false) ∈ vmacForms) rfl hi hp hxy hmod he hc hg hlen
    · exact vmac_element (by decide : (2, 4, false) ∈ vmacForms) rfl hi hp hxy hmod he hc hg hlen
    · exact vmac_element (by decide : (3, 2, true) ∈ vmacForms) rfl hi hp hxy hmod he hc hg hlen
    · exact vmac_element (by decide : (4, 4, true) ∈ vmacForms) rfl hi hp hxy hmod he hc hg hlen
  · simp only [List.forall_mem_cons, List.not_mem_nil, false_imp_iff, implies_true, and_true]
    refine ⟨?_, ?_⟩
    all_goals intro hc hdk u l hg
    · have helem := crcb_element (i := .crcb32 h d A k 0 elems) (minor := 5) (by decide) rfl hi hp he hc hg
        fun a => (u.hart h).longElem_crcb32 hdk x l a
      exact helem
    · have helem := crcb_element (i := .crcb16 h d A k 0 elems) (minor := 6) (by decide) rfl hi hp he hc hg
        fun a => (u.hart h).longElem_crcb16 hdk x l a
      exact helem
  · have hreads := longReads_other (by decide : 0 ∈ [0, 5, 6]) (t.hart h) A k y 0
    obtain ⟨w, hw, honly⟩ := longIns_one_element (i := .bmov h A B k 0 elems) rfl hi hp (bmovBad_false hxy)
      (longCounter_other (by decide) A B k 0) he hc (by rw [hreads]; exact hg) (State.longApply_of_store hs)
    refine ⟨w, hw, ?_⟩
    rwa [Core.longElem_bmov] at honly

end Sys2Proof.Machine
end

section
/-!
# A trigger that waits already, in a list of groups out of order: statement O51
-/

namespace Sys2Proof.Machine

/-- PLACES with an event of channel 0, published a cycle ago, for ADC group 0. A trigger of the group waits already, and the sparse
map of the groups lists group 1 before group 0. -/
def strayGroups : State :=
  ((((({ clk := 1, sys := { dev := .places }, call := { inflight := [⟨0, 0, false⟩] },
         afe := { groups := [(1, {}), (0, { waiting := some 0 })] } } : State).setF (R.CALL_CH_EN 0) 1).setF (R.CALL_CH_SUBV 0) 1).setF
    (R.CALL_CH_SUB 0) 0x100).setF (R.AFE_GCFG_ETRIG 0) 1)

/-- The channel delivers, and its ceiling allows the event. -/
theorem strayGroups_open : strayGroups.channelOpen 0 ∧ strayGroups.getF (R.CALL_CEIL_MAX 0) = 0 ∧
    strayGroups.getF (R.CALL_CH_SUB 0) = 0x100 := by
  unfold State.channelOpen
  decide +kernel

theorem strayGroups_waiting : (strayGroups.adcGroup 0).waiting = some 0 := by decide +kernel

/-- The delivery writes the waiting group back, which puts it before group 1. -/
theorem strayGroups_delivery : strayGroups.eventDelivery.afe.groups = [(0, { waiting := some 0 }), (1, {})] := by decide +kernel

theorem State.afe_settle (s : State) : s.settle.afe = s.afe := by
  obtain ⟨k, hk⟩ := s.settle_eq
  rw [hk]

/-- Refutes O51: the statement is about every state, and says that a group with a waiting trigger leaves the state as it is. The model
writes the group back unchanged, which reorders a sparse map whose keys do not rise. -/
theorem not_eventsEnterTheCallBoard : ¬ Obligations.EventsEnterTheCallBoard := by
  unfold Obligations.EventsEnterTheCallBoard
  intro hall
  obtain ⟨-, hdelivery, -⟩ := hall
  obtain ⟨hopen, htop, hsub⟩ := strayGroups_open
  have hready := (hdelivery strayGroups).2 [] ⟨0, 0, false⟩ [] rfl (fun x hx => absurd hx List.not_mem_nil)
    ⟨Nat.zero_lt_one, fun o ho => absurd ho List.not_mem_nil⟩
  obtain ⟨-, -, hdelivers⟩ := hready
  obtain ⟨u, v, hx, ⟨hu, -⟩, -, hconsumes⟩ := hdelivers hopen fun hbeyond => absurd hbeyond.1 (by rw [htop]; decide)
  have hafe : u.afe = strayGroups.afe := by rw [hu]
  have hwaits : (u.adcGroup 0).waiting = some 0 := by rw [State.adcGroup, hafe, ← State.adcGroup, strayGroups_waiting]
  obtain ⟨-, hgroup, -⟩ := hsub ▸ hconsumes
  have hsame : v = u := (hgroup 0 (by decide) rfl).1 fun htrigger => by
    obtain ⟨-, -, -, hnone⟩ := htrigger
    rw [hwaits] at hnone
    cases hnone
  have hsettle : strayGroups.eventDelivery.settle = v.settle := Host.Outcome.next.inj hx
  have hgroups : strayGroups.eventDelivery.afe.groups = strayGroups.afe.groups := by
    rw [← State.afe_settle, hsettle, State.afe_settle, hsame, hafe]
  rw [strayGroups_delivery] at hgroups
  exact absurd hgroups (by decide +kernel)

end Sys2Proof.Machine
end

section
/-!
# The return of a missed load and the return from an exception: statements O10 and O21
-/

namespace Sys2Proof.Machine

/-! ## The last part of a waiting load (R92) -/

section
variable {s u : State} {h : Hart} {r : LoadReq} {l : List Byte}

/-- The last part of a waiting load ends the wait, and the load goes on to its end with all its bytes. -/
theorem State.missReturn_of_last {a : Addr} {n : Nat} (hw : (s.hart h).wait = .load r) (hp : r.parts = [(a, n)])
    (hr : r.remote = false) (hm : s.missPart h r.word a n = (u, .ok l)) : ∃ q : LoadReq, q.dst = r.dst ∧ q.wb = r.wb ∧
      s.missReturn h = (u.modHart h fun c => { c with wait := .none }).loadDone h q (r.got ++ l) := by
  refine ⟨{ r with parts := [], got := r.got ++ l, remote := false }, rfl, rfl, ?_⟩
  simp only [State.missReturn, hw, hp, hr, hm, Bool.false_eq_true, if_false, State.loadResume, State.load, State.loadGo]

theorem Core.loaded_data (c : Core) {d : Nat} {sg : Bool} (hd : r.dst = .data d sg) (l : List Byte) :
    c.loaded r l = (c.writtenBack r.wb).setD d
      (if sg then BitVec.ofInt 32 (sext (8 * l.length) (natLE l)) else BitVec.ofNat 32 (natLE l)) := by
  rw [Core.loaded_eq_writtenBack]
  simp only [Core.loaded, hd]

end

/-- Settles O10: the last part ends the wait, and the load ends as one that was never held up. -/
theorem missedLoadCompletes : Obligations.MissedLoadCompletes := by
  unfold Obligations.MissedLoadCompletes
  intro h s u r a n d sg l hw hp hr hd hm
  obtain ⟨q, hqd, hqw, hrun⟩ := State.missReturn_of_last hw hp hr hm
  rw [hd] at hqd
  refine ⟨_, congrArg Host.Outcome.next hrun, ?_⟩
  have hwake := u.modHart_onlyHart h fun c => { c with wait := .none }
  have hdone := State.loadDone_onlyHart (u := u.modHart h fun c => { c with wait := .none }) (h := h) (l := r.got ++ l) (q := q)
    (by rw [hqd]; nofun) (by rw [hqd]; nofun)
  rw [State.hart_modHart, Core.loaded_data _ hqd, hqw] at hdone
  exact hwake.trans hdone

/-! ## The words of a frame (R111, R113) -/

/-- A number read from bytes, its lowest byte apart; missing bytes count 0. -/
theorem leAt_succ (l : List Byte) (o n : Nat) : leAt l o (n + 1) = (l.getD o 0).toNat + 256 * leAt l (o + 1) n := by
  unfold leAt
  by_cases ho : o < l.length
  · rw [List.drop_eq_getElem_cons ho, List.take_succ_cons, natLE, List.getD_eq_getElem _ _ ho]
  · rw [List.drop_eq_nil_of_le (by omega), List.drop_eq_nil_of_le (by omega), List.getD_eq_default _ _ (by omega), List.take_nil,
      List.take_nil]
    rfl

/-- A bit of the second byte of a number. -/
theorem testBit_second_byte {x y k : Nat} {b : Byte} (hx : x < 256) (hk : k < 8) :
    (x + 256 * (b.toNat + 256 * y)).testBit (8 + k) = b.getLsbD k := by
  rw [Nat.add_comm x, show 256 = 2 ^ 8 from rfl, Nat.testBit_two_pow_mul_add _ hx, if_neg (by omega), Nat.add_sub_cancel_left,
    Nat.add_comm b.toNat, Nat.testBit_two_pow_mul_add _ b.isLt, if_pos hk]
  rfl

/-- RFE from the bytes of a frame: what lies in each byte of the second word. -/
theorem Core.rfeReturn_frame (c : Core) (l : List Byte) : c.rfeReturn (leAt l 0 4) (leAt l 4 4) (leAt l 8 4) (leAt l 12 4) =
    { c with
      delay := none, holdCnt := 0, spMachine := c.spMachine + 16
      pc := BitVec.ofNat 40 (natLE (l.take 4) + (l.getD 4 0).toNat * 2 ^ 32)
      flags := flagsOfWord (BitVec.ofNat 32 (natLE ((l.drop 8).take 4)))
      tm := (l.getD 5 0).getLsbD 0, ie := (l.getD 5 0).getLsbD 2, cpl := (l.getD 5 0).extractLsb' 4 4
      estat := BitVec.ofNat 32 (natLE ((l.drop 12).take 4)) &&& 0xFFFFF03F#32 } := by
  have hword : leAt l 4 4 = (l.getD 4 0).toNat + 256 * ((l.getD 5 0).toNat + 256 * leAt l 6 2) := by
    rw [leAt_succ, leAt_succ]
  have hlow := (l.getD 4 0).isLt
  have hmid := (l.getD 5 0).isLt
  have hpc : leAt l 4 4 % 256 = (l.getD 4 0).toNat := by omega
  have htm : (leAt l 4 4).testBit 8 = (l.getD 5 0).getLsbD 0 := hword ▸ testBit_second_byte (k := 0) hlow (by decide)
  have hie : (leAt l 4 4).testBit 10 = (l.getD 5 0).getLsbD 2 := hword ▸ testBit_second_byte (k := 2) hlow (by decide)
  have hcpl : BitVec.ofNat 4 (leAt l 4 4 / 2 ^ 12) = (l.getD 5 0).extractLsb' 4 4 := by
    apply BitVec.eq_of_toNat_eq
    rw [BitVec.toNat_ofNat, BitVec.extractLsb'_toNat, Nat.shiftRight_eq_div_pow]
    omega
  rw [Core.rfeReturn, hpc, htm, hie, hcpl]
  rfl

/-! ## RFE (R113, R114, R122) -/

section
variable {s t u : State} {h : Hart} {r : LoadReq} {l : List Byte}

/-- An issued RFE: PRIV in task mode, the machine-check registers for aux 1, else the frame. -/
theorem exec_rfe (hi : s.issuesTo t h) (hp : t.plainPlace h) (d : BitVec 5) {x : BitVec 6} (hx : x.toNat ≤ 1) :
    exec (.rfe h d 0 x) s = .next
      (if (t.hart h).tm then t.priv h (wordSys 3 d 0 x)
       else if x = 1 then t.modHart h Core.mcReturn
       else t.load h { word := wordSys 3 d 0 x, dst := .frame, parts := partsOf (t.hart h).spMachine 16 }) := by
  have hok : ((0 : BitVec 10) != 0 || decide (1 < x.toNat)) = false := by simpa using hx
  exact congrArg Host.Outcome.next (State.issue_of hi hok (.inr hp.1) (.inr hp.2) _)

/-- The end of RFE's reads. -/
theorem State.loadDone_frame_onlyHart (hd : r.dst = .frame) (hw : r.wb = none) :
    u.onlyHart (u.loadDone h r l) h
      (Core.rfeReturn { u.hart h with wait := .none } (leAt l 0 4) (leAt l 4 4) (leAt l 8 4) (leAt l 12 4)) := by
  have hwake := u.modHart_onlyHart h fun c => { c with wait := .none }
  have hwrite := (u.modHart h fun c => { c with wait := .none }).modHart_onlyHart h fun c => c.loaded r l
  rw [State.hart_modHart] at hwrite
  have hboth := hwake.trans hwrite
  simp only [Core.loaded, hd, hw] at hboth
  simpa only [State.loadDone, Core.loaded, hd, hw] using hboth

end

/-- Settles O21: outside task mode aux 0 ends in the frame's words and aux 1 in the machine-check registers. -/
theorem returnFromException : Obligations.ReturnFromException := by
  unfold Obligations.ReturnFromException
  intro h d s t hi hp c
  refine ⟨fun htm u l _ hgo => ?_, fun htm => ?_, fun htm x hx => ?_⟩
  · have hrun := exec_rfe hi hp d (x := 0) (by decide)
    rw [htm, if_neg Bool.false_ne_true, if_neg (by decide), State.load_of_loadGo hgo] at hrun
    have hdone := State.loadDone_frame_onlyHart (u := u) (h := h) (l := l)
      (r := { word := wordSys 3 d 0 0, dst := .frame, parts := partsOf (t.hart h).spMachine 16 }) rfl rfl
    rw [Core.rfeReturn_frame] at hdone
    exact ⟨_, hrun, hdone⟩
  · have hrun := exec_rfe hi hp d (x := 1) (by decide)
    rw [htm, if_neg Bool.false_ne_true, if_pos rfl] at hrun
    exact ⟨_, hrun, t.modHart_onlyHart h Core.mcReturn⟩
  · have hle : x.toNat ≤ 1 := (by decide : ∀ x ∈ [(0 : BitVec 6), 1], x.toNat ≤ 1) x hx
    rw [exec_rfe hi hp d hle, htm, if_pos rfl]
    rfl

end Sys2Proof.Machine
end

section
/-!
# Cache maintenance, PFSTAT and HOLDCNT: statement O19
-/

namespace Sys2Proof.Machine

section
variable {i : Instr} {s t : State} {h : Hart} {d : BitVec 5} {n : BitVec 10} {aux : BitVec 6} {v : Word}

/-- MTS in machine mode writes its register, and the lines are latched. -/
theorem State.mts_of_machineMode (hi : s.issuesTo t h) (htm : (t.hart h).tm = false) (hn : (t.hart h).sysReg n.toNat = some v) :
    s.mts h d n aux = (t.modHart h fun c => (c.sysWrite n.toNat (c.dr d.toNat)).retire).settle := by
  rw [State.mts, State.sysAccess_of_sysReg hi hn, htm, Bool.false_and, if_neg Bool.false_ne_true]

/-- A command that writes one system register, where Dd holds what its row names. -/
theorem mtsWhen_effect {p : Word → Bool} {c : Core} (hx : exec i s = .next (s.mtsWhen h d n p)) (hi : s.issuesTo t h)
    (htm : (t.hart h).tm = false) (hd : (s.hart h).d = (t.hart h).d) (hp : p ((t.hart h).dr d.toNat) = true)
    (hn : (t.hart h).sysReg n.toNat = some v) (hc : (t.hart h).sysWrite n.toNat ((t.hart h).dr d.toNat) = c) :
    ∃ u, exec i s = .next u.settle ∧ t.onlyHart u h c.retire := by
  have hdr : (s.hart h).dr d.toNat = (t.hart h).dr d.toNat := by rw [Core.dr, hd, Core.dr]
  rw [State.mtsWhen, hdr, if_pos hp, State.mts_of_machineMode hi htm hn] at hx
  exact ⟨_, hx, hc ▸ t.modHart_onlyHart h fun c => (c.sysWrite n.toNat (c.dr d.toNat)).retire⟩

end

/-! ## The operation codes of CMOP (R96) -/

theorem Core.cmop_one (c : Core) :
    c.cmop 1 = { c with dcache := merase c.dcache (c.cmaddr.toNat / 64), dcBad := c.dcBad.erase (c.cmaddr.toNat / 64) } := rfl

theorem Core.cmop_two (c : Core) :
    c.cmop 2 = { c with icache := c.icache.erase (c.cmaddr.toNat / 64), icBad := c.icBad.erase (c.cmaddr.toNat / 64) } := rfl

theorem Core.cmop_three (c : Core) : c.cmop 3 = { c with dcache := [], dcBad := [] } := rfl

theorem Core.cmop_four (c : Core) : c.cmop 4 = { c with icache := [], lineBuf := [], icBad := [] } := rfl

theorem Core.pfWrite_pop (c : Core) {v : Word} (hv : v.getLsbD 0 = true) :
    c.pfWrite v = { c with pf := c.pf.tail, pfOvf := c.pfOvf && !v.getLsbD 31 } := by
  rw [Core.pfWrite, if_pos hv]

/-- Settles O19: each command is a write of CMOP, PFSTAT or HOLDCNT with the value that its row names. -/
theorem systemRegisterCommands : Obligations.SystemRegisterCommands := by
  unfold Obligations.SystemRegisterCommands
  intro h d s t hi htm hd c v
  have hcmop (k : Word) (hv : v = k) : c.sysWrite 0x042 v = c.cmop k := hv ▸ rfl
  refine ⟨fun hv => ?_, fun hv => ?_, fun hv => ?_, fun hv => ?_, fun hv => ?_, ?_⟩
  · exact mtsWhen_effect rfl hi htm hd (beq_of_eq hv) rfl ((hcmop 1 hv).trans c.cmop_one)
  · exact mtsWhen_effect rfl hi htm hd (beq_of_eq hv) rfl ((hcmop 2 hv).trans c.cmop_two)
  · exact mtsWhen_effect rfl hi htm hd (beq_of_eq hv) rfl ((hcmop 3 hv).trans c.cmop_three)
  · exact mtsWhen_effect rfl hi htm hd (beq_of_eq hv) rfl ((hcmop 4 hv).trans c.cmop_four)
  · exact mtsWhen_effect rfl hi htm hd hv rfl (c.pfWrite_pop hv)
  · exact ⟨_, congrArg Host.Outcome.next (State.mts_of_machineMode hi htm rfl), t.modHart_onlyHart h _⟩

end Sys2Proof.Machine
end

section
/-!
# Entry to a vector: statement O20
-/

namespace Sys2Proof.Machine

/-! ## The own local store of a crew or house core (R145) -/

theorem regionOf_localStore {a k : Nat} (h : regionOf a = .localStore k) :
    0x08000000 ≤ a ∧ a < 0x08400000 ∧ (a - 0x08000000) / 0x40000 = k := by
  unfold regionOf at h
  split_ifs at h with h1 h2
  exact ⟨h2.1, h2.2, Region.localStore.inj h⟩

theorem regionOf_of_inLocal {a k : Nat} (h1 : 0x08000000 ≤ a) (h2 : a < 0x08400000) (hk : (a - 0x08000000) / 0x40000 = k) :
    regionOf a = .localStore k := by
  rw [regionOf, if_neg (by omega), if_pos ⟨h1, h2⟩, hk]

/-- What lies between two addresses of a local store is of that store. -/
theorem regionOf_localStore_between {a b x k : Nat} (ha : regionOf a = .localStore k) (hb : regionOf b = .localStore k)
    (hax : a ≤ x) (hxb : x ≤ b) : regionOf x = .localStore k := by
  obtain ⟨ha1, ha2, ha3⟩ := regionOf_localStore ha
  obtain ⟨hb1, hb2, hb3⟩ := regionOf_localStore hb
  have hlow : (a - 0x08000000) / 0x40000 ≤ (x - 0x08000000) / 0x40000 := Nat.div_le_div_right (Nat.sub_le_sub_right hax _)
  have hhigh : (x - 0x08000000) / 0x40000 ≤ (b - 0x08000000) / 0x40000 := Nat.div_le_div_right (Nat.sub_le_sub_right hxb _)
  exact regionOf_of_inLocal (by omega) (by omega) (Nat.le_antisymm (hb3 ▸ hhigh) (ha3 ▸ hlow))

theorem ownAlias_of_localStore {a k : Nat} (h : regionOf a = .localStore k) (n : Nat) : ownAlias n a = a := by
  obtain ⟨-, ha, -⟩ := regionOf_localStore h
  exact if_neg (by omega)

/-! ## Stores where no unit is marked (R149) -/

theorem State.freshEcc_of_unmarked {s : State} (he : s.ecc = []) (a n : Nat) : s.freshEcc a n = s := by
  have hset (u : Nat) : s.setEcc u 0 = s := by
    have herase : merase s.ecc (u / 8) = s.ecc := by
      rw [he]
      rfl
    show { s with ecc := merase s.ecc (u / 8) } = s
    rw [herase]
  unfold State.freshEcc
  induction unitsOf a n with
  | nil => rfl
  | cons u t ih => rw [List.foldl_cons, hset, ih]

theorem State.sramWrite_of_unmarked {s : State} (he : s.ecc = []) (r : Region) (a : Nat) (l : List Byte) :
    s.sramWrite r a l = (s.wrBytes a l, true) := by
  have hmerge : s.sramMerge r a l.length = (s, true) :=
    foldl_sramCheck_clean fun k _ => by simp only [State.eccAt, he]; rfl
  simp only [State.sramWrite, hmerge, State.putFresh, State.freshEcc_of_unmarked he]

/-- The local store of a crew or house core has one copy. -/
theorem State.localWrite_of_single {k : Nat} (hk : 8 ≤ k) (s : State) (w : Writer) (a : Nat) (l : List Byte) :
    s.localWrite w k a l = s.sramWrite (.localStore k) a l := by
  rw [State.localWrite, decide_eq_true hk, Bool.true_or, if_pos rfl]

/-- A store by the core's port in a memory that is neither cached nor behind a window. -/
theorem State.memStore_of_memWrite {s u : State} {h : Hart} {a : Addr} {p : Nat} {l : List Byte}
    (hp : ownAlias (coreOf h) a.toNat = p) (hr : regionOf p ≠ .remote) (hc : cachedRegion p = false)
    (hw : s.memWrite (.core h 0) p l = (u, true)) : s.memStore h a l = (u, .done) := by
  subst hp
  rw [State.memStore, if_neg hr, hw]
  exact congrArg (·, PortWrite.done) (if_neg (Bool.eq_false_iff.1 hc))

/-- A store of a crew or house core in its own local store. -/
theorem State.memStore_ownStore {s : State} {h : Hart} {a : Addr} (hh : 4 ≤ h.val) (he : s.ecc = [])
    (ha : regionOf a.toNat = .localStore (coreOf h)) (l : List Byte) : s.memStore h a l = (s.wrBytes a.toNat l, .done) := by
  have hcore : 8 ≤ coreOf h := by
    rw [coreOf, if_neg (by omega)]
    omega
  refine State.memStore_of_memWrite (ownAlias_of_localStore ha _) (by rw [ha]; nofun) (by rw [cachedRegion, ha]) ?_
  rw [State.memWrite, ha]
  exact (State.localWrite_of_single hcore ..).trans (State.sramWrite_of_unmarked he ..)

/-! ## The parts of a store as one store -/

theorem State.wrBytes_append (s : State) (a : Nat) (p q : List Byte) :
    s.wrBytes a (p ++ q) = (s.wrBytes a p).wrBytes (a + p.length) q := by
  induction p generalizing s a with
  | nil => rfl
  | cons b p ih =>
    rw [List.cons_append, State.wrBytes, ih, State.wrBytes, List.length_cons]
    congr 1
    omega

theorem State.wrBytes_ecc (s : State) (a : Nat) (l : List Byte) : (s.wrBytes a l).ecc = s.ecc := by
  rw [State.wrBytes_eq]

theorem State.hart_wrBytes (s : State) (a : Nat) (l : List Byte) (h : Hart) : (s.wrBytes a l).hart h = s.hart h := by
  rw [State.wrBytes_eq]
  rfl

/-- A frame part in the own local store. -/
theorem State.frameWrite_cons {s : State} {h : Hart} {a : Addr} (hh : 4 ≤ h.val) (he : s.ecc = [])
    (ha : regionOf a.toNat = .localStore (coreOf h)) (l : List Byte) (t : List (Addr × List Byte)) :
    s.frameWrite h ((a, l) :: t) = (s.wrBytes a.toNat l).frameWrite h t := by
  simp only [State.frameWrite, ha, State.memStore_ownStore hh he ha]

/-- The parts of a frame that lies in the own local store, written one after another, are the frame's bytes in place. -/
theorem State.frameWrite_splitParts {h : Hart} (hh : 4 ≤ h.val) (f : Nat) {s : State} {a : Addr} {l : List Byte} (he : s.ecc = [])
    (hin : ∀ x, a.toNat ≤ x → x < a.toNat + l.length → regionOf x = .localStore (coreOf h))
    (hf : l ≠ [] → a.toNat % 8 + l.length ≤ 8 * f) :
    s.frameWrite h (giveParts (splitParts f a l.length) l) = (s.wrBytes a.toNat l, .done) := by
  induction f generalizing s a l with
  | zero =>
    have hnil : l = [] := by
      by_contra hne
      have := hf hne
      exact hne (List.eq_nil_of_length_eq_zero (by omega))
    rw [hnil]
    rfl
  | succ f ih =>
    by_cases hnil : l = []
    · rw [hnil]
      rfl
    · have hpos : 0 < l.length := List.length_pos_of_ne_nil hnil
      have hfit := hf hnil
      obtain ⟨k, hk⟩ : ∃ k, k = min l.length (8 - a.toNat % 8) := ⟨_, rfl⟩
      obtain ⟨-, htop, -⟩ := regionOf_localStore (hin (a.toNat + l.length - 1) (by omega) (by omega))
      have hnext : (a + BitVec.ofNat 40 k).toNat = a.toNat + k := by
        rw [BitVec.toNat_add, BitVec.toNat_ofNat]
        omega
      have hdrop : (l.drop k).length = l.length - k := List.length_drop
      have htake : (l.take k).length = k := List.length_take_of_le (by omega)
      rw [splitParts, if_neg (by omega), ← hk, giveParts, State.frameWrite_cons hh he (hin _ (by omega) (by omega)), ← hdrop,
        ih (by rw [State.wrBytes_ecc, he])]
      · conv_rhs => rw [← List.take_append_drop k l, State.wrBytes_append, htake]
        rw [hnext]
      · intro x h1 h2
        exact hin x (by omega) (by omega)
      · intro hne
        have := List.length_pos_of_ne_nil hne
        omega

/-! ## The frame (R111) -/

theorem frameBytes_length (c : Core) (e : Exc) : (frameBytes c e).length = 16 := by
  simp only [frameBytes, List.length_append, bytesLE_length]

theorem frameWord1_lt (c : Core) (e : Exc) : frameWord1 c e < 256 ^ 4 := by
  have hcpl := c.cpl.isLt
  have hret := e.ret.isLt
  have hie := c.ie.toNat_le
  have hds := e.ds.toNat_le
  have htm := c.tm.toNat_le
  unfold frameWord1
  omega

/-- A number that stands in the middle of what a store left. -/
theorem State.rdNat_of_stored_part {s : State} {a n v : Nat} {l : List Byte}
    (h : ∀ b, a ≤ b → b < a + l.length → s.rd8 b = l.getD (b - a) 0) (p q : List Byte) (hl : l = p ++ bytesLE n v ++ q)
    (hv : v < 256 ^ n) : s.rdNat (a + p.length) n = v := by
  subst hl
  exact State.rdNat_of_stored p q n v hv h

/-- The four words of a frame, read back from where it was stored. -/
theorem State.rdNat_frame {s : State} {a : Nat} {c : Core} {e : Exc}
    (h : ∀ b, a ≤ b → b < a + 16 → s.rd8 b = (frameBytes c e).getD (b - a) 0) :
    s.rdNat a 4 = e.ret.toNat % 2 ^ 32 ∧ s.rdNat (a + 4) 4 = frameWord1 c e ∧
      s.rdNat (a + 8) 4 = c.flags.toWord.toNat ∧ s.rdNat (a + 12) 4 = c.estat.toNat := by
  rw [← frameBytes_length c e] at h
  have hret : e.ret.toNat % 2 ^ 32 < 256 ^ 4 := Nat.mod_lt _ (by decide)
  have h0 := State.rdNat_of_stored_part h [] (bytesLE 4 (frameWord1 c e) ++ bytesLE 4 c.flags.toWord.toNat ++ bytesLE 4 c.estat.toNat)
    (by simp only [frameBytes, List.append_assoc, List.nil_append]) hret
  have h1 := State.rdNat_of_stored_part h (bytesLE 4 (e.ret.toNat % 2 ^ 32)) (bytesLE 4 c.flags.toWord.toNat ++ bytesLE 4 c.estat.toNat)
    (by simp only [frameBytes, List.append_assoc]) (frameWord1_lt c e)
  have h2 := State.rdNat_of_stored_part h (bytesLE 4 (e.ret.toNat % 2 ^ 32) ++ bytesLE 4 (frameWord1 c e)) (bytesLE 4 c.estat.toNat)
    rfl c.flags.toWord.isLt
  have h3 := State.rdNat_of_stored_part h
    (bytesLE 4 (e.ret.toNat % 2 ^ 32) ++ bytesLE 4 (frameWord1 c e) ++ bytesLE 4 c.flags.toWord.toNat) []
    (by rw [frameBytes, List.append_nil]) c.estat.isLt
  simp only [List.length_append, bytesLE_length, List.length_nil, Nat.add_zero] at h0 h1 h2 h3
  exact ⟨h0, h1, h2, h3⟩

/-! ## O20 -/

theorem State.rd8_setHart (s : State) (h : Hart) (c : Core) (b : Nat) : (s.setHart h c).rd8 b = s.rd8 b := by
  obtain ⟨cores, hcores⟩ := s.setHart_eq h c
  rw [hcores]
  rfl

section
variable {t : State} {h : Hart} (e : Exc) (hh : 4 ≤ h.val) (he : t.ecc = [])
  (hlo : regionOf ((t.hart h).spMachine - 16).toNat = .localStore (coreOf h))
  (hhi : regionOf (((t.hart h).spMachine - 16).toNat + 15) = .localStore (coreOf h))
include hh he hlo hhi

/-- An entry whose frame lies in the own local store of a crew or house core. -/
theorem State.enter_ownStore : t.enter h e =
    (t.wrBytes ((t.hart h).spMachine - 16).toNat (frameBytes (t.hart h) e)).setHart h ((t.hart h).entered e) := by
  have hlen := frameBytes_length (t.hart h) e
  have hwrite := State.frameWrite_splitParts hh 3 (l := frameBytes (t.hart h) e) he
    (fun x h1 h2 => regionOf_localStore_between hlo hhi h1 (by omega)) fun _ => by omega
  have hparts : partsOf ((t.hart h).spMachine - 16) 16 = splitParts 3 ((t.hart h).spMachine - 16) 16 :=
    if_neg (by rw [hlo]; nofun)
  rw [hlen] at hwrite
  simp only [State.enter, hparts, hwrite, State.hart_wrBytes]

theorem State.hart_enter_ownStore : (t.enter h e).hart h = (t.hart h).entered e := by
  rw [State.enter_ownStore e hh he hlo hhi, State.hart_setHart]

theorem State.enter_ownStore_frame : t.enter h e = { t with mem := (t.enter h e).mem, cores := (t.enter h e).cores } := by
  rw [State.enter_ownStore e hh he hlo hhi]
  obtain ⟨cores, hcores⟩ := State.setHart_eq (t.wrBytes ((t.hart h).spMachine - 16).toNat (frameBytes (t.hart h) e)) h
    ((t.hart h).entered e)
  rw [hcores, State.wrBytes_eq]

/-- The entry changes the frame's 16 bytes and no other. -/
theorem State.rd8_enter_ownStore (b : Nat) : (t.enter h e).rd8 b =
    if ((t.hart h).spMachine - 16).toNat ≤ b ∧ b < ((t.hart h).spMachine - 16).toNat + 16 then
      (frameBytes (t.hart h) e).getD (b - ((t.hart h).spMachine - 16).toNat) 0
    else t.rd8 b := by
  rw [State.enter_ownStore e hh he hlo hhi, State.rd8_setHart, State.rd8_wrBytes, frameBytes_length]

end

/-- Settles O20: the entry writes the frame's bytes in the own local store and then the core's registers. -/
theorem exceptionEntry : Obligations.ExceptionEntry := by
  unfold Obligations.ExceptionEntry
  intro h e t hh he c a hlo hhi u k
  have hmem := State.rd8_enter_ownStore e hh he hlo hhi
  have hframe := State.enter_ownStore_frame e hh he hlo hhi
  have hk : k = c.entered e := State.hart_enter_ownStore e hh he hlo hhi
  obtain ⟨hret, hmode, hflags, hestat⟩ := State.rdNat_frame fun b h1 h2 => (hmem b).trans (if_pos ⟨h1, h2⟩)
  refine ⟨hret, hmode, hflags, hestat, fun x hx => (hmem x).trans (if_neg hx), ?_⟩
  rw [hk]
  exact ⟨rfl, rfl, rfl, rfl, rfl, rfl, rfl, rfl, rfl, rfl, rfl, rfl, rfl, rfl, rfl, rfl, rfl, rfl, rfl, rfl, rfl, hframe⟩

end Sys2Proof.Machine
end

section
/-!
# Debug halts and the stop of the clock: statement O34

A halt of a cue core splits its pair and freezes the PWM units; the end of the halts lets the freeze end too, and with it every
write that has waited. What those writes do keeps to PWM, the ramps and the call board: no core and no freeze comes of them.
-/

namespace Sys2Proof.Machine

/-! ## Fields of one bit -/

theorem State.getF_eq_one {s : State} {f : Fld} (hf : f.hi = f.lo) (h : s.getF f ≠ 0) : s.getF f = 1 := by
  have hlt := s.getF_lt f
  rw [hf, Nat.add_sub_cancel_left] at hlt
  omega

/-! ## The freeze (R362) -/

/-- A freeze shows in PWM_GSTAT and keeps the present time, unless one stands already. -/
theorem State.pwmFreeze_onlyFields (s : State) :
    { s with pwm := { s.pwm with frozenAt := s.pwmFreeze.pwm.frozenAt } }.onlyFields s.pwmFreeze [R.PWM_GSTAT_FROZEN] ∧
      s.pwmFreeze.getF R.PWM_GSTAT_FROZEN = 1 ∧
      (s.getF R.PWM_GSTAT_FROZEN = 0 → s.pwmFreeze.pwm.frozenAt = some s.cue.time.toNat) := by
  unfold State.pwmFreeze State.pwmFrozen
  cases hz : s.flag R.PWM_GSTAT_FROZEN with
  | true =>
    have hne := (s.flag_eq_true_iff _).1 hz
    exact ⟨s.onlyFields_refl _, State.getF_eq_one rfl hne, fun h => absurd h hne⟩
  | false =>
    have hfields := (State.onlyFields_refl { s with pwm := { s.pwm with frozenAt := some s.cue.time.toNat } }
      [R.PWM_GSTAT_FROZEN]).setF List.mem_cons_self (by decide) 1
    exact ⟨hfields, s.getF_setF_of_lt (by decide) (by decide) (by decide), fun _ => rfl⟩

/-! ## Writes that have waited touch no core and no freeze (R349 to R366) -/

/-- The cores, and what DEBUG_RESUME says of the freeze and of the clock. -/
def State.halts (s : State) : SMap Core × Option Nat × Bool := (s.cores, s.pwm.frozenAt, s.pwm.clockStopped)

theorem State.halts_foldl {β : Type} {f : State → β → State} (hf : ∀ s b, (f s b).halts = s.halts) (l : List β) (s : State) :
    (l.foldl f s).halts = s.halts := by
  induction l generalizing s with
  | nil => rfl
  | cons b t ih => rw [List.foldl_cons, ih, hf]

theorem State.halts_ite {c : Prop} [Decidable c] (s t : State) : (if c then s else t).halts = if c then s.halts else t.halts :=
  apply_ite State.halts c s t

@[simp] theorem State.halts_setReg (s : State) (a : Nat) (v : Word) : (s.setReg a v).halts = s.halts := rfl

@[simp] theorem State.halts_setF (s : State) (f : Fld) (v : Nat) : (s.setF f v).halts = s.halts := rfl

@[simp] theorem State.halts_writeTyped (s : State) (d : RegDesc) (a : Nat) (locked : Bool) (v : Word) :
    (s.writeTyped d a locked v).halts = s.halts := rfl

@[simp] theorem State.halts_modUnit (s : State) (n : Nat) (f : PwmUnit → PwmUnit) : (s.modUnit n f).halts = s.halts := rfl

@[simp] theorem State.halts_rampStop (s : State) (n : Nat) : (s.rampStop n).halts = s.halts := rfl

@[simp] theorem State.halts_publish (s : State) (src : Nat) : (s.publish src).halts = s.halts := by
  unfold State.publish State.enterChannel
  repeat' split
  all_goals rfl

@[simp] theorem State.halts_pwmCountTo (s : State) (n x : Nat) : (s.pwmCountTo n x).halts = s.halts := by
  simp [State.pwmCountTo, State.pwmCount, State.halts_ite]

@[simp] theorem State.halts_settleGroup (s : State) (g : Nat) : (s.settleGroup g).halts = s.halts := by
  simp [State.settleGroup, State.halts_ite]

@[simp] theorem State.halts_setLoadAll (s : State) (g : Nat) : (s.setLoadAll g).halts = s.halts := by
  have hload (now : Nat) (l : List Nat) (t : State) :
      (l.foldl (fun s n => s.modUnit n fun u => { u with load := true, loadNs := now }) t).halts = t.halts :=
    State.halts_foldl (fun t n => t.halts_modUnit n _) l t
  simp [State.setLoadAll, State.halts_ite, hload]

@[simp] theorem State.halts_pwmPark (s : State) (n : Nat) : (s.pwmPark n).halts = s.halts := rfl

@[simp] theorem State.halts_pwmDisableUnit (s : State) (n : Nat) : (s.pwmDisableUnit n).halts = s.halts := by
  simp [State.pwmDisableUnit]

@[simp] theorem State.halts_pwmTripUnit (s : State) (n : Nat) : (s.pwmTripUnit n).halts = s.halts := by
  simp [State.pwmTripUnit, State.halts_ite]

@[simp] theorem State.halts_pwmCtrlWrite (s : State) (d : RegDesc) (n a : Nat) (v : Word) :
    (s.pwmCtrlWrite d n a v).halts = s.halts := by
  simp [State.pwmCtrlWrite, State.halts_ite]

@[simp] theorem State.halts_pwmLdallWrite (s : State) (high : Bool) (v : Word) : (s.pwmLdallWrite high v).halts = s.halts := by
  simp [State.pwmLdallWrite, State.halts_foldl, State.halts_ite]

@[simp] theorem State.halts_pwmStatWrite (s : State) (d : RegDesc) (n a : Nat) (v : Word) :
    (s.pwmStatWrite d n a v).halts = s.halts := by
  simp [State.pwmStatWrite, State.halts_ite]

@[simp] theorem State.halts_pwmWriteNow (s : State) (d : RegDesc) (n a : Nat) (v : Word) :
    (s.pwmWriteNow d n a v).halts = s.halts := by
  unfold State.pwmWriteNow
  split
  · split <;> simp
  · split <;> simp [State.halts_ite]

/-! ## The end of a freeze (R362) -/

theorem State.pwmUnfreeze_of_none {s : State} (h : s.pwm.frozenAt = none) : s.pwmUnfreeze = s := by
  rw [State.pwmUnfreeze, h]

/-- A unit whose counter began `gap` ns later. -/
def PwmUnit.later (gap : Int) (x : PwmUnit) : PwmUnit := { x with startNs := x.startNs + gap }

/-- `s` with a freeze that began at time `t` ended, before the writes that waited: the counters go on from where they stood. -/
def State.thawed (s : State) (t : Nat) : State :=
  { (s.lower R.PWM_GSTAT_FROZEN) with pwm := { s.pwm with
      units := s.pwm.units.map fun u => (u.1, u.2.later (s.cue.time.toNat - t))
      frozenAt := none, deferred := [] } }

theorem State.halts_pwmUnfreeze_of_some {s : State} {t : Nat} (h : s.pwm.frozenAt = some t) :
    s.pwmUnfreeze.halts = (s.thawed t).halts := by
  rw [State.pwmUnfreeze, h]
  refine State.halts_foldl (fun x p => ?_) _ _
  split
  · exact x.halts_pwmWriteNow ..
  · exact x.halts_pwmDisableUnit _
  · rfl

theorem State.pwmUnfreeze_of_none_deferred {s : State} {t : Nat} (h : s.pwm.frozenAt = some t) (hd : s.pwm.deferred = []) :
    s.pwmUnfreeze = s.thawed t := by
  rw [State.pwmUnfreeze, h, hd]
  rfl

theorem State.halts_pwmUnfreeze (s : State) : s.pwmUnfreeze.halts = (s.cores, none, s.pwm.clockStopped) := by
  cases h : s.pwm.frozenAt with
  | none => rw [State.pwmUnfreeze_of_none h, State.halts, h]
  | some t => rw [State.halts_pwmUnfreeze_of_some h]; rfl

theorem State.thawed_onlyFields (s : State) (t : Nat) :
    { s with pwm := (s.thawed t).pwm }.onlyFields (s.thawed t) [R.PWM_GSTAT_FROZEN] ∧
      (s.thawed t).getF R.PWM_GSTAT_FROZEN = 0 :=
  ⟨(State.onlyFields_refl { s with pwm := (s.thawed t).pwm } [R.PWM_GSTAT_FROZEN]).setF List.mem_cons_self (by decide) 0,
    s.getF_setF_of_lt (by decide) (by decide) (by decide)⟩

/-! ## DEBUG_RESUME (R142, R362) -/

/-- A core, if a debug halt stopped it, running on. -/
def Core.ranOn (c : Core) : Core := if c.run = .halted then { c with run := .running } else c

theorem Core.ranOn_ranOn (c : Core) : c.ranOn.ranOn = c.ranOn := by
  by_cases h : c.run = .halted
  · rw [show c.ranOn = { c with run := .running } from if_pos h]
    rfl
  · rw [show c.ranOn = c from if_neg h, Core.ranOn, if_neg h]

/-- `s` with core `n`, if a debug halt stopped it, running on. -/
def State.runOn (s : State) (n : Nat) : State :=
  if (s.core n).run = .halted then s.setCore n { s.core n with run := .running } else s

theorem State.runOn_eq (s : State) (n : Nat) : s.runOn n = { s with cores := (s.runOn n).cores } := by
  unfold State.runOn
  split <;> rfl

theorem State.core_runOn (s : State) (n k : Nat) : (s.runOn n).core k = if k = n then (s.core k).ranOn else s.core k := by
  unfold State.runOn Core.ranOn
  by_cases hk : k = n
  · subst hk
    split
    · rw [State.core_setCore]
    · rw [if_pos rfl]
  · rw [if_neg hk]
    split
    · rw [State.core_setCore, if_neg hk]
    · rfl

theorem State.core_foldl_runOn (l : List Nat) (s : State) (k : Nat) :
    (l.foldl State.runOn s).core k = if k ∈ l then (s.core k).ranOn else s.core k := by
  induction l generalizing s with
  | nil => rfl
  | cons n l ih =>
    rw [List.foldl_cons, ih, State.core_runOn]
    by_cases hn : k = n <;> by_cases hl : k ∈ l <;> simp only [List.mem_cons, hn, hl, Core.ranOn_ranOn, if_true, if_false, or_self,
      true_or, or_true]
    all_goals simp_all

/-- `s` with the halted leads and single cores running on. -/
@[irreducible] def State.leadsRun (s : State) : State := leadCores.foldl State.runOn s

theorem State.leadsRun_eq (s : State) : ∃ k, s.leadsRun = { s with cores := k } := by
  unfold State.leadsRun
  exact foldl_cores State.runOn (fun s n => ⟨_, s.runOn_eq n⟩) leadCores s

theorem State.core_leadsRun (s : State) (k : Nat) :
    s.leadsRun.core k = if k ∈ leadCores then (s.core k).ranOn else s.core k := by
  unfold State.leadsRun
  exact State.core_foldl_runOn leadCores s k

/-- `s` with the halts and a stop of the clock ended, before the freeze ends. -/
def State.resumed (s : State) : State := { s with cores := s.leadsRun.cores, pwm := { s.pwm with clockStopped := false } }

theorem State.debugResume_eq (s : State) : s.debugResume = s.resumed.pwmUnfreeze := by
  have h : s.debugResume =
      ({ s.leadsRun with pwm := { s.leadsRun.pwm with clockStopped := false } } : State).pwmUnfreeze := by
    unfold State.debugResume State.leadsRun
    generalize leadCores = l
    rfl
  obtain ⟨k, hk⟩ := s.leadsRun_eq
  rw [h, State.resumed, hk]

theorem debugResume_clause (s : State) : ∃ u : State, exec .debugResume s = .next u.settle ∧
    (∀ k, u.core k = if k ∈ [0, 2, 4, 6, 8, 9, 10, 11, 12, 13, 14, 15] ∧ (s.core k).run = .halted then { s.core k with run := .running }
      else s.core k) ∧
    u.pwm.clockStopped = false ∧ u.pwm.frozenAt = none ∧
    (s.pwm.frozenAt = none → u = { s with cores := u.cores, pwm := { s.pwm with clockStopped := false } }) ∧
    (∀ t, s.pwm.frozenAt = some t → s.pwm.deferred = [] →
      { s with cores := u.cores, pwm := u.pwm }.onlyFields u [R.PWM_GSTAT_FROZEN] ∧ u.getF R.PWM_GSTAT_FROZEN = 0 ∧
      u.pwm.lands = s.pwm.lands ∧ ∀ n, (mfind u.pwm.units n) =
        (mfind s.pwm.units n).map fun x => { x with startNs := x.startNs + ((s.cue.time.toNat : Int) - t) }) := by
  have hhalts := s.resumed.halts_pwmUnfreeze
  simp only [State.halts, Prod.mk.injEq] at hhalts
  obtain ⟨hcores, hfrozen, hclock⟩ := hhalts
  refine ⟨s.resumed.pwmUnfreeze, by rw [← s.debugResume_eq]; rfl, fun k => ?_, hclock, hfrozen, fun h => ?_, fun t h hd => ?_⟩
  · rw [State.core, hcores]
    refine (s.core_leadsRun k).trans ?_
    rw [Core.ranOn, ite_and]
    rfl
  · rw [State.pwmUnfreeze_of_none (s := s.resumed) h]
    rfl
  · rw [State.pwmUnfreeze_of_none_deferred (s := s.resumed) h hd]
    obtain ⟨hfields, hshown⟩ := s.resumed.thawed_onlyFields t
    exact ⟨hfields, hshown, rfl, mfind_map_val (PwmUnit.later (s.cue.time.toNat - t)) s.pwm.units⟩

/-! ## DEBUG_HALT (R142, R540) -/

theorem exec_debugHalt (h : Hart) (s : State) : exec (.debugHalt h) s = .next (s.debugHalt h).settle := rfl

/-- A core, halted. -/
def Core.halt (c : Core) : Core := { c with run := .halted }

/-- What a halt does once it is admitted. -/
def State.haltHart (s : State) (h : Hart) : State :=
  if h.val < 4 then ((s.splitPair h.val).modHart h Core.halt).pwmFreeze else s.modHart h Core.halt

theorem State.debugHalt_of_dark {s : State} (hd : s.sys.dev = .dark) (h : Hart) : s.debugHalt h = s := if_pos hd

theorem State.debugHalt_of_locked {s : State} (hd : s.sys.dev ≠ .dark) (hl : s.getF R.SEC_DBG_LOCK = 1) (h : Hart) :
    s.debugHalt h = s.raise R.SEC_DBG_REFUSED := by
  have hf : s.flag R.SEC_DBG_LOCK = true := (s.flag_eq_true_iff _).2 (by rw [hl]; decide)
  rw [State.debugHalt, if_neg hd, if_pos hf]

section
variable {s : State} {h : Hart} (hd : s.sys.dev ≠ .dark) (hl : s.getF R.SEC_DBG_LOCK = 0)
include hd hl

theorem State.debugHalt_of_not_running (hr : (s.hart h).run ≠ .running) : s.debugHalt h = s := by
  have hf : ¬ s.flag R.SEC_DBG_LOCK = true := fun hf => (s.flag_eq_true_iff _).1 hf hl
  rw [State.debugHalt, if_neg hd, if_neg hf, if_pos (by simpa using hr)]

theorem State.debugHalt_of_running (hr : (s.hart h).run = .running) : s.debugHalt h = s.haltHart h := by
  have hf : ¬ s.flag R.SEC_DBG_LOCK = true := fun hf => (s.flag_eq_true_iff _).1 hf hl
  rw [State.debugHalt, if_neg hd, if_neg hf, if_neg (by simp [hr]), State.haltHart]
  split <;> rfl

end

/-- `s` with pair `n` shown as split and its understudy stopped. -/
def State.splitShown (s : State) (n : Nat) : State := (s.raiseBit R.USTD_STAT_SPLIT n).setCore (2 * n + 1) (s.core (2 * n + 1)).halt

theorem State.splitPair_of_split {s : State} {n : Nat} (h : s.isSplit n = true) : s.splitPair n = s := if_pos h

theorem State.splitPair_of_whole {s : State} {n : Nat} (h : s.isSplit n = false) :
    s.splitPair n = (s.splitShown n).bbxEvent 0x0005 [BitVec.ofNat 32 n] := by
  rw [State.splitPair, h]
  rfl

/-- `u` is `s` but for cores, the freeze, the queue of records and the fields that show a halt. -/
def State.haltOnly (s u : State) : Prop :=
  { s with cores := u.cores, pwm := { s.pwm with frozenAt := u.pwm.frozenAt }, bbxQueue := u.bbxQueue,
           bbx := { s.bbx with lost := u.bbx.lost } }.onlyFields u [R.USTD_STAT_SPLIT, R.PWM_GSTAT_FROZEN, R.BBX_STAT_LOST]

theorem State.haltOnly.trans {s t u : State} (h : s.haltOnly t) (k : t.haltOnly u) : s.haltOnly u := by
  obtain ⟨ht, htf⟩ := h
  obtain ⟨hu, huf⟩ := k
  exact ⟨by rw [hu, ht], fun f hf => (huf f hf).trans (htf f hf)⟩

theorem State.splitPair_getF_apart (s : State) (n : Nat) {f : Fld} (h1 : f.apart R.USTD_STAT_SPLIT) (h2 : f.apart R.BBX_STAT_LOST) :
    (s.splitPair n).getF f = s.getF f := by
  cases h : s.isSplit n with
  | true => rw [State.splitPair_of_split h]
  | false =>
    rw [State.splitPair_of_whole h, State.getF_bbxEvent_apart _ _ _ h2]
    exact s.getF_setF_apart _ (by decide) h1

theorem State.splitPair_haltOnly (s : State) (n : Nat) : s.haltOnly (s.splitPair n) := by
  refine ⟨?_, fun f hf => s.splitPair_getF_apart n (hf _ (by decide)) (hf _ (by decide))⟩
  cases h : s.isSplit n with
  | true => rw [State.splitPair_of_split h]
  | false =>
    rw [State.splitPair_of_whole h, State.bbxEvent_eq]
    rfl

/-- After a split the pair is split. -/
theorem State.getF_splitPair (s : State) {n : Nat} (hn : n < 4) :
    (s.splitPair n).getF R.USTD_STAT_SPLIT = s.getF R.USTD_STAT_SPLIT ||| 2 ^ n := by
  cases h : s.isSplit n with
  | true =>
    rw [State.splitPair_of_split h]
    refine Nat.eq_of_testBit_eq fun k => ?_
    rw [Nat.testBit_or, Nat.testBit_two_pow]
    by_cases hk : n = k
    · rw [← hk, show (s.getF R.USTD_STAT_SPLIT).testBit n = true from h, Bool.true_or]
    · rw [decide_eq_false hk, Bool.or_false]
  | false =>
    rw [State.splitPair_of_whole h, State.getF_bbxEvent_apart _ _ _ (Or.inl (by decide))]
    exact s.getF_raiseBit (by decide) (by decide) hn

theorem State.isSplit_splitPair (s : State) {n : Nat} (hn : n < 4) : (s.splitPair n).isSplit n = true := by
  rw [State.isSplit, s.getF_splitPair hn, Nat.testBit_or, Nat.testBit_two_pow_self, Bool.or_true]

theorem State.core_splitPair (s : State) (n k : Nat) : (s.splitPair n).core k =
    if k = 2 * n + 1 ∧ s.isSplit n = false then (s.core k).halt else s.core k := by
  cases h : s.isSplit n with
  | true => rw [State.splitPair_of_split h, if_neg (by simp)]
  | false =>
    have hcore : (s.splitPair n).core k = (s.splitShown n).core k := by
      rw [State.splitPair_of_whole h, State.bbxEvent_eq]
      rfl
    rw [hcore, State.splitShown, State.core_setCore]
    by_cases hk : k = 2 * n + 1
    · rw [if_pos hk, if_pos ⟨hk, rfl⟩, hk]
    · rw [if_neg hk, if_neg fun h => hk h.1]
      rfl

/-- A change of one hart keeps to the cores. -/
theorem State.modHart_haltOnly (s : State) (h : Hart) (f : Core → Core) : s.haltOnly (s.modHart h f) := by
  obtain ⟨k, hk⟩ := s.modHart_eq h f
  rw [hk]
  exact State.onlyFields_refl _ _

theorem State.pwmFreeze_haltOnly (s : State) : s.haltOnly s.pwmFreeze := by
  obtain ⟨hs, hf⟩ := s.pwmFreeze_onlyFields.1
  refine ⟨?_, fun f hl => hf f fun g hg => hl g (by rw [List.mem_singleton.1 hg]; decide)⟩
  unfold State.pwmFreeze
  split <;> rfl

/-- The lead of a pair, halted: of a pair that was not split, both copies stop. -/
theorem State.core_cueHalt (s : State) {h : Hart} (hh : h.val < 4) (k : Nat) :
    ((s.splitPair h.val).modHart h Core.halt).core k =
      if k = 2 * h.val ∨ (k = 2 * h.val + 1 ∧ s.isSplit h.val = false) then (s.core k).halt else s.core k := by
  have hlead : coreOf h = 2 * h.val := if_pos hh
  have hcore := ((s.splitPair h.val).modHart_onlyHart h Core.halt).2 k
  have hnot : ¬ (k = 2 * h.val + 1 ∧ h.val < 4 ∧ (s.splitPair h.val).isSplit h.val = false) := by
    rw [s.isSplit_splitPair hh]
    simp
  rw [hlead] at hcore
  rw [hcore, State.hart, hlead, State.core_splitPair, State.core_splitPair]
  by_cases hk : k = 2 * h.val
  · rw [if_pos (Or.inl hk), if_pos (Or.inl hk), if_neg (by omega), hk]
  · simp only [hk, hnot, false_or, if_false]

/-- A change of one hart changes no register. -/
theorem State.getF_modHart (s : State) (h : Hart) (f : Core → Core) (g : Fld) : (s.modHart h f).getF g = s.getF g := by
  obtain ⟨k, hk⟩ := s.modHart_eq h f
  rw [hk]
  rfl

theorem State.haltHart_cue (s : State) {h : Hart} (hh : h.val < 4) :
    s.haltOnly (s.haltHart h) ∧ (s.haltHart h).getF R.USTD_STAT_SPLIT = s.getF R.USTD_STAT_SPLIT ||| 2 ^ h.val ∧
      (s.haltHart h).getF R.PWM_GSTAT_FROZEN = 1 ∧
      (s.getF R.PWM_GSTAT_FROZEN = 0 → (s.haltHart h).pwm.frozenAt = some s.cue.time.toNat) ∧
      ∀ k, (s.haltHart h).core k =
        if k = 2 * h.val ∨ (k = 2 * h.val + 1 ∧ s.isSplit h.val = false) then (s.core k).halt else s.core k := by
  rw [show s.haltHart h = ((s.splitPair h.val).modHart h Core.halt).pwmFreeze from if_pos hh]
  have hcores := s.core_cueHalt hh
  have hgetF := (s.splitPair h.val).getF_modHart h Core.halt
  have hbefore := (s.splitPair_haltOnly h.val).trans ((s.splitPair h.val).modHart_haltOnly h Core.halt)
  generalize (s.splitPair h.val).modHart h Core.halt = v at *
  obtain ⟨⟨hfreeze, hfields⟩, hshown, htime⟩ := v.pwmFreeze_onlyFields
  refine ⟨hbefore.trans v.pwmFreeze_haltOnly, ?_, hshown, fun h0 => ?_, fun k => ?_⟩
  · rw [hfields _ (List.forall_mem_singleton.2 (Or.inl (by decide)))]
    exact (hgetF _).trans (s.getF_splitPair hh)
  · have hfrozen : v.getF R.PWM_GSTAT_FROZEN = 0 := by
      rw [hgetF, s.splitPair_getF_apart _ (Or.inl (by decide)) (Or.inl (by decide)), h0]
    rw [htime hfrozen, hbefore.1]
  · rw [hfreeze]
    exact hcores k

/-! ## CLOCK_STOP (R362) -/

theorem clockStop_clause (s : State) : ∃ u : State, exec .clockStop s = .next u.settle ∧
    (s.sys.dev = .dark → u = s) ∧
    (s.sys.dev ≠ .dark →
      { s with pwm := { s.pwm with clockStopped := true, frozenAt := u.pwm.frozenAt } }.onlyFields u [R.PWM_GSTAT_FROZEN] ∧
      u.getF R.PWM_GSTAT_FROZEN = 1 ∧ (s.getF R.PWM_GSTAT_FROZEN = 0 → u.pwm.frozenAt = some s.cue.time.toNat)) := by
  refine ⟨_, rfl, fun h => if_pos h, fun h => ?_⟩
  rw [if_neg h]
  exact State.pwmFreeze_onlyFields _

/-! ## O34 -/

/-- Settles O34: a halt by what admits it, a lead's by the split of its pair; the stop as a freeze; the resumption by the cores that
run on and the freeze that ends. -/
theorem debugHaltAndClockStop : Obligations.DebugHaltAndClockStop := by
  unfold Obligations.DebugHaltAndClockStop
  refine ⟨fun h s => ⟨fun hd => ?_, fun hd hl => ⟨_, exec_debugHalt h s, ?_⟩, fun hd hl hr => ?_, fun hd hl hr => ⟨fun hh => ?_, fun hh => ?_⟩⟩,
    clockStop_clause, debugResume_clause⟩
  · rw [exec_debugHalt, State.debugHalt_of_dark hd]
  · rw [State.debugHalt_of_locked hd hl]
    exact ⟨(s.onlyFields_refl _).setF List.mem_cons_self (by decide) 1, s.getF_setF_of_lt (by decide) (by decide) (by decide)⟩
  · rw [exec_debugHalt, State.debugHalt_of_not_running hd hl hr]
  · refine ⟨_, exec_debugHalt h s, ?_⟩
    rw [State.debugHalt_of_running hd hl hr, State.haltHart, if_neg (by omega)]
    exact s.modHart_onlyHart h Core.halt
  · refine ⟨_, exec_debugHalt h s, ?_⟩
    rw [State.debugHalt_of_running hd hl hr]
    exact s.haltHart_cue hh

end Sys2Proof.Machine
end

section
/-!
# Checkpoints, release, hold expiry and agreement timeout

The commands of O33 that change one pair: by its record in `pairs`, by a bit of USTD_STAT, or by the machine check of both copies.
-/

namespace Sys2Proof.Machine

/-! ## One pair of the four, one bit of a field -/

theorem State.pair_modPair (s : State) (n m : Nat) (f : Pair → Pair) :
    (s.modPair n f).pair m = if m = n then f (s.pair n) else s.pair m := mget_mmod ..

theorem State.pair_modPair_of_ne (s : State) {n m : Nat} (h : m ≠ n) (f : Pair → Pair) : (s.modPair n f).pair m = s.pair m := by
  rw [State.pair_modPair, if_neg h]

theorem State.testBit_getF_raiseBit (s : State) {f : Fld} {b : Nat} (hlo : f.lo ≤ f.hi) (hhi : f.hi < 32) (hb : b < f.hi + 1 - f.lo) :
    ((s.raiseBit f b).getF f).testBit b = true := by
  rw [State.getF_raiseBit s hlo hhi hb, Nat.testBit_or, Nat.testBit_two_pow_self, Bool.or_true]

theorem testBit_sub_two_pow_self {v b : Nat} (h : v.testBit b = true) : (v - 2 ^ b).testBit b = false := by
  have hle : 2 ^ b ≤ v := Nat.ge_two_pow_of_testBit h
  have hadd := Nat.testBit_two_pow_add_eq (v - 2 ^ b) b
  rw [Nat.add_sub_cancel' hle, h] at hadd
  simpa using hadd.symm

theorem State.testBit_getF_lowerBit (s : State) {f : Fld} (b : Nat) (hlo : f.lo ≤ f.hi) (hhi : f.hi < 32) :
    ((s.lowerBit f b).getF f).testBit b = false := by
  unfold State.lowerBit
  split
  · next h =>
    rw [State.getF_setF_of_lt s hlo hhi (Nat.lt_of_le_of_lt (Nat.sub_le _ _) (s.getF_lt f))]
    exact testBit_sub_two_pow_self h
  · next h => exact Bool.eq_false_iff.2 h

theorem State.onlyFields.lowerBit {s t : State} {l : List Fld} (h : s.onlyFields t l) {f : Fld} (hf : f ∈ l) (hhi : f.hi < 32) (b : Nat) :
    s.onlyFields (t.lowerBit f b) l := by
  unfold State.lowerBit
  split
  · exact h.setF hf hhi _
  · exact h

/-! ## HELD of every slot (R328) -/

/-- `s` with HELD of slot `k` as its owner's hold makes it. -/
def State.showHeld (s : State) (k : Nat) : State :=
  if s.flag (R.LOOP_SCFG_EN k) then s.setF (R.LOOP_SSTAT_HELD k) (s.slotHeld k).toNat else s

theorem State.loopHeld_eq_foldl (s : State) : s.loopHeld = (List.range 64).foldl State.showHeld s := rfl

/-- Holds show in the slots' status registers only. -/
theorem State.loopHeld_eq (s : State) : s.loopHeld = { s with regs := s.loopHeld.regs } := by
  rw [State.loopHeld_eq_foldl]
  generalize List.range 64 = l
  induction l generalizing s with
  | nil => rfl
  | cons k l ih =>
    have hk : s.showHeld k = { s with regs := (s.showHeld k).regs } := by
      unfold State.showHeld
      split <;> rfl
    rw [List.foldl_cons, ih, hk]

/-- An address that is no slot's status register. -/
def offSlots (a : Nat) : Prop := ∀ k < 64, a ≠ R.LOOP_SSTAT k

/-- The blocks behind LOOP hold no slot's status. -/
theorem offSlots_of_le {a : Nat} (h : 0x40210000 ≤ a) : offSlots a := fun k hk => by
  unfold R.LOOP_SSTAT
  omega

theorem State.getReg_loopHeld (s : State) {a : Nat} (h : offSlots a) : s.loopHeld.getReg a = s.getReg a := by
  refine State.getReg_foldl _ (fun t k hk => ?_) s
  split
  · exact t.getReg_setF_of_ne _ (h k (List.mem_range.1 hk))
  · rfl

theorem State.getF_loopHeld (s : State) {f : Fld} (h : offSlots f.addr) : s.loopHeld.getF f = s.getF f := by
  rw [State.getF, s.getReg_loopHeld h, State.getF]

/-! ## CHECKPOINT_CAPTURE (R136) -/

section
variable {s : State} {n : Nat}

theorem State.capture_due (hc : (s.pair n).captureDue = true) (hs : s.isSplit n = false) (hb : (s.pair n).blocked = false)
    (hd : (s.core (2 * n)).delay = none) (hw : (s.core (2 * n)).wait = .none) :
    s.capture n = s.modPair n fun p =>
      { p with captured := some (s.core (2 * n)), captureDue := false, undoBase := p.undoLead.length } := by
  rw [State.capture, hc, hs, hb, hd, hw]
  rfl

theorem State.capture_not_due (h : ¬ ((s.pair n).captureDue = true ∧ s.isSplit n = false ∧ (s.pair n).blocked = false ∧
    (s.core (2 * n)).delay = none ∧ (s.core (2 * n)).wait = .none)) : s.capture n = s := by
  refine if_neg fun hc => h ?_
  simp only [Bool.and_eq_true, Bool.not_eq_true', Option.isNone_iff_eq_none, beq_iff_eq] at hc
  obtain ⟨⟨⟨hdue, hdelay, hwait⟩, hsplit⟩, hblocked⟩ := hc
  exact ⟨hdue, hsplit, hblocked, hdelay, hwait⟩

/-! ## CHECKPOINT_COMMIT (R136, R137) -/

/-- A pair whose captured state `c` becomes the committed one. -/
def Pair.commitAs (p : Pair) (c : Core) : Pair :=
  { p with committed := c, captured := none, undoLead := p.undoLead.drop p.undoBase, undoUnder := p.undoUnder.drop p.undoBase,
           undoBase := 0 }

theorem State.commit_of_none (h : (s.pair n).captured = none) : s.commit n = s := by rw [State.commit, h]

theorem State.commit_of_captured {c : Core} (h : (s.pair n).captured = some c) :
    s.commit n = (s.modPair n (Pair.commitAs · c)).lowerBit R.USTD_STAT_LOGOVF n := by
  rw [State.commit, h]
  rfl

theorem State.lowerBit_eq (s : State) (f : Fld) (b : Nat) : s.lowerBit f b = { s with regs := (s.lowerBit f b).regs } := by
  unfold State.lowerBit
  split <;> rfl

/-- A commit changes the pair's record and the bit of its log overflow. -/
theorem State.commit_spec {c : Core} (h : (s.pair n).captured = some c) :
    { s with pairs := (s.commit n).pairs }.onlyFields (s.commit n) [R.USTD_STAT_LOGOVF] ∧
      (∀ m, (s.commit n).pair m = if m = n then (s.pair n).commitAs c else s.pair m) ∧
      ((s.commit n).getF R.USTD_STAT_LOGOVF).testBit n = false := by
  have hpairs : (s.commit n).pairs = (s.modPair n (Pair.commitAs · c)).pairs := by rw [State.commit_of_captured h, State.lowerBit_eq]
  refine ⟨?_, fun m => ?_, ?_⟩
  · rw [hpairs, State.commit_of_captured h]
    exact (State.onlyFields_refl (s.modPair n _) [R.USTD_STAT_LOGOVF]).lowerBit List.mem_cons_self (by decide) n
  · rw [State.pair, hpairs]
    exact s.pair_modPair n m (Pair.commitAs · c)
  · rw [State.commit_of_captured h]
    exact State.testBit_getF_lowerBit _ n (by decide) (by decide)

/-! ## LOCKSTEP_RELEASE (R138) -/

theorem State.lockstepRelease_of_acts (hb : (s.pair n).blocked = true) (hr : (s.core (2 * n)).run ≠ .inReset) :
    s.lockstepRelease n = s.modPair n fun p => { p with blocked := false, released := true } :=
  if_pos (by simp [hb, hr])

theorem State.lockstepRelease_of_not_acts (h : ¬ ((s.pair n).blocked = true ∧ (s.core (2 * n)).run ≠ .inReset)) :
    s.lockstepRelease n = s :=
  if_neg (by simpa using h)

/-! ## LOCKSTEP_HOLD_EXPIRY (R139, R564) -/

theorem State.lockstepEnd_eq (s : State) (n : Nat) :
    s.lockstepEnd n = { s with regs := (s.lockstepEnd n).regs, pairs := (s.modPair n fun p => { p with hold := false }).pairs } := by
  rw [State.lockstepEnd, State.loopHeld_eq, State.lowerBit_eq]
  rfl

theorem State.pair_lockstepEnd (s : State) (n m : Nat) :
    (s.lockstepEnd n).pair m = if m = n then { s.pair n with hold := false } else s.pair m := by
  rw [s.lockstepEnd_eq]
  exact s.pair_modPair n m fun p => { p with hold := false }

/-- The end of a hold clears RESTART, whatever stood in it. -/
theorem State.restart_lockstepEnd (s : State) (n : Nat) : ((s.lockstepEnd n).getF R.USTD_STAT_RESTART).testBit n = false := by
  rw [State.lockstepEnd, State.getF_loopHeld _ (offSlots_of_le (by decide))]
  exact State.testBit_getF_lowerBit _ n (by decide) (by decide)

theorem State.getF_lockstepEnd_apart (s : State) (n : Nat) {f : Fld} (h1 : f.apart R.USTD_STAT_RESTART) (h2 : offSlots f.addr) :
    (s.lockstepEnd n).getF f = s.getF f := by
  rw [State.lockstepEnd, State.getF_loopHeld _ h2, State.lowerBit]
  split
  · exact State.getF_setF_apart _ _ (by decide) h1
  · rfl

/-- Whether the hold of pair `n` expires now. -/
def State.holdExpires (s : State) (n : Nat) : Prop :=
  (s.pair n).hold = true ∧ (s.pair n).expired = false ∧ s.cue.done.getLsbD n = false ∧ s.cue.count = (s.pair n).holdB + 1

theorem State.lockstepExpiry_of_not_expires (h : ¬ s.holdExpires n) : s.lockstepExpiry n = s := by
  refine if_neg fun hc => h ?_
  simp only [Bool.and_eq_true, Bool.not_eq_true', beq_iff_eq] at hc
  obtain ⟨⟨⟨hhold, hexp⟩, hdone⟩, hcount⟩ := hc
  exact ⟨hhold, hexp, hdone, hcount⟩

theorem State.lockstepExpiry_of_expires (h : s.holdExpires n) : s.lockstepExpiry n =
    if s.inRun = true then (s.modPair n fun p => { p with expired := true }).trigger R.SYS_CURTAIN_LOCKSTEP
    else (s.trigger R.SYS_CURTAIN_LOCKSTEP).lockstepEnd n := by
  obtain ⟨hhold, hexp, hdone, hcount⟩ := h
  unfold State.lockstepExpiry State.inRun
  dsimp only
  rw [hhold, hexp, hdone, hcount, beq_self_eq_true]
  cases hd : s.sys.dev <;> simp [State.trigger, hd]

/-- In RUN the trigger is due, and the hold goes on until the curtain starts. -/
theorem State.lockstepExpiry_inRun (h : s.holdExpires n) (hr : s.inRun = true) :
    { s with pairs := (s.lockstepExpiry n).pairs, sys := { s.sys with faultDue := true } }.onlyFields (s.lockstepExpiry n)
        [R.SYS_CURTAIN_LOCKSTEP] ∧
      (s.lockstepExpiry n).getF R.SYS_CURTAIN_LOCKSTEP = 1 ∧
      ∀ m, (s.lockstepExpiry n).pair m = if m = n then { s.pair n with expired := true } else s.pair m := by
  rw [State.lockstepExpiry_of_expires h, if_pos hr, State.trigger_of_run (s := s.modPair n _) hr]
  have hone := (s.modPair n fun p => { p with expired := true }).getF_setF_of_lt (f := R.SYS_CURTAIN_LOCKSTEP) (v := 1)
    (by decide) (by decide) (by decide)
  have hfields := (State.onlyFields_refl (s.modPair n fun p => { p with expired := true }) [R.SYS_CURTAIN_LOCKSTEP]).setF
    List.mem_cons_self (by decide) 1
  exact ⟨⟨rfl, hfields.2⟩, hone, fun m => s.pair_modPair n m fun p => { p with expired := true }⟩

/-- Elsewhere the hold and the restart end. -/
theorem State.lockstepExpiry_not_inRun (h : s.holdExpires n) (hr : s.inRun = false) :
    s.lockstepExpiry n = { s with regs := (s.lockstepExpiry n).regs, pairs := (s.lockstepExpiry n).pairs } ∧
      (∀ m, (s.lockstepExpiry n).pair m = if m = n then { s.pair n with hold := false } else s.pair m) ∧
      ((s.lockstepExpiry n).getF R.USTD_STAT_RESTART).testBit n = false ∧
      (s.sys.dev = .curtain → (s.lockstepExpiry n).getF R.SYS_CURTAIN_LOCKSTEP = 1) := by
  have hr' : ¬ s.inRun = true := by rw [hr]; decide
  obtain ⟨⟨htrig, -⟩, hshown, hsys⟩ := s.trigger_spec (f := R.SYS_CURTAIN_LOCKSTEP) (by decide) (by decide)
  rw [if_neg hr'] at hsys
  rw [State.lockstepExpiry_of_expires h, if_neg hr']
  rw [hsys] at htrig
  refine ⟨?_, fun m => ?_, State.restart_lockstepEnd _ n, fun hc => ?_⟩
  · rw [State.lockstepEnd_eq, htrig]
  · rw [State.pair_lockstepEnd, htrig]
    rfl
  · rw [State.getF_lockstepEnd_apart _ n (Or.inl (by decide)) (offSlots_of_le (by decide)),
      hshown, if_pos (Or.inr hc)]

/-! ## AGREEMENT_BUFFER_TIMEOUT (R132) -/

theorem State.agreementTimeout_of_whole (hs : s.isSplit n = false) (hb : (s.pair n).blocked = false) :
    s.agreementTimeout n = (s.raiseBit R.USTD_STAT_TIMEOUT n).machineCheck (Fin.ofNat 12 n) 0x03 := by
  rw [State.agreementTimeout, hs, hb]
  rfl

theorem State.agreementTimeout_of_apart (h : s.isSplit n = true ∨ (s.pair n).blocked = true) : s.agreementTimeout n = s :=
  if_pos (by simpa using h)

end

end Sys2Proof.Machine
end

section
/-!
# LOCKSTEP_MISMATCH: what each of its steps does

A mismatch is recorded; the pair's CUE_DONE and the staged words of its slots go; then either the undo logs are rolled back and both
copies restored, or both are held in reset. One group of lemmas for each of these.
-/

namespace Sys2Proof.Machine

/-! ## What a mismatch may change -/

/-- `u` is `s` but for what the steps of a mismatch may change. -/
def State.mismatchOnly (s u : State) : Prop :=
  u = { s with regs := u.regs, cores := u.cores, pairs := u.pairs, bbxQueue := u.bbxQueue, bbx := { s.bbx with lost := u.bbx.lost },
               cue := { s.cue with done := u.cue.done, again := u.cue.again }, sys := { s.sys with faultDue := u.sys.faultDue },
               loop := u.loop, mem := u.mem, ecc := u.ecc }

theorem State.mismatchOnly.trans {s t u : State} (h : s.mismatchOnly t) (k : t.mismatchOnly u) : s.mismatchOnly u := by
  unfold State.mismatchOnly at *
  rw [k, h]

/-! ## The record (R138 step 2) -/

theorem State.linesOnly_irqPulse (s : State) (base out : Nat) : s.linesOnly (s.irqPulse base out) := by
  unfold State.irqPulse
  generalize s.irqMap = l
  induction l generalizing s with
  | nil => exact s.linesOnly_refl
  | cons e l ih =>
    rw [List.foldl_cons]
    split
    · exact (s.linesOnly_latchLine ..).trans (ih _)
    · exact ih s

theorem State.linesOnly_irqPulseIf (s : State) (en : Fld) (base : Nat) : s.linesOnly (s.irqPulseIf en base) := by
  unfold State.irqPulseIf
  split
  · exact s.linesOnly_irqPulse ..
  · exact s.linesOnly_refl

/-- USTD_MMINFO as a mismatch fills it. -/
def mismatchWord (g l count : Nat) : Word := BitVec.ofNat 32 (2 ^ 31 + g * 2 ^ 28 + l * 2 ^ 21 + count % 2 ^ 16)

/-- The mismatch count of pair `n`. -/
def mmCount (n : Nat) : Fld := ⟨R.USTD_MMCNT, 8 * n + 7, 8 * n⟩

/-- `s` with a mismatch of pair `n` shown in USTD's registers. -/
def State.mismatchShown (s : State) (n g l : Nat) : State :=
  ((s.setReg (R.USTD_MMINFO n) (mismatchWord g l s.cue.count.toNat)).raiseBit R.USTD_STAT_MM n).count (mmCount n) 1

theorem State.mismatchRecord_eq_bbxEvent (s : State) (n g l : Nat) : ∃ data, s.mismatchRecord n g l =
    ((s.mismatchShown n g l).irqPulseIf R.USTD_CTRL_MMIRQ baseUSTD).bbxEvent 0x0004 data := ⟨_, rfl⟩

theorem State.getReg_bbxEvent (s : State) (code : Nat) (data : List Word) {a : Nat} (h : a ≠ R.BBX_STAT) :
    (s.bbxEvent code data).getReg a = s.getReg a := by
  by_cases hq : s.bbxQueue.length < 16
  · rw [State.bbxEvent_of_room hq]
    rfl
  · rw [State.bbxEvent_of_full (Nat.le_of_not_lt hq)]
    exact s.getReg_setF_of_ne (f := R.BBX_STAT_LOST) _ h

theorem State.getReg_irqPulseIf (s : State) (en : Fld) (base a : Nat) : (s.irqPulseIf en base).getReg a = s.getReg a := by
  obtain ⟨k, hk⟩ := s.irqPulseIf_eq en base
  rw [hk]
  rfl

theorem State.setReg_raiseBit_count_eq (s : State) (a b : Nat) (w : Word) (f c : Fld) :
    ((s.setReg a w).raiseBit f b).count c 1 = { s with regs := (((s.setReg a w).raiseBit f b).count c 1).regs } := rfl

theorem State.mismatchShown_eq (s : State) (n g l : Nat) : ∃ r, s.mismatchShown n g l = { s with regs := r } :=
  ⟨_, State.setReg_raiseBit_count_eq ..⟩

theorem State.bbxEvent_frame (s : State) (code : Nat) (data : List Word) : ∃ r q k,
    s.bbxEvent code data = { s with regs := r, bbxQueue := q, bbx := { s.bbx with lost := k } } :=
  ⟨_, _, _, s.bbxEvent_eq code data⟩

theorem State.core_congr {s t : State} (h : t.cores = s.cores) (k : Nat) : t.core k = s.core k := by rw [State.core, h, State.core]

theorem State.pair_congr {s t : State} (h : t.pairs = s.pairs) (n : Nat) : t.pair n = s.pair n := by rw [State.pair, h, State.pair]

/-- A record changes registers, lines, and the queue of black-box records. -/
theorem State.mismatchRecord_eq (s : State) (n g l : Nat) : ∃ r k q j,
    s.mismatchRecord n g l = { s with regs := r, cores := k, bbxQueue := q, bbx := { s.bbx with lost := j } } := by
  obtain ⟨data, hdata⟩ := s.mismatchRecord_eq_bbxEvent n g l
  obtain ⟨r, hr⟩ := s.mismatchShown_eq n g l
  obtain ⟨k, hk⟩ := (s.mismatchShown n g l).irqPulseIf_eq R.USTD_CTRL_MMIRQ baseUSTD
  obtain ⟨r', q, j, hb⟩ := ((s.mismatchShown n g l).irqPulseIf R.USTD_CTRL_MMIRQ baseUSTD).bbxEvent_frame 0x0004 data
  exact ⟨r', k, q, j, by rw [hdata, hb, hk, hr]⟩

theorem State.core_bbxEvent (s : State) (code : Nat) (data : List Word) (k : Nat) : (s.bbxEvent code data).core k = s.core k :=
  State.core_congr (by rw [State.bbxEvent_eq]) k

theorem State.core_mismatchRecord (s : State) (n g l k : Nat) :
    (s.mismatchRecord n g l).core k = { s.core k with ipend := ((s.mismatchRecord n g l).core k).ipend } := by
  obtain ⟨data, hdata⟩ := s.mismatchRecord_eq_bbxEvent n g l
  obtain ⟨r, hr⟩ := s.mismatchShown_eq n g l
  have hlines := ((s.mismatchShown n g l).linesOnly_irqPulseIf R.USTD_CTRL_MMIRQ baseUSTD).2 k
  have hshown := State.core_congr (s := s) (t := s.mismatchShown n g l) (by rw [hr]) k
  rw [hdata, State.core_bbxEvent, ← hshown]
  exact hlines

/-- Beside the count of lost records, a record writes USTD's registers. -/
theorem State.getF_mismatchRecord (s : State) (n g l : Nat) {f : Fld} (h : f.apart R.BBX_STAT_LOST) :
    (s.mismatchRecord n g l).getF f = (s.mismatchShown n g l).getF f := by
  obtain ⟨data, hdata⟩ := s.mismatchRecord_eq_bbxEvent n g l
  rw [hdata, State.getF_bbxEvent_apart _ _ _ h, State.getF, State.getF, State.getReg_irqPulseIf]

theorem State.getF_mismatchRecord_apart (s : State) (n g l : Nat) {f : Fld} (h1 : f.apart R.BBX_STAT_LOST)
    (h2 : f.addr ≠ R.USTD_MMINFO n) (h3 : f.apart R.USTD_STAT_MM) (h4 : f.addr ≠ R.USTD_MMCNT) (hn : n < 4) :
    (s.mismatchRecord n g l).getF f = s.getF f := by
  rw [s.getF_mismatchRecord n g l h1, State.mismatchShown, State.count_eq,
    State.getF_setF_apart _ _ (by unfold mmCount; dsimp only; omega) (Or.inl h4), State.raiseBit_eq,
    State.getF_setF_apart _ _ (by decide) h3, State.getF, State.getReg_setReg, if_neg h2, State.getF]

theorem State.getF_mm_mismatchRecord (s : State) {n : Nat} (hn : n < 4) (g l : Nat) :
    ((s.mismatchRecord n g l).getF R.USTD_STAT_MM).testBit n = true := by
  rw [s.getF_mismatchRecord n g l (Or.inl (by decide)), State.mismatchShown, State.count_eq,
    State.getF_setF_apart _ _ (by unfold mmCount; dsimp only; omega) (Or.inl (by unfold mmCount; dsimp only; decide))]
  exact State.testBit_getF_raiseBit _ (by decide) (by decide) hn

theorem State.getF_count_mismatchRecord (s : State) {n : Nat} (hn : n < 4) (g l : Nat) :
    (s.mismatchRecord n g l).getF (mmCount n) = min (s.getF (mmCount n) + 1) 255 := by
  have hinfo : (mmCount n).addr ≠ R.USTD_MMINFO n := by
    show R.USTD_MMCNT ≠ R.USTD_MMINFO n
    unfold R.USTD_MMCNT R.USTD_MMINFO
    omega
  have hwidth : (mmCount n).hi + 1 - (mmCount n).lo = 8 := by
    show 8 * n + 7 + 1 - 8 * n = 8
    omega
  rw [s.getF_mismatchRecord n g l (Or.inl (show R.USTD_MMCNT ≠ R.BBX_STAT by decide)), State.mismatchShown,
    State.getF_count _ 1 (by unfold mmCount; dsimp only; omega) (by unfold mmCount; dsimp only; omega), hwidth,
    show 2 ^ 8 - 1 = 255 from rfl, State.raiseBit_eq,
    State.getF_setF_apart _ _ (by decide) (Or.inl (show R.USTD_MMCNT ≠ R.USTD_STAT by decide)), State.getF,
    State.getReg_setReg, if_neg hinfo, State.getF]

theorem toNat_append {a b : Nat} (x : BitVec a) (y : BitVec b) : (x ++ y).toNat = x.toNat * 2 ^ b + y.toNat := by
  rw [BitVec.toNat_append, ← Nat.shiftLeft_add_eq_or_of_lt y.isLt, Nat.shiftLeft_eq]

/-- The word of a mismatch in the fields of USTD_MMINFO (R143). -/
theorem mismatchWord_eq (g : BitVec 3) (l : BitVec 7) (c : BitVec 64) :
    mismatchWord g.toNat l.toNat c.toNat = 1#1 ++ g ++ l ++ 0#5 ++ c.setWidth 16 := by
  have hg := g.isLt
  have hl := l.isLt
  refine BitVec.eq_of_toNat_eq ?_
  rw [mismatchWord, BitVec.toNat_ofNat, toNat_append, toNat_append, toNat_append, toNat_append, BitVec.toNat_setWidth,
    BitVec.toNat_ofNat, BitVec.toNat_ofNat]
  omega

/-- USTD_MMINFO of the pair after the record. -/
theorem State.getReg_mminfo_mismatchRecord (s : State) {n : Nat} (hn : n < 4) (g l : Nat) :
    (s.mismatchRecord n g l).getReg (R.USTD_MMINFO n) = mismatchWord g l s.cue.count.toNat := by
  obtain ⟨data, hdata⟩ := s.mismatchRecord_eq_bbxEvent n g l
  have hlost : R.USTD_MMINFO n ≠ R.BBX_STAT := by
    unfold R.USTD_MMINFO R.BBX_STAT
    omega
  have hcount : R.USTD_MMINFO n ≠ (mmCount n).addr := by
    show R.USTD_MMINFO n ≠ R.USTD_MMCNT
    unfold R.USTD_MMINFO R.USTD_MMCNT
    omega
  have hstat : R.USTD_MMINFO n ≠ R.USTD_STAT_MM.addr := by
    show R.USTD_MMINFO n ≠ R.USTD_STAT
    unfold R.USTD_MMINFO R.USTD_STAT
    omega
  rw [hdata, State.getReg_bbxEvent _ _ _ hlost, State.getReg_irqPulseIf, State.mismatchShown, State.count_eq,
    State.getReg_setF_of_ne _ _ hcount, State.raiseBit_eq, State.getReg_setF_of_ne _ _ hstat, State.getReg_setReg_same]

/-! ## The staged words and the CUE_DONE (R138 step 4) -/

/-- `s` with the staged words of slot `k` gone, if pair `p` owns it. -/
def State.slotDiscard (p : Nat) (s : State) (k : Nat) : State :=
  if s.getF (R.LOOP_SCFG_OWNER k) = p ∧ ¬ (s.slot k).staged.isEmpty then
    (s.modSlot k fun u => { u with staged := [] }).lower (R.LOOP_SSTAT_STAGED k)
  else s

theorem State.loopDiscard_eq_foldl (s : State) (p : Nat) : s.loopDiscard p = (List.range 64).foldl (State.slotDiscard p) s := rfl

theorem State.slot_modSlot (s : State) (k j : Nat) (f : LoopSlot → LoopSlot) :
    (s.modSlot k f).slot j = if j = k then f (s.slot k) else s.slot j := mget_mmod ..

theorem State.getReg_slotDiscard (s : State) (p : Nat) {k a : Nat} (h : a ≠ R.LOOP_SSTAT k) :
    (s.slotDiscard p k).getReg a = s.getReg a := by
  unfold State.slotDiscard
  split
  · exact State.getReg_setF_of_ne _ _ h
  · rfl

theorem State.slotDiscard_eq (s : State) (p k : Nat) :
    s.slotDiscard p k = { s with regs := (s.slotDiscard p k).regs, loop := (s.slotDiscard p k).loop } := by
  unfold State.slotDiscard
  split <;> rfl

theorem State.staged_slotDiscard (s : State) (p k j : Nat) : ((s.slotDiscard p k).slot j).staged =
    if j = k ∧ s.getF (R.LOOP_SCFG_OWNER k) = p then [] else (s.slot j).staged := by
  unfold State.slotDiscard
  by_cases ho : s.getF (R.LOOP_SCFG_OWNER k) = p
  · by_cases he : (s.slot k).staged.isEmpty = true
    · rw [if_neg (by simp [he])]
      split
      · next h => rw [h.1, List.isEmpty_iff.1 he]
      · rfl
    · rw [if_pos ⟨ho, he⟩]
      show ((s.modSlot k _).slot j).staged = _
      rw [State.slot_modSlot]
      by_cases hj : j = k
      · rw [if_pos hj, if_pos ⟨hj, ho⟩]
      · rw [if_neg hj, if_neg fun h => hj h.1]
  · rw [if_neg fun h => ho h.1, if_neg fun h => ho h.2]

theorem LOOP_SCFG_ne_LOOP_SSTAT (k j : Nat) : R.LOOP_SCFG k ≠ R.LOOP_SSTAT j := by
  unfold R.LOOP_SCFG R.LOOP_SSTAT
  omega

theorem State.staged_foldl_slotDiscard (l : List Nat) (p j : Nat) (s : State) (ho : s.getF (R.LOOP_SCFG_OWNER j) = p)
    (h : j ∈ l ∨ (s.slot j).staged = []) : ((l.foldl (State.slotDiscard p) s).slot j).staged = [] := by
  induction l generalizing s with
  | nil => exact h.resolve_left List.not_mem_nil
  | cons k l ih =>
    rw [List.foldl_cons]
    refine ih _ ?_ ?_
    · rw [State.getF, State.getReg_slotDiscard s p (a := (R.LOOP_SCFG_OWNER j).addr) (LOOP_SCFG_ne_LOOP_SSTAT j k)]
      exact ho
    · rw [State.staged_slotDiscard]
      by_cases hj : j = k
      · rw [if_pos ⟨hj, by rw [← hj, ho]⟩]
        exact Or.inr rfl
      · rw [if_neg fun h => hj h.1]
        exact h.imp_left fun h => (List.mem_cons.1 h).resolve_left hj

theorem State.loopDiscard_eq (s : State) (p : Nat) :
    s.loopDiscard p = { s with regs := (s.loopDiscard p).regs, loop := (s.loopDiscard p).loop } := by
  rw [State.loopDiscard_eq_foldl]
  generalize List.range 64 = l
  induction l generalizing s with
  | nil => rfl
  | cons k l ih => rw [List.foldl_cons, ih, State.slotDiscard_eq]

theorem State.getReg_loopDiscard (s : State) (p : Nat) {a : Nat} (h : offSlots a) :
    (s.loopDiscard p).getReg a = s.getReg a := by
  rw [State.loopDiscard_eq_foldl]
  exact State.getReg_foldl _ (fun t k hk => t.getReg_slotDiscard p (h k (List.mem_range.1 hk))) s

theorem State.pairDiscard_eq (s : State) (n : Nat) : s.pairDiscard n =
    { s with regs := (s.pairDiscard n).regs, loop := (s.pairDiscard n).loop
             cue := { s.cue with done := s.cue.done &&& ~~~ BitVec.ofNat 4 (2 ^ n), again := merase s.cue.again n } } := by
  rw [State.pairDiscard, State.modCue, State.loopDiscard_eq]

theorem State.getReg_pairDiscard (s : State) (n : Nat) {a : Nat} (h : offSlots a) :
    (s.pairDiscard n).getReg a = s.getReg a := s.getReg_loopDiscard n h

/-- The pair's own CUE_DONE is withdrawn, no other. -/
theorem State.done_pairDiscard (s : State) (n : Nat) {m : Nat} (hm : m < 4) :
    (s.pairDiscard n).cue.done.getLsbD m = (s.cue.done.getLsbD m && decide (m ≠ n)) := by
  rw [s.pairDiscard_eq]
  show (s.cue.done &&& ~~~ BitVec.ofNat 4 (2 ^ n)).getLsbD m = _
  rw [BitVec.getLsbD_and, BitVec.getLsbD_not, BitVec.getLsbD_ofNat, Nat.testBit_two_pow, decide_eq_true hm, Bool.true_and,
    Bool.true_and, decide_not]
  simp only [eq_comm]

theorem State.staged_pairDiscard (s : State) {n k : Nat} (hk : k < 64) (ho : s.getF (R.LOOP_SCFG_OWNER k) = n) :
    ((s.pairDiscard n).slot k).staged = [] :=
  State.staged_foldl_slotDiscard _ n k s ho (Or.inl (List.mem_range.2 hk))

/-! ## The undo logs rolled back (R138 step 5) -/

/-- The byte that an undo log gives back at `a`: that of its oldest entry there. -/
def undone (l : List UndoEntry) (a : Nat) : Option Byte :=
  (l.find? fun e => e.1 ≤ a && a < e.1 + e.2.length).map fun e => e.2.getD (a - e.1) 0

theorem undone_append (l m : List UndoEntry) (a : Nat) : undone (l ++ m) a = (undone l a).or (undone m a) := by
  unfold undone
  rw [List.find?_append, Option.map_or]

/-- One entry put back. -/
def State.undo (s : State) (e : UndoEntry) : State := (s.freshEcc e.1 8).wrBytes e.1 e.2

theorem State.undo_eq (s : State) (e : UndoEntry) : s.undo e = { s with mem := (s.undo e).mem, ecc := (s.undo e).ecc } := by
  rw [State.undo, State.wrBytes_eq, State.freshEcc_eq]

theorem State.rd8_undo (s : State) (e : UndoEntry) (a : Nat) :
    (s.undo e).rd8 a = if e.1 ≤ a ∧ a < e.1 + e.2.length then e.2.getD (a - e.1) 0 else s.rd8 a := by
  rw [State.undo, State.rd8_wrBytes, State.freshEcc_eq]
  rfl

theorem State.rollback_eq_foldr (s : State) (l : List UndoEntry) : s.rollback l = l.foldr (fun e s => s.undo e) s := List.foldl_reverse

theorem State.rollback_eq (s : State) (l : List UndoEntry) :
    s.rollback l = { s with mem := (s.rollback l).mem, ecc := (s.rollback l).ecc } := by
  rw [State.rollback_eq_foldr]
  induction l with
  | nil => rfl
  | cons e l ih => rw [List.foldr_cons, State.undo_eq, ih]

/-- The newest entry is put back first, so the oldest one that covers a byte decides it. -/
theorem State.rd8_rollback (s : State) (l : List UndoEntry) (a : Nat) : (s.rollback l).rd8 a = (undone l a).getD (s.rd8 a) := by
  rw [State.rollback_eq_foldr]
  induction l with
  | nil => rfl
  | cons e l ih =>
    rw [List.foldr_cons, State.rd8_undo, ih, undone, undone, List.find?_cons]
    by_cases h : e.1 ≤ a ∧ a < e.1 + e.2.length
    · rw [if_pos h, show (decide (e.1 ≤ a) && decide (a < e.1 + e.2.length)) = true by simp [h]]
      rfl
    · rw [if_neg h, show (decide (e.1 ≤ a) && decide (a < e.1 + e.2.length)) = false by simpa using h]

end Sys2Proof.Machine
end

section
/-!
# LOCKSTEP_MISMATCH: the pair restarted, or held in reset
-/

namespace Sys2Proof.Machine

/-! ## Up to the two ways a mismatch goes on (R138 steps 1 to 4) -/

theorem State.setF_mismatchOnly (s : State) (f : Fld) (v : Nat) : s.mismatchOnly (s.setF f v) := rfl

theorem State.modPair_mismatchOnly (s : State) (n : Nat) (f : Pair → Pair) : s.mismatchOnly (s.modPair n f) := rfl

theorem State.loopHeld_mismatchOnly (s : State) : s.mismatchOnly s.loopHeld := by
  unfold State.mismatchOnly
  rw [State.loopHeld_eq]

theorem State.pairDiscard_mismatchOnly (s : State) (n : Nat) : s.mismatchOnly (s.pairDiscard n) := by
  unfold State.mismatchOnly
  rw [State.pairDiscard_eq]

theorem State.trigger_mismatchOnly (s : State) (f : Fld) : s.mismatchOnly (s.trigger f) := by
  unfold State.trigger
  split <;> rfl

theorem State.mismatchRecord_mismatchOnly (s : State) (n g l : Nat) : s.mismatchOnly (s.mismatchRecord n g l) := by
  obtain ⟨r, k, q, j, h⟩ := s.mismatchRecord_eq n g l
  rw [h]
  rfl

theorem State.core_pairDiscard (s : State) (n k : Nat) : (s.pairDiscard n).core k = s.core k :=
  State.core_congr (by rw [State.pairDiscard_eq]) k

theorem State.getF_pairDiscard (s : State) (n : Nat) {f : Fld} (h : offSlots f.addr) :
    (s.pairDiscard n).getF f = s.getF f := by
  rw [State.getF, s.getReg_pairDiscard n h, State.getF]

/-- `s` with a mismatch recorded, RESTART shown, and the pair's CUE_DONE and staged words gone. -/
def State.mismatchStopped (s : State) (n g l : Nat) : State :=
  ((s.mismatchRecord n g l).raiseBit R.USTD_STAT_RESTART n).pairDiscard n

section
variable (s : State) (n g l : Nat)

theorem State.mismatchStopped_eq : ∃ r k q j x d a, s.mismatchStopped n g l =
    { s with regs := r, cores := k, bbxQueue := q, bbx := { s.bbx with lost := j }, loop := x, cue := { s.cue with done := d, again := a } } := by
  obtain ⟨r, k, q, j, h⟩ := s.mismatchRecord_eq n g l
  have hd := ((s.mismatchRecord n g l).raiseBit R.USTD_STAT_RESTART n).pairDiscard_eq n
  rw [← State.mismatchStopped] at hd
  exact ⟨_, _, _, _, _, _, _, by rw [hd, State.raiseBit_eq, State.setF, State.setReg, h]⟩

theorem State.mismatchStopped_mismatchOnly : s.mismatchOnly (s.mismatchStopped n g l) :=
  ((s.mismatchRecord_mismatchOnly n g l).trans (State.setF_mismatchOnly ..)).trans (State.pairDiscard_mismatchOnly ..)

theorem State.core_mismatchStopped (k : Nat) :
    (s.mismatchStopped n g l).core k = { s.core k with ipend := ((s.mismatchStopped n g l).core k).ipend } := by
  have hcore : (s.mismatchStopped n g l).core k = (s.mismatchRecord n g l).core k :=
    (State.core_pairDiscard _ n k).trans (State.core_congr (State.setF_cores ..) k)
  have hlines := s.core_mismatchRecord n g l k
  rw [← hcore] at hlines
  exact hlines

theorem State.getF_mismatchStopped {f : Fld} (h1 : f.apart R.USTD_STAT_RESTART) (h2 : offSlots f.addr) :
    (s.mismatchStopped n g l).getF f = (s.mismatchRecord n g l).getF f := by
  rw [State.mismatchStopped, State.getF_pairDiscard _ n h2, State.raiseBit_eq, State.getF_setF_apart _ _ (by decide) h1]

theorem State.restart_mismatchStopped (hn : n < 4) : ((s.mismatchStopped n g l).getF R.USTD_STAT_RESTART).testBit n = true := by
  have h := (s.mismatchRecord n g l).testBit_getF_raiseBit (f := R.USTD_STAT_RESTART) (by decide) (by decide) hn
  rw [State.mismatchStopped, State.getF_pairDiscard _ n (offSlots_of_le (by decide))]
  exact h

theorem State.done_mismatchStopped {m : Nat} (hm : m < 4) :
    (s.mismatchStopped n g l).cue.done.getLsbD m = (s.cue.done.getLsbD m && decide (m ≠ n)) := by
  obtain ⟨r, k, q, j, h⟩ := s.mismatchRecord_eq n g l
  rw [State.mismatchStopped, State.done_pairDiscard _ n hm, State.raiseBit_eq, State.setF_cue, h]

theorem State.staged_mismatchStopped (hn : n < 4) {k : Nat} (hk : k < 64) (ho : s.getF (R.LOOP_SCFG_OWNER k) = n) :
    ((s.mismatchStopped n g l).slot k).staged = [] := by
  refine State.staged_pairDiscard _ hk ?_
  have hcfg : ∀ a, a < 0x40200000 ∨ 0x40210000 ≤ a → R.LOOP_SCFG k ≠ a := by
    intro a ha
    unfold R.LOOP_SCFG
    omega
  rw [State.raiseBit_eq, State.getF_setF_apart _ _ (by decide) (Or.inl (hcfg R.USTD_STAT (by decide))),
    s.getF_mismatchRecord_apart n g l (Or.inl (hcfg R.BBX_STAT (by decide)))
      (hcfg _ (by unfold R.USTD_MMINFO; omega)) (Or.inl (hcfg R.USTD_STAT (by decide))) (hcfg R.USTD_MMCNT (by decide)) hn, ho]

end

/-! ## How a mismatch ends -/

/-- `u` shows what `t` shows but for HELD and the trigger's cause, with the same cue and the same staged words. -/
def State.showsAs (t u : State) : Prop :=
  u.cue = t.cue ∧ u.loop = t.loop ∧ ∀ f : Fld, f.apart R.SYS_CURTAIN_LOCKSTEP → offSlots f.addr → u.getF f = t.getF f

theorem State.showsAs.trans {s t u : State} (h : s.showsAs t) (k : t.showsAs u) : s.showsAs u := by
  obtain ⟨hcue, hloop, hF⟩ := h
  obtain ⟨kcue, kloop, kF⟩ := k
  exact ⟨kcue.trans hcue, kloop.trans hloop, fun f h1 h2 => (kF f h1 h2).trans (hF f h1 h2)⟩

theorem State.showsAs_of_eq {t u : State} (hr : u.regs = t.regs) (hc : u.cue = t.cue) (hl : u.loop = t.loop) : t.showsAs u :=
  ⟨hc, hl, fun f _ _ => by rw [State.getF, State.getReg, hr, ← State.getReg, ← State.getF]⟩

theorem State.loopHeld_showsAs (t : State) : t.showsAs t.loopHeld :=
  ⟨by rw [State.loopHeld_eq], by rw [State.loopHeld_eq], fun _ _ h => t.getF_loopHeld h⟩

theorem State.trigger_showsAs (t : State) : t.showsAs (t.trigger R.SYS_CURTAIN_LOCKSTEP) := by
  obtain ⟨⟨heq, hF⟩, -, -⟩ := t.trigger_spec (f := R.SYS_CURTAIN_LOCKSTEP) (by decide) (by decide)
  exact ⟨by rw [heq], by rw [heq], fun f h _ => hF f (List.forall_mem_singleton.2 h)⟩

/-! ## The restart (R138 steps 5 and 6) -/

/-- `t` with pair `n` rolled back to its checkpoint and held from the cue of now on. -/
def State.mismatchRestarted (t : State) (n : Nat) : State :=
  ((t.restorePair n).modPair n fun p =>
    { p with blocked := true, hold := true, holdB := (t.restorePair n).cue.count, released := false, expired := false }).loopHeld

section
variable (t : State) (n : Nat)

/-- `t` with both undo logs of pair `n` rolled back. -/
def State.rolledBack : State := (t.rollback (t.pair n).undoLead).rollback (t.pair n).undoUnder

theorem State.rolledBack_eq : ∃ m e, t.rolledBack n = { t with mem := m, ecc := e } := by
  refine ⟨(t.rolledBack n).mem, (t.rolledBack n).ecc, ?_⟩
  rw [State.rolledBack, State.rollback_eq, State.rollback_eq]

theorem State.rd8_rolledBack (a : Nat) :
    (t.rolledBack n).rd8 a = (undone ((t.pair n).undoUnder ++ (t.pair n).undoLead) a).getD (t.rd8 a) := by
  rw [State.rolledBack, State.rd8_rollback, State.rd8_rollback, undone_append]
  cases undone (t.pair n).undoUnder a <;> rfl

/-- `t` with core `k` restored from a checkpoint. -/
def State.restoreCopy (t : State) (k : Nat) (c : Core) : State := t.setCore k ((t.core k).restored c)

theorem State.core_restoreCopy (k : Nat) (c : Core) (j : Nat) :
    (t.restoreCopy k c).core j = if j = k then (t.core j).restored c else t.core j := by
  rw [State.restoreCopy, State.core_setCore]
  split
  · next h => rw [h]
  · rfl

theorem State.restorePair_eq_restoreCopy : t.restorePair n =
    (((t.rolledBack n).restoreCopy (2 * n) (t.pair n).committed).restoreCopy (2 * n + 1) (t.pair n).committed).modPair n fun p =>
      { p with captured := none, undoLead := [], undoUnder := [], undoBase := 0 } := rfl

/-- Restoring a pair changes its local stores, its cores and its record. -/
theorem State.restorePair_eq : ∃ k, t.restorePair n =
    { t with mem := (t.rolledBack n).mem, ecc := (t.rolledBack n).ecc, cores := k
             pairs := (t.modPair n fun p => { p with captured := none, undoLead := [], undoUnder := [], undoBase := 0 }).pairs } := by
  obtain ⟨m, e, h⟩ := t.rolledBack_eq n
  rw [State.restorePair_eq_restoreCopy, h]
  exact ⟨_, rfl⟩

theorem State.core_restorePair (k : Nat) : (t.restorePair n).core k =
    if k = 2 * n ∨ k = 2 * n + 1 then (t.core k).restored (t.pair n).committed else t.core k := by
  have hrolled : (t.rolledBack n).core k = t.core k := by
    obtain ⟨m, e, h⟩ := t.rolledBack_eq n
    exact State.core_congr (by rw [h]) k
  rw [State.restorePair_eq_restoreCopy, State.core_congr (State.modPair_cores ..), State.core_restoreCopy, State.core_restoreCopy,
    hrolled]
  by_cases h1 : k = 2 * n + 1
  · rw [if_pos h1, if_pos (Or.inr h1), if_neg (by omega)]
  · rw [if_neg h1]
    simp only [h1, or_false]

theorem State.restorePair_mismatchOnly : t.mismatchOnly (t.restorePair n) := by
  obtain ⟨k, h⟩ := t.restorePair_eq n
  obtain ⟨m, e, hr⟩ := t.rolledBack_eq n
  rw [h, hr]
  rfl

theorem State.restorePair_showsAs : t.showsAs (t.restorePair n) := by
  obtain ⟨k, h⟩ := t.restorePair_eq n
  exact State.showsAs_of_eq (by rw [h]) (by rw [h]) (by rw [h])

/-- A pair after its restart in the cue with number `count`. -/
def Pair.restarted (p : Pair) (count : BitVec 64) : Pair :=
  { p with captured := none, undoLead := [], undoUnder := [], undoBase := 0, blocked := true, hold := true, holdB := count,
           released := false, expired := false }

/-- `t` with pair `n` held from the cue with number `count` on. -/
def State.holdPair (t : State) (n : Nat) (count : BitVec 64) : State :=
  t.modPair n fun p => { p with blocked := true, hold := true, holdB := count, released := false, expired := false }

theorem State.mismatchRestarted_eq :
    t.mismatchRestarted n = ((t.restorePair n).holdPair n (t.restorePair n).cue.count).loopHeld := rfl

theorem State.mismatchRestarted_mismatchOnly : t.mismatchOnly (t.mismatchRestarted n) :=
  ((t.restorePair_mismatchOnly n).trans (State.modPair_mismatchOnly ..)).trans (State.loopHeld_mismatchOnly _)

theorem State.mismatchRestarted_showsAs : t.showsAs (t.mismatchRestarted n) :=
  ((t.restorePair_showsAs n).trans (State.showsAs_of_eq rfl rfl rfl)).trans (State.loopHeld_showsAs _)

theorem State.core_loopHeld (k : Nat) : t.loopHeld.core k = t.core k := State.core_congr (by rw [State.loopHeld_eq]) k

theorem State.pair_loopHeld (m : Nat) : t.loopHeld.pair m = t.pair m := State.pair_congr (by rw [State.loopHeld_eq]) m

theorem State.pair_restorePair (m : Nat) : (t.restorePair n).pair m =
    if m = n then { t.pair n with captured := none, undoLead := [], undoUnder := [], undoBase := 0 } else t.pair m := by
  obtain ⟨k, h⟩ := t.restorePair_eq n
  rw [State.pair_congr (s := t.modPair n fun p => { p with captured := none, undoLead := [], undoUnder := [], undoBase := 0 })
    (by rw [h]), State.pair_modPair]

theorem State.pair_mismatchRestarted (m : Nat) : (t.mismatchRestarted n).pair m =
    if m = n then (t.pair n).restarted t.cue.count else t.pair m := by
  have hcue : (t.restorePair n).cue = t.cue := (t.restorePair_showsAs n).1
  rw [State.mismatchRestarted_eq, State.pair_loopHeld, State.holdPair, State.pair_modPair, State.pair_restorePair,
    State.pair_restorePair, if_pos rfl, hcue]
  by_cases hm : m = n
  · rw [if_pos hm, if_pos hm]
    rfl
  · rw [if_neg hm, if_neg hm, if_neg hm]

theorem State.core_mismatchRestarted (k : Nat) : (t.mismatchRestarted n).core k =
    if k = 2 * n ∨ k = 2 * n + 1 then (t.core k).restored (t.pair n).committed else t.core k := by
  rw [State.mismatchRestarted_eq, State.core_loopHeld, State.holdPair, State.core_congr (State.modPair_cores ..), State.core_restorePair]

theorem State.rd8_mismatchRestarted (a : Nat) : (t.mismatchRestarted n).rd8 a =
    (undone ((t.pair n).undoUnder ++ (t.pair n).undoLead) a).getD (t.rd8 a) := by
  obtain ⟨k, h⟩ := t.restorePair_eq n
  obtain ⟨m, e, hr⟩ := t.rolledBack_eq n
  rw [← State.rd8_rolledBack]
  refine State.rd8_congr ?_ ?_ ?_ a
  · rw [State.mismatchRestarted_eq, State.loopHeld_eq, State.holdPair, State.modPair, h]
  · rw [State.mismatchRestarted_eq, State.loopHeld_eq, State.holdPair, State.modPair, h, hr]
  · rw [State.mismatchRestarted_eq, State.loopHeld_eq, State.holdPair, State.modPair, h, hr]

theorem State.sys_mismatchRestarted : (t.mismatchRestarted n).sys = t.sys := by
  obtain ⟨k, h⟩ := t.restorePair_eq n
  rw [State.mismatchRestarted_eq, State.loopHeld_eq, State.holdPair, State.modPair, h]

/-! ## Both copies held in reset (R140, R564) -/

/-- `t` with core `k` held in reset. -/
def State.coreOff (k : Nat) (t : State) : State := t.setCore k { t.core k with run := .inReset, wait := .none, delay := none }

theorem State.pairInReset_eq : t.pairInReset n =
    (State.coreOff (2 * n) (State.coreOff (2 * n + 1) t)).modPair n fun p => { p with blocked := true } := rfl

theorem State.run_coreOff (k j : Nat) : ((t.coreOff k).core j).run = if j = k then .inReset else (t.core j).run := by
  rw [State.coreOff, State.core_setCore]
  split <;> rfl

theorem State.run_pairInReset (k : Nat) (hk : k = 2 * n ∨ k = 2 * n + 1) : ((t.pairInReset n).core k).run = .inReset := by
  rw [State.pairInReset_eq, State.core_congr (State.modPair_cores ..), State.run_coreOff, State.run_coreOff]
  by_cases h : k = 2 * n
  · rw [if_pos h]
  · rw [if_neg h, if_pos (hk.resolve_left h)]

/-- `t` with both copies of pair `n` held in reset and the curtain trigger raised. -/
def State.mismatchInReset (t : State) (n : Nat) : State :=
  ((t.pairInReset n).modPair n fun p => { p with hold := (t.pairInReset n).inRun, expired := true }).loopHeld.trigger
    R.SYS_CURTAIN_LOCKSTEP

/-- A pair held in reset, which blocks its outputs from now on. -/
theorem State.mismatchInReset_eq : ∃ k p, t.mismatchInReset n =
    (State.loopHeld { t with cores := k, pairs := p }).trigger R.SYS_CURTAIN_LOCKSTEP := ⟨_, _, rfl⟩

theorem State.mismatchInReset_mismatchOnly : t.mismatchOnly (t.mismatchInReset n) := by
  obtain ⟨k, p, h⟩ := t.mismatchInReset_eq n
  have hpair : t.mismatchOnly { t with cores := k, pairs := p } := rfl
  rw [h]
  exact (hpair.trans (State.loopHeld_mismatchOnly _)).trans (State.trigger_mismatchOnly ..)

theorem State.mismatchInReset_showsAs : t.showsAs (t.mismatchInReset n) := by
  obtain ⟨k, p, h⟩ := t.mismatchInReset_eq n
  have hpair : t.showsAs { t with cores := k, pairs := p } := State.showsAs_of_eq rfl rfl rfl
  rw [h]
  exact (hpair.trans (State.loopHeld_showsAs _)).trans (State.trigger_showsAs _)

theorem State.mem_mismatchInReset : (t.mismatchInReset n).mem = t.mem := by
  obtain ⟨k, p, h⟩ := t.mismatchInReset_eq n
  rw [h, ((State.loopHeld { t with cores := k, pairs := p }).trigger_spec (f := R.SYS_CURTAIN_LOCKSTEP) (by decide) (by decide)).1.1,
    State.loopHeld_eq]

theorem State.trigger_cores_pairs (u : State) (f : Fld) : (u.trigger f).cores = u.cores ∧ (u.trigger f).pairs = u.pairs := by
  unfold State.trigger
  split <;> exact ⟨rfl, rfl⟩

theorem State.run_mismatchInReset (k : Nat) (hk : k = 2 * n ∨ k = 2 * n + 1) : ((t.mismatchInReset n).core k).run = .inReset := by
  rw [State.mismatchInReset, State.core_congr (State.trigger_cores_pairs _ _).1, State.core_loopHeld,
    State.core_congr (State.modPair_cores ..)]
  exact t.run_pairInReset n k hk

theorem State.pair_mismatchInReset_of_ne {m : Nat} (hm : m ≠ n) : (t.mismatchInReset n).pair m = t.pair m := by
  rw [State.mismatchInReset, State.pair_congr (State.trigger_cores_pairs _ _).2, State.pair_loopHeld, State.pair_modPair_of_ne _ hm,
    State.pairInReset_eq, State.pair_modPair_of_ne _ hm]
  rfl

/-- In RUN the curtain trigger is due at once. -/
theorem State.mismatchInReset_inRun (hr : t.inRun = true) :
    (t.mismatchInReset n).getF R.SYS_CURTAIN_LOCKSTEP = 1 ∧ (t.mismatchInReset n).sys.faultDue = true := by
  obtain ⟨k, p, h⟩ := t.mismatchInReset_eq n
  have hrun : (State.loopHeld { t with cores := k, pairs := p }).inRun = true := by
    rw [State.inRun, State.loopHeld_eq]
    exact hr
  obtain ⟨-, hshown, hsys⟩ :=
    (State.loopHeld { t with cores := k, pairs := p }).trigger_spec (f := R.SYS_CURTAIN_LOCKSTEP) (by decide) (by decide)
  rw [h, hshown, hsys, if_pos hrun, if_pos (Or.inl hrun)]
  exact ⟨rfl, rfl⟩

end

/-! ## The whole command -/

section
variable {s : State} {n : Nat} {g l : Nat}

theorem State.mismatch_of_not_acts (h : ¬ (s.isSplit n = false ∧ (s.core (2 * n)).run ≠ .inReset ∧ (g, l) ∉ (s.pair n).dead)) :
    s.mismatch n g l = s := by
  refine if_pos ?_
  simp only [Bool.or_eq_true, decide_eq_true_eq, List.contains_iff_mem]
  by_contra hc
  simp only [not_or, Bool.not_eq_true] at hc
  exact h ⟨hc.1.1, hc.1.2, hc.2⟩

/-- Whether a mismatch of pair `n` cannot restart it (R140). -/
def State.mismatchFinal (s : State) (n : Nat) : Bool :=
  (s.getF R.USTD_STAT_RESTART).testBit n || (s.getF R.USTD_STAT_LOGOVF).testBit n

theorem State.mismatchFinal_mismatchRecord (hn : n < 4) : (s.mismatchRecord n g l).mismatchFinal n = s.mismatchFinal n := by
  have hinfo : R.USTD_STAT ≠ R.USTD_MMINFO n := by
    unfold R.USTD_STAT R.USTD_MMINFO
    omega
  rw [State.mismatchFinal, State.mismatchFinal,
    s.getF_mismatchRecord_apart n g l (f := R.USTD_STAT_RESTART) (Or.inl (by decide)) hinfo (Or.inr (by decide)) (by decide) hn,
    s.getF_mismatchRecord_apart n g l (f := R.USTD_STAT_LOGOVF) (Or.inl (by decide)) hinfo (Or.inr (by decide)) (by decide) hn]

theorem State.mismatch_of_acts (hn : n < 4) (hs : s.isSplit n = false) (hr : (s.core (2 * n)).run ≠ .inReset)
    (hd : (g, l) ∉ (s.pair n).dead) : s.mismatch n g l =
      if s.mismatchFinal n then (s.mismatchStopped n g l).mismatchInReset n else (s.mismatchStopped n g l).mismatchRestarted n := by
  have hact : ¬ (s.isSplit n || decide ((s.core (2 * n)).run = .inReset) || (s.pair n).dead.contains (g, l)) = true := by
    simp only [Bool.or_eq_true, decide_eq_true_eq, List.contains_iff_mem, hs, Bool.false_eq_true, false_or, not_or]
    exact ⟨hr, hd⟩
  rw [← State.mismatchFinal_mismatchRecord hn (g := g) (l := l)]
  exact if_neg hact

end

end Sys2Proof.Machine
end

section
/-!
# LOCKSTEP_MISMATCH as a whole, USTD_INJ, and statement O33
-/

namespace Sys2Proof.Machine

/-! ## What every mismatch that acts leaves -/

/-- A register is its one field of 32 bits. -/
theorem State.getReg_of_getF {s t : State} {a : Nat} (h : t.getF ⟨a, 31, 0⟩ = s.getF ⟨a, 31, 0⟩) :
    t.getReg a = s.getReg a := by
  have hw (w : Word) : fieldOf w 31 0 = w.toNat := by
    have := w.isLt
    rw [fieldOf]
    omega
  rw [State.getF, State.getF, hw, hw] at h
  exact BitVec.eq_of_toNat_eq h

section
variable {s : State} {n : Nat} {g : BitVec 3} {l : BitVec 7}

/-- What a mismatch shows, however it goes on. -/
theorem State.mismatchStopped_shown (hn : n < 4) {u : State} (hu : (s.mismatchStopped n g.toNat l.toNat).showsAs u) :
    u.getReg (R.USTD_MMINFO n) = 1#1 ++ g ++ l ++ 0#5 ++ s.cue.count.setWidth 16 ∧
      (u.getF R.USTD_STAT_MM).testBit n = true ∧ (u.getF R.USTD_STAT_RESTART).testBit n = true ∧
      u.getF (mmCount n) = min (s.getF (mmCount n) + 1) 255 ∧
      (∀ m < 4, u.cue.done.getLsbD m = (s.cue.done.getLsbD m && decide (m ≠ n))) ∧
      (∀ k < 64, s.getF (R.LOOP_SCFG_OWNER k) = n → (u.slot k).staged = []) := by
  obtain ⟨hcue, hloop, hF⟩ := hu
  have hkept {f : Fld} (h1 : f.apart R.SYS_CURTAIN_LOCKSTEP) (h2 : f.apart R.USTD_STAT_RESTART) (h3 : offSlots f.addr) :
      u.getF f = (s.mismatchRecord n g.toNat l.toNat).getF f := (hF f h1 h3).trans (s.getF_mismatchStopped n g.toNat l.toNat h2 h3)
  refine ⟨?_, ?_, ?_, ?_, fun m hm => ?_, fun k hk ho => ?_⟩
  · rw [← mismatchWord_eq, ← s.getReg_mminfo_mismatchRecord hn g.toNat l.toNat]
    refine State.getReg_of_getF (hkept (Or.inl ?_) (Or.inl ?_) (offSlots_of_le ?_))
    · unfold R.SYS_CURTAIN_LOCKSTEP R.SYS_CURTAIN R.USTD_MMINFO
      dsimp only
      omega
    · unfold R.USTD_STAT_RESTART R.USTD_STAT R.USTD_MMINFO
      dsimp only
      omega
    · unfold R.USTD_MMINFO
      dsimp only
      omega
  · rw [hkept (Or.inl (by decide)) (Or.inr (by decide)) (offSlots_of_le (by decide))]
    exact s.getF_mm_mismatchRecord hn _ _
  · rw [hF _ (Or.inl (by decide)) (offSlots_of_le (by decide))]
    exact s.restart_mismatchStopped n _ _ hn
  · rw [hkept (Or.inl (show R.USTD_MMCNT ≠ R.SYS_CURTAIN by decide)) (Or.inl (show R.USTD_MMCNT ≠ R.USTD_STAT by decide))
      (offSlots_of_le (show 0x40210000 ≤ R.USTD_MMCNT by decide))]
    exact s.getF_count_mismatchRecord hn _ _
  · rw [hcue]
    exact s.done_mismatchStopped n _ _ hm
  · rw [State.slot, hloop]
    exact s.staged_mismatchStopped n _ _ hn hk ho

end

/-! ## LOCKSTEP_MISMATCH (R138, R140, R564) -/

/-- What restores a copy leaves its pending lines. -/
theorem Core.restored_withIpend (c k : Core) (i : BitVec 48) :
    ({ c with ipend := i } : Core).restored k = { c.restored k with ipend := i } := rfl

theorem Core.eq_withIpend {c d : Core} {i : BitVec 48} (h : d = { c with ipend := i }) : d = { c with ipend := d.ipend } := by rw [h]

section
variable {s : State} {n : Nat} {g l : Nat}

theorem State.pair_mismatchStopped (s : State) (n g l m : Nat) : (s.mismatchStopped n g l).pair m = s.pair m := by
  obtain ⟨r, k, q, j, x, d, a, h⟩ := s.mismatchStopped_eq n g l
  exact State.pair_congr (by rw [h]) m

/-- A pair that cannot restart (R140): both copies held in reset, memory as it is, in RUN the curtain. -/
theorem State.mismatchStopped_inReset (s : State) (n g l : Nat) :
    (((s.mismatchStopped n g l).mismatchInReset n).core (2 * n)).run = .inReset ∧
      (((s.mismatchStopped n g l).mismatchInReset n).core (2 * n + 1)).run = .inReset ∧
      ((s.mismatchStopped n g l).mismatchInReset n).mem = s.mem ∧
      (s.inRun = true → ((s.mismatchStopped n g l).mismatchInReset n).getF R.SYS_CURTAIN_LOCKSTEP = 1 ∧
        ((s.mismatchStopped n g l).mismatchInReset n).sys.faultDue = true) := by
  obtain ⟨r, k, q, j, x, d, a, h⟩ := s.mismatchStopped_eq n g l
  generalize s.mismatchStopped n g l = t at *
  refine ⟨t.run_mismatchInReset n _ (Or.inl rfl), t.run_mismatchInReset n _ (Or.inr rfl), ?_, fun hr => t.mismatchInReset_inRun n ?_⟩
  · rw [t.mem_mismatchInReset n, h]
  · rw [State.inRun, h]
    exact hr

/-- A restart finds in `t` what it finds in `s`, but for pending lines. -/
def State.restartsAs (s t : State) : Prop :=
  t.sys = s.sys ∧ t.cue.count = s.cue.count ∧ (∀ k, t.core k = { s.core k with ipend := (t.core k).ipend }) ∧
    (∀ m, t.pair m = s.pair m) ∧ ∀ a, t.rd8 a = s.rd8 a

theorem State.mismatchStopped_restartsAs (s : State) (n g l : Nat) : s.restartsAs (s.mismatchStopped n g l) := by
  have hcore := s.core_mismatchStopped n g l
  have hpair := s.pair_mismatchStopped n g l
  obtain ⟨r, c, q, j, x, d, b, h⟩ := s.mismatchStopped_eq n g l
  generalize s.mismatchStopped n g l = t at *
  exact ⟨by rw [h], by rw [h], hcore, hpair, State.rd8_congr (by rw [h]) (by rw [h]) (by rw [h])⟩

/-- In `u` pair `n` of `s` has restarted: both copies at the checkpoint, its local stores as the undo logs give them back, the hold from
now on. -/
def State.pairRestarted (s : State) (n : Nat) (u : State) : Prop :=
  u.sys = s.sys ∧
    (∀ k, k = 2 * n ∨ k = 2 * n + 1 → u.core k = { (s.core k).restored (s.pair n).committed with ipend := (u.core k).ipend }) ∧
    (∀ k, k ≠ 2 * n → k ≠ 2 * n + 1 → u.core k = { s.core k with ipend := (u.core k).ipend }) ∧
    (∀ m, u.pair m = if m = n then (s.pair n).restarted s.cue.count else s.pair m) ∧
    ∀ a, u.rd8 a = (undone ((s.pair n).undoUnder ++ (s.pair n).undoLead) a).getD (s.rd8 a)

theorem State.restartsAs.pairRestarted {s t : State} (h : s.restartsAs t) (n : Nat) : s.pairRestarted n (t.mismatchRestarted n) := by
  obtain ⟨hsys, hcount, hcore, hpair, hrd⟩ := h
  refine ⟨(t.sys_mismatchRestarted n).trans hsys, fun k hk => ?_, fun k h1 h2 => ?_, fun m => ?_, fun a => ?_⟩
  · have hrestored := t.core_mismatchRestarted n k
    rw [if_pos hk, hcore k, Core.restored_withIpend, hpair n] at hrestored
    exact Core.eq_withIpend hrestored
  · have hkept := t.core_mismatchRestarted n k
    rw [if_neg (by omega), hcore k] at hkept
    exact Core.eq_withIpend hkept
  · rw [t.pair_mismatchRestarted n m, hpair n, hpair m, hcount]
  · rw [t.rd8_mismatchRestarted n a, hpair n, hrd a]

/-! ### Both ways -/

section
variable (hn : n < 4) (hs : s.isSplit n = false) (hr : (s.core (2 * n)).run ≠ .inReset) (hd : (g, l) ∉ (s.pair n).dead)
include hn hs hr hd

theorem State.mismatch_of_final (hf : s.mismatchFinal n = true) : s.mismatch n g l = (s.mismatchStopped n g l).mismatchInReset n := by
  rw [State.mismatch_of_acts hn hs hr hd, if_pos hf]

theorem State.mismatch_of_not_final (hf : s.mismatchFinal n = false) :
    s.mismatch n g l = (s.mismatchStopped n g l).mismatchRestarted n := by
  rw [State.mismatch_of_acts hn hs hr hd, if_neg (Bool.eq_false_iff.1 hf)]

theorem State.mismatch_pairRestarted (hf : s.mismatchFinal n = false) : s.pairRestarted n (s.mismatch n g l) := by
  rw [State.mismatch_of_not_final hn hs hr hd hf]
  exact (s.mismatchStopped_restartsAs n g l).pairRestarted n

/-- A mismatch that acts leaves the other pairs, and everything but what its steps may change. -/
theorem State.mismatch_spec : s.mismatchOnly (s.mismatch n g l) ∧ (∀ m, m ≠ n → (s.mismatch n g l).pair m = s.pair m) ∧
    (s.mismatchStopped n g l).showsAs (s.mismatch n g l) := by
  have honly := s.mismatchStopped_mismatchOnly n g l
  cases hf : s.mismatchFinal n
  · obtain ⟨-, -, -, hpair, -⟩ := State.mismatch_pairRestarted hn hs hr hd hf
    refine ⟨?_, fun m hm => (hpair m).trans (if_neg hm), ?_⟩ <;> rw [State.mismatch_of_not_final hn hs hr hd hf]
    · exact honly.trans (State.mismatchRestarted_mismatchOnly _ n)
    · exact State.mismatchRestarted_showsAs _ n
  · rw [State.mismatch_of_final hn hs hr hd hf]
    refine ⟨honly.trans (State.mismatchInReset_mismatchOnly _ n), fun m hm => ?_, State.mismatchInReset_showsAs _ n⟩
    rw [State.pair_mismatchInReset_of_ne _ n hm, State.pair_mismatchStopped]

end

theorem State.mismatchFinal_iff : s.mismatchFinal n = true ↔
    (s.getF R.USTD_STAT_RESTART).testBit n = true ∨ (s.getF R.USTD_STAT_LOGOVF).testBit n = true := by
  rw [State.mismatchFinal, Bool.or_eq_true]

end

/-! ## USTD_INJ (R134, R143) -/

/-- The row of USTD_INJ. -/
def ustdInjRow : RegDesc :=
  ⟨.USTD_INJ, R.USTD_INJ, 1, 0x0, 1, 0, [⟨31, 31, .wo, 0x0⟩, ⟨11, 10, .rw, 0x0⟩, ⟨9, 7, .rw, 0x0⟩, ⟨6, 0, .rw, 0x0⟩]⟩

theorem blockOf_USTD_INJ : blockOf R.USTD_INJ = some (baseUSTD, regsUSTD) := rfl

theorem regAt_USTD_INJ : regAt R.USTD_INJ = some (ustdInjRow, 0, 0) := rfl

theorem ustdInjRow_disjointFields : ustdInjRow.disjointFields := disjointFields_of_regAt regAt_USTD_INJ

theorem State.regEffect_USTD_INJ (s : State) (w : Writer) (v : Word) :
    s.regEffect w baseUSTD ustdInjRow 0 0 R.USTD_INJ v = (s.injWrite ustdInjRow R.USTD_INJ v, true) := rfl

/-- The command writes its operand with GO. -/
theorem exec_ustdInj {s : State} {w : Writer} (h : s.mayWrite w R.USTD_INJ = true) (v : Word) :
    exec (.ustdInj w v) s = .next (s.injWrite ustdInjRow R.USTD_INJ (v ||| R.USTD_INJ_GO.mask)).settle := by
  have he : exec (.ustdInj w v) s = .next (s.write32 w R.USTD_INJ (v ||| R.USTD_INJ_GO.mask)) := rfl
  rw [he, State.write32_of_mayWrite blockOf_USTD_INJ regAt_USTD_INJ rfl rfl h (s.regEffect_USTD_INJ w _)]

theorem fieldOf_or_go (v : Word) {hi lo : Nat} (h : hi < 31) : fieldOf (v ||| R.USTD_INJ_GO.mask) hi lo = fieldOf v hi lo := by
  refine fieldOf_congr fun k _ hk => ?_
  show (v ||| maskOf 31 31).getLsbD k = v.getLsbD k
  rw [getLsbD_or_bit v (by decide), decide_eq_false (by omega), Bool.or_false]

theorem go_or_go (v : Word) : (v ||| R.USTD_INJ_GO.mask).getLsbD 31 = true := by
  show (v ||| maskOf 31 31).getLsbD 31 = true
  rw [getLsbD_or_bit v (by decide), decide_eq_true rfl, Bool.or_true]

/-- The three fields of the lane are written; GO holds nothing. -/
theorem State.writeTyped_ustdInj_onlyFields (s : State) (v : Word) :
    s.onlyFields (s.writeTyped ustdInjRow R.USTD_INJ false v) [R.USTD_INJ_PAIR, R.USTD_INJ_GROUP, R.USTD_INJ_LANE] := by
  refine State.writeTyped_onlyFields_of_kept ustdInjRow_disjointFields ?_
  rw [ustdInjRow, List.forall_mem_cons, List.forall_mem_cons, List.forall_mem_cons, List.forall_mem_singleton]
  exact ⟨Or.inr fun k => Or.inl rfl, Or.inl (by decide), Or.inl (by decide), Or.inl (by decide)⟩

/-- Whether a write of `v` with GO injects. -/
def State.injectLegal (s : State) (v : Word) : Prop :=
  s.bootOrPlaces = true ∧ s.getF R.USTD_CTRL_TESTMODE = 1 ∧ fieldOf v 6 0 < groupLanes (fieldOf v 9 7)

/-- `s` after an injection. -/
def State.injected (s : State) (v : Word) : State :=
  ((s.writeTyped ustdInjRow R.USTD_INJ false (v ||| R.USTD_INJ_GO.mask)).raise R.USTD_TRES_DONE).setF R.USTD_TRES_CAUGHT
    (!s.isSplit (fieldOf v 11 10) && !(s.pair (fieldOf v 11 10)).dead.contains (fieldOf v 9 7, fieldOf v 6 0)).toNat

theorem State.testmode_iff (s : State) : s.flag R.USTD_CTRL_TESTMODE = true ↔ s.getF R.USTD_CTRL_TESTMODE = 1 := by
  rw [State.flag_eq_true_iff]
  exact ⟨State.getF_eq_one rfl, fun h => by rw [h]; decide⟩

theorem State.injWrite_of_not_legal {s : State} {v : Word} (h : ¬ s.injectLegal v) :
    s.injWrite ustdInjRow R.USTD_INJ (v ||| R.USTD_INJ_GO.mask) = s.setF R.USTD_STAT_CFGREF 1 := by
  rw [State.injWrite, go_or_go, fieldOf_or_go v (by decide), fieldOf_or_go v (by decide)]
  refine if_pos ?_
  by_contra hc
  simp only [Bool.true_and, Bool.or_eq_true, Bool.not_eq_true', decide_eq_true_eq, not_or, Bool.not_eq_false, not_le] at hc
  exact h ⟨hc.1.1, s.testmode_iff.1 hc.1.2, hc.2⟩

theorem State.injWrite_of_legal {s : State} {v : Word} (h : s.injectLegal v) :
    s.injWrite ustdInjRow R.USTD_INJ (v ||| R.USTD_INJ_GO.mask) = s.injected v := by
  obtain ⟨hdev, htest, hlane⟩ := h
  have hcond : ¬ (!s.bootOrPlaces || (true && !s.flag R.USTD_CTRL_TESTMODE) ||
      decide (groupLanes (fieldOf v 9 7) ≤ fieldOf v 6 0)) = true := by
    rw [hdev, s.testmode_iff.2 htest, decide_eq_false (by omega)]
    decide
  rw [State.injWrite, go_or_go, fieldOf_or_go v (by decide), fieldOf_or_go v (by decide), fieldOf_or_go v (by decide), if_neg hcond]
  have hsplit (k : Nat) : (s.writeTyped ustdInjRow R.USTD_INJ false (v ||| R.USTD_INJ_GO.mask)).isSplit k = s.isSplit k := by
    rw [State.isSplit, (s.writeTyped_ustdInj_onlyFields _).2 _ (fun g hg => Or.inl ?_), State.isSplit]
    simp only [List.mem_cons, List.not_mem_nil, or_false] at hg
    rcases hg with rfl | rfl | rfl <;> decide
  rw [State.injected, ← hsplit]
  rfl

/-- An injection writes the lane and says whether it was caught. -/
theorem State.injected_spec (s : State) (v : Word) :
    s.onlyFields (s.injected v) [R.USTD_INJ_PAIR, R.USTD_INJ_GROUP, R.USTD_INJ_LANE, R.USTD_TRES_DONE, R.USTD_TRES_CAUGHT] ∧
      (s.injected v).getF R.USTD_INJ_PAIR = fieldOf v 11 10 ∧ (s.injected v).getF R.USTD_INJ_GROUP = fieldOf v 9 7 ∧
      (s.injected v).getF R.USTD_INJ_LANE = fieldOf v 6 0 ∧ (s.injected v).getF R.USTD_TRES_DONE = 1 ∧
      (s.injected v).getF R.USTD_TRES_CAUGHT = if (s.getF R.USTD_STAT_SPLIT).testBit (fieldOf v 11 10) ∨
        (fieldOf v 9 7, fieldOf v 6 0) ∈ (s.pair (fieldOf v 11 10)).dead then 0 else 1 := by
  let t := s.writeTyped ustdInjRow R.USTD_INJ false (v ||| R.USTD_INJ_GO.mask)
  let caught := !s.isSplit (fieldOf v 11 10) && !(s.pair (fieldOf v 11 10)).dead.contains (fieldOf v 9 7, fieldOf v 6 0)
  have hu : s.injected v = (t.setF R.USTD_TRES_DONE 1).setF R.USTD_TRES_CAUGHT caught.toNat := rfl
  have hinj {f : Fld} (h : f.addr = R.USTD_INJ) : (s.injected v).getF f = t.getF f := by
    have hne : f.addr ≠ R.USTD_TRES := by rw [h]; decide
    rw [hu, State.getF_setF_apart _ _ (by decide) (Or.inl hne), State.getF_setF_apart _ _ (by decide) (Or.inl hne)]
  have hrw {f : FieldDesc} (hf : f ∈ ustdInjRow.fields) (ht : f.ty = .rw) (hhi : f.hi < 31) :
      (s.injected v).getF ⟨R.USTD_INJ, f.hi, f.lo⟩ = fieldOf v f.hi f.lo := by
    rw [hinj rfl, ← fieldOf_or_go v hhi]
    exact State.getF_writeTyped_rw ustdInjRow_disjointFields s R.USTD_INJ _ hf ht
  refine ⟨?_, hrw (f := ⟨11, 10, .rw, 0⟩) (by decide) rfl (by decide), hrw (f := ⟨9, 7, .rw, 0⟩) (by decide) rfl (by decide),
    hrw (f := ⟨6, 0, .rw, 0⟩) (by decide) rfl (by decide), ?_, ?_⟩
  · have hfields := (s.writeTyped_ustdInj_onlyFields (v ||| R.USTD_INJ_GO.mask)).mono
      (m := [R.USTD_INJ_PAIR, R.USTD_INJ_GROUP, R.USTD_INJ_LANE, R.USTD_TRES_DONE, R.USTD_TRES_CAUGHT]) (by decide)
    exact (hfields.setF (by decide) (by decide) _).setF (by decide) (by decide) _
  · rw [hu, State.getF_setF_apart _ _ (by decide) (Or.inr (by decide)), State.getF_setF_of_lt _ (by decide) (by decide) (by decide)]
  · rw [hu, State.getF_setF_of_lt _ (by decide) (by decide) (by cases caught <;> decide)]
    have hcaught : caught = true ↔ ¬ ((s.getF R.USTD_STAT_SPLIT).testBit (fieldOf v 11 10) = true ∨
        (fieldOf v 9 7, fieldOf v 6 0) ∈ (s.pair (fieldOf v 11 10)).dead) := by
      simp only [caught, State.isSplit, Bool.and_eq_true, Bool.not_eq_true', Bool.eq_false_iff, ne_eq, List.contains_iff_mem, not_or]
    split
    · next h => rw [Bool.eq_false_iff.2 fun hc => hcaught.1 hc h]; rfl
    · next h => rw [hcaught.2 h]; rfl

theorem ustdInj_clause {s : State} {w : Writer} (v : Word) (h : s.mayWrite w R.USTD_INJ = true) :
    ∃ u : State, exec (.ustdInj w v) s = .next u.settle ∧
      (¬ s.injectLegal v → s.onlyFields u [R.USTD_STAT_CFGREF] ∧ u.getF R.USTD_STAT_CFGREF = 1) ∧
      (s.injectLegal v → u = s.injected v) := by
  refine ⟨_, exec_ustdInj h v, fun hl => ?_, fun hl => State.injWrite_of_legal hl⟩
  rw [State.injWrite_of_not_legal hl]
  exact ⟨(s.onlyFields_refl _).setF List.mem_cons_self (by decide) 1, s.getF_setF_of_lt (by decide) (by decide) (by decide)⟩

/-! ## O33 -/

/-- Settles O33, command by command: each that acts is one change of the pair's record, a mismatch is recorded and then restarts the
pair or holds it in reset, an injection is one write of USTD_INJ. -/
theorem lockstepCheckpointsAndMismatches : Obligations.LockstepCheckpointsAndMismatches := by
  unfold Obligations.LockstepCheckpointsAndMismatches
  intro n s p lead bit others
  have hn : n.val < 4 := n.isLt
  have hothers {u : State} {q : Pair} (h : ∀ m, u.pair m = if m = n.val then q else s.pair m) : others u ∧ u.pair n.val = q :=
    ⟨fun m hm => (h m).trans (if_neg hm), (h _).trans (if_pos rfl)⟩
  refine ⟨⟨s.capture n, rfl, ?_⟩, ⟨s.commit n, rfl, State.commit_of_none, ?_⟩, fun g l => ⟨s.mismatch n g.toNat l.toNat, rfl, ?_⟩,
    ⟨s.lockstepRelease n, rfl, ?_⟩, ⟨s.lockstepExpiry n, rfl, ?_⟩, ⟨s.agreementTimeout n, rfl, ?_⟩, fun w v hw => ?_⟩
  · refine ⟨fun ⟨hc, hs, hb, hd, hwait⟩ => ?_, State.capture_not_due⟩
    rw [State.capture_due hc hs hb hd hwait]
    exact ⟨rfl, hothers fun m => s.pair_modPair n m _⟩
  · intro c hc
    obtain ⟨hfields, hpair, hbit⟩ := State.commit_spec hc
    exact ⟨hfields, (hothers hpair).1, hbit, (hothers hpair).2⟩
  · refine ⟨State.mismatch_of_not_acts, fun ⟨hs, hr, hd⟩ => ?_⟩
    obtain ⟨hframe, hrest, hshows⟩ := State.mismatch_spec hn hs hr hd
    obtain ⟨hinfo, hmm, hrestart, hcount, hdone, hstaged⟩ := State.mismatchStopped_shown hn hshows
    refine ⟨hframe, hrest, hinfo, hmm, hrestart, hcount, hdone, hstaged, fun hfatal => ?_, fun hgoes => ?_⟩
    · rw [State.mismatch_of_final hn hs hr hd (State.mismatchFinal_iff.2 hfatal)]
      exact s.mismatchStopped_inReset n _ _
    · obtain ⟨hsys, hcopies, hcores, hpair, hrd⟩ :=
        State.mismatch_pairRestarted hn hs hr hd (Bool.eq_false_iff.2 fun hf => hgoes (State.mismatchFinal_iff.1 hf))
      refine ⟨hsys, fun k hk => hcopies k (List.mem_pair.1 hk), hcores, (hpair n).trans (if_pos rfl), fun a => ?_⟩
      rw [hrd a, undone]
      cases (p.undoUnder ++ p.undoLead).find? fun e => e.1 ≤ a && a < e.1 + e.2.length <;> rfl
  · refine ⟨fun ⟨hb, hr⟩ => ?_, State.lockstepRelease_of_not_acts⟩
    rw [State.lockstepRelease_of_acts hb hr]
    exact ⟨rfl, hothers fun m => s.pair_modPair n m _⟩
  · refine ⟨State.lockstepExpiry_of_not_expires, fun h => ?_⟩
    cases hr : s.inRun
    · obtain ⟨hframe, hpair, hrestart, hcurtain⟩ := State.lockstepExpiry_not_inRun h hr
      exact ⟨(hothers hpair).1, fun hf => absurd hf (by decide), fun _ => ⟨hframe, (hothers hpair).2, hrestart, hcurtain⟩⟩
    · obtain ⟨hfields, hcause, hpair⟩ := State.lockstepExpiry_inRun h hr
      exact ⟨(hothers hpair).1, fun _ => ⟨hfields, hcause, (hothers hpair).2⟩, fun hf => absurd hf (by decide)⟩
  · refine ⟨State.agreementTimeout_of_apart, fun hs hb => ⟨s.raiseBit R.USTD_STAT_TIMEOUT n, ?_, ?_, State.agreementTimeout_of_whole hs hb⟩⟩
    · exact (s.onlyFields_refl _).setF List.mem_cons_self (by decide) _
    · exact s.testBit_getF_raiseBit (by decide) (by decide) hn
  · obtain ⟨u, hexec, hnot, hlegal⟩ := ustdInj_clause v hw
    refine ⟨u, hexec, hnot, fun h => ?_⟩
    rw [hlegal h]
    exact s.injected_spec v

end Sys2Proof.Machine
end
